-- ==== Sys2Proof/Word.lean ====
section
/-! DEFINITION. The word and byte types of the Myolne (R5, R9) and their plainest arithmetic. -/

namespace Sys2Proof

/-- A Graticule register word of 64 bits (R121). -/
abbrev Word := BitVec 64

/-- One byte of a memory, a buffer or a frame (R5, R9). -/
abbrev Byte := BitVec 8

/-- A moment or a length of time in nanoseconds of the run clock (R13). -/
abbrev Ns := Nat

/-- A moment in picoseconds: the run clock times 1,000, for pause quanta and shaper tokens (R41, R55). -/
abbrev Ps := Nat

end Sys2Proof
end

