-- ==== Sys2Proof/Machine/Bits.lean ====
section
/-! DEFINITION. Bit fields, byte orders and checks: the helpers every record and frame is read with (R8, R9). -/

namespace Sys2Proof.Machine

/-- Field of a number: `w` bits from bit `lo` (R8). -/
def bitsOf (v lo w : Nat) : Nat := (v >>> lo) % 2 ^ w

/-- Field [lo + w - 1 : lo] of a record (R8). -/
def fld {n : Nat} (v : BitVec n) (lo w : Nat) : Nat := bitsOf v.toNat lo w

/-- Bit `i` of a record as a truth value (R8). -/
def bit {n : Nat} (v : BitVec n) (i : Nat) : Bool := v.getLsbD i

/-- The record with field [lo + w - 1 : lo] replaced by the low `w` bits of `x` (R8). -/
def setFld {n : Nat} (v : BitVec n) (lo w x : Nat) : BitVec n :=
  let old := v.toNat
  BitVec.ofNat n (old - (bitsOf old lo w <<< lo) + ((x % 2 ^ w) <<< lo))

/-- Whether every bit of `v` outside the listed fields is 0 (R10). -/
def onlyFields {n : Nat} (v : BitVec n) (fields : List (Nat × Nat)) : Bool :=
  v.toNat == fields.foldl (fun acc p => acc + (fld v p.1 p.2 <<< p.1)) 0

/-- Number of a truth value. -/
def b2n (b : Bool) : Nat := if b then 1 else 0

/-- The big-endian number of a list of bytes (R9). -/
def beNat (bs : List Byte) : Nat := bs.foldl (fun acc b => acc * 256 + b.toNat) 0

/-- The little-endian number of a list of bytes (R9). -/
def leNat : List Byte → Nat
  | [] => 0
  | b :: rest => b.toNat + 256 * leNat rest

/-- `k` bytes of a number, least significant first (R9). -/
def leBytes : Nat → Nat → List Byte
  | 0, _ => []
  | k + 1, v => BitVec.ofNat 8 v :: leBytes k (v / 256)

/-- `k` bytes of a number, most significant first (R9). -/
def beBytes (k v : Nat) : List Byte := (leBytes k v).reverse

/-- Fields one after the other: numbers with their widths in bytes, each big-endian (R9). -/
def packBytes (l : List (Nat × Nat)) : List Byte := (l.map (fun p => beBytes p.1 p.2)).flatten

/-- The byte at a position as a number; 0 beyond the end. -/
def byteAt (bs : List Byte) (i : Nat) : Nat := (bs.getD i 0).toNat

/-- The 2-byte network-order value at a position. -/
def be16At (bs : List Byte) (i : Nat) : Nat := byteAt bs i * 256 + byteAt bs (i + 1)

/-- The network-order value of `k` bytes at a position. -/
def beAt (bs : List Byte) (i k : Nat) : Nat := beNat ((bs.drop i).take k)

/-- One bit step of the reflected CRC-32C (R223, R382). -/
def crc32cStep (c : Nat) : Nat :=
  if c % 2 = 1 then (c / 2) ^^^ 0x82F63B78 else c / 2

/-- One byte of the reflected CRC-32C (R223, R382). -/
def crc32cByte (c : Nat) (b : Byte) : Nat :=
  crc32cStep (crc32cStep (crc32cStep (crc32cStep (crc32cStep (crc32cStep (crc32cStep
    (crc32cStep (c ^^^ b.toNat))))))))

/-- CRC-32C register after bytes, with no initial value and no inversion of its own (R223). -/
def crc32cRaw (init : Nat) (bs : List Byte) : Nat := bs.foldl crc32cByte init

/-- CRC-32C in its standard form: initial value 0xFFFF_FFFF and final inversion (R85, R382). -/
def crc32c (bs : List Byte) : Nat := crc32cRaw 0xFFFFFFFF bs ^^^ 0xFFFFFFFF

/-- One byte of the reflected CRC-32 of IEEE 802.3 (R37, R39). -/
def crc32Byte (c : Nat) (b : Byte) : Nat :=
  (List.range 8).foldl (fun c _ => if c % 2 = 1 then (c / 2) ^^^ 0xEDB88320 else c / 2) (c ^^^ b.toNat)

/-- The FCS of a frame's bytes, in the order in which it stands on the fibre (R37, R39; assumption 85). -/
def fcsOf (bs : List Byte) : List Byte := leBytes 4 (bs.foldl crc32Byte 0xFFFFFFFF ^^^ 0xFFFFFFFF)

/-- One bit step of the Survey Bus CRC-16, most significant bit first (R445). -/
def crc16Step (c : Nat) : Nat :=
  if c ≥ 0x8000 then ((c * 2) % 0x10000) ^^^ 0x1021 else (c * 2) % 0x10000

/-- CRC-16 with polynomial 0x1021 and initial value 0xFFFF (R445). -/
def crc16 (bs : List Byte) : Nat :=
  bs.foldl (fun c b =>
    crc16Step (crc16Step (crc16Step (crc16Step (crc16Step (crc16Step (crc16Step
      (crc16Step (c ^^^ (b.toNat * 256)))))))))) 0xFFFF

/-- Whether bit `i` of a mask is set. -/
def maskHas (m i : Nat) : Bool := Nat.testBit m i

/-- A mask with bit `i` set. -/
def maskSet (m i : Nat) : Nat := m ||| (1 <<< i)

/-- A mask with bit `i` clear. -/
def maskClear (m i : Nat) : Nat := if maskHas m i then m - (1 <<< i) else m

/-- The signed value of the low `w` bits of a number, two's complement. -/
def signedOf (w v : Nat) : Int :=
  if v % 2 ^ w ≥ 2 ^ (w - 1) then (v % 2 ^ w : Int) - (2 ^ w : Int) else (v % 2 ^ w : Int)

/-- Quotient rounded up. -/
def ceilDiv (a b : Nat) : Nat := (a + b - 1) / b

end Sys2Proof.Machine
end

