-- ==== Sys2Proof/Machine/Payload.lean ====
section
/-! DEFINITION. What a command carries beside plain numbers: the reference to an accepted command packet, and the
records of the chapters whose fields are not one bit vector. -/

namespace Sys2Proof.Machine

/-- Reference of a Legend command to the accepted packet it comes from: its acceptance number, and whether its
payload's format or length is wrong (R391 step 8; assumption 21). -/
structure CmdRef where
  acc : Nat
  malformed : Bool
  deriving DecidableEq, Repr

/-- One reading of a fibre lane (R62): receive power in 0.1 dBm, bias off its calibrated value in 0.1 %. -/
structure LaneReading where
  port : Nat
  lane : Nat
  power : Int
  bias : Int
  deriving DecidableEq, Repr

/-- The FEC counts of a logical port over a window of 1 s (R62): the bit error ratio before FEC in units of 10^-12,
codewords corrected and uncorrectable, and whether the PCS holds alignment on all its lanes (R60). -/
structure FecReading where
  lport : Nat
  ber : Nat
  corrected : Nat
  uncorr : Nat
  aligned : Bool
  deriving DecidableEq, Repr

/-- A rule record (R77, R82). -/
structure RuleRec where
  id : Nat
  tenant : Nat
  profile : Nat
  prio : Nat
  width : Nat                     -- W, bytes of the key
  action : BitVec 128
  value : Nat
  mask : Nat
  deriving DecidableEq, Repr

/-- What a Survey Bus frame shows beside its payload (R443, R445, R451): the rate at which it came, its LEN, and, for a row without
a word of its own on it, whether another module wins the bus from this module's response. -/
structure SvyFrame where
  rate : Nat
  len : Nat
  lost : Bool
  deriving DecidableEq, Repr

/-- A torn page that Stockpile finds at power-up (R342): in the capture region, of a ring, or in the telemetry region, of an
owner's part; `records` newest records stand on it. -/
structure TornPage where
  telemetry : Bool
  place : Nat
  records : Nat
  deriving DecidableEq, Repr

/-- Lands that Intake samples at power-on (R413, R436, R452, R377). -/
structure Lands where
  svyAddr : BitVec 6              -- SVY_ADDR[5:0]
  gpio : BitVec 2                 -- GPIO[1:0]
  bootSel : BitVec 2              -- BOOT_SEL[1:0]
  svyTerm : Bool                  -- SVY_TERM is tied to VRTN
  deriving DecidableEq, Repr

/-- What `PROGRAM_LOAD` carries (R240, R272, R408). -/
structure ProgSpec where
  id : Nat
  digest : BitVec 384
  image : List Byte
  pans : Nat
  cc : Bool                       -- built for a CC; else for a PE (R187)
  binding : List (Nat × Nat)
  entry : Nat
  env : Nat
  chanMap : BitVec 128
  guard : Bool
  cpen : Nat
  express : Bool
  allowDram : Bool
  deriving DecidableEq, Repr

/-- What `TABLE_CREATE` carries (R239). -/
structure TableSpec where
  kind : Nat
  width : Nat                     -- TCAM, LPM: units per entry
  tagPos : Nat
  rows : Nat                      -- TCAM, LPM: entries asked for
  indexBits : Nat
  entryWords : Nat
  checkEn : Bool
  sram : Bool
  size : Nat                      -- FLOW, ARRAY: records
  cfg : BitVec 128                -- FLOW_CFG
  autoRehash : Bool               -- automatic rehash (R264)
  deriving DecidableEq, Repr

/-- What `MACSEC_SC_CREATE` carries (R47, R48). -/
structure ScSpec where
  sci : Nat
  lport : Nat
  transmit : Bool
  xpn : Bool
  offset : Nat
  integrityOnly : Bool
  sciMode : Nat
  replay : Bool
  window : Nat
  pnThresh : Nat
  deriving DecidableEq, Repr

/-- What `MACSEC_SA_INSTALL` carries (R50). -/
structure SaSpec where
  sci : Nat
  an : Nat
  keyIndex : Nat
  salt : BitVec 96
  ssci : BitVec 32
  pn : Nat
  enable : Bool
  deriving DecidableEq, Repr

/-- A TCAM, LPM or DIRECT entry of `ENTRY_WRITE` (R248–R255). -/
structure EntrySpec where
  id : Nat                        -- entry id; DIRECT: index
  value : Nat
  mask : Nat
  prio : Nat
  result : Nat
  plen : Nat
  isGlobal : Bool
  words : List Word
  deriving DecidableEq, Repr

/-- A request waiting at a DRAM bank (R303, R304). -/
structure DramReq where
  port : Nat
  owner : Nat
  offset : Nat
  bytes : Nat
  write : Bool
  data : List Byte
  arrival : Nat
  express : Bool
  row : Nat
  deriving DecidableEq, Repr

/-- A session key exchange request (R357): the requester key it names, if any, and the requester's half id. -/
structure KeyExchange where
  reqId : Nat
  key : Option (BitVec 768)
  deriving DecidableEq, Repr

/-- The claim payload (R348, R351): the key and the signature over the transcript hash. -/
structure Claim where
  key : BitVec 768
  signature : List Byte
  deriving DecidableEq, Repr

end Sys2Proof.Machine
end

