-- ==== Sys2Proof/Machine/AMap.lean ====
section
/-! DEFINITION. Finite maps keyed by number, as plain data: association lists with rising keys. -/

namespace Sys2Proof.Machine

/-- A finite map from numbers, kept as a list of key and value pairs with rising keys. -/
abbrev AMap (α : Type) := List (Nat × α)

/-- The value at a key, if the map lists it. -/
def AMap.find {α : Type} : AMap α → Nat → Option α
  | [], _ => none
  | (k, v) :: rest, i => if k = i then some v else AMap.find rest i

/-- The value at a key, or the value every unlisted key has. -/
def AMap.at {α : Type} (m : AMap α) (i : Nat) (d : α) : α := (AMap.find m i).getD d

/-- The map with a key's value replaced, the key listed in rising order. -/
def AMap.put {α : Type} : AMap α → Nat → α → AMap α
  | [], i, x => [(i, x)]
  | (k, v) :: rest, i, x =>
    if i < k then (i, x) :: (k, v) :: rest
    else if k = i then (i, x) :: rest
    else (k, v) :: AMap.put rest i x

/-- The map without a key. -/
def AMap.del {α : Type} (m : AMap α) (i : Nat) : AMap α := m.filter (fun p => p.1 != i)

/-- The map with a key's value changed, an unlisted key starting from a default. -/
def AMap.upd {α : Type} (m : AMap α) (i : Nat) (d : α) (f : α → α) : AMap α :=
  AMap.put m i (f (AMap.at m i d))

/-- Whether the map lists a key. -/
def AMap.has {α : Type} (m : AMap α) (i : Nat) : Bool := (AMap.find m i).isSome

end Sys2Proof.Machine
end

