-- ==== Sys2Proof/Machine/StatePan.lean ====
section
/-! DEFINITION. State of the engine array: threads, their registers and blocks, coprocessor contexts,
persistent tasks, channels, locks and the per-Pan scheduler (R121–R238). -/

namespace Sys2Proof.Machine

/-- A memory: bytes by address, addresses strictly rising, no entry equal to what an unlisted address reads as. -/
abbrev Memory := List Host.Cell

/-- Where a memory word lives, as the near-memory units see it (R126, R128, R230). -/
inductive MemRef where
  | localStore (tid off : Nat)
  | window (ctx off : Nat)
  | sram (pan off : Nat)
  | dram (tenant off : Nat)
  deriving DecidableEq, Repr

/-- What a blocking access does when it returns (R139, R159, R230). -/
inductive AccessOp where
  | load (size : Nat) (signed : Bool)
  | store (size : Nat) (value : Word)
  | add (c : Word)
  | cas (expect c : Word)
  | swap (c : Word)
  | stateLoad (table index word : Nat)
  | stateStore (table index word : Nat) (value : Word)
  deriving DecidableEq, Repr

/-- An outcome deferred while the context is speculative (R111). -/
inductive Deferred where
  | fault (code : Nat) (value : Word) (pc epoch : Nat) (ns : Ns)  -- with the moment of the fault (R204)
  | poison (table index word dst : Nat)
  | result                                       -- a POISON result word taken from a channel (R267)
  deriving DecidableEq, Repr

/-- Why a thread issues nothing now (R108, R111, R150, R159, R176, R193, R195, R198, R215). -/
inductive Block where
  | none
  | access (op : AccessOp) (place : MemRef) (addr : Word) (dst : Nat)
  | serial                                       -- until the context is non-speculative
  | guarded (reg : Nat)                          -- a guarded wait on a result in flight
  | chanEmpty (ch dst : Nat)
  | chanFull (ch : Nat) (value : Word)
  | lock (place : MemRef) (dst : Nat)
  | efw (mask dst : Nat)
  | delay
  | join (child dst : Nat)
  | scoreboard (unit cr dst : Nat)
  | unitFull (unit : Nat)
  | save (unit : Nat) (addr : Word)
  | restore (unit : Nat) (addr : Word)
  | overlap (left : Nat) (place : MemRef) (size : Nat) (signed big : Bool) (dst : Nat)
                                                 -- a load, until that many older stores of its thread have left (R172)
  | bufferEmpty                                  -- until its CC's store buffer is empty (R173)
  | bufferRoom (place : MemRef) (size : Nat) (value : Word)
                                                 -- a store, which enters as an entry leaves (R159)
  | results                                      -- CSYNC, until earlier results have landed
  | deferred (d : Deferred)
  deriving DecidableEq, Repr

/-- A result that has not landed yet: register, value and program-order number (R153, R154). -/
structure Flight where
  reg : Nat
  value : Word
  num : Nat
  flags : Nat                      -- sticky bits it sets when it lands: 1 OV, 2 DZ; 4, 8: it may set OV, DZ (R176)
  dist : Nat                       -- its distance
  ready : Nat                      -- the thread's cycle count at which it is readable (R153, R171)
  deriving DecidableEq, Repr

/-- The youngest producer of a register, for distance reports (R177): its program-order number, its distance, its
address and the thread's cycle count at its issue (R171). -/
structure Producer where
  num : Nat
  distance : Nat
  pc : Nat
  cost : Nat
  deriving DecidableEq, Repr

/-- A coprocessor command in flight, with the copies of its operands; of CP2, with the results that the near-memory unit
gave (R215, R225). -/
structure CpCmd where
  cmd : Nat
  at_ : Ns                         -- when it issued: the age by which a shared CP0 serves (R211)
  a : Word
  b : Word
  regs : AMap Word
  deriving DecidableEq, Repr

/-- One coprocessor context of a thread (R213–R225). -/
structure CpCtx where
  regs : AMap Word
  pendingRegs : Nat                -- registers whose scoreboard bit is clear, a mask
  cmds : List CpCmd                -- commands in flight, the oldest first
  key : Option (Nat × BitVec 512)  -- CP0: the loaded key, by its index (R221)
  sha : Option (Nat × List Byte)   -- CP1: algorithm and the bytes absorbed
  deriving DecidableEq, Repr

/-- The task a thread runs. -/
inductive TaskRef where
  | none
  | packet (ctx : Nat)
  | faulted (tid : Nat)            -- a packet task held after its fault, by the thread that faulted (R204)
  | persistent (pan slot : Nat)
  | supervisor (pan : Nat)
  | legend
  deriving DecidableEq, Repr

/-- An entry of a CC store buffer: a store of one of its threads (R169, R172, R173). -/
structure BufStore where
  tid : Nat
  place : MemRef
  size : Nat
  value : Word
  deriving DecidableEq, Repr

/-- One hardware thread (R121); its number is `TID` [11:0]. -/
structure Thread where
  task : TaskRef
  first : Bool                     -- the task's first thread (R148, R184)
  parent : Option Nat
  children : List Nat              -- running children, thread numbers of the core (R149)
  kin : List (Nat × Nat)           -- threads that its task's `FORK`s have taken in this run, with their run counts (R199)
  exited : AMap Word               -- exit values of children not joined yet
  held : Bool                      -- stopped after a fault of its task (R204)
  run : Nat                        -- run count (R233)
  program : Nat
  base : Nat                       -- address of the program's first byte
  size : Nat                       -- length of the program in bytes
  tenant : Nat
  prio : Nat                       -- base priority of the task
  raises : List (MemRef × Nat)     -- raises signalled for locks it holds (R202)
  pc : Nat
  npc : Nat
  dslot : Bool                     -- the next instruction sits in a delay slot (R140)
  slotTaken : Bool                 -- and the branch before it is taken (R171)
  branch : Nat                     -- address of the branch whose target npc is
  regs : AMap Word                 -- w1–w31; w0 reads 0 (R121)
  flights : List Flight
  landed : AMap Nat                -- program-order number of the last result landed, per register (R154)
  issued : Nat                     -- instructions issued, for program order
  prod : AMap Producer             -- the youngest, per register; 32 and 33 of TSTAT.OV and DZ (R176)
  csrWrites : AMap Producer        -- the pending write of a sync-class CSR (R177, R178)
  waited : Bool                    -- the next instruction has been in a guarded wait (R176)
  issuedRegs : Option (AMap Word)  -- the registers as they stood when the instruction that waits now issued (R152, R153)
  cost : Nat                       -- cycles of R171 spent so far
  level : Nat                      -- 0, 1 or 2 (R124)
  ov : Bool
  dz : Bool
  csrs : AMap Word                 -- the stored CSRs by number (R130)
  pendingCsrs : AMap Word          -- sync-class writes not yet applied (R130)
  chanMap : BitVec 128             -- channels 8–15 (R198)
  responses : AMap (List (Word × Bool)) -- response channels 0–7; true: a result word
  binding : List (Nat × Nat)       -- table number to table id, of the program version of its run (R104, R240)
  reserved : AMap Nat              -- room reserved on a response channel (R145)
  block : Block
  blockedAt : Ns                   -- when it last blocked (R178, R303)
  localNum : Nat                   -- which local store content this run started with
  store : Memory                   -- the data local store
  cp0 : CpCtx
  cp1 : CpCtx
  cp2 : CpCtx
  deriving DecidableEq, Repr

/-- State of a persistent task (R184). -/
inductive TaskState where
  | idle | ready | running | faulted | disabled
  deriving DecidableEq, Repr

/-- A persistent task (R180–R196). -/
structure PTask where
  gen : Nat
  owner : Nat
  ownerKey : Nat                   -- the 32-bit key its TASK_CREATE named (R408)
  desc : BitVec 384                -- its descriptor (R181)
  state : TaskState
  flags : Nat
  pendingAct : Bool                -- a pending activation (R184)
  deleting : Bool
  waiters : List Nat               -- its threads in `EFW`, in the order they began to wait (R193)
  deriving DecidableEq, Repr

/-- An entry of the ready list (R187, R188). -/
structure ReadyEntry where
  task : TaskRef
  cc : Bool                        -- for a CC; else for a PE
  since : Ns
  starved : Bool
  deriving DecidableEq, Repr

/-- An entry of a channel or message queue on its way or landed (R199, R200). -/
structure ChanEntry where
  value : Word
  landed : Bool
  deriving DecidableEq, Repr

/-- A message queue (R200); `held` are entries taken by speculative contexts (R201). -/
structure MsgQ where
  owner : Nat
  depth : Nat
  entries : List ChanEntry
  held : List (Nat × Word)
  deriving DecidableEq, Repr

/-- Whose a delay-list entry is: a thread's in `DLY`, or a persistent task's period timer, by its slot (R195, R196). -/
inductive DelayWho where
  | thread (tid : Nat)
  | period (slot : Nat)
  deriving DecidableEq, Repr

/-- One delay-list entry (R197). -/
structure DelayEntry where
  who : DelayWho
  expiry : Nat
  prio : Nat
  deriving DecidableEq, Repr

/-- A waiter on a lock (R234). -/
structure LockWaiter where
  tid : Nat
  addr : Word                      -- the address its instruction named
  prio : Nat
  lease : Nat
  tries : Bool                     -- an LKT, which never waits for the owner
  deriving DecidableEq, Repr

/-- A lock in a unit's table, held or waiting to be granted (R232-R236). -/
structure Lock where
  place : MemRef
  inTable : Bool                   -- its unit's table holds the word; else its waiters wait for a free entry (R232)
  addr : Word                      -- the address by which its owner took it (R236)
  held : Bool
  owner : Nat
  ownerRun : Nat
  prio : Nat
  tag : Nat
  broken : Bool                    -- BROKEN as the next grant reports it
  brokenBefore : Bool              -- BROKEN before this grant, for a squash (R237)
  leaseEnd : Ns
  waiters : List LockWaiter        -- earliest first
  deriving DecidableEq, Repr

/-- A fault record before it is laid out (R204). -/
structure FaultRec where
  code : Nat
  dslot : Bool
  packet : Bool
  deferred : Bool
  tid : Nat
  prio : Nat
  tenant : Nat
  context : Nat
  pc : Nat
  handle : Nat
  value : Word
  epoch : Nat
  ns : Nat
  program : Nat
  deriving DecidableEq, Repr

/-- A faulted task held for the supervisor (R204, R206). -/
structure HeldTask where
  task : TaskRef
  tids : List Nat
  postedAt : Ns
  deriving DecidableEq, Repr

/-- A record of the decision trace (R209). -/
structure TraceRec where
  epoch : Nat
  ns : Nat
  kind : Nat
  cause : Nat
  prio : Nat
  base : Nat
  tid : Nat
  context : Nat
  tenant : Nat
  program : Nat
  wait : Nat
  handle : Nat
  deriving DecidableEq, Repr

/-- A distance report (R178). -/
structure DistReport where
  kind : Nat
  reg : Nat
  discipline : Nat
  csr : Nat
  required : Nat
  separation : Nat
  waitMax : Nat
  consumer : Nat
  producer : Nat
  tid : Nat
  program : Nat
  context : Nat
  tenant : Nat
  repeats : Nat
  epoch : Nat
  ns : Nat
  deriving DecidableEq, Repr

/-- A program as a Pan holds it (R126, R240, R408). -/
structure LoadedProgram where
  base : Nat
  size : Nat
  deriving DecidableEq, Repr

/-- Power state of a Pan (R27, R479). -/
inductive PanPower where
  | awake
  | clockGated
  | powerGated
  | waking (since : Ns) (cost : Ns)
  deriving DecidableEq, Repr

/-- One Pan (R180–R209). -/
structure Pan where
  sched : BitVec 128               -- SCHED (R207)
  peIssue : AMap (BitVec 64)       -- PE_ISSUE, per PE (R163)
  ccMode : AMap (BitVec 64)        -- CC_MODE in force, per CC: 30, 31 (R170)
  ccPending : AMap (BitVec 64)     -- a CC_MODE that waits until both threads of its CC are between tasks (R170)
  power : PanPower
  idleSince : Ns
  sram : Memory                    -- 4 MiB
  programs : AMap LoadedProgram
  ready : AMap (List ReadyEntry)   -- per level 0–15
  tasks : AMap PTask               -- by slot
  gens : AMap Nat                  -- generation of a free slot (R192)
  envs : AMap (Nat × List Word)    -- environment records: owner and 12 words (R182)
  msgqs : AMap MsgQ
  chanWaits : List Nat             -- threads that wait on a channel, in the order they began to (R200)
  links : AMap (List ChanEntry)    -- sibling links: 65536 × from thread + to thread (R199)
  tick : Nat                       -- N (R195)
  tickAt : Ns                      -- the last tick boundary
  tickNs : Nat                     -- TICK_NS in force until the next boundary (R197)
  efs : List (Nat × Nat × Nat)     -- `EFS` on their way to tasks of this Pan: handle, flags, sending Pan (R192)
  delays : List DelayEntry         -- sorted by expiry, then priority, then insertion (R197)
  faultQueue : List (Nat × Nat)    -- records of 40 bytes, each with the entries already read (R203)
  held : List HeldTask
  locks : List Lock                -- the lock units of its SRAM (R232)
  trace : List TraceRec            -- the oldest first
  reports : List DistReport        -- the oldest first, at most 256 (R179)
  lostReports : AMap Nat           -- reports lost since the operator's last read, per tenant (R179)
  perfSel : AMap (BitVec 32 × Nat) -- 4 × core + counter: select record and its writer (R208)
  perf : AMap (Nat × Nat)          -- counter value and WRAPS
  supervisorFaulted : Bool
  svcBase : Word                   -- entry base of the service routines of the PRT image (R131)
  svcSize : Nat                    -- their length in bytes
  buffers : AMap (List BufStore)   -- store buffer of a CC, the oldest first (R172, R173)
  cpBusy : AMap Nat                -- the thread whose command a CP0 has in progress, by PE pair 0–14 or CC 30, 31 (R211)
  lateCp : List (Nat × Nat)        -- commands of runs that have ended: thread and unit (R105)
  halted : Bool                    -- halted by a debug function of the JTAG port (R371)
  deriving DecidableEq, Repr

/-- A coprocessor context in its reset state (R213). -/
def CpCtx.reset : CpCtx := { regs := [], pendingRegs := 0, cmds := [], key := none, sha := none }

/-- A thread that holds no task. -/
def Thread.idle : Thread :=
  { task := .none, first := false, parent := none, children := [], kin := [], exited := [], held := false, run := 0,
    program := 0, base := 0, size := 0, tenant := 0, prio := 15, raises := [], pc := 0, npc := 4, dslot := false, slotTaken := false,
    branch := 0, regs := [], flights := [], landed := [], issued := 0, prod := [], csrWrites := [], waited := false, issuedRegs := none, cost := 0, level := 2, ov := false, dz := false,
    csrs := [], pendingCsrs := [], chanMap := 0, responses := [], binding := [], reserved := [], block := .none, blockedAt := 0, localNum := 0,
    store := [], cp0 := .reset, cp1 := .reset, cp2 := .reset }

/-- Reset value of SCHED (R207). -/
def schedReset : BitVec 128 :=
  BitVec.ofNat 128 (1000 + 1000 * 2 ^ 24 + 100 * 2 ^ 40 + 15 * 2 ^ 84 + 0xFF * 2 ^ 88)

/-- A Pan after reset. -/
def Pan.reset : Pan :=
  { sched := schedReset, peIssue := [], ccMode := [], ccPending := [], power := .awake, idleSince := 0, sram := [], programs := [],
    ready := [], tasks := [], gens := [], envs := [], msgqs := [], chanWaits := [], links := [], tick := 0, tickAt := 0, tickNs := 1000, efs := [],
    delays := [], faultQueue := [], held := [], locks := [], trace := [], reports := [], lostReports := [],
    perfSel := [], perf := [], supervisorFaulted := false, svcBase := 0, svcSize := 0, buffers := [], cpBusy := [], lateCp := [],
    halted := false }

end Sys2Proof.Machine
end

