-- ==== Sys2Proof/Syntax.lean ====
section
/-! DEFINITION. The commands of the Myolne: one constructor for each row of the table of operations and events. -/

namespace Sys2Proof

open Machine

/-- A command or an event that changes the state of the Myolne. -/
inductive Instr where
  /-- FRAME_RECEIVE (R38). -/
  | frameReceive (lport : Nat) (frame fcs : List Byte) (fecOk aligned : Bool)
  /-- PAUSE_RECEIVED (R42). -/
  | pauseReceived (lport : Nat) (dest : BitVec 48) (len time age : Nat)
  /-- PFC_RECEIVED (R42). -/
  | pfcReceived (lport : Nat) (dest : BitVec 48) (len : Nat) (enable : BitVec 8) (times : BitVec 128) (age : Nat)
  /-- PAUSE_EXPIRY (R42). -/
  | pauseExpiry (lport pcp : Nat)
  /-- XOFF_REPEAT (R44). -/
  | xoffRepeat (lport pcp : Nat)
  /-- FRAME_BOUNDARY (R53). -/
  | frameBoundary (lport : Nat)
  /-- LINK_UP (R61). -/
  | linkUp (lport : Nat)
  /-- LINK_DOWN (R61). -/
  | linkDown (lport : Nat)
  /-- OPTICS_EVALUATION (R62). -/
  | opticsEvaluation (engine : Nat) (temp : Int) (lanes : List LaneReading) (fec : List FecReading)
  /-- LASER_EN_N_HIGH (R65). -/
  | laserEnNHigh
  /-- LASER_EN_N_LOW (R66). -/
  | laserEnNLow
  /-- LASER_LIGHT (R66). -/
  | laserLight
  /-- DESCRIPTOR_INTAKE (R99). -/
  | descriptorIntake
  /-- PAN_WAKE (R27). -/
  | panWake (pan : Nat)
  /-- PAN_GATE (R479). -/
  | panGate (pan : Nat)
  /-- TASK_DISPATCH (R189). -/
  | taskDispatch (tid : Nat)
  /-- EXPRESS_DISPATCH (R117). -/
  | expressDispatch
  /-- COMMIT (R114). -/
  | commit (express : Bool) (domain : Nat)
  /-- UNWIND_COMPLETE (R112). -/
  | unwindComplete (ctx : Nat)
  /-- PROMOTION_END (R329). -/
  | promotionEnd (table : Nat) (key : List Byte)
  /-- LIFETIME_EXPIRY (R105). -/
  | lifetimeExpiry (ctx : Nat)
  /-- WAIT_EXPIRED (R100). -/
  | waitExpired (express : Bool) (domain : Nat)
  /-- QUEUE_EXPIRED (R285). -/
  | queueExpired (port prio : Nat)
  /-- DELAY_EXPIRY (R197). -/
  | delayExpiry (pan : Nat)
  /-- PERIOD_EXPIRY (R196). -/
  | periodExpiry (pan slot : Nat)
  /-- FLAG_APPLY (R193). -/
  | flagApply (handle flags : Nat)
  /-- STARVED (R208). -/
  | starved (pan level pos : Nat)
  /-- SUPERVISOR_TIMEOUT (R206). -/
  | supervisorTimeout (pan : Nat)
  /-- SUPERVISOR_END (R205). -/
  | supervisorEnd (pan held : Nat)
  /-- SUPERVISOR_REARM (R205). -/
  | supervisorRearm (pan held : Nat)
  /-- SUPERVISOR_DISABLE (R205). -/
  | supervisorDisable (pan held : Nat)
  /-- CHANNEL_ENTRY_LAND (R199). -/
  | channelEntryLand (sender receiver : Nat)
  /-- MSGQ_ENTRY_LAND (R200). -/
  | msgqEntryLand (pan queue : Nat)
  /-- LOCK_GRANT (R234). -/
  | lockGrant (place : MemRef)
  /-- LEASE_EXPIRED (R236). -/
  | leaseExpired (place : MemRef)
  /-- MEMORY_ACCESS_COMPLETE (R159). -/
  | memoryAccessComplete (tid : Nat)
  /-- COPROCESSOR_RESULT (R215). -/
  | coprocessorResult (tid unit : Nat)
  /-- SEARCH_RESULT (R266). -/
  | searchResult (num : Nat)
  /-- SEARCH_TIMEOUT (R268). -/
  | searchTimeout (num : Nat)
  /-- STORE_BUFFER_DRAIN (R173). -/
  | storeBufferDrain (tid : Nat)
  /-- ADD (R142). -/
  | add (t : Nat) (a b c : BitVec 5)
  /-- SUB (R142). -/
  | sub (t : Nat) (a b c : BitVec 5)
  /-- ADDT (R142). -/
  | addt (t : Nat) (a b c : BitVec 5)
  /-- SUBT (R142). -/
  | subt (t : Nat) (a b c : BitVec 5)
  /-- NEG (R142). -/
  | neg (t : Nat) (a b : BitVec 5)
  /-- NEGT (R142). -/
  | negt (t : Nat) (a b : BitVec 5)
  /-- AND (R139). -/
  | and (t : Nat) (a b c : BitVec 5)
  /-- OR (R139). -/
  | or (t : Nat) (a b c : BitVec 5)
  /-- XOR (R139). -/
  | xor (t : Nat) (a b c : BitVec 5)
  /-- ANDN (R139). -/
  | andn (t : Nat) (a b c : BitVec 5)
  /-- SLT (R139). -/
  | slt (t : Nat) (a b c : BitVec 5)
  /-- SLTU (R139). -/
  | sltu (t : Nat) (a b c : BitVec 5)
  /-- SEQ (R139). -/
  | seq (t : Nat) (a b c : BitVec 5)
  /-- MIN (R139). -/
  | min (t : Nat) (a b c : BitVec 5)
  /-- MAX (R139). -/
  | max (t : Nat) (a b c : BitVec 5)
  /-- MINU (R139). -/
  | minu (t : Nat) (a b c : BitVec 5)
  /-- MAXU (R139). -/
  | maxu (t : Nat) (a b c : BitVec 5)
  /-- SHL (R142). -/
  | shl (t : Nat) (a b c : BitVec 5)
  /-- SHR (R142). -/
  | shr (t : Nat) (a b c : BitVec 5)
  /-- SAR (R142). -/
  | sar (t : Nat) (a b c : BitVec 5)
  /-- ROL (R142). -/
  | rol (t : Nat) (a b c : BitVec 5)
  /-- ROR (R142). -/
  | ror (t : Nat) (a b c : BitVec 5)
  /-- CMOVZ (R139). -/
  | cmovz (t : Nat) (a b c : BitVec 5)
  /-- CMOVN (R139). -/
  | cmovn (t : Nat) (a b c : BitVec 5)
  /-- CLZ (R139). -/
  | clz (t : Nat) (a b : BitVec 5)
  /-- CTZ (R139). -/
  | ctz (t : Nat) (a b : BitVec 5)
  /-- POPC (R139). -/
  | popc (t : Nat) (a b : BitVec 5)
  /-- BSWP16 (R139). -/
  | bswp16 (t : Nat) (a b : BitVec 5)
  /-- BSWP32 (R139). -/
  | bswp32 (t : Nat) (a b : BitVec 5)
  /-- BSWP64 (R139). -/
  | bswp64 (t : Nat) (a b : BitVec 5)
  /-- JALR (R140). -/
  | jalr (t : Nat) (a b : BitVec 5)
  /-- MUL (R142). -/
  | mul (t : Nat) (a b c : BitVec 5)
  /-- MULH (R139). -/
  | mulh (t : Nat) (a b c : BitVec 5)
  /-- MULHU (R139). -/
  | mulhu (t : Nat) (a b c : BitVec 5)
  /-- MULT (R142). -/
  | mult (t : Nat) (a b c : BitVec 5)
  /-- DIV (R142). -/
  | div (t : Nat) (a b c : BitVec 5)
  /-- REM (R142). -/
  | rem (t : Nat) (a b c : BitVec 5)
  /-- DIVU (R142). -/
  | divu (t : Nat) (a b c : BitVec 5)
  /-- REMU (R142). -/
  | remu (t : Nat) (a b c : BitVec 5)
  /-- DIVT (R142). -/
  | divt (t : Nat) (a b c : BitVec 5)
  /-- REMT (R142). -/
  | remt (t : Nat) (a b c : BitVec 5)
  /-- AADD (R230). -/
  | aadd (t : Nat) (a b c : BitVec 5)
  /-- ACAS (R230). -/
  | acas (t : Nat) (a b c : BitVec 5)
  /-- ASWP (R230). -/
  | aswp (t : Nat) (a b c : BitVec 5)
  /-- EGR (R148). -/
  | egr (t : Nat) (a b c : BitVec 5)
  /-- CHK (R146). -/
  | chk (t : Nat) (a b : BitVec 5)
  /-- CHKR (R146). -/
  | chkr (t : Nat) (a b c : BitVec 5)
  /-- ADDI (R142). -/
  | addi (t : Nat) (a b : BitVec 5) (imm : BitVec 16)
  /-- ADDTI (R142). -/
  | addti (t : Nat) (a b : BitVec 5) (imm : BitVec 16)
  /-- ANDI (R139). -/
  | andi (t : Nat) (a b : BitVec 5) (imm : BitVec 16)
  /-- ORI (R139). -/
  | ori (t : Nat) (a b : BitVec 5) (imm : BitVec 16)
  /-- XORI (R139). -/
  | xori (t : Nat) (a b : BitVec 5) (imm : BitVec 16)
  /-- SLTI (R139). -/
  | slti (t : Nat) (a b : BitVec 5) (imm : BitVec 16)
  /-- SLTUI (R139). -/
  | sltui (t : Nat) (a b : BitVec 5) (imm : BitVec 16)
  /-- SETQ0 (R139). -/
  | setq0 (t : Nat) (a b : BitVec 5) (imm : BitVec 16)
  /-- SETQ1 (R139). -/
  | setq1 (t : Nat) (a b : BitVec 5) (imm : BitVec 16)
  /-- SETQ2 (R139). -/
  | setq2 (t : Nat) (a b : BitVec 5) (imm : BitVec 16)
  /-- SETQ3 (R139). -/
  | setq3 (t : Nat) (a b : BitVec 5) (imm : BitVec 16)
  /-- SHLI (R139). -/
  | shli (t : Nat) (a b : BitVec 5) (amount : BitVec 6)
  /-- SHRI (R139). -/
  | shri (t : Nat) (a b : BitVec 5) (amount : BitVec 6)
  /-- SARI (R139). -/
  | sari (t : Nat) (a b : BitVec 5) (amount : BitVec 6)
  /-- ROLI (R139). -/
  | roli (t : Nat) (a b : BitVec 5) (amount : BitVec 6)
  /-- EXTI (R142). -/
  | exti (t : Nat) (a b : BitVec 5) (pos len : BitVec 6)
  /-- EXTSI (R142). -/
  | extsi (t : Nat) (a b : BitVec 5) (pos len : BitVec 6)
  /-- INSI (R142). -/
  | insi (t : Nat) (a b : BitVec 5) (pos len : BitVec 6)
  /-- CHKI (R146). -/
  | chki (t : Nat) (a : BitVec 5) (imm : BitVec 16)
  /-- PWCK (R146). -/
  | pwck (t : Nat) (a : BitVec 5) (imm : BitVec 16)
  /-- BAL (R140). -/
  | bal (t : Nat) (a : BitVec 5) (off : BitVec 21)
  /-- BEQZ (R140). -/
  | beqz (t : Nat) (a : BitVec 5) (off : BitVec 21)
  /-- BNEZ (R140). -/
  | bnez (t : Nat) (a : BitVec 5) (off : BitVec 21)
  /-- BLTZ (R140). -/
  | bltz (t : Nat) (a : BitVec 5) (off : BitVec 21)
  /-- BGEZ (R140). -/
  | bgez (t : Nat) (a : BitVec 5) (off : BitVec 21)
  /-- BLEZ (R140). -/
  | blez (t : Nat) (a : BitVec 5) (off : BitVec 21)
  /-- BGTZ (R140). -/
  | bgtz (t : Nat) (a : BitVec 5) (off : BitVec 21)
  /-- FORK (R149). -/
  | fork (t : Nat) (a : BitVec 5) (off : BitVec 21)
  /-- LD8 (R143). -/
  | ld8 (t : Nat) (a b : BitVec 5) (disp : BitVec 16)
  /-- LD8S (R143). -/
  | ld8s (t : Nat) (a b : BitVec 5) (disp : BitVec 16)
  /-- LD16 (R143). -/
  | ld16 (t : Nat) (a b : BitVec 5) (disp : BitVec 16)
  /-- LD16S (R143). -/
  | ld16s (t : Nat) (a b : BitVec 5) (disp : BitVec 16)
  /-- LD32 (R143). -/
  | ld32 (t : Nat) (a b : BitVec 5) (disp : BitVec 16)
  /-- LD32S (R143). -/
  | ld32s (t : Nat) (a b : BitVec 5) (disp : BitVec 16)
  /-- LD64 (R143). -/
  | ld64 (t : Nat) (a b : BitVec 5) (disp : BitVec 16)
  /-- ST8 (R143). -/
  | st8 (t : Nat) (a b : BitVec 5) (disp : BitVec 16)
  /-- ST16 (R143). -/
  | st16 (t : Nat) (a b : BitVec 5) (disp : BitVec 16)
  /-- ST32 (R143). -/
  | st32 (t : Nat) (a b : BitVec 5) (disp : BitVec 16)
  /-- ST64 (R143). -/
  | st64 (t : Nat) (a b : BitVec 5) (disp : BitVec 16)
  /-- LPW16 (R122). -/
  | lpw16 (t : Nat) (a b : BitVec 5) (disp : BitVec 16)
  /-- LPW32 (R122). -/
  | lpw32 (t : Nat) (a b : BitVec 5) (disp : BitVec 16)
  /-- LPW64 (R122). -/
  | lpw64 (t : Nat) (a b : BitVec 5) (disp : BitVec 16)
  /-- SLD (R144). -/
  | sld (t : Nat) (a b : BitVec 5) (table : BitVec 8) (word : BitVec 4)
  /-- SST (R144). -/
  | sst (t : Nat) (a b : BitVec 5) (table : BitVec 8) (word : BitVec 4)
  /-- SRCH_SEARCH (R265). -/
  | srchSearch (t : Nat) (a b : BitVec 5) (chan : BitVec 3)
  /-- SEARCH_OR_LEARN (R259). -/
  | searchOrLearn (t : Nat) (a b : BitVec 5) (chan : BitVec 3)
  /-- SRCH_DELETE (R265). -/
  | srchDelete (t : Nat) (a b : BitVec 5) (chan : BitVec 3)
  /-- LKA (R147). -/
  | lka (t : Nat) (a b : BitVec 5) (lease : BitVec 16)
  /-- LKT (R147). -/
  | lkt (t : Nat) (a b : BitVec 5) (lease : BitVec 16)
  /-- LKR (R147). -/
  | lkr (t : Nat) (b : BitVec 5)
  /-- CHR (R198). -/
  | chr (t : Nat) (a : BitVec 5) (chan : BitVec 4)
  /-- CHW (R198). -/
  | chw (t : Nat) (a : BitVec 5) (chan : BitVec 4)
  /-- CHP (R198). -/
  | chp (t : Nat) (a : BitVec 5) (chan : BitVec 4)
  /-- CSRR (R130). -/
  | csrr (t : Nat) (a : BitVec 5) (n : BitVec 12)
  /-- CSRW (R130). -/
  | csrw (t : Nat) (a b : BitVec 5) (n : BitVec 12)
  /-- CSRS (R130). -/
  | csrs (t : Nat) (a b : BitVec 5) (n : BitVec 12)
  /-- CSRC (R130). -/
  | csrc (t : Nat) (a b : BitVec 5) (n : BitVec 12)
  /-- CSYNC (R174). -/
  | csync (t : Nat)
  /-- SER (R108). -/
  | ser (t : Nat)
  /-- SVC (R125). -/
  | svc (t : Nat) (n : BitVec 12)
  /-- SRET (R125). -/
  | sret (t : Nat)
  /-- TRAP (R151). -/
  | trap (t : Nat) (n : BitVec 12)
  /-- FENCE (R173). -/
  | fence (t : Nat)
  /-- EXIT (R149). -/
  | exit (t : Nat) (b : BitVec 5)
  /-- JOIN (R149). -/
  | join (t : Nat) (a b : BitVec 5)
  /-- YIELD (R185). -/
  | yield (t : Nat)
  /-- EFW (R193). -/
  | efw (t : Nat) (a b : BitVec 5)
  /-- EFS (R192). -/
  | efs (t : Nat) (a b : BitVec 5)
  /-- DLY (R195). -/
  | dly (t : Nat) (b : BitVec 5)
  /-- PDROP (R148). -/
  | pdrop (t : Nat) (n : BitVec 8)
  /-- EVP (R492). -/
  | evp (t : Nat) (b : BitVec 5) (n : BitVec 4)
  /-- MTC (R214). -/
  | mtc (t : Nat) (unit : BitVec 2) (b cr : BitVec 5)
  /-- MFC (R214). -/
  | mfc (t : Nat) (unit : BitVec 2) (a cr : BitVec 5)
  /-- CSAVE (R228). -/
  | csave (t : Nat) (unit : BitVec 2) (b : BitVec 5)
  /-- CREST (R229). -/
  | crest (t : Nat) (unit : BitVec 2) (b : BitVec 5)
  /-- KEYLOAD (R221). -/
  | keyload (t : Nat) (a b : BitVec 5)
  /-- CP0_SEAL (R219). -/
  | cp0Seal (t : Nat) (a b : BitVec 5)
  /-- CP0_OPEN (R219). -/
  | cp0Open (t : Nat) (a b : BitVec 5)
  /-- XTS_ENC (R219). -/
  | xtsEnc (t : Nat) (a b : BitVec 5)
  /-- XTS_DEC (R219). -/
  | xtsDec (t : Nat) (a b : BitVec 5)
  /-- KEYCLR (R219). -/
  | keyclr (t : Nat) (a b : BitVec 5)
  /-- SHA_INIT (R223). -/
  | shaInit (t : Nat) (a b : BitVec 5)
  /-- SHA_UPDATE (R223). -/
  | shaUpdate (t : Nat) (a b : BitVec 5)
  /-- SHA_FINAL (R223). -/
  | shaFinal (t : Nat) (a b : BitVec 5)
  /-- CP1_CRC (R223). -/
  | cp1Crc (t : Nat) (a b : BitVec 5)
  /-- TOEPLITZ (R223). -/
  | toeplitz (t : Nat) (a b : BitVec 5)
  /-- COUNT (R225). -/
  | count (t : Nat) (a b : BitVec 5)
  /-- POLICE (R226). -/
  | police (t : Nat) (a b : BitVec 5)
  /-- COUNT_FETCH (R225). -/
  | countFetch (t : Nat) (a b : BitVec 5)
  /-- METER (R225). -/
  | meter (t : Nat) (a b : BitVec 5)
  /-- CP2_READ (R225). -/
  | cp2Read (t : Nat) (a b : BitVec 5)
  /-- VIEW_PUBLISH (R248). -/
  | viewPublish (table : Nat)
  /-- FALSE_HIT_REWRITE (R251). -/
  | falseHitRewrite (bank entry : Nat)
  /-- SCRUB_SWEEP (R269). -/
  | scrubSweep (table : Nat)
  /-- AGING_SCAN (R262). -/
  | agingScan (table : Nat)
  /-- REHASH_COMPLETE (R264). -/
  | rehashComplete (table : Nat)
  /-- FILTER_REBUILD_SWITCH (R331). -/
  | filterRebuildSwitch (table : Nat)
  /-- BANK_SLEEP (R271). -/
  | bankSleep (bank : Nat)
  /-- RING_REFILL (R279). -/
  | ringRefill (pool : Nat)
  /-- FAR_STAGING_READ (R292). -/
  | farStagingRead (lport queue : Nat)
  /-- DRAM_REQUEST (R304). -/
  | dramRequest (stack bank : Nat) (reqs : List DramReq) (wrongData wrongCheck : Nat)
  /-- REFRESH (R300). -/
  | refresh (stack bank : Nat) (queued : Bool)
  /-- CALIBRATION (R299). -/
  | calibration (channel : Nat)
  /-- DRAM_READ_RETRY (R311). -/
  | dramReadRetry (rank owner line tries wrong : Nat)
  /-- PATROL_SCRUB (R312). -/
  | patrolScrub (rank owner line : Nat) (wrong : List Nat)
  /-- MIGRATION_END (R314). -/
  | migrationEnd
  /-- RESHAPE_END (R315). -/
  | reshapeEnd
  /-- RETIRE_PENDING_REMINDER (R315). -/
  | retirePendingReminder (rank : Nat)
  /-- SELF_REFRESH_ENTRY (R317). -/
  | selfRefreshEntry (stack : Nat)
  /-- SELF_REFRESH_EXIT (R318). -/
  | selfRefreshExit (stack : Nat)
  /-- DRAM_TRAINED (R298). -/
  | dramTrained (failed repaired : List Nat)
  /-- STAGED_RECORD_WRITE (R327). -/
  | stagedRecordWrite (table : Nat) (key : List Byte) (ok : Bool)
  /-- READ_RETRY_STEP (R332). -/
  | readRetryStep (table : Nat) (key : List Byte)
  /-- CAPTURE_WRITE (R337). -/
  | captureWrite (ring flushed : Nat)
  /-- SHUTDOWN_DECISION (R470). -/
  | shutdownDecision (cause vin : Nat)
  /-- FLUSH_DONE (R470). -/
  | flushDone
  /-- HOLDUP_EXHAUSTED (R471). -/
  | holdupExhausted (issued : Bool)
  /-- OFF_HOLD_EXPIRY (R472). -/
  | offHoldExpiry
  /-- POWER_UP (R476). -/
  | powerUp (vin : Nat) (copyA copyB : Bool) (lands : Lands)
  /-- HOT_SWAP_RETRY (R468). -/
  | hotSwapRetry
  /-- BANK_READY (R469). -/
  | bankReady (bank : Nat)
  /-- COMMAND_READY (R476). -/
  | commandReady (torn : List TornPage)
  /-- TRAFFIC_READY (R476). -/
  | trafficReady
  /-- RESET_N_ASSERT (R477). -/
  | resetNAssert
  /-- BROWNOUT_WARNING (R467). -/
  | brownoutWarning (vin : Nat)
  /-- BROWNOUT_WARNING_CLEAR (R467). -/
  | brownoutWarningClear (vin : Nat)
  /-- VIN_DIP (R466). -/
  | vinDip (vin : Nat)
  /-- VIN_HIGH (R466). -/
  | vinHigh (vin : Nat)
  /-- SENSOR_POLL (R475). -/
  | sensorPoll (die input : Int) (degrees : List Int)
  /-- REFCLK_LOST (R484). -/
  | refclkLost
  /-- REFCLK_RETURN (R484). -/
  | refclkReturn
  /-- SYNC_IN_EDGE (R487). -/
  | syncInEdge
  /-- SYNC_OUT_EDGE (R487). -/
  | syncOutEdge
  /-- STANDBY_WAKE_GPIO (R480). -/
  | standbyWakeGpio
  /-- STANDBY_WAKE_TIMER (R480). -/
  | standbyWakeTimer
  /-- ZEROIZE_N_TRIP (R366). -/
  | zeroizeNTrip
  /-- TAMPER_TRIP (R366). -/
  | tamperTrip (input : Nat)
  /-- INTERNAL_SENSOR_TRIP (R366). -/
  | internalSensorTrip
  /-- ZEROIZE_RESTART (R368). -/
  | zeroizeRestart
  /-- OWNER_ZEROIZE_END (R369). -/
  | ownerZeroizeEnd (owner : Nat)
  /-- SESSION_TIMEOUT (R359). -/
  | sessionTimeout (session : Nat)
  /-- HOLDOFF_EXPIRY (R490). -/
  | holdoffExpiry (source owner : Nat)
  /-- PAN_CONTAINMENT (R508). -/
  | panContainment (pan : Nat) (trigger : Option Nat) (completes : Bool)
  /-- TRAFFIC_CORE_CONTAINMENT (R509). -/
  | trafficCoreContainment (trigger : Option Nat) (completes : Bool)
  /-- LEGEND_WATCHDOG (R507). -/
  | legendWatchdog
  /-- GUARDED_PERIOD_END (R508). -/
  | guardedPeriodEnd (pan : Nat)
  /-- INBAND_FRAGMENT (R388). -/
  | inbandFragment (ctx : Nat)
  /-- REASSEMBLY_TIMEOUT (R388). -/
  | reassemblyTimeout (lport : Nat) (mac : BitVec 48) (tag : Nat)
  /-- ACKNOWLEDGMENT (R402). -/
  | acknowledgment (acc : Nat)
  /-- CHAIN_TIMEOUT (R398). -/
  | chainTimeout (acc : Nat)
  /-- DEADLINE_EXPIRED (R400). -/
  | deadlineExpired (acc : Nat)
  /-- SNAPSHOT_EXPIRY (R407). -/
  | snapshotExpiry (id : Nat)
  /-- GET_VERSION (R357). -/
  | getVersion (c : CmdRef)
  /-- GET_CAPABILITIES (R357). -/
  | getCapabilities (c : CmdRef)
  /-- NEGOTIATE_ALGORITHMS (R357). -/
  | negotiateAlgorithms (c : CmdRef)
  /-- GET_DIGESTS (R357). -/
  | getDigests (c : CmdRef)
  /-- GET_CERTIFICATE (R353). -/
  | getCertificate (c : CmdRef) (slot offset len : Nat)
  /-- CHALLENGE (R357). -/
  | challenge (c : CmdRef) (slot : Nat) (nonce : BitVec 256)
  /-- GET_MEASUREMENTS (R363). -/
  | getMeasurements (c : CmdRef) (index : Nat) (nonce : BitVec 256)
  /-- KEY_EXCHANGE (R357). -/
  | keyExchange (c : CmdRef) (x : KeyExchange)
  /-- FINISH (R358). -/
  | finish (c : CmdRef) (session : Nat) (signature : List Byte)
  /-- HEARTBEAT (R357). -/
  | heartbeat (c : CmdRef)
  /-- KEY_UPDATE (R393). -/
  | keyUpdate (c : CmdRef) (operation : Nat)
  /-- END_SESSION (R359). -/
  | endSession (c : CmdRef)
  /-- UNSUPPORTED_SPDM_REQUEST (R357). -/
  | unsupportedSpdmRequest (c : CmdRef)
  /-- OPERATOR_CLAIM (R348). -/
  | operatorClaim (c : CmdRef) (claim : Claim)
  /-- OPERATOR_TRANSFER (R348). -/
  | operatorTransfer (c : CmdRef) (keyHash : BitVec 384)
  /-- TENANT_CLAIM (R351). -/
  | tenantClaim (c : CmdRef) (tenant : Nat) (claim : Claim)
  /-- SESSION_INFO (R392). -/
  | sessionInfo (c : CmdRef)
  /-- RESULT_QUERY (R394). -/
  | resultQuery (c : CmdRef) (session sequence : Nat)
  /-- ECHO (R408). -/
  | echo (c : CmdRef)
  /-- DEVICE_INFO (R2). -/
  | deviceInfo (c : CmdRef)
  /-- RECORD_WRITE (R409). -/
  | recordWrite (c : CmdRef) (id index : Nat) (record : BitVec 128)
  /-- RECORD_READ (R409). -/
  | recordRead (c : CmdRef) (id index : Nat)
  /-- POWER_STATE_SET (R480). -/
  | powerStateSet (c : CmdRef) (record : BitVec 64)
  /-- POWER_STATUS (R480). -/
  | powerStatus (c : CmdRef)
  /-- DEVICE_RESTART (R379). -/
  | deviceRestart (c : CmdRef)
  /-- DEVICE_ZEROIZE (R368). -/
  | deviceZeroize (c : CmdRef)
  /-- TAMPER_ARM (R367). -/
  | tamperArm (c : CmdRef) (input : Nat) (arm high : Bool)
  /-- REPORT_READ (R342). -/
  | reportRead (c : CmdRef)
  /-- REPORT_ACK (R342). -/
  | reportAck (c : CmdRef)
  /-- TIME_READ (R487). -/
  | timeRead (c : CmdRef)
  /-- PORT_WRITE (R57). -/
  | portWrite (c : CmdRef) (lport : Nat) (record : BitVec 64)
  /-- PORT_READ (R57). -/
  | portRead (c : CmdRef) (lport : Nat)
  /-- PORT_MAP_WRITE (R58). -/
  | portMapWrite (c : CmdRef) (lport : Nat) (record : BitVec 320)
  /-- PORT_MAP_READ (R58). -/
  | portMapRead (c : CmdRef) (lport : Nat)
  /-- QUEUE_WRITE (R59). -/
  | queueWrite (c : CmdRef) (lport queue : Nat) (record : BitVec 64)
  /-- QUEUE_READ (R59). -/
  | queueRead (c : CmdRef) (lport queue : Nat)
  /-- PORT_STATUS_READ (R60). -/
  | portStatusRead (c : CmdRef) (lport : Nat) (clear : BitVec 64)
  /-- OPTICS_READ (R62). -/
  | opticsRead (c : CmdRef) (port : Nat)
  /-- OPTICS_THRESH_WRITE (R64). -/
  | opticsThreshWrite (c : CmdRef) (port : Nat) (record : BitVec 64)
  /-- OPTICS_ENABLE (R63). -/
  | opticsEnable (c : CmdRef) (engine : Nat)
  /-- CMD_INBAND_WRITE (R387). -/
  | cmdInbandWrite (c : CmdRef) (lport : Nat) (record : BitVec 64)
  /-- MACSEC_SC_CREATE (R48). -/
  | macsecScCreate (c : CmdRef) (x : ScSpec)
  /-- MACSEC_SC_DELETE (R50). -/
  | macsecScDelete (c : CmdRef) (sci lport : Nat) (transmit : Bool)
  /-- MACSEC_SA_INSTALL (R50). -/
  | macsecSaInstall (c : CmdRef) (lport : Nat) (transmit : Bool) (x : SaSpec)
  /-- MACSEC_SA_DELETE (R50). -/
  | macsecSaDelete (c : CmdRef) (sci lport : Nat) (transmit : Bool) (an : Nat)
  /-- MACSEC_READ (R50). -/
  | macsecRead (c : CmdRef) (sci lport : Nat) (transmit : Bool)
  /-- MACSEC_PN_THRESH (R51). -/
  | macsecPnThresh (c : CmdRef) (sci lport : Nat) (transmit : Bool) (thresh : Nat)
  /-- SCOPE_RULE_ADD (R77). -/
  | scopeRuleAdd (c : CmdRef) (x : RuleRec)
  /-- SCOPE_RULE_DELETE (R77). -/
  | scopeRuleDelete (c : CmdRef) (id : Nat)
  /-- RULE_ADD (R82). -/
  | ruleAdd (c : CmdRef) (x : RuleRec)
  /-- RULE_DELETE (R82). -/
  | ruleDelete (c : CmdRef) (id : Nat)
  /-- RULE_READ (R89). -/
  | ruleRead (c : CmdRef) (id owner : Nat)
  /-- PROFILE_WRITE (R81). -/
  | profileWrite (c : CmdRef) (profile : Nat) (extractors : List (BitVec 32))
  /-- PROFILE_SET_WRITE (R79). -/
  | profileSetWrite (c : CmdRef) (set : Nat) (record : BitVec 32)
  /-- MIRROR_SESSION_WRITE (R88). -/
  | mirrorSessionWrite (c : CmdRef) (id : Nat) (record : BitVec 64)
  /-- SLOW_REASON_WRITE (R95). -/
  | slowReasonWrite (c : CmdRef) (reason : Nat) (record : BitVec 128)
  /-- SLOW_TENANT_WRITE (R96). -/
  | slowTenantWrite (c : CmdRef) (tenant : Nat) (record : BitVec 64)
  /-- SLUICE_WRITE (R72). -/
  | sluiceWrite (c : CmdRef) (record : BitVec 64)
  /-- CLASSIFIER_READ (R408). -/
  | classifierRead (c : CmdRef) (kind index : Nat)
  /-- PROGRAM_LOAD (R240). -/
  | programLoad (c : CmdRef) (x : ProgSpec)
  /-- PROGRAM_UNLOAD (R408). -/
  | programUnload (c : CmdRef) (id : Nat)
  /-- PROGRAM_READ (R408). -/
  | programRead (c : CmdRef) (id : Nat)
  /-- SLOW_PATH_SET (R93). -/
  | slowPathSet (c : CmdRef) (program : Nat)
  /-- ENV_WRITE (R182). -/
  | envWrite (c : CmdRef) (pan record : Nat) (words : List Word)
  /-- TASK_CREATE (R181). -/
  | taskCreate (c : CmdRef) (ownerKey pan : Nat) (desc : BitVec 384)
  /-- TASK_DELETE (R184). -/
  | taskDelete (c : CmdRef) (handle : Nat)
  /-- TASK_ACTIVATE (R184). -/
  | taskActivate (c : CmdRef) (handle : Nat)
  /-- TASK_ENABLE (R184). -/
  | taskEnable (c : CmdRef) (handle : Nat)
  /-- MSGQ_CREATE (R200). -/
  | msgqCreate (c : CmdRef) (pan queue depth : Nat)
  /-- MSGQ_DELETE (R200). -/
  | msgqDelete (c : CmdRef) (pan queue : Nat)
  /-- TASK_READ (R408). -/
  | taskRead (c : CmdRef) (handle : Nat)
  /-- GAZ_WRITE (R273). -/
  | gazWrite (c : CmdRef) (record : BitVec 64)
  /-- TABLE_CREATE (R239). -/
  | tableCreate (c : CmdRef) (table : Nat) (x : TableSpec)
  /-- TABLE_DELETE (R239). -/
  | tableDelete (c : CmdRef) (table : Nat)
  /-- ENTRY_WRITE (R248). -/
  | entryWrite (c : CmdRef) (table : Nat) (x : EntrySpec)
  /-- ENTRY_DELETE (R248). -/
  | entryDelete (c : CmdRef) (table entry : Nat)
  /-- ENTRY_READ (R408). -/
  | entryRead (c : CmdRef) (table first count : Nat)
  /-- FLOW_INSERT (R408). -/
  | flowInsert (c : CmdRef) (table : Nat) (key : List Byte) (record : List Word)
  /-- FLOW_DELETE (R261). -/
  | flowDelete (c : CmdRef) (table : Nat) (key : List Byte)
  /-- STATE_WRITE (R22). -/
  | stateWrite (c : CmdRef) (table index word : Nat) (values : List Word)
  /-- STATE_READ (R408). -/
  | stateRead (c : CmdRef) (table index word count : Nat)
  /-- FLOW_CFG_WRITE (R256). -/
  | flowCfgWrite (c : CmdRef) (table : Nat) (record : BitVec 128)
  /-- REHASH (R264). -/
  | rehash (c : CmdRef) (table : Nat)
  /-- TABLE_COMPARE (R270). -/
  | tableCompare (c : CmdRef) (table first : Nat) (crcs : List Nat)
  /-- TABLE_READ (R408). -/
  | tableRead (c : CmdRef) (table : Nat)
  /-- COTE_WRITE (R293). -/
  | coteWrite (c : CmdRef) (record : BitVec 64)
  /-- POOL_WRITE (R278). -/
  | poolWrite (c : CmdRef) (pool : Nat) (record : BitVec 64)
  /-- IG_BUF_WRITE (R280). -/
  | igBufWrite (c : CmdRef) (lport prio : Nat) (record : BitVec 64)
  /-- EQ_BUF_WRITE (R287). -/
  | eqBufWrite (c : CmdRef) (lport queue : Nat) (record : BitVec 64)
  /-- BUFFER_READ (R293). -/
  | bufferRead (c : CmdRef) (kind index : Nat)
  /-- DRAM_WRITE (R320). -/
  | dramWrite (c : CmdRef) (record : BitVec 64)
  /-- DRAM_PORT_WRITE (R306). -/
  | dramPortWrite (c : CmdRef) (port : Nat) (record : BitVec 64)
  /-- DRAM_READ (R321). -/
  | dramRead (c : CmdRef) (kind index : Nat)
  /-- STK_WRITE (R345). -/
  | stkWrite (c : CmdRef) (record : BitVec 64)
  /-- STK_READ (R346). -/
  | stkRead (c : CmdRef)
  /-- RING_WRITE (R334). -/
  | ringWrite (c : CmdRef) (ring : Nat) (record : BitVec 64)
  /-- RING_DELETE (R334). -/
  | ringDelete (c : CmdRef) (ring : Nat)
  /-- RING_REARM (R335). -/
  | ringRearm (c : CmdRef) (ring : Nat)
  /-- RING_READ (R337). -/
  | ringRead (c : CmdRef) (ring offset count : Nat)
  /-- COLD_READ (R326). -/
  | coldRead (c : CmdRef) (table : Nat) (key : List Byte)
  /-- COLD_DELETE (R326). -/
  | coldDelete (c : CmdRef) (table : Nat) (key : List Byte)
  /-- FILTER_REBUILD (R331). -/
  | filterRebuild (c : CmdRef) (table : Nat)
  /-- TELEMETRY_READ (R338). -/
  | telemetryRead (c : CmdRef) (offset count : Nat)
  /-- TENANT_CREATE (R349). -/
  | tenantCreate (c : CmdRef) (record : BitVec 1024)
  /-- TENANT_DELETE (R369). -/
  | tenantDelete (c : CmdRef) (tenant : Nat)
  /-- TENANT_ZEROIZE (R369). -/
  | tenantZeroize (c : CmdRef) (tenant : Nat)
  /-- QUOTA_WRITE (R350). -/
  | quotaWrite (c : CmdRef) (record : BitVec 1024)
  /-- TENANT_READ (R350). -/
  | tenantRead (c : CmdRef) (tenant : Nat)
  /-- KEY_INSTALL (R356). -/
  | keyInstall (c : CmdRef) (index : Nat) (key : BitVec 512)
  /-- KEY_DELETE (R356). -/
  | keyDelete (c : CmdRef) (index : Nat)
  /-- SEAL (R360). -/
  | seal (c : CmdRef) (flags : Nat) (minSvn : List Nat) (data : List Byte)
  /-- UNSEAL (R360). -/
  | unseal (c : CmdRef) (blob : List Byte)
  /-- UNSEAL_KEYS (R360). -/
  | unsealKeys (c : CmdRef) (blob : List Byte)
  /-- EVENT_ROUTE_WRITE (R493). -/
  | eventRouteWrite (c : CmdRef) (object index : Nat) (record : BitVec 64)
  /-- EVENT_READ (R495). -/
  | eventRead (c : CmdRef) (max : Nat)
  /-- COUNTER_SELECT_WRITE (R498). -/
  | counterSelectWrite (c : CmdRef) (object index : Nat) (record : BitVec 64)
  /-- SNAPSHOT (R502). -/
  | snapshot (c : CmdRef) (scope : Nat) (flags : BitVec 8) (inst : Nat)
  /-- SNAPSHOT_READ (R407). -/
  | snapshotRead (c : CmdRef) (id offset : Nat)
  /-- SNAPSHOT_RELEASE (R407). -/
  | snapshotRelease (c : CmdRef) (id : Nat)
  /-- TELEMETRY_SELECT (R496). -/
  | telemetrySelect (c : CmdRef) (chosen : List Nat)
  /-- FW_WRITE (R379). -/
  | fwWrite (c : CmdRef) (kind slot offset : Nat) (data : List Byte)
  /-- FW_VERIFY (R379). -/
  | fwVerify (c : CmdRef) (kind slot : Nat)
  /-- FW_ACTIVATE (R379). -/
  | fwActivate (c : CmdRef) (slots : List Nat)
  /-- FW_POLICY (R378). -/
  | fwPolicy (c : CmdRef) (permissive : Bool)
  /-- FW_MANIFEST (R376). -/
  | fwManifest (c : CmdRef) (sequence : Nat) (sets : List (List (BitVec 384))) (signature : List Byte)
  /-- FW_COMMIT_SVN (R380). -/
  | fwCommitSvn (c : CmdRef)
  /-- FW_REVOKE (R381). -/
  | fwRevoke (c : CmdRef) (signer : Nat) (signature : List Byte)
  /-- FW_STATUS (R408). -/
  | fwStatus (c : CmdRef)
  /-- DOMAIN_STATUS_READ (R120). -/
  | domainStatusRead (c : CmdRef) (express : Bool) (domain : Nat)
  /-- DIST_REPORT_SNAPSHOT (R179). -/
  | distReportSnapshot (c : CmdRef) (pan : Nat)
  /-- TRACE_SNAPSHOT (R209). -/
  | traceSnapshot (c : CmdRef) (pan : Nat)
  /-- GUARD_SELECT (R175). -/
  | guardSelect (c : CmdRef) (program : Nat) (on : Bool)
  /-- DEBUG_CHALLENGE (R372). -/
  | debugChallenge (c : CmdRef) (scope : Nat)
  /-- DEBUG_UNLOCK (R372). -/
  | debugUnlock (c : CmdRef) (credential : List Byte)
  /-- CMD_TAIL_DOORBELL (R419). -/
  | cmdTailDoorbell (fn index : Nat) (descs : List (BitVec 128)) (readFails : Bool)
  /-- RBUF_TAIL_DOORBELL (R420). -/
  | rbufTailDoorbell (fn index : Nat) (descs : Option (List (BitVec 64)))
  /-- CPL_HEAD_DOORBELL (R424). -/
  | cplHeadDoorbell (fn index : Nat) (arm : Bool)
  /-- RING_CONTROL_WRITE (R417). -/
  | ringControlWrite (fn ring : Nat) (value : BitVec 32)
  /-- FUNC_STATS_READ (R416). -/
  | funcStatsRead (fn index : Nat)
  /-- REGISTER_WRITE (R416). -/
  | registerWrite (fn offset width : Nat) (value : BitVec 64)
  /-- MSIX_UNMASK (R423). -/
  | msixUnmask (fn entry : Nat) (enable : Bool)
  /-- OUTGOING_PACKET (R420). -/
  | outgoingPacket (fn : Nat) (writeFails : Bool)
  /-- RBUF_STARVED (R421). -/
  | rbufStarved (fn : Nat)
  /-- LINK_RESET (R425). -/
  | linkReset (link cause : Nat)
  /-- PF_FLR (R425). -/
  | pfFlr (link : Nat)
  /-- VF_FLR (R425). -/
  | vfFlr (link vf : Nat)
  /-- BUS_MASTER_DISABLE (R426). -/
  | busMasterDisable (fn : Nat) (d3hot : Bool)
  /-- USB_VBUS_CHANGE (R427). -/
  | usbVbusChange (millivolts : Nat)
  /-- USB_BUS_RESET (R432). -/
  | usbBusReset
  /-- CMD_WRITE (R430). -/
  | cmdWrite (wValue wIndex : BitVec 16) (data : List Byte)
  /-- REPLY_READ (R430). -/
  | replyRead (wValue wIndex : BitVec 16) (len : Nat)
  /-- USB_STATUS (R431). -/
  | usbStatus (wValue wIndex : BitVec 16) (len : Nat)
  /-- ORPHAN_READ (R433). -/
  | orphanRead (wValue wIndex : BitVec 16) (len : Nat)
  /-- ORPHAN_CLEAR (R433). -/
  | orphanClear (wValue wIndex : BitVec 16) (len : Nat)
  /-- ABORT (R429). -/
  | abort (wValue wIndex : BitVec 16) (len : Nat)
  /-- SURVEY_PING (R459). -/
  | surveyPing (frame : SvyFrame) (dst src : BitVec 8) (clear : BitVec 8) (conflict : Bool)
  /-- SURVEY_WRITE (R455). -/
  | surveyWrite (frame : SvyFrame) (dst src : BitVec 8) (tag flags : BitVec 8) (index : BitVec 16) (data : List Byte) (conflict : Bool)
  /-- SURVEY_READ (R456). -/
  | surveyRead (frame : SvyFrame) (dst src : BitVec 8) (release : BitVec 32) (index : BitVec 16) (conflict : Bool)
  /-- SURVEY_SEARCH (R461). -/
  | surveySearch (frame : SvyFrame) (dst src : BitVec 8) (filter n : BitVec 8) (pfx : BitVec 64) (choices : List (Option Bool)) (conflict : Bool)
  /-- SURVEY_ASSIGN (R453). -/
  | surveyAssign (frame : SvyFrame) (dst src : BitVec 8) (serial : BitVec 64) (address : BitVec 8) (conflict : Bool)
  /-- SURVEY_RATE (R443). -/
  | surveyRate (frame : SvyFrame) (dst src : BitVec 8) (code : BitVec 8)
  /-- RATE_CHANGE (R443). -/
  | rateChange
  /-- SURVEY_ASSEMBLY_TIMEOUT (R455). -/
  | surveyAssemblyTimeout (ctrl : Nat)
  /-- REPLY_QUEUE_EXPIRY (R456). -/
  | replyQueueExpiry (ctrl : Nat)
  /-- RESULT_LAND (R153). -/
  | resultLand (tid num : Nat)
  /-- ILLEGAL_INSTRUCTION (R137). -/
  | illegalInstruction (tid : Nat) (word : BitVec 32)
  /-- UNKNOWN_OPCODE (R391). -/
  | unknownOpcode (acc : Nat)
  /-- RING_TRIGGER_COMMAND (R335). -/
  | ringTriggerCommand (c : CmdRef) (ring : Nat)
  /-- RESET_N_RELEASE (R473). -/
  | resetNRelease
  /-- PERST_N_RELEASE (R425). -/
  | perstNRelease (link : Nat)
  /-- DMA_RESUME (R426). -/
  | dmaResume (fn : Nat)
  /-- PACKET_READ_COMPLETE (R419). -/
  | packetReadComplete (fn : Nat) (ok : Bool) (packet : List Byte)
  /-- SURVEY_FRAME_ERROR (R444). -/
  | surveyFrameError (kind : Nat)
  /-- SURVEY_UNKNOWN_TYPE (R446). -/
  | surveyUnknownType (frame : SvyFrame) (dst src : BitVec 8) (type : BitVec 8) (conflict : Bool)
  /-- SVY_TERM_CHANGE (R436). -/
  | svyTermChange (tied : Bool)
  /-- VIN_LOW_BAND (R466). -/
  | vinLowBand (vin : Nat)
  /-- INPUT_POWER_ALERT (R488). -/
  | inputPowerAlert (watts : Nat)
  /-- OFF_RAILS_OPEN (R481). -/
  | offRailsOpen
  /-- ACTIVATION_GRACE_EXPIRY (R481). -/
  | activationGraceExpiry
  /-- FLASH_CHANNEL_FAULT (R344). -/
  | flashChannelFault (kind : Nat)
  /-- STRIPE_REBUILD_END (R344). -/
  | stripeRebuildEnd
  /-- LEGEND_FAULT (R507). -/
  | legendFault (benchmark : Bool)
  deriving DecidableEq, Repr

end Sys2Proof
end

