-- ==== Sys2Proof/Machine/StateCote.lean ====
section
/-! DEFINITION. State of the buffer manager, Cote: cells, pools, ingress groups (R275–R293). -/

namespace Sys2Proof.Machine

/-- Where an ingress cell was taken from (R282). -/
inductive CellSource where
  | reserved
  | shared
  | headroom
  deriving DecidableEq, Repr

/-- One allocated cell: its reference count, its pool, the ingress group it is charged to, its bytes (R275, R289). -/
structure Cell where
  refs : Nat
  pool : Nat
  group : Option (Nat × CellSource)
  tenant : Option Nat             -- the tenant whose egress quota a new cell is charged to (R288)
  data : List Byte
  deriving DecidableEq, Repr

/-- One buffer pool (R277–R279). -/
structure Pool where
  cfg : BitVec 64                 -- POOL (R278)
  cache : Nat                     -- handles in the on-chip cache
  ring : Nat                      -- handles in the free ring
  reads : Nat                     -- refill reads outstanding, at most 8
  writes : Nat                    -- write-backs of 512 handles not yet requested on the ring port (R279)
  used : Nat                      -- cells allocated
  sharedUsed : Nat                -- of them, from the shared part
  high : Nat                      -- high-water mark
  deriving DecidableEq, Repr

/-- One ingress group: a logical port and an ingress priority (R280–R282). -/
structure IGroup where
  cfg : BitVec 64                 -- IG_BUF (R280)
  reserved : Nat
  shared : Nat
  headroom : Nat                  -- headroom cells in use
  store : Nat                     -- its handles in the headroom store (R281)
  xoff : Bool
  high : Nat
  deriving DecidableEq, Repr

/-- The buffer manager. -/
structure Cote where
  cfg : BitVec 64                 -- COTE (R293)
  pools : AMap Pool               -- 0–63
  groups : AMap IGroup            -- 8 × logical port + ingress priority
  cells : AMap Cell               -- by handle: bit 27 set is a far cell (R275)
  refError : Bool                 -- a REFCOUNT_ERROR on which the containment ladder has not acted (R291)
  deriving DecidableEq, Repr

/-- Reset value of COTE (R293). -/
def coteCfgReset : BitVec 64 := BitVec.ofNat 64 (4096 * 2 ^ 8)

/-- Reset value of IG_BUF (R280). -/
def igBufReset : BitVec 64 := BitVec.ofNat 64 (64 * 2 ^ 8 + 4096 * 2 ^ 24 + 3072 * 2 ^ 40)

/-- A pool after reset: no cells (R278). -/
def Pool.reset : Pool := { cfg := 0, cache := 0, ring := 0, reads := 0, writes := 0, used := 0, sharedUsed := 0, high := 0 }

/-- An ingress group after reset. -/
def IGroup.reset : IGroup :=
  { cfg := igBufReset, reserved := 0, shared := 0, headroom := 0, store := 0, xoff := false, high := 0 }

/-- The buffer manager after reset. -/
def Cote.reset : Cote := { cfg := coteCfgReset, pools := [], groups := [], cells := [], refError := false }

end Sys2Proof.Machine
end

