-- ==== Sys2Proof/Machine/Parse.lean ====
section
/-! DEFINITION. The header parser of Sluice: the parse window, the header list, the order of tests
and the parse record (R68, R71–R75). -/

namespace Sys2Proof.Machine

/-- What one parse starts from: the frame as stored (no FCS), the port's third TPID, the tunnel ports (R72)
and what the MAC says of the frame. -/
structure ParseIn where
  bytes : List Byte
  tpidAlt : Nat
  vxlan : Nat
  geneve : Nat
  roce : Nat
  inPort : Nat
  inPri : Nat
  frameLen : Nat
  unverified : Bool
  deriving DecidableEq, Repr

/-- L4 ports and the like of one layer, taken as R80 defines them; 0 where the parse did not reach them. -/
structure LayerKeys where
  sip : Nat := 0
  dip : Nat := 0
  sport : Nat := 0
  dport : Nat := 0
  dscp : Nat := 0
  tcpFlags : Nat := 0
  deriving DecidableEq, Repr

/-- The parse record before it is laid out (R75), with the key fields that the parse reached (R76, R80). -/
structure PRec where
  tag0 : Nat := 0xFF
  tag1 : Nat := 0xFF
  mpls : Nat := 0xFF
  l3 : Nat := 0xFF
  l4 : Nat := 0xFF
  tun : Nat := 0xFF
  il2 : Nat := 0xFF
  il3 : Nat := 0xFF
  il4 : Nat := 0xFF
  offEnd : Nat := 0
  mplsDepth : Nat := 0
  tagCount : Nat := 0
  itagCount : Nat := 0
  l3t : Nat := 0
  l4t : Nat := 0
  tunt : Nat := 0
  il3t : Nat := 0
  il4t : Nat := 0
  ext : Nat := 0
  iext : Nat := 0
  iproto : Nat := 0
  etype : Nat := 0
  ietype : Nat := 0
  iiproto : Nat := 0
  gopt : Nat := 0
  flags : Nat := 0
  reason : Nat := 0
  failOff : Nat := 0xFF
  vid0 : Nat := 0
  pcp0 : Nat := 0
  vid1 : Nat := 0
  vni : Nat := 0
  labels : List Nat := []
  topTc : Nat := 0
  arpOp : Nat := 0
  arpTarget : Nat := 0
  outer : LayerKeys := {}
  inner : LayerKeys := {}
  deriving DecidableEq, Repr

/-- An offset as an 8-bit offset field holds it (R75). -/
def sat8 (o : Nat) : Nat := min o 0xFF

/-- A parse step: either the finished record, or a value to go on with. -/
abbrev PStep (α : Type) := Except PRec α

/-- Length of the parse window of a stored frame (R68). -/
def windowLen (stored : Nat) : Nat := min stored 256

/-- The record of a parse that ends at a failing header with a reason (R74, R75). -/
def parseFail (p : PRec) (off reason : Nat) : PRec :=
  { p with reason := reason, failOff := sat8 off, offEnd := off }

/-- The record of a parse that ends normally (R73, R75). -/
def parseDone (p : PRec) (off : Nat) : PRec := { p with offEnd := off, flags := maskSet p.flags 15 }

/-- Test 1 or 3 of R74: the header's bytes lie within the window; else TRUNCATED or WINDOW_OVERRUN. A header that ends
beyond the window and also beyond a stored frame longer than the window overruns the window (assumption 86). -/
def needBytes (x : ParseIn) (p : PRec) (off len : Nat) : PStep Unit :=
  if off + len ≤ windowLen x.bytes.length then .ok ()
  else .error (parseFail p off (if x.bytes.length > 256 then 4 else 3))

/-- A test of R74 that gives a reason when it fails. -/
def needThat (ok : Bool) (p : PRec) (off reason : Nat) : PStep Unit :=
  if ok then .ok () else .error (parseFail p off reason)

/-- Whether an EtherType is a VLAN tag's TPID (R40, R71). -/
def isTpid (x : ParseIn) (t : Nat) : Bool := t == 0x8100 || t == 0x88A8 || t == x.tpidAlt

/-- The record with a flag of `FLAGS` set when a condition holds. -/
def PRec.flagIf (p : PRec) (c : Bool) (i : Nat) : PRec :=
  if c then { p with flags := maskSet p.flags i } else p

/-- The record with the L3 offset and type of a layer set. -/
def PRec.setL3 (p : PRec) (inner : Bool) (off t : Nat) : PRec :=
  if inner then { p with il3 := sat8 off, il3t := t } else { p with l3 := sat8 off, l3t := t }

/-- The record with the L4 offset and type of a layer set. -/
def PRec.setL4 (p : PRec) (inner : Bool) (off t : Nat) : PRec :=
  if inner then { p with il4 := sat8 off, il4t := t } else { p with l4 := sat8 off, l4t := t }

/-- The record with the protocol of a layer set. -/
def PRec.setProto (p : PRec) (inner : Bool) (v : Nat) : PRec :=
  if inner then { p with iiproto := v } else { p with iproto := v }

/-- The record with the key fields of a layer changed. -/
def PRec.keys (p : PRec) (inner : Bool) (f : LayerKeys → LayerKeys) : PRec :=
  if inner then { p with inner := f p.inner } else { p with outer := f p.outer }

/-- The folded one's-complement sum of `words` 16-bit words from an offset. -/
def onesSum (bs : List Byte) (off : Nat) : Nat → Nat
  | 0 => 0
  | words + 1 =>
    let s := onesSum bs off words + be16At bs (off + 2 * words)
    s % 0x10000 + s / 0x10000

/-- IPv4 (R71): gives the protocol and the offset after the header. -/
def parseIpv4 (x : ParseIn) (inner : Bool) (p0 : PRec) (off : Nat) : PStep (PRec × Nat × Nat) := do
  let p1 := p0.setL3 inner off 1
  needBytes x p1 off 20
  let b := x.bytes
  let ver := byteAt b off / 16
  let ihl := byteAt b off % 16
  let total := be16At b (off + 2)
  needThat (ver == 4 && decide (5 ≤ ihl) && decide (ihl * 4 ≤ total) && decide (off + total ≤ b.length)) p1 off 6
  needBytes x p1 off (ihl * 4)
  let proto := byteAt b (off + 9)
  let badSum := onesSum b off (ihl * 2) != 0xFFFF
  let p2 := (p1.setProto inner proto).flagIf (decide (5 < ihl)) (if inner then 13 else 3)
  let p3 := p2.flagIf badSum (if inner then 12 else 4)
  let p4 := p3.keys inner (fun k =>
    { k with sip := beAt b (off + 12) 4, dip := beAt b (off + 16) 4, dscp := byteAt b (off + 1) / 4 })
  let frag := be16At b (off + 6)
  needThat (frag % 0x4000 == 0) p4 off 1
  .ok (p4, proto, off + ihl * 4)

/-- The IPv6 extension headers (R71), at most 4; `first` holds directly after the IPv6 header. -/
def parseExts (x : ParseIn) (inner : Bool) : Nat → Bool → PRec → Nat → Nat → PStep (PRec × Nat × Nat)
  | fuel, first, p, nh, off => do
    if nh != 0 && nh != 43 && nh != 44 && nh != 60 then
      .ok (p, nh, off)
    else
      needBytes x p off 8
      needThat (nh != 0 || first) p off 6
      let b := x.bytes
      let len := if nh == 44 then 8 else (byteAt b (off + 1) + 1) * 8
      needBytes x p off len
      needThat (nh != 44 || be16At b (off + 2) / 8 == 0 && be16At b (off + 2) % 2 == 0) p off 1
      match fuel with
      | 0 => .error (parseFail p off 5)
      | fuel + 1 =>
        let p1 := p.flagIf (nh == 44) 7
        let p2 := if inner then { p1 with iext := p1.iext + 1 }
          else ({ p1 with ext := p1.ext + 1 }.flagIf (nh == 0) 5).flagIf (nh == 43) 6
        parseExts x inner fuel false p2 (byteAt b off) (off + len)

/-- IPv6 with its extension headers (R71, R73): gives the final next header and the offset after them. -/
def parseIpv6 (x : ParseIn) (inner : Bool) (p0 : PRec) (off : Nat) : PStep (PRec × Nat × Nat) := do
  let p1 := p0.setL3 inner off 2
  needBytes x p1 off 40
  let b := x.bytes
  needThat (byteAt b off / 16 == 6 && decide (off + 40 + be16At b (off + 4) ≤ b.length)) p1 off 6
  let p2 := p1.keys inner (fun k =>
    { k with sip := beAt b (off + 8) 16, dip := beAt b (off + 24) 16, dscp := be16At b off / 64 % 64 })
  let (p3, nh, o) ← parseExts x inner 4 true p2 (byteAt b (off + 6)) (off + 40)
  let p4 := p3.setProto inner nh
  needThat (!([51, 135, 139, 140, 253, 254].contains nh)) p4 o 2
  .ok (p4, nh, o)

/-- What follows a parsed L4 header: the end of the parse, or a tunnel (R71). -/
inductive AfterL4 where
  | ended (p : PRec)
  | vxlan (p : PRec) (off : Nat)
  | geneve (p : PRec) (off : Nat)
  | gre (p : PRec) (off : Nat)
  deriving DecidableEq, Repr

/-- The BTH after a UDP header to the RoCEv2 port (R71). -/
def parseBth (x : ParseIn) (p : PRec) (off : Nat) : PStep AfterL4 := do
  needBytes x p off 12
  .ok (.ended (parseDone (p.flagIf true 9) (off + 12)))

/-- UDP and what its destination port announces (R71); inside an inner layer a tunnel ends the parse. -/
def parseUdp (x : ParseIn) (inner : Bool) (p0 : PRec) (off : Nat) : PStep AfterL4 := do
  let p1 := p0.setL4 inner off 2
  needBytes x p1 off 8
  let dport := be16At x.bytes (off + 2)
  let p2 := p1.keys inner (fun k => { k with sport := be16At x.bytes off, dport := dport })
  let o := off + 8
  if dport != 0 && dport == x.roce then parseBth x p2 o
  else if dport != 0 && dport == x.vxlan then
    .ok (if inner then .ended (parseDone (p2.flagIf true 10) o) else .vxlan p2 o)
  else if dport != 0 && dport == x.geneve then
    .ok (if inner then .ended (parseDone (p2.flagIf true 10) o) else .geneve p2 o)
  else .ok (.ended (parseDone p2 o))

/-- TCP (R71). -/
def parseTcp (x : ParseIn) (inner : Bool) (p0 : PRec) (off : Nat) : PStep AfterL4 := do
  let p1 := p0.setL4 inner off 1
  needBytes x p1 off 20
  let doff := byteAt x.bytes (off + 12) / 16
  needThat (decide (5 ≤ doff)) p1 off 6
  needBytes x p1 off (doff * 4)
  let p2 := (p1.keys inner (fun k =>
    { k with sport := be16At x.bytes off, dport := be16At x.bytes (off + 2),
             tcpFlags := byteAt x.bytes (off + 13) })).flagIf (decide (5 < doff)) 8
  .ok (.ended (parseDone p2 (off + doff * 4)))

/-- The L4 header of a layer (R71, R73). `v6` holds after IPv6, where next header 59 ends the parse. -/
def parseL4 (x : ParseIn) (inner v6 : Bool) (p : PRec) (proto off : Nat) : PStep AfterL4 :=
  if proto == 1 || proto == 58 then do
    let p1 := p.setL4 inner off (if proto == 1 then 3 else 4)
    needBytes x p1 off 4
    let p2 := p1.keys inner (fun k =>
      { k with sport := byteAt x.bytes off, dport := byteAt x.bytes (off + 1) })
    .ok (.ended (parseDone p2 (off + 4)))
  else if proto == 6 then parseTcp x inner p off
  else if proto == 17 then parseUdp x inner p off
  else if proto == 50 then do
    let p1 := p.setL4 inner off 5
    needBytes x p1 off 8
    .ok (.ended (parseDone p1 (off + 8)))
  else if proto == 47 then
    let p1 := p.setL4 inner off 6
    .ok (if inner then .ended (parseDone (p1.flagIf true 10) off) else .gre p1 off)
  else if v6 && proto == 59 then .ok (.ended (parseDone p off))
  else .ok (.ended (parseDone (p.setL4 inner off 15) off))

/-- ARP (R71). -/
def parseArp (x : ParseIn) (inner : Bool) (p0 : PRec) (off : Nat) : PStep AfterL4 := do
  let p1 := p0.setL3 inner off 3
  needBytes x p1 off 28
  let p2 := if inner then p1
    else { p1 with arpOp := be16At x.bytes (off + 6), arpTarget := beAt x.bytes (off + 24) 4 }
  .ok (.ended (parseDone p2 (off + 28)))

/-- IPv4 and what it carries. -/
def parseV4Stack (x : ParseIn) (inner : Bool) (p : PRec) (off : Nat) : PStep AfterL4 := do
  let (q, proto, o) ← parseIpv4 x inner p off
  parseL4 x inner false q proto o

/-- IPv6 and what it carries. -/
def parseV6Stack (x : ParseIn) (inner : Bool) (p : PRec) (off : Nat) : PStep AfterL4 := do
  let (q, nh, o) ← parseIpv6 x inner p off
  parseL4 x inner true q nh o

/-- The L3 header that an EtherType announces, in either layer (R71, R73); MPLS is not one of them. -/
def parseL3 (x : ParseIn) (inner : Bool) (p : PRec) (etype off : Nat) : PStep AfterL4 :=
  if etype == 0x0800 then parseV4Stack x inner p off
  else if etype == 0x86DD then parseV6Stack x inner p off
  else if etype == 0x0806 then parseArp x inner p off
  else .ok (.ended (parseDone (p.setL3 inner off 15) off))

/-- The record of a finished step of an inner layer, where no tunnel follows. -/
def endOfInner : PStep AfterL4 → PRec
  | .error p => p
  | .ok (.ended p) => p
  | .ok (.vxlan p _) => p
  | .ok (.geneve p _) => p
  | .ok (.gre p _) => p

/-- The inner Ethernet header with at most one tag, and the inner layer (R71). -/
def parseInnerEth (x : ParseIn) (p0 : PRec) (off : Nat) : PStep PRec := do
  let p1 := { p0 with il2 := sat8 off }
  needBytes x p1 off 14
  let t0 := be16At x.bytes (off + 12)
  if isTpid x t0 then
    needBytes x p1 (off + 12) 6
    let t1 := be16At x.bytes (off + 16)
    let p2 := { p1 with itagCount := 1, ietype := t1 }
    if isTpid x t1 then
      needBytes x p2 (off + 16) 6
      .error (parseFail p2 (off + 16) 5)
    else
      .ok (endOfInner (parseL3 x true p2 t1 (off + 18)))
  else
    .ok (endOfInner (parseL3 x true { p1 with ietype := t0 } t0 (off + 14)))

/-- The payload of a tunnel that names its protocol type: inner Ethernet, IPv4 or IPv6 (R71). -/
def parseTunnelPayload (x : ParseIn) (p : PRec) (ptype off : Nat) : PStep PRec :=
  if ptype == 0x6558 then parseInnerEth x p off
  else .ok (endOfInner (parseL3 x true p ptype off))

/-- Whether a tunnel's protocol type is one the parser goes on from (R71). -/
def tunnelType (t : Nat) : Bool := t == 0x6558 || t == 0x0800 || t == 0x86DD

/-- VXLAN (R71); without its I flag it has no VNI. -/
def parseVxlan (x : ParseIn) (p0 : PRec) (off : Nat) : PStep PRec := do
  let p1 := { p0 with tun := sat8 off, tunt := 1 }
  needBytes x p1 off 8
  needThat (maskHas (byteAt x.bytes off) 3) p1 off 6
  parseInnerEth x { p1 with vni := beAt x.bytes (off + 4) 3 } (off + 8)

/-- GENEVE (R71, R74). Its fixed part holds the VNI, which the keys hold whatever test fails afterwards (R76, R91). -/
def parseGeneve (x : ParseIn) (p0 : PRec) (off : Nat) : PStep PRec := do
  let p := { p0 with tun := sat8 off, tunt := 2 }
  needBytes x p off 8
  let p1 := { p with vni := beAt x.bytes (off + 4) 3 }
  let ver := byteAt x.bytes off / 64
  let opt := byteAt x.bytes off % 64
  let ptype := be16At x.bytes (off + 2)
  needBytes x p1 off (8 + opt * 4)
  needThat (ver == 0 && tunnelType ptype) p1 off 2
  needThat (decide (opt ≤ 16)) p1 off 5
  parseTunnelPayload x { p1 with gopt := opt } ptype (off + 8 + opt * 4)

/-- GRE (R71, R74). A key that the frame holds is in the keys whatever test fails afterwards (R76). -/
def parseGre (x : ParseIn) (p0 : PRec) (off : Nat) : PStep PRec := do
  let p := { p0 with tun := sat8 off, tunt := 3 }
  needBytes x p off 4
  let fl := be16At x.bytes off
  let ptype := be16At x.bytes (off + 2)
  let c := if maskHas fl 15 then 4 else 0
  let k := if maskHas fl 13 then 4 else 0
  let s := if maskHas fl 12 then 4 else 0
  needBytes x p off (4 + c + k + s)
  let p1 := { p with vni := if k == 4 then beAt x.bytes (off + 4 + c) 4 % 2 ^ 24 else p.vni }
  needThat (fl % 8 == 0 && !maskHas fl 14 && tunnelType ptype) p1 off 2
  parseTunnelPayload x p1 ptype (off + 4 + c + k + s)

/-- The tunnel that an outer layer announced, if any. -/
def parseAfter (x : ParseIn) : AfterL4 → PStep PRec
  | .ended p => .ok p
  | .vxlan p o => parseVxlan x p o
  | .geneve p o => parseGeneve x p o
  | .gre p o => parseGre x p o

/-- What follows the bottom-of-stack label (R71). -/
def parseMplsPayload (x : ParseIn) (p : PRec) (off : Nat) : PStep PRec := do
  needBytes x p off 1
  let nib := byteAt x.bytes off / 16
  if nib == 4 then parseAfter x (← parseV4Stack x false p off)
  else if nib == 6 then parseAfter x (← parseV6Stack x false p off)
  else if nib == 0 then
    let p1 := { p with tun := sat8 off, tunt := 4 }
    needBytes x p1 off 4
    parseInnerEth x (p1.flagIf true 11) (off + 4)
  else .error (parseFail p off 2)

/-- The MPLS label stack, at most 4 labels (R71). The top label is the VNI of the keys (R76). -/
def parseMpls (x : ParseIn) : Nat → PRec → Nat → PStep PRec
  | fuel, p0, off => do
    let p := if p0.mplsDepth == 0 then { p0 with mpls := sat8 off } else p0
    needBytes x p off 4
    match fuel with
    | 0 => .error (parseFail p off 5)
    | fuel + 1 =>
      let w := beAt x.bytes off 4
      let q := { p with
        mplsDepth := p.mplsDepth + 1
        labels := p.labels ++ [w / 4096]
        vni := if p.mplsDepth == 0 then w / 4096 else p.vni
        topTc := if p.mplsDepth == 0 then w / 512 % 8 else p.topTc }
      if maskHas w 8 then parseMplsPayload x q (off + 4) else parseMpls x fuel q (off + 4)

/-- The headers after the outer tags: MPLS or an L3 header, and what they carry (R71). MPLS directly after a SecTAG with E
clear is parsed as after the outer Ethernet header (assumption 86). -/
def parseOuterL3 (x : ParseIn) (p0 : PRec) (etype off : Nat) : PStep PRec := do
  let p := { p0 with etype := etype }
  if etype == 0x8847 || etype == 0x8848 then parseMpls x 4 p off
  else parseAfter x (← parseL3 x false p etype off)

/-- The outer tags, at most two; `pos` is where the TPID or the EtherType stands (R71, R74). -/
def parseTags (x : ParseIn) : Nat → PRec → Nat → PStep PRec
  | fuel, p, pos => do
    let t := be16At x.bytes pos
    if isTpid x t then
      let q := if p.tagCount == 0 then { p with tag0 := sat8 pos }
        else if p.tagCount == 1 then { p with tag1 := sat8 pos } else p
      needBytes x q pos 6
      match fuel with
      | 0 => .error (parseFail q pos 5)
      | fuel + 1 =>
        let tci := be16At x.bytes (pos + 2)
        let r := if q.tagCount == 0 then { q with vid0 := tci % 4096, pcp0 := tci / 8192 }
          else { q with vid1 := tci % 4096 }
        parseTags x fuel { r with tagCount := r.tagCount + 1 } (pos + 4)
    else parseOuterL3 x p t (pos + 2)

/-- The SecTAG of a frame passed on with it (R71, R74). -/
def parseSecTag (x : ParseIn) (p0 : PRec) : PStep PRec := do
  needBytes x p0 12 8
  let tci := byteAt x.bytes 14
  let len := if maskHas tci 5 then 16 else 8
  if maskHas tci 3 then
    needBytes x p0 12 len
    let p1 := ((p0.flagIf true 0).flagIf x.unverified 1).flagIf true 2
    .ok (parseDone { p1.setL3 false (12 + len) 15 with etype := 0x88E5 } (12 + len))
  else
    needBytes x p0 12 (len + 2)
    parseTags x 2 ((p0.flagIf true 0).flagIf x.unverified 1) (12 + len)

/-- The parse of one frame (R68, R71–R74): from the outer Ethernet header to the end or the failing header. -/
def parseFrame (x : ParseIn) : PRec :=
  let run : PStep PRec := do
    needBytes x {} 0 14
    if be16At x.bytes 12 == 0x88E5 then parseSecTag x {} else parseTags x 2 {} 12
  match run with
  | .ok p => p
  | .error p => p

/-- One field of a record under construction: its value at its lowest bit. -/
def placeFields (fields : List (Nat × Nat)) : Nat := fields.foldl (fun acc f => acc + f.2 * 2 ^ f.1) 0

/-- The parse record laid out as R75 gives it. -/
def parseRecord (x : ParseIn) (p : PRec) : BitVec 256 :=
  BitVec.ofNat 256 (placeFields
    [(0, p.tag0), (8, p.tag1), (16, p.mpls), (24, p.l3), (32, p.l4), (40, p.tun), (48, p.il2), (56, p.il3),
     (64, p.il4), (72, p.offEnd % 512), (81, p.mplsDepth), (84, p.tagCount), (86, p.itagCount),
     (88, p.l3t), (92, p.l4t), (96, p.tunt), (100, p.il3t), (104, p.il4t), (108, p.ext), (111, p.iext),
     (120, p.iproto), (128, p.etype), (144, p.ietype), (160, p.iiproto), (168, p.gopt), (176, p.flags),
     (192, p.reason), (200, p.failOff), (208, x.inPort), (214, x.inPri), (218, x.frameLen % 16384)])

end Sys2Proof.Machine
end

