-- ==== Sys2Proof/Machine/Classify.lean ====
section
/-! DEFINITION. The classifier's keys, profiles, rules, action words and order-domain selectors (R76–R90). -/

namespace Sys2Proof.Machine

/-- A TCAM row of one 80-bit unit (R242): its value and mask, its prefilter tag, its valid, visibility and parity bits. -/
structure Row where
  value : Nat
  mask : Nat
  tag : Nat
  valid : Bool
  vis : Nat
  parity : Bool
  deriving DecidableEq, Repr

/-- The image of a TCAM entry in the entry store (R250); a classifier rule's result is its action word. -/
structure RowImage where
  value : Nat
  mask : Nat
  tag : Nat
  vis : Nat
  owner : Nat
  result : Nat
  deriving DecidableEq, Repr

/-- Whether the ones of a number are odd in number; the fuel bounds its bits. -/
def oddOnes : Nat → Nat → Bool
  | 0, _ => false
  | n + 1, v => (v % 2 == 1) != oddOnes n (v / 2)

/-- The rows that an image of an entry of `units` units is written as, the first unit first (R242): valid ones, each with
the entry's tag and visibility bits; the parity bit makes the ones of its row even in number, which the spec does not state
(assumption 91). -/
def RowImage.rows (i : RowImage) (units : Nat) : List Row :=
  (List.range units).map (fun u =>
    let value := i.value / 2 ^ (80 * u) % 2 ^ 80
    let mask := i.mask / 2 ^ (80 * u) % 2 ^ 80
    { value := value, mask := mask, tag := i.tag, valid := true, vis := i.vis,
      parity := !(oddOnes 80 value != (oddOnes 80 mask != (oddOnes 6 i.tag != oddOnes 2 i.vis))) })

/-- A row with the bits that a soft error has changed. -/
def Row.flip (r b : Row) : Row :=
  { value := r.value ^^^ b.value, mask := r.mask ^^^ b.mask, tag := r.tag ^^^ b.tag, valid := r.valid != b.valid,
    vis := r.vis ^^^ b.vis, parity := r.parity != b.parity }

/-- The rows of an entry with the bits that soft errors have changed, row by row. -/
def flipRows (rows bits : List Row) : List Row :=
  rows.zipIdx.map (fun r => match bits[r.2]? with | none => r.1 | some b => r.1.flip b)

/-- Whether a row evaluates and matches its 80 bits of the key for a search with a tag in a view slot (R82, R245, R248). -/
def Row.hits (r : Row) (slot tag key : Nat) : Bool :=
  r.valid && maskHas r.vis slot && (r.tag == tag || r.tag == 63) && (key ^^^ r.value) &&& r.mask == 0

/-- Whether an entry matches: every one of its rows does (R242). -/
def entryHits (rows : List Row) (slot tag key : Nat) : Bool :=
  rows.zipIdx.all (fun r => r.1.hits slot tag (key / 2 ^ (80 * r.2) % 2 ^ 80))

/-- Whether an image verifies a match (R250): the key, the tag and the owner agree, and it is visible in the slot. -/
def RowImage.verifies (i : RowImage) (owner slot tag key : Nat) : Bool :=
  (key ^^^ i.value) &&& i.mask == 0 && (i.tag == tag || i.tag == 63) && i.owner == owner && maskHas i.vis slot

/-- An installed classifier or scope rule (R77, R82): its record, its install order and its counters (R89). -/
structure Rule where
  id : Nat
  tenant : Nat
  profile : Nat
  prio : Nat
  action : BitVec 128
  value : Nat
  mask : Nat
  order : Nat                     -- install number; its counters go by it (R89)
  bad : List (Nat × List Row)     -- replicas whose rows soft errors have changed, with the changed bits (R250)
  images : List (Nat × Option RowImage) -- replicas whose image differs from the shadow; none where ECC cannot correct it
  shadowLost : Bool               -- its place in the shadow is unreadable (R269)
  dead : Bool                     -- excluded from every search (R251)
  deriving DecidableEq, Repr

/-- Lay fields one after another from bit `lo`: each is its width and its value (R80). -/
def packFrom : Nat → List (Nat × Nat) → Nat
  | _, [] => 0
  | lo, (w, v) :: rest => (v % 2 ^ w) * 2 ^ lo + packFrom (lo + w) rest

/-- The 80-bit scope key (R76). -/
def scopeKey (inPort : Nat) (p : PRec) : Nat :=
  packFrom 0 [(6, inPort), (12, p.vid0), (12, p.vid1), (24, p.vni), (4, p.l3t), (4, p.tunt),
    (2, p.tagCount), (16, p.etype)]

/-- The parse class that chooses the profile (R79). -/
def parseClass (p : PRec) : Nat :=
  if p.tunt != 0 then (if p.il3t == 1 then 5 else if p.il3t == 2 then 6 else 7)
  else if p.mplsDepth != 0 && (p.l3t == 1 || p.l3t == 2) then 4
  else if p.l3t == 1 then 2
  else if p.l3t == 2 then 3
  else if p.l3t == 3 then 1
  else 0

/-- The fields after the prefix of a fixed profile 0–7 (R80). -/
def fixedProfile (x : ParseIn) (p : PRec) : Nat → List (Nat × Nat)
  | 0 => [(6, x.inPort), (2, p.tagCount), (12, p.vid0), (3, p.pcp0), (48, beAt x.bytes 0 6),
          (48, beAt x.bytes 6 6), (16, p.etype)]
  | 1 => [(6, x.inPort), (32, p.outer.sip), (32, p.outer.dip), (8, p.iproto), (16, p.outer.sport),
          (16, p.outer.dport), (6, p.outer.dscp), (8, p.outer.tcpFlags)]
  | 2 => [(128, p.outer.sip), (128, p.outer.dip), (8, p.iproto), (16, p.outer.sport),
          (16, p.outer.dport), (6, p.outer.dscp)]
  | 3 => [(24, p.vni), (32, p.inner.sip), (32, p.inner.dip), (8, p.iiproto), (16, p.inner.sport),
          (16, p.inner.dport)]
  | 4 => [(24, p.vni), (128, p.inner.sip), (128, p.inner.dip), (8, p.iiproto), (16, p.inner.dport)]
  | 5 => [(6, x.inPort), (3, p.mplsDepth), (20, p.labels.getD 0 0), (20, p.labels.getD 1 0),
          (20, p.labels.getD 2 0), (20, p.labels.getD 3 0), (3, p.topTc), (4, p.l3t),
          (32, p.outer.dip % 2 ^ 32)]
  | 6 => [(6, x.inPort), (16, p.etype), (16, p.arpOp), (32, p.arpTarget), (48, beAt x.bytes 0 6), (12, p.vid0)]
  | 7 => [(32, p.outer.dip), (8, p.iproto), (16, p.outer.dport), (8, p.flags % 256)]
  | _ => []

/-- Width in units of 10 bytes of a fixed profile (R80). -/
def fixedUnits (profile : Nat) : Nat :=
  if profile == 7 then 1 else if profile == 2 || profile == 4 then 4 else 2

/-- Width in units of a profile built from a number of extractors (R81). -/
def customUnits (extractors : Nat) : Nat := if extractors ≤ 4 then 1 else if extractors ≤ 9 then 2 else 4

/-- The anchor byte of an extractor; none when the anchor is absent (R81). -/
def anchorOff (p : PRec) : Nat → Option Nat
  | 0 => some 0
  | 1 => if p.l3 == 0xFF then none else some p.l3
  | 2 => if p.l4 == 0xFF then none else some p.l4
  | 3 => if p.tun == 0xFF then none else some p.tun
  | 4 => if p.il2 == 0xFF then none else some p.il2
  | 5 => if p.il3 == 0xFF then none else some p.il3
  | 6 => if p.il4 == 0xFF then none else some p.il4
  | 7 => some p.offEnd
  | _ => none

/-- The 16-bit value one extractor yields (R81). Anchor 8 reads the parse record as memory holds it (R9). -/
def extract (x : ParseIn) (p : PRec) (e : BitVec 32) : Nat :=
  let off := fld e 4 8
  let mask := fld e 16 16
  if fld e 0 4 == 8 then
    if off + 2 ≤ 32 then be16At (leBytes 32 (parseRecord x p).toNat) off &&& mask else 0
  else match anchorOff p (fld e 0 4) with
    | none => 0
    | some a => if a + off + 2 ≤ windowLen x.bytes.length then be16At x.bytes (a + off) &&& mask else 0

/-- The rule-search key: prefix, then the profile's fields from bit 16 (R78, R80, R81). -/
def ruleKey (x : ParseIn) (p : PRec) (tenant profile : Nat) (custom : List (BitVec 32)) : Nat :=
  let fields := if profile < 8 then fixedProfile x p profile
    else custom.map (fun e => (16, extract x p e))
  packFrom 0 ((12, tenant) :: (4, profile) :: fields)

/-- Width of the rule-search key in bytes (R82). -/
def keyBytes (profile extractors : Nat) : Nat :=
  10 * (if profile < 8 then fixedUnits profile else customUnits extractors)

/-- The tag of a rule: that of its prefix, or the wildcard where it does not give the whole prefix, as every scope rule
(R244). -/
def Rule.tag (r : Rule) (scope : Bool) : Nat :=
  if scope then 63 else crc32c (beBytes 2 (r.value % 65536)) % 63

/-- The image of a rule as Legend writes it (R250): the partition has one view, visible in both slots (R248). -/
def Rule.written (r : Rule) (scope : Bool) : RowImage :=
  { value := r.value, mask := r.mask, tag := r.tag scope, vis := 3, owner := r.tenant, result := r.action.toNat }

/-- The image of a rule in a replica; none where the entry store cannot correct it (R251). -/
def Rule.imageIn (k : Nat) (scope : Bool) (r : Rule) : Option RowImage :=
  match r.images.find? (fun i => i.1 == k) with
  | some i => i.2
  | none => some (r.written scope)

/-- The rows of a rule of `units` units in a replica (R242, R250). -/
def Rule.rowsIn (k : Nat) (scope : Bool) (units : Nat) (r : Rule) : List Row :=
  flipRows (((r.imageIn k scope).getD (r.written scope)).rows units) (((r.bad.find? (fun b => b.1 == k)).map (·.2)).getD [])

/-- Of two matching rules, the one that wins: the lower priority value, then the earlier installed (R77, R82). -/
def betterRule (a b : Rule) : Rule :=
  if b.prio < a.prio || (b.prio == a.prio && decide (b.order < a.order)) then b else a

/-- A rule inserted in the order of rows. -/
def insertRule (r : Rule) : List Rule → List Rule
  | [] => [r]
  | x :: rest => if (betterRule x r).order == r.order then r :: x :: rest else x :: insertRule r rest

/-- Rules in the order of the rows that Legend gives them: the winner of two that match stands first (R242). -/
def ruleOrder (rs : List Rule) : List Rule := rs.foldl (fun acc r => insertRule r acc) []

/-- The bytes hashed for FLOW5 over one layer (R85). -/
def flow5Bytes (l3t proto : Nat) (k : LayerKeys) (sym : Bool) : List Byte :=
  let ip := l3t == 1 || l3t == 2
  let n := if l3t == 2 then 16 else 4
  let s := if ip then k.sip else 0
  let d := if ip then k.dip else 0
  let sp := if ip then k.sport else 0
  let dp := if ip then k.dport else 0
  let swapA := sym && decide (d < s)
  let swapP := sym && decide (dp < sp)
  beBytes n (if swapA then d else s) ++ beBytes n (if swapA then s else d) ++
    beBytes 1 (if ip then proto else 0) ++
    beBytes 2 (if swapP then dp else sp) ++ beBytes 2 (if swapP then sp else dp)

/-- H of R85 for a selector mode; 0 for modes 0 and 3. -/
def flowHash (p : PRec) (mode : Nat) (sym : Bool) (key keyLen : Nat) : Nat :=
  if mode == 1 then crc32c (flow5Bytes p.l3t p.iproto p.outer sym)
  else if mode == 2 then
    (if p.il3t == 1 || p.il3t == 2 then crc32c (flow5Bytes p.il3t p.iiproto p.inner sym)
     else crc32c (flow5Bytes p.l3t p.iproto p.outer sym))
  else if mode == 4 then crc32c (beBytes keyLen key)
  else 0

/-- The order domain a selector chooses (R85). -/
def selectDomain (mode base span inPort h : Nat) : Nat :=
  if mode == 0 then base
  else if mode == 3 then base + inPort % 2 ^ span
  else base + h % 2 ^ span

/-- Fields of the action word (R83). -/
def actDrop (a : BitVec 128) : Bool := bit a 0
/-- FORWARD of the action word (R83). -/
def actForward (a : BitVec 128) : Bool := bit a 1
/-- COPY_CC of the action word (R83). -/
def actCopy (a : BitVec 128) : Bool := bit a 2
/-- MIRROR of the action word (R83). -/
def actMirror (a : BitVec 128) : Bool := bit a 3
/-- PROGRAM of the action word (R83). -/
def actProgram (a : BitVec 128) : Nat := fld a 8 16
/-- PRIORITY of the action word (R83). -/
def actPriority (a : BitVec 128) : Nat := fld a 24 3
/-- DSEL of the action word (R83). -/
def actDsel (a : BitVec 128) : Nat := fld a 28 4
/-- DOMAIN_BASE of the action word (R83). -/
def actBase (a : BitVec 128) : Nat := fld a 32 20
/-- SPAN_LOG2 of the action word (R83). -/
def actSpan (a : BitVec 128) : Nat := fld a 52 5
/-- MIRROR_SESSION of the action word (R83). -/
def actSession (a : BitVec 128) : Nat := fld a 64 8
/-- COPY_CLASS of the action word (R83). -/
def actCopyClass (a : BitVec 128) : Nat := fld a 72 4
/-- USER_DATA of the action word (R83). -/
def actUser (a : BitVec 128) : Nat := fld a 96 32

/-- The accepted combinations of the four action bits (R84). -/
def actCombo (bits : Nat) : Bool := [1, 2, 6, 10, 14, 4, 12].contains bits

/-- A domain range is aligned and stays within the space (R85, R95). -/
def rangeOk (base span : Nat) : Bool :=
  decide (span ≤ 20) && base % 2 ^ span == 0 && decide (base + 2 ^ span ≤ 2 ^ 20)

/-- Fields that the set actions do not use are 0 (R83). -/
def actUnusedZero (a : BitVec 128) : Bool :=
  (actForward a || (actProgram a == 0 && actPriority a == 0 && actDsel a == 0 && actBase a == 0 && actSpan a == 0))
  && (actMirror a || actSession a == 0)
  && (actCopy a || actCopyClass a == 0)
  && (actForward a || actCopy a || actUser a == 0)

/-- Selector rules of R85: modes 0–4, SYM only with 1 and 2, an aligned range. -/
def dselOk (a : BitVec 128) : Bool :=
  let m := actDsel a % 8
  decide (m ≤ 4) && (!maskHas (actDsel a) 3 || m == 1 || m == 2) && rangeOk (actBase a) (actSpan a)

/-- The classification result laid out as R90 gives it. -/
structure ClsOut where
  tenant : Nat := 0xFFF
  profile : Nat := 0
  actions : Nat := 0
  priority : Nat := 0
  demoted : Bool := false
  dsel : Nat := 0
  domain : Nat := 0
  reason : Nat := 0
  program : Nat := 0
  session : Nat := 0
  copyClass : Nat := 0
  ruleId : Nat := 0xFFFFFFFF
  user : Nat := 0
  hash : Nat := 0
  deriving DecidableEq, Repr

/-- The 32 bytes of a classification result (R90). -/
def ClsOut.record (c : ClsOut) : BitVec 256 :=
  BitVec.ofNat 256 (placeFields
    [(0, c.tenant), (12, c.profile), (16, c.actions), (20, c.priority), (23, b2n c.demoted), (24, c.dsel),
     (32, c.domain), (56, c.reason), (64, c.program), (80, c.session), (88, c.copyClass), (96, c.ruleId),
     (128, c.user), (160, c.hash)])

/-- Default rate in kpps of a slow-path reason (R91). -/
def slowRateDefault : Nat → Nat
  | 1 => 2000 | 2 => 500 | 3 => 100 | 4 => 1000 | 5 => 500
  | 6 => 100 | 7 => 200 | 8 => 1000 | 9 => 4000 | _ => 100

/-- Default burst of a slow-path reason (R91). -/
def slowBurstDefault : Nat → Nat
  | 1 => 8192 | 2 => 1024 | 3 => 256 | 4 => 2048 | 5 => 1024
  | 6 => 256 | 7 => 512 | 8 => 2048 | 9 => 8192 | _ => 256

/-- Reset value of `SLOW_REASON` (R95). -/
def slowReasonReset (reason : Nat) : BitVec 128 :=
  BitVec.ofNat 128 (placeFields [(0, slowRateDefault reason), (16, slowBurstDefault reason), (33, 6),
    (40, 0xFE000), (60, 12)])

/-- Reset value of `SLOW_TENANT` (R96). -/
def slowTenantReset : BitVec 64 := BitVec.ofNat 64 (100 + 1024 * 2 ^ 16)

/-- Reset contents of every profile set: class to profile (R79). -/
def profileSetReset : BitVec 32 := 0x04352160

end Sys2Proof.Machine
end

