-- ==== Sys2Proof/Machine/StateSluice.lean ====
section
/-! DEFINITION. State of the parser and classifier, Sluice: registers, rules, buckets, output queues (R68–R96). -/

namespace Sys2Proof.Machine

/-- A token bucket: its level in millionths of a token, and the moment of that level (R91, R92, R387). -/
structure Bucket where
  level : Nat
  since : Ns
  deriving DecidableEq, Repr

/-- Where a slow-path frame goes in Meridian: its priority, its domain and the H that chose it (R93). -/
structure SlowPlace where
  priority : Nat
  domain : Nat
  hash : Nat
  deriving DecidableEq, Repr

/-- A copy bound to a frame at its classification, released with its completion record (R87, R88). -/
inductive Copy where
  | mirror (session : BitVec 64) (id : Nat) (place : SlowPlace)  -- the place is that of DEST 3
  | slow (cls : Nat) (place : SlowPlace)
  deriving DecidableEq, Repr

/-- A packet descriptor, from Sluice to Meridian (R19, R90). -/
structure Desc where
  lport : Nat
  len : Nat                       -- frame length on the fibre (R5)
  cells : List Nat                -- handles of the received cells
  guaranteed : Bool               -- of a guaranteed ingress group (R285)
  parse : BitVec 256              -- parse record (R75)
  cls : BitVec 256                -- classification result (R90)
  tenant : Nat
  named : Bool                    -- the scope search has named its tenant (R21, R77)
  priority : Nat
  domain : Nat
  program : Nat
  reason : Nat                    -- slow-path reason, 0 on the forward path
  copies : List Copy
  command : Bool                  -- a diverted command frame (R388)
  headSince : Ns                  -- since when it stands at the head of its queue (R285)
  taken : Ns                      -- when it left its Sluice output queue (R100)
  time : Ns                       -- when Sluice issued its scope search (R336)
  deriving DecidableEq, Repr

/-- The parser and classifier. -/
structure Sluice where
  cfg : BitVec 64                 -- SLUICE (R72)
  scopeRules : List Rule          -- R77
  rules : List Rule               -- R82
  order : Nat                     -- install number of the next rule
  sets : AMap (BitVec 32)         -- profile sets (R79)
  profiles : AMap (List (BitVec 32)) -- custom profiles 8–15: their extractors (R81)
  sessions : AMap (BitVec 64)     -- mirror sessions (R88)
  reasons : AMap (BitVec 128)     -- SLOW_REASON (R95)
  tenants : AMap (BitVec 64)      -- SLOW_TENANT (R96)
  reasonBuckets : AMap Bucket
  tenantBuckets : AMap Bucket
  cmdBuckets : AMap Bucket        -- per logical port (R387)
  slowPrograms : AMap Nat         -- the owner's slow-path program (R93)
  queues : AMap (List Desc)       -- Sluice output queues, 8 × physical port + priority (R285)
  deriving DecidableEq, Repr

/-- Reset value of SLUICE (R72). -/
def sluiceCfgReset : BitVec 64 := BitVec.ofNat 64 (4789 + 6081 * 2 ^ 16 + 4791 * 2 ^ 32)

/-- Reset value of a mirror session (R88). -/
def mirrorReset : BitVec 64 := BitVec.ofNat 64 (0xFFF + 7 * 2 ^ 20 + 9216 * 2 ^ 32)

/-- Sluice after reset. -/
def Sluice.reset : Sluice :=
  { cfg := sluiceCfgReset, scopeRules := [], rules := [], order := 0, sets := [], profiles := [],
    sessions := [], reasons := [], tenants := [], reasonBuckets := [], tenantBuckets := [], cmdBuckets := [],
    slowPrograms := [], queues := [] }

end Sys2Proof.Machine
end

