-- ==== Sys2Proof/Machine/StateDram.lean ====
section
/-! DEFINITION. State of the DRAM subsystem: ranks, slots, ports, allocations, contents (R294–R321). -/

namespace Sys2Proof.Machine

/-- State of a rank (R321), by the codes of its table. -/
inductive RankState where
  | inService | spare | migratingOut | migratingIn | retirePending | retired | failed
  deriving DecidableEq, Repr

/-- One rank (R294, R313, R321). -/
structure Rank where
  state : RankState
  slot : Nat                       -- 31 for none
  cause : Nat
  corrected : List (Nat × Nat × Ns) -- owner, line and moment of powered time of each corrected line in the window (R310, R313)
  ueCount : Nat
  pendingAt : Ns                   -- its last RETIRE_PENDING event (R315)
  deriving DecidableEq, Repr

/-- Self-refresh of a stack (R317–R319). -/
inductive Refresh where
  | active
  | entering (since : Ns)          -- since when entry runs; 0.4 µs later the stack is in self-refresh
  | exiting (since : Ns)
  deriving DecidableEq, Repr

/-- A request that row hits have passed over at a bank, and how often (R304). -/
structure PassedOver where
  bank : Nat
  port : Nat
  owner : Nat
  offset : Nat
  arrival : Ns
  times : Nat
  deriving DecidableEq, Repr

/-- One stack. -/
structure Stack where
  refresh : Refresh
  lastRequest : Ns
  woke : Ns                        -- when it last began to serve: its training or a self-refresh exit (R318)
  refreshAt : AMap Ns              -- when the next refresh of a bank is due, where it is not one interval after the base (R300)
  refreshBase : Ns                 -- since when the other banks' intervals run
  lateSeen : List PassedOver       -- the requests of this self-refresh that LATE_WAKE has counted (R319)
  openRow : AMap Nat               -- open row, per bank (R304)
  passed : List PassedOver
  deriving DecidableEq, Repr

/-- A migration or reshape in progress (R314, R315). -/
structure Move where
  source : Nat
  target : Option Nat              -- the spare; none for a reshape
  since : Ns
  copied : Nat                     -- blocks of 4 KiB copied: the copy pointer (R314)
  deriving DecidableEq, Repr

/-- The DRAM subsystem. -/
structure Dram where
  cfg : BitVec 64                  -- DRAM (R320)
  ranks : AMap Rank
  stackMap : AMap Stack
  ports : AMap (BitVec 64)         -- DRAM_PORT (R302)
  awaiting : AMap (BitVec 64)      -- records written to demoted ports, which take effect at readmission (R308)
  buckets : AMap Bucket            -- token bucket of each port, in bytes (R303)
  alloc : AMap Nat                 -- bytes allocated to each tenant and the operator (R296)
  content : AMap Memory            -- bytes of each owner's allocation, by owner-relative offset
  poison : AMap (List Nat)         -- poisoned 64-byte lines of each owner (R311)
  move : Option Move
  queue : List Nat                 -- ranks that wait for their retirement (R313)
  trained : Bool
  noRank : Bool                    -- DRAM_FAILED (R298)
  locks : List Lock                -- the lock units of the stacks (R232)
  calibrated : AMap Ns             -- last calibration of each pseudo-channel (R299)
  scrubbed : Nat                   -- where the patrol scrub stands in its pass: rank × lines of a rank + line (R312)
  scrubSince : Ns                  -- when the pass began
  retrying : List (Nat × Nat)      -- lines that are being read again: owner and line (R311)
  lateReads : List (Nat × Nat × Nat) -- lines whose requester has failed meanwhile: owner, line and port (R311, R506)
  credited : Nat                   -- credited slots (R295)
  powered : Ns                     -- powered time of the earlier boot epochs (R313)
  deriving DecidableEq, Repr

/-- Reset value of DRAM (R320). -/
def dramCfgReset : BitVec 64 := BitVec.ofNat 64 (20 + 12 * 2 ^ 16)

/-- Settings of a client port at reset (R301): class, GB/s, target in ns, base urgency. -/
def portDefault (p : Nat) : Nat × Nat × Nat × Nat :=
  if p < 16 then (2, 150, 4000, 0)
  else if p == 16 then (1, 2200, 1000, 1)
  else if p == 17 then (4, 100, 20000, 0)
  else if p == 18 then (0, 50, 500, 2)
  else if p == 19 then (2, 0, 4000, 0)
  else if p == 20 then (3, 100, 10000, 0)
  else if p == 21 then (3, 100, 5000, 0)
  else if p == 22 then (4, 20, 20000, 0)
  else (5, 60, 50000, 0)

/-- Reset value of DRAM_PORT of a client port (R301, R302). -/
def dramPortReset (p : Nat) : BitVec 64 :=
  let d := portDefault p
  BitVec.ofNat 64 (d.1 + d.2.1 * 2 ^ 4 + d.2.2.1 * 2 ^ 20 + d.2.2.2 * 2 ^ 40)

/-- A rank at shipment (R294, R295): ranks 8 and 17 are spares, the others hold slots 0–15 in order. -/
def Rank.shipped (r : Nat) : Rank :=
  if r == 8 || r == 17 then { state := .spare, slot := 31, cause := 0, corrected := [], ueCount := 0, pendingAt := 0 }
  else { state := .inService, slot := if r < 8 then r else r - 1, cause := 0, corrected := [], ueCount := 0, pendingAt := 0 }

/-- A stack after reset. -/
def Stack.reset : Stack := { refresh := .active, lastRequest := 0, woke := 0, refreshAt := [], refreshBase := 0, lateSeen := [], openRow := [], passed := [] }

/-- The DRAM subsystem at shipment, before its first training. -/
def Dram.reset : Dram :=
  { cfg := dramCfgReset, ranks := [], stackMap := [], ports := [], awaiting := [], buckets := [], alloc := [], content := [],
    poison := [], move := none, queue := [], trained := false, noRank := false, locks := [],
    calibrated := [], scrubbed := 0, scrubSince := 0, retrying := [], lateReads := [], credited := 16, powered := 0 }

end Sys2Proof.Machine
end

