-- ==== Sys2Proof/Machine/StateGaz.lean ====
section
/-! DEFINITION. State of the lookup complex, Gazetteer: tables, views, flow hash tables, banks (R239–R274). -/

namespace Sys2Proof.Machine

/-- An entry of a TCAM or LPM table as Legend's shadow holds it, with what soft errors have made of its row and of its
image (R250–R254, R269). -/
structure TEntry where
  id : Nat
  value : Nat
  mask : Nat
  tag : Nat                        -- prefilter tag (R244)
  owner : Nat
  prio : Nat
  result : Nat
  plen : Nat                       -- LPM: prefix length
  isGlobal : Bool                  -- LPM: an entry that masks none of the VRF
  order : Nat                      -- install number
  row : Nat                        -- entry number in the table's banks, counted through its bank list (R242, R254)
  bad : Option (List Row)          -- bits of its rows that soft errors have changed
  image : Option (Option RowImage)    -- its image where it differs from the shadow; `some none` where ECC cannot correct it
  shadowLost : Bool                -- its place in the shadow is unreadable
  dead : Bool                      -- excluded from every search (R251)
  deriving DecidableEq, Repr

/-- One view slot of a TCAM, LPM or DIRECT table (R248, R249). -/
structure View where
  entries : List TEntry
  direct : AMap (List Word)
  deriving DecidableEq, Repr

/-- A table command waiting in a batch, with the command it ends (R248). -/
inductive BatchOp where
  | write (acc : Nat) (e : TEntry)
  | delete (acc : Nat) (id : Nat)
  | writeDirect (acc : Nat) (index : Nat) (words : List Word)
  | deleteDirect (acc : Nat) (index : Nat)
  deriving DecidableEq, Repr

/-- A way of a bucket (R257); the record's own key words decide equality. -/
structure Way where
  index : Nat
  fp : Nat
  age : Nat
  deriving DecidableEq, Repr

/-- A stash entry (R257). -/
structure StashEntry where
  key : List Byte
  index : Nat
  age : Nat
  deriving DecidableEq, Repr

/-- A freed record index that waits for the contexts that were live at the delete (R261), with the key of the record where
a demotion freed it (R327). -/
structure Quarantine where
  index : Nat
  ctxs : List Nat
  demoted : Option (List Byte)
  deriving DecidableEq, Repr

/-- A rehash in progress (R264): the new array under the new seeds; the command it ends, if one started it. -/
structure Rehash where
  seed1 : Nat
  seed2 : Nat
  buckets : AMap (AMap Way)
  acc : Option Nat
  deriving DecidableEq, Repr

/-- A table (R239). -/
structure Table where
  kind : Nat                       -- 0 TCAM, 1 LPM, 2 DIRECT, 3 FLOW, 4 ARRAY
  owner : Nat
  width : Nat                      -- TCAM and LPM: units per entry, 1, 2 or 4
  tagPos : Nat                     -- bit position of the tag source (R244)
  banks : List Nat                 -- TCAM and LPM: bank list
  indexBits : Nat                  -- DIRECT (R255)
  entryWords : Nat                 -- DIRECT: 2, 4 or 8 words
  checkEn : Bool                   -- DIRECT
  sram : Bool                      -- STORAGE: Gazetteer SRAM
  size : Nat                       -- ARRAY and FLOW: records
  order : Nat                      -- install number of the next entry
  slot0 : View
  slot1 : View
  current : Nat                    -- current view slot, 0 or 1
  genCur : Nat
  batch : List BatchOp
  directBad : AMap (List Word)     -- DIRECT: entries that a soft error has changed (R269)
  directLost : List Nat            -- DIRECT: entries whose place in the shadow is unreadable
  cfg : BitVec 128                 -- FLOW_CFG (R256)
  buckets : AMap (AMap Way)
  stash : List StashEntry
  freed : List Nat                 -- free record indexes that have been used before
  fresh : Nat                      -- every index from here up is free
  provisional : List Nat           -- R259
  quarantine : List Quarantine
  records : AMap (List Word)       -- records of 16 words; an unlisted record reads 0
  poison : List Nat                -- poisoned lines: 2 × index, plus 1 for words 8–15; then buckets, stash images (R267)
  rehash : Option Rehash
  autoRehash : Bool
  requestRaised : Bool             -- the rehash request has been raised (R260)
  ageTick : Nat
  ageAt : Ns
  filter : List Nat                -- bits set in the cold filter (R263)
  filterNew : Option (List Nat)    -- the array of a rebuild in progress (R331)
  rebuildAccs : List Nat           -- the commands that a rebuild ends
  filterSeed : Nat                 -- SEED_H1 under which the filter's bits were chosen
  covered : Nat                    -- cold records covered at the last build
  leftovers : Nat                  -- promotions and cold deletes since
  deriving DecidableEq, Repr

/-- An entry of the absent list (R263). -/
structure Absent where
  table : Nat
  kh : Nat
  key : List Byte
  ctxs : List Nat                  -- contexts that parked on its promotion and have not re-run their search
  deriving DecidableEq, Repr

/-- One TCAM bank (R243, R271); its use, width, replica and table follow from the partition and the tables' bank lists. -/
structure Bank where
  asleep : Bool
  lastSearch : Ns
  presence : Nat                   -- 64-bit presence vector (R245)
  deriving DecidableEq, Repr

/-- A search in flight (R265–R268). -/
structure Search where
  num : Nat
  tid : Nat
  ctx : Option Nat
  channel : Nat
  table : Nat                      -- table id
  tableNo : Nat                    -- table number in the program's binding list
  key : List Byte
  issued : Ns
  deadline : Ns
  result : Word                    -- the result word, fixed at issue where the search samples its view
  data : List Word
  timedOut : Bool
  aborted : Bool                   -- its thread was squashed: discarded on arrival (R112)
  deriving DecidableEq, Repr

/-- The lookup complex. -/
structure Gaz where
  cfg : BitVec 64                  -- GAZ (R273)
  generation : Nat                 -- the device-wide table generation (R248)
  tables : AMap Table              -- by table id
  banks : AMap Bank
  absent : List Absent
  searches : List Search           -- in issue order
  searchNum : Nat
  deriving DecidableEq, Repr

/-- Reset value of GAZ (R273). -/
def gazReset : BitVec 64 := BitVec.ofNat 64 (3 + 20 * 2 ^ 4 + 100 * 2 ^ 16 + 100 * 2 ^ 32 + 100 * 2 ^ 48)

/-- An empty view. -/
def View.empty : View := { entries := [], direct := [] }

/-- A table with nothing in it. -/
def Table.empty : Table :=
  { kind := 0, owner := 0xFFF, width := 1, tagPos := 0, banks := [], indexBits := 0, entryWords := 2,
    checkEn := false, sram := false, size := 0, order := 0, slot0 := .empty, slot1 := .empty, current := 0,
    genCur := 0, batch := [], directBad := [], directLost := [], cfg := 0, buckets := [], stash := [], freed := [], fresh := 0,
    provisional := [], quarantine := [], records := [], poison := [], rehash := none, autoRehash := false,
    requestRaised := false, ageTick := 0, ageAt := 0, filter := [], filterNew := none, rebuildAccs := [],
    filterSeed := 0, covered := 0, leftovers := 0 }

/-- An unallocated bank, powered off (R243). -/
def Bank.reset : Bank :=
  { asleep := false, lastSearch := 0, presence := 0 }

/-- Gazetteer after reset. -/
def Gaz.reset : Gaz :=
  { cfg := gazReset, generation := 0, tables := [], banks := [], absent := [], searches := [],
    searchNum := 0 }

end Sys2Proof.Machine
end

