-- ==== Sys2Proof/Machine/StateEvents.lean ====
section
/-! DEFINITION. State of the event fabric, the counters, the completion accounting and the containment ladder
(R489–R512). -/

namespace Sys2Proof.Machine

/-- A timestamp: (epoch, ns) (R13). -/
structure Stamp where
  epoch : Nat
  ns : Nat
  deriving DecidableEq, Repr

/-- An event record (R489); DATA is its 40 bytes as one big-endian number. -/
structure EventRec where
  time : Stamp
  source : Nat
  owner : Nat
  code : Nat
  lost : Bool
  coalesced : Nat
  data : Nat
  deriving DecidableEq, Repr

/-- The holdoff of one (source, owner) pair (R490). -/
structure Holdoff where
  until_ : Ns
  gathered : Nat
  code : Nat
  data : Nat
  time : Stamp
  deriving DecidableEq, Repr

/-- The event queue of one owner (R495). -/
structure OwnerQueue where
  recs : List EventRec
  lostNext : Bool                 -- the next record that enters carries FLAGS.LOST
  deriving DecidableEq, Repr

/-- A statistics counter: 64 bits with a sticky SAT flag (R499). -/
structure Stat where
  value : Nat
  sat : Bool
  deriving DecidableEq, Repr

/-- A performance counter: 48 bits with WRAPS (R497). -/
structure Perf where
  value : Nat
  wraps : Nat
  deriving DecidableEq, Repr

/-- A completion record before it is laid out (R503). -/
structure Completion where
  kind : Nat
  outcome : Nat
  reason : Nat
  programReason : Nat
  flags : Nat
  tenant : Nat
  priority : Nat
  domain : Nat
  seq : Nat
  context : Nat
  program : Nat
  time : Stamp
  deriving DecidableEq, Repr

/-- A containment action in progress (R507, R511). -/
structure Action where
  trigger : Nat
  unit : Nat
  failed : Nat                    -- contexts that it failed
  joined : Nat                    -- later triggers that joined it
  out : Bool                      -- its end takes the Pan out of service
  deriving DecidableEq, Repr

/-- The containment ladder (R507): its history is kept in the boot flash, so that it survives a restart and a loss of power (R512). -/
structure Contain where
  panHistory : AMap (List Stamp)  -- moments of the level-2 actions of a Pan, the newest first
  coreHistory : List Stamp        -- of level-3 actions
  deviceHistory : List Stamp      -- of level-4 actions
  pans : AMap Action              -- level-2 actions in progress, per Pan (R508)
  core : Option Action            -- the level-3 action in progress (R509)
  outOfService : List Nat         -- Pans out of service until the next restart
  guardedUntil : AMap Ns          -- Pans whose tasks run guarded (R508 step 6)
  hold : Bool                     -- R510
  deriving DecidableEq, Repr

/-- A raising of a source that the fabric has not handled yet (R489). -/
structure Raising where
  source : Nat
  owner : Nat
  code : Nat
  data : Nat
  copy : Bool                     -- the operator's copy of another owner's record: no raising of its own
  deriving DecidableEq, Repr

/-- The event fabric and the counters. -/
structure Events where
  due : List Raising              -- raisings of the command in hand, the oldest first
  routes : AMap (BitVec 64)       -- EVENT_ROUTE, per source (R493)
  ownerRoutes : AMap (BitVec 32)  -- OWNER_ROUTE, per tenant (R494)
  seen : List Nat                 -- counters whose first event since the last read has been raised (R492)
  holdoffs : AMap Holdoff         -- 4096 × source + owner
  queues : AMap OwnerQueue        -- per owner
  stats : AMap Stat               -- by counter id (R502)
  base : Stamp                    -- the last power-up or restart (R502)
  cleared : AMap Stamp            -- the last clear of a counter, by counter id (R502)
  devSelect : AMap (BitVec 64)    -- DEV_PERF_SEL 0–31 (R498)
  devPerf : AMap Perf
  telemetrySelect : AMap (List Nat) -- TELEMETRY_SELECT: chosen outcomes and counters, per owner (R496)
  telemetryRate : AMap (Ns × Nat) -- the second counted and the records written in it (R496)
  completions : List Completion   -- completion records written, the newest first
  dueRecords : List Completion    -- records of the command in hand whose outcome an owner's telemetry may take (R496)
  deriving DecidableEq, Repr

/-- Reset value of EVENT_ROUTE (R493); sources 0x500–0x50F have SURVEY and TELEMETRY forced to 1. -/
def eventRouteReset (source : Nat) : BitVec 64 :=
  BitVec.ofNat 64 (3 + 100 * 2 ^ 32 + (if source / 16 == 0x50 then 2 ^ 19 + 2 ^ 20 else 0))

/-- Reset value of OWNER_ROUTE (R494). -/
def ownerRouteReset : BitVec 32 := 0x11111111

/-- The ladder after power-on: no action in its history. -/
def Contain.reset : Contain :=
  { panHistory := [], coreHistory := [], deviceHistory := [], pans := [], core := none, outOfService := [], guardedUntil := [],
    hold := false }

/-- The event fabric after reset: every queue and counter empty (R512). -/
def Events.reset : Events :=
  { due := [], routes := [], ownerRoutes := [], seen := [], holdoffs := [], queues := [], stats := [], base := ⟨0, 0⟩, cleared := [],
    devSelect := [], devPerf := [], telemetrySelect := [], telemetryRate := [], completions := [], dueRecords := [] }

end Sys2Proof.Machine
end

