-- ==== Sys2Proof/Machine/StateStk.lean ====
section
/-! DEFINITION. State of the flash tier, Stockpile: cold records, rings, telemetry, the journal, wear (R322–R347). -/

namespace Sys2Proof.Machine

/-- A cold record (R325). -/
structure ColdRec where
  table : Nat
  owner : Nat
  kh : Nat
  key : List Byte
  demoted : Stamp
  staged : Bool
  words : List Word
  deriving DecidableEq, Repr

/-- A promotion in progress (R329): shared by every request for one (table, key). -/
structure Promotion where
  table : Nat
  kh : Nat
  key : List Byte
  gone : Bool                      -- its table was deleted, or its owner zeroized, meanwhile (R329)
  step : Nat                       -- step of the read ladder reached (R332)
  deletes : List Nat               -- commands `COLD_DELETE` that wait for its end (R326)
  late : Bool                      -- a packet that waited for it has failed meanwhile (R105, R506)
  deriving DecidableEq, Repr

/-- State of a capture ring (R335). -/
inductive RingState where
  | armed | triggered | closed | disabled
  deriving DecidableEq, Repr

/-- A capture record (R336). -/
structure CapRec where
  time : Stamp
  seq : Nat
  ruleId : Nat
  frameLen : Nat
  inPort : Nat
  session : Nat
  flags : Nat
  bytes : List Byte
  flash : Bool                     -- written to flash; else in the capture staging
  deriving DecidableEq, Repr

/-- A mirror copy on its way to a capture ring (R290, R337): the cells it holds and what its record will carry. -/
structure PendCap where
  ring : Nat
  session : Nat
  owner : Nat
  ruleId : Nat
  frameLen : Nat
  inPort : Nat
  len : Nat
  cells : List Nat
  time : Stamp                     -- when Sluice issued the frame's scope search
  deriving DecidableEq, Repr

/-- A capture ring (R334, R335). -/
structure Ring where
  cfg : BitVec 64                  -- RING
  state : RingState
  recs : List CapRec               -- the oldest first
  seq : Nat
  since : Nat                      -- bytes written since the trigger
  trigNext : Bool                  -- the next record carries TRIGGER
  gapNext : Bool                   -- the next record carries GAP
  deriving DecidableEq, Repr

/-- A telemetry record (R338). -/
structure TeleRec where
  time : Stamp
  owner : Nat
  kind : Nat
  source : Nat
  seq : Nat
  payload : Nat                    -- bytes 24–59 as one big-endian number
  deriving DecidableEq, Repr

/-- One owner's telemetry part. -/
structure TelePart where
  recs : List TeleRec
  seq : Nat
  deriving DecidableEq, Repr

/-- A command record of a journal entry or a restart report (R341, R404). -/
structure CmdRec where
  transport : Nat
  stage : Nat
  opcode : Nat
  tenant : Nat
  session : Nat
  sequence : Nat
  cookie : Nat
  deriving DecidableEq, Repr

/-- A journal entry (R341). -/
structure JournalEntry where
  cause : Nat
  overflow : Bool
  time : Stamp
  vinMin : Nat
  cmdCount : Nat
  cmds : List CmdRec
  packets : AMap Nat               -- per owner: packets in flight
  rings : AMap Nat                 -- per ring: copies lost in the capture staging
  commit : Option Nat              -- its commit page, once programmed: the CRC-32C of the whole entry (R340)
  deriving DecidableEq, Repr

/-- A marker or an entry of the journal region (R339). -/
inductive JournalItem where
  | epochOpen (epoch : Nat)
  | closed (epoch : Nat)
  | entry (epoch : Nat) (e : JournalEntry)
  deriving DecidableEq, Repr

/-- The state Stockpile reports (R344, R347). -/
inductive StkState where
  | normal | degraded | readOnly | failed | absent
  deriving DecidableEq, Repr

/-- The flash tier. -/
structure Stk where
  cfg : BitVec 64                  -- STK (R345)
  state : StkState
  cold : List ColdRec              -- staging and cold region
  promotions : List Promotion
  rings : AMap Ring
  captures : List PendCap          -- copies not yet in the capture staging, the oldest first
  telemetry : AMap TelePart        -- per owner; the operator's part also holds the device's
  journal : List JournalItem       -- the newest last
  flushing : Option JournalEntry   -- latched at a shutdown decision, not yet committed (R340)
  used : Nat                       -- rated raw programming used, in MiB
  spare : Nat                      -- spare blocks in percent of raw
  credit : Nat                     -- write credit in MiB
  creditAt : Ns
  served : Ns                      -- powered time in service, of earlier epochs (R343)
  creditLow : Bool                 -- the event below 1 day has been raised
  creditOut : Bool
  lostChannels : Nat               -- NAND channels lost (R344)
  ladders : List (Nat × List Byte × Nat) -- reads other than a promotion's that climb the ladder: place, record, step (R332)
  torn : Nat × Nat                 -- torn pages discarded at the last power-up: capture region, telemetry region (R342)
  ctrlFailed : Bool                -- the Stockpile controller has failed (R344)
  deriving DecidableEq, Repr

/-- Reset value of STK (R345). -/
def stkCfgReset : BitVec 64 := BitVec.ofNat 64 (16 + 1826 * 2 ^ 8 + 25 * 2 ^ 20)

/-- Raw programming of the module's life, 114,000 TiB, in MiB (R343). -/
def ratedMiB : Nat := 114000 * 1024 * 1024

/-- Stockpile at shipment: the write credit is full (R343). -/
def Stk.reset : Stk :=
  { cfg := stkCfgReset, state := .normal, cold := [], promotions := [], rings := [], captures := [], telemetry := [],
    journal := [], flushing := none, used := 0, spare := 15, credit := 7 * (ratedMiB / 1826), creditAt := 0,
    served := 0, creditLow := false, creditOut := false, lostChannels := 0, ladders := [], torn := (0, 0), ctrlFailed := false }

end Sys2Proof.Machine
end

