-- ==== Sys2Proof/Config.lean ====
section
/-! DEFINITION. What an implementation fixes and what the spec leaves open.
Every `opaque` here has no body that a proof can see: a claim that holds, holds for every value of it. -/

namespace Sys2Proof.Config

/-- A free 64-bit value; applied to the counter `State.free`, so each use is fresh (assumption 3). -/
opaque freeWord : Nat → Word

/-- A free byte of a fresh local store: of the use number and the address (R108; assumption 3). -/
opaque freeByte : Nat → Nat → Byte

/-- A byte of AES-256-GCM output text: key, 96-bit nonce, position and the input bytes (R219; assumption 4). -/
opaque gcmByte : BitVec 256 → BitVec 96 → Nat → List Byte → Byte

/-- The AES-256-GCM tag over additional data and plain text (R47, R219, R384; assumption 4). -/
opaque gcmTag : BitVec 256 → BitVec 96 → List Byte → List Byte → BitVec 128

/-- A byte of ChaCha20-Poly1305 output text (R218, R219; assumption 4). -/
opaque chachaByte : BitVec 256 → BitVec 96 → Nat → List Byte → Byte

/-- The Poly1305 tag of ChaCha20-Poly1305 (R218, R219; assumption 4). -/
opaque chachaTag : BitVec 256 → BitVec 96 → List Byte → List Byte → BitVec 128

/-- A byte of AES-XTS output: encrypt?, the two keys as one value, tweak, position, input (R219; assumption 4). -/
opaque xtsByte : Bool → BitVec 512 → BitVec 128 → Nat → List Byte → Byte

/-- One byte of a SHA-2 digest: digest length in bits, message, byte position (R222, R223; assumption 4). -/
opaque shaByte : Nat → List Byte → Nat → Byte

/-- A fresh random or derived 256-bit secret of Benchmark: the use number (R355, R357; assumption 4). -/
opaque secret : Nat → BitVec 256

/-- The device unique secret in the fuses (R354; assumption 4). -/
opaque deviceSecret : BitVec 256

/-- HKDF-SHA-384 to 512 bits: the key, and the label with the inputs that follow it (R354; assumption 4). -/
opaque hkdf : BitVec 256 → List Byte → BitVec 512

/-- The public key of an ECDSA P-384 key pair that derived key material gives (R353; assumption 4). -/
opaque p384Public : BitVec 512 → BitVec 768

/-- The nonce under which an owner's vault entry (index 65536) or an entry of its key table is wrapped (R355, R356;
assumption 95). -/
opaque wrapNonce : Nat → Nat → BitVec 96

/-- A byte of an ECDSA P-384 signature: what the signing key is made of, use number, message and position (R353, R357, R363;
assumption 4). -/
opaque signedByte : BitVec 512 → Nat → List Byte → Nat → Byte

/-- A certificate in DER: its position in the chain, what the key that signs it is made of where Benchmark holds that key, and the
content that the spec gives it (R353; assumption 4). -/
opaque certificate : Nat → Option (BitVec 512) → List Byte → List Byte

/-- CTExponent of the capabilities, which the spec does not give (R357; assumption 42). -/
opaque ctExponent : Byte

/-- The kind of a measurement, bits 6–0 of DMTF's value type, of a block index (R363; assumption 42). -/
opaque valueType : Nat → Nat

/-- The line of an owner's DRAM at which a table begins: owner and table (R362; assumption 95). -/
opaque tableLine : Nat → Nat → Nat

/-- Digest of the ROM stage of BOOT (R363; assumption 20). -/
opaque romDigest : BitVec 384

/-- DETAIL of a FIELD failure of an opcode whose payload the spec does not lay out: the opcode and which of the values
that it carries fails (R385; assumption 25). -/
opaque fieldDetail : Nat → Nat → Nat

/-- The object that a command names: of its opcode and its payload, which the spec lays out for few commands (R399;
assumption 97). -/
opaque objectOf : Nat → List Byte → Nat

/-- Raw programming in MiB that bytes written to the NAND cost: the use number and the bytes (R343; assumption 24). -/
opaque rawCost : Nat → Nat → Nat

/-- Bytes of a page of the NAND (R332; assumption 24). -/
opaque nandPage : Nat

/-- The daily write allowance past the service life (R343; assumption 24). -/
opaque lateAllowance : Nat

/-- The 2 MiB extent of physical DRAM that holds an extent of an owner (R296, R297; assumption 31). -/
opaque extentOf : Nat → Nat → Nat

/-- The place in its client's memory that a request meets which the spec does not lay out: port and moment (R301; assumption
93). -/
opaque placeOf : Nat → Nat → Nat

/-- Blocks of 4 KiB that a migration has copied after a time in ns since its start (R314; assumption 94). -/
opaque copied : Nat → Nat

/-- Where Legend loads a version of a program in a Pan, before it is brought into its memory: Pan, program id and version
(R126; assumption 32). -/
opaque programBase : Nat → Nat → Nat

/-- Where the service routines of a PRT image lie once Legend has loaded it into a Pan, and their length: of the image's digest
(R131, R373; assumption 89). -/
opaque prtService : BitVec 384 → Word × Nat

/-- Digest of the shipped image of a kind, 0 for the shipped manifest (R374; assumption 20). -/
opaque factoryDigest : Nat → BitVec 384

/-- SHA-384 of a message (R353, R373, R374; assumption 4). -/
opaque hash384 : List Byte → BitVec 384

/-- Whether a signature verifies: signing key, message digest, signature (R374, R376, R381; assumption 4). Keys 0–3 are
the vendor's firmware keys, 4 its manifest key, 5 its debug key, 6 the key of its revocation statements, 7 and up the
owner public keys. -/
opaque sigOk : Nat → BitVec 384 → List Byte → Bool

end Sys2Proof.Config
end

