-- ==== Sys2Proof/Machine/StateTrust.lean ====
section
/-! DEFINITION. State of the security processor, Benchmark: owners, vault, keys, zeroize, debug, firmware (R348–R381). -/

namespace Sys2Proof.Machine

/-- State of an owner's slot (R349); the operator's slot is FREE until its claim (R348). -/
inductive SlotState where
  | free | created | claimed | zeroizing
  deriving DecidableEq, Repr

/-- A tenant slot or the operator's own record (R348–R351). -/
structure Slot where
  state : SlotState
  quota : BitVec 1024             -- quota record as accepted, network order (R350)
  expect : BitVec 384             -- EXPECT (R349)
  key : Option (BitVec 768)       -- the bound owner public key
  claimTime : Stamp
  waiting : List Nat              -- commands that await the owner zeroize in progress (R369, R370)
  deleting : Bool                 -- the zeroize ends in FREE
  deriving DecidableEq, Repr

/-- A vault entry (R355): readable only under the VAULT_GEN it was wrapped in. -/
structure VaultEntry where
  gen : Nat
  osk : BitVec 256
  key : BitVec 768
  deriving DecidableEq, Repr

/-- The fields of an image header (R374). -/
structure Image where
  kind : Nat
  signer : Nat
  svn : Nat
  build : Nat
  provides : List (Nat × Nat × Nat)   -- (interface, major, minor) (R375)
  requires : List (Nat × Nat × Nat)
  digest : BitVec 384
  deriving DecidableEq, Repr

/-- Content of an image slot: an image as shipped, or the bytes written since (R373, R379; assumption 20). -/
inductive FwSlot where
  | shipped (i : Image)
  | bytes (m : List (Nat × Byte))
  deriving DecidableEq, Repr

/-- The debug challenge outstanding (R372): epoch, nonce use number and requested scope. -/
structure Challenge where
  epoch : Nat
  nonce : BitVec 256
  scope : Nat
  deriving DecidableEq, Repr

/-- A zeroize trip record (R368): cause, time and contexts failed per owner. -/
structure TripRec where
  cause : Nat                     -- 1 ZEROIZE_N, 2 TAMPER_A, 3 TAMPER_B, 4 internal sensor, 5 command
  time : Stamp
  counts : AMap Nat
  second : Bool                   -- a second trip was recorded during the sequence
  deriving DecidableEq, Repr

/-- The security processor. -/
structure Trust where
  slots : AMap Slot               -- owners: 0–511 and 0x0FFF
  transfer : Option (BitVec 384)  -- the pending OPERATOR_TRANSFER (R348)
  vault : AMap VaultEntry         -- by owner, in the boot flash
  vaultGen : Nat                  -- blown VAULT_GEN fuses, 0–16 (R355)
  vaultExhausted : Bool
  osk : AMap (BitVec 256)         -- owner sealing keys, by owner (R354)
  omk : AMap (BitVec 512)         -- owner memory keys
  dmk : Option (BitVec 512)       -- device memory key
  keys : AMap (AMap (BitVec 512)) -- key tables: owner, index, 64 bytes (R356)
  tamperArmed : AMap Bool         -- 0 TAMPER_A, 1 TAMPER_B (R367)
  zeroizing : Option TripRec      -- a device zeroize in progress (R368)
  tripRecord : Option TripRec     -- the last trip record in the device records
  challenge : Option Challenge
  debugUnlocked : Bool
  debugRefused : Nat
  slotsFw : AMap FwSlot           -- 2 × kind + slot (R373)
  active : List Nat               -- slot of each kind 1–6 for the next boot (R379)
  lastTested : List Nat           -- slot of each kind of the last tested set (R377)
  running : List Nat              -- slot of each kind of the running set
  runningImages : List Image
  bmkRuns : Bool                  -- BMK runs; else BOOT serves the USB port (R377)
  policyNext : Bool               -- PERMISSIVE at the next boot (R378)
  policy : Bool                   -- PERMISSIVE in force
  provisional : Bool
  fallback : Bool
  manifestSeq : Nat               -- SEQUENCE of the installed manifest (R376)
  manifestDigest : BitVec 384
  manifest : List (List (BitVec 384)) -- the tested sets: six digests each
  minSvn : AMap Nat               -- fused minimum SVN of each kind (R380)
  revoked : Nat                   -- revoked signing keys, a 4-bit mask (R381)
  bootSel : Nat                   -- BOOT_SEL[1:0] as sampled
  bootEvents : List Nat           -- events of the selection, delivered at command-ready: 1 EVT_PROVISIONAL, 2 EVT_SET_REFUSED, 3 a trip record; 4 the end of a level-4 action and 5 the hold, plus 16 × DATA
  deriving DecidableEq, Repr

/-- A FREE slot. -/
def Slot.free : Slot :=
  { state := .free, quota := 0, expect := 0, key := none, claimTime := ⟨0, 0⟩, waiting := [], deleting := false }

/-- The image of kind `k` of the set S1 of the worked case of chapter 13: the set shipped in the A slots
(assumption 20), with a digest that stays free. -/
def shippedImage (k : Nat) : Image :=
  let d := Config.factoryDigest k
  match k with
  | 1 => ⟨1, 0, 3, 12, [(2, 1, 0)], [(1, 2, 0)], d⟩
  | 2 => ⟨2, 0, 5, 30, [(3, 3, 2)], [(1, 2, 0), (2, 1, 0)], d⟩
  | 3 => ⟨3, 0, 9, 88, [(4, 5, 0), (8, 1, 0)], [(3, 3, 1), (5, 2, 2), (6, 1, 0), (7, 4, 0)], d⟩
  | 4 => ⟨4, 0, 4, 41, [(7, 4, 1)], [(3, 3, 0), (4, 5, 0)], d⟩
  | 5 => ⟨5, 0, 2, 17, [(6, 1, 3)], [(3, 3, 0), (4, 5, 0)], d⟩
  | _ => ⟨6, 0, 6, 52, [(5, 2, 2)], [(3, 3, 0), (4, 5, 0)], d⟩

/-- The six image kinds of R373 in order. -/
def imageKinds : List Nat := [1, 2, 3, 4, 5, 6]

/-- Benchmark at shipment (R348, R367, R378; assumption 20). -/
def Trust.reset : Trust :=
  { slots := [], transfer := none, vault := [], vaultGen := 0, vaultExhausted := false, osk := [], omk := [],
    dmk := none, keys := [], tamperArmed := [], zeroizing := none, tripRecord := none,
    challenge := none, debugUnlocked := false, debugRefused := 0,
    slotsFw := imageKinds.map (fun k => (2 * k, .shipped (shippedImage k))),
    active := [0, 0, 0, 0, 0, 0], lastTested := [0, 0, 0, 0, 0, 0], running := [], runningImages := [],
    bmkRuns := false, policyNext := false, policy := false, provisional := false, fallback := false,
    manifestSeq := 14, manifestDigest := Config.factoryDigest 0, manifest := [imageKinds.map Config.factoryDigest],
    minSvn := [], revoked := 0, bootSel := 3, bootEvents := [] }

end Sys2Proof.Machine
end

