-- ==== Sys2Proof/Machine/StateLegend.lean ====
section
/-! DEFINITION. State of the control plane, Legend: sessions, commands in flight, replies, snapshots, programs
(R382–R411, R240). -/

namespace Sys2Proof.Machine

/-- Where a request came from, so where its reply goes (R386). -/
inductive Via where
  | pcie (fn : Nat)                       -- 1024 × link + function (0 the PF, k the VF of tenant k − 1)
  | inband (lport : Nat) (mac : BitVec 48) (tags : List (BitVec 32))
  | survey (ctrl : Nat)                   -- controller 0–7
  | usb (iface : Nat)
  deriving DecidableEq, Repr

/-- The status word of an acknowledgment or a final reply (R385). -/
structure Status where
  code : Nat
  applied : Bool
  unknown : Bool
  extended : Bool
  detailKind : Nat
  detail : Nat
  deriving DecidableEq, Repr

/-- An SPDM session (R357–R359, R392–R394). -/
structure Session where
  owner : Option Nat                      -- none: ownerless
  established : Bool                      -- FINISH has completed
  reqKey : BitVec 256
  rspKey : BitVec 256
  reqIv : BitVec 96
  rspIv : BitVec 96
  high : Nat                              -- H
  window : Nat                            -- accepted ones of H − 63 … H: bit H − s
  notif : Nat                             -- last notification sequence used
  kept : List (Nat × List Byte)           -- kept final replies, the oldest first
  log : List (Nat × Status)               -- status words of the last 4,096 commands, the oldest first; from before the last key update: sequence + 2^32
  via : Via                               -- of the most recent accepted request
  lastMessage : Ns
  transcript : Nat                        -- use number of its transcript hash
  deriving DecidableEq, Repr

/-- How far an accepted command has come (R341, R397). -/
inductive Stage where
  | waiting                               -- received, not started
  | executing                             -- started: it ends at a later event
  deriving DecidableEq, Repr

/-- What a session leaves to a command that it has in flight when it ends (R359, R404). -/
structure Heir where
  owner : Option Nat                      -- its owner, for whom the command still acts
  prior : Option Status                   -- how the command's predecessor in the session had ended (R398)
  deriving DecidableEq, Repr

/-- A command in flight (R390–R402). -/
structure Entry where
  session : Nat
  seq : Nat
  opcode : Nat
  flags : Nat
  tenant : Nat
  version : Nat
  cookie : Nat
  limit : Nat                             -- DEADLINE in µs; 0 none
  deadline : Ns                           -- the moment in force; meaningless when limit is 0
  acceptedAt : Ns
  via : Via
  payload : List Byte                     -- the payload in plain text
  ack : Option (List Byte)                -- the acknowledgment sent
  extended : Bool
  progressAt : Ns                         -- last CMD_PROGRESS
  stage : Stage
  committed : Bool                        -- its commit point has passed
  orphan : Bool                           -- its final reply goes to the USB orphan slot (R432)
  heir : Option Heir                      -- what its session left it; none while the session lives (R404)
  deriving DecidableEq, Repr

/-- An outgoing packet of a transport queue: its bytes and since when it waits (R420, R421, R430, R456). -/
structure OutPkt where
  bytes : List Byte
  since : Ns
  session : Nat
  seq : Nat
  isFinal : Bool
  deriving DecidableEq, Repr

/-- A snapshot (R407, R502). -/
structure Snap where
  session : Nat
  bytes : List Byte
  lastRead : Ns
  deriving DecidableEq, Repr

/-- A partial in-band packet (R388). -/
structure Partial where
  lport : Nat
  mac : BitVec 48
  tag : Nat
  count : Nat
  next : Nat
  bytes : List Byte
  since : Ns
  deriving DecidableEq, Repr

/-- A program in Legend's store (R240, R272, R408). -/
structure Prog where
  owner : Nat
  digest : BitVec 384
  image : List Byte                       -- code, little-endian words (R136)
  cc : Bool                               -- built for a CC; else for a PE (R187)
  pans : Nat                              -- eligible Pans, a 16-bit mask
  binding : List (Nat × Nat)              -- table number to table id (R240)
  entry : Nat
  env : Nat                               -- environment record number
  chanMap : BitVec 128
  guard : Bool
  guardSelected : Bool                    -- GUARD_SELECT (R175)
  cpen : Nat
  express : Bool
  allowDram : Bool
  version : Nat
  deriving DecidableEq, Repr

/-- A power-up or restart report (R342, R404, R477). -/
structure Report where
  restart : Bool
  cause : Nat                             -- restart report: 1 RESET_N, 2 `DEVICE_RESTART`, 3 zeroize, 4 containment; power-up: 0
  outcome : Nat                           -- 0 none, 1 entry, 2 FLUSH_INCOMPLETE, 3 POWER_LOSS_UNRECORDED
  entry : Option JournalEntry
  ended : List (Nat × Nat × Nat × Status) -- owner, session, sequence and status of commands that ended
  trip : Option TripRec                   -- the trip record of a device zeroize (R368)
  skip : Option Nat                       -- the new epoch, where the epoch skipped (R15)
  hotSwap : Nat                           -- failed hot-swap attempts (R468)
  torn : Nat × Nat                        -- torn pages of the capture and of the telemetry region (R342)
  known : Nat                             -- FLUSH_INCOMPLETE: which parts of the entry have pages whose CRC holds, a mask (R342)
  readBy : List Nat                       -- owners that have read their part
  later : Nat                             -- later journal entries
  deriving DecidableEq, Repr

/-- The control plane. -/
structure Legend where
  ccAssign : Nat                          -- CC_ASSIGN in force (R409)
  ccAssignNext : Nat
  sessions : AMap Session                 -- by session id
  nextAcc : Nat                           -- acceptance number of the next command
  flight : AMap Entry                     -- by acceptance number
  orphanLogs : AMap (List (Nat × Nat × Status)) -- per owner (R404)
  snaps : AMap Snap
  nextSnap : Nat
  partials : List Partial
  programs : AMap Prog
  superseded : AMap Prog                  -- versions replaced while contexts are bound to them: id + 65536 × version (R22, R104)
  reports : List Report                   -- the newest first
  sessionNum : Nat                        -- sessions opened so far
  fragTag : Nat                           -- FRAG_TAG of the next in-band packet sent (R387, R389)
  deriving DecidableEq, Repr

/-- Legend after reset: no session, no command, nothing loaded (R409, R477). -/
def Legend.reset : Legend :=
  { ccAssign := 3, ccAssignNext := 3, sessions := [], nextAcc := 0, flight := [],
    orphanLogs := [], snaps := [], nextSnap := 1, partials := [], programs := [], superseded := [], reports := [], sessionNum := 0, fragTag := 0 }

end Sys2Proof.Machine
end

