-- ==== Sys2Proof/Machine/StateHost.lean ====
section
/-! DEFINITION. State of the PCIe host port and of the USB recovery port (R412–R433). -/

namespace Sys2Proof.Machine

/-- A ring of a function: base, control record, head, tail (R416, R417). -/
structure HRing where
  base : BitVec 64
  ctl : BitVec 32
  head : Nat
  tail : Nat
  deriving DecidableEq, Repr

/-- A packet read in progress on a command ring (R419, R426). -/
structure PktRead where
  index : Nat
  addr : Nat                      -- host address of the packet (R418)
  len : Nat
  stopping : Bool                 -- its ring was stopped meanwhile: the packet in hand is finished, nothing follows (R417)
  partly : Bool                   -- stopped part-way by Bus Master Enable or D3hot: read again whole
  error : Nat                     -- 0; or the ERROR it ends with: 3 descriptor read, 4 packet read, 6 LEN (R418)
  deriving DecidableEq, Repr

/-- A completion entry written to the completion ring (R418). -/
structure CplEntry where
  phase : Bool
  kind : Nat
  cmdHead : Nat
  rbufFirst : Nat
  rbufCount : Nat
  len : Nat
  error : Nat
  bytes : List Byte               -- the packet that stands in the reply buffers it names
  addrs : List Nat                -- host addresses of those buffers
  deriving DecidableEq, Repr

/-- A function, physical or virtual (R414–R426). -/
structure HFunc where
  cmd : HRing
  rbuf : HRing
  cpl : HRing
  arm : Bool                      -- CPL_HEAD.ARM
  phase : Bool                    -- PHASE of the next completion entry
  stats : AMap Nat                -- FUNC_STATS: packets in, out, OUT_DISCARDED, RBUF_STARVED, read errors, ring errors
  posted : List (Option (BitVec 128)) -- each posted command descriptor that is not read yet; none: its read fails
  bufs : AMap Nat                 -- ADDR of the reply buffers posted, by ring index (R418)
  owed : List Nat                 -- ERRORs of KIND 1 entries that wait for the completion ring or for DMA (R422, R426)
  reads : List PktRead            -- at most 8, in ring order
  out : List OutPkt               -- waiting outgoing packets, the oldest first
  discard : Bool                  -- outgoing packets are discarded until a request arrives (R425)
  busMaster : Bool                -- Bus Master Enable
  d3hot : Bool
  pmeStatus : Bool
  pmeEnable : Bool
  pmes : Nat                      -- PME messages sent
  msixEnable : Bool
  msixTable : AMap (BitVec 128)   -- entries; bit 96 is the vector's mask
  msixPending : List Nat
  msixSent : List Nat             -- messages sent, the newest first
  written : List CplEntry         -- completion entries written, the newest first
  deriving DecidableEq, Repr

/-- A link (R412, R413, R425, R426). -/
structure HLink where
  perst : Bool                    -- PERST_N[h] is low
  config : Bool                   -- configuration requests are answered, else Retry Status
  up : Bool
  rate : Nat                      -- 4, 5, 6; 0 before training
  width : Nat
  l2 : Bool
  l1 : Nat                        -- 0 L0; 1 L1; 2 L1.1; 3 L1.2 (R412)
  maxPayload : Nat                -- max payload size, 128, 256 or 512 bytes (R412)
  maxRead : Nat                   -- max read request size, 128 to 4,096 bytes (R412)
  ecrc : Nat                      -- bit 0 ECRC generation, bit 1 ECRC check (R412)
  aer : Nat                       -- AER: uncorrectable errors that have been reported and not cleared (R412)
  vfEnable : Bool
  deriving DecidableEq, Repr

/-- A packet accepted from USB whose last transfer may still lack its status stage (R430, R432). -/
structure Whole where
  acc : Nat
  session : Nat
  seq : Nat
  deriving DecidableEq, Repr

/-- An interface of the USB port (R428–R433). -/
structure UIface where
  asm : List Byte
  nextChunk : Nat
  assembling : Bool
  whole : Option Whole            -- the packet of the last transfer, when that was a LAST chunk and it was accepted
  out : List OutPkt
  outPos : Nat                    -- bytes of the head packet already read
  waiting : List OutPkt           -- packets that wait for a full queue
  starved : Nat                   -- packets that waited too long or found no room, discarded (R421, R430)
  discard : Bool
  orphan : Option OutPkt
  orphanPending : Option Nat      -- the command in the slot's case: its acceptance number
  orphanLost : Nat
  deriving DecidableEq, Repr

/-- The host ports. -/
structure HostPorts where
  strap : Nat                     -- GPIO[1:0] as sampled (R413)
  links : AMap HLink
  funcs : AMap HFunc              -- 1024 × link + function
  usbVbus : Bool                  -- USB_VBUS above its threshold, with the hysteresis of R427
  usbConnected : Bool
  usb : AMap UIface
  usbAnswer : Option (List Byte)  -- answer to the last USB vendor request; none: STALL (R429)
  statRead : Nat                  -- value of the last FUNC_STATS read (R416)
  wakeN : Bool                    -- PCIE_WAKE_N is asserted (low)
  deriving DecidableEq, Repr

/-- A ring with its registers at their Reset values (R416, R417). -/
def HRing.reset : HRing := { base := 0, ctl := 0, head := 0, tail := 0 }

/-- A function after a function reset (R425); `discard` as the reset leaves it. -/
def HFunc.reset : HFunc :=
  { cmd := .reset, rbuf := .reset, cpl := .reset, arm := false, phase := true, stats := [], posted := [], bufs := [], owed := [], reads := [], out := [],
    discard := false, busMaster := false, d3hot := false, pmeStatus := false, pmeEnable := false, pmes := 0,
    msixEnable := false, msixTable := [], msixPending := [], msixSent := [], written := [] }

/-- A link at power-on: held in reset by PERST_N, whose pull-down is on the module (R531). -/
def HLink.reset : HLink :=
  { perst := true, config := false, up := false, rate := 0, width := 0, l2 := false, l1 := 0, maxPayload := 128, maxRead := 512, ecrc := 0,
    aer := 0, vfEnable := false }

/-- A USB interface with nothing in it. -/
def UIface.reset : UIface :=
  { asm := [], nextChunk := 0, assembling := false, whole := none, out := [], outPos := 0, waiting := [], starved := 0,
    discard := false, orphan := none, orphanPending := none, orphanLost := 0 }

/-- The host ports at power-on; the straps read their pull-downs, mode ×8 (R413). -/
def HostPorts.reset : HostPorts :=
  { strap := 0, links := [], funcs := [], usbVbus := false, usbConnected := false, usb := [], usbAnswer := none, statRead := 0, wakeN := false }

end Sys2Proof.Machine
end

