-- ==== Sys2Proof/Machine/StateMeridian.lean ====
section
/-! DEFINITION. State of the order engine, Meridian: contexts, domains, the wait store (R97–R120). -/

namespace Sys2Proof.Machine

/-- State of a packet context (R102), by the codes of its table. -/
inductive CtxState where
  | free | ready | runSpec | runNonspec | done | parked | unwind | ending
  deriving DecidableEq, Repr

/-- An entry of a read or write set (R106). -/
inductive SetEntry where
  | record (table index : Nat)
  | key (table hash : Nat)
  deriving DecidableEq, Repr

/-- A held side effect (R107). -/
inductive CommitRec where
  | write (table index word : Nat) (value : Word)
  | tally (cmd pan : Nat) (place : MemRef) (len color : Nat)
  | insert (table : Nat) (key : List Byte) (index : Nat)
  | delete (table : Nat) (key : List Byte)
  | event (n : Nat) (payload : Word)
  | egress (port queue : Nat) (start : Int) (len : Nat)
  deriving DecidableEq, Repr

/-- What a parked context waits for (R115): the promotion of a key's record, or a packet parked ahead of it. -/
inductive ParkedOn where
  | key (table : Nat) (key : List Byte)
  | behind
  deriving DecidableEq, Repr

/-- One packet context (R101–R116). -/
structure Ctx where
  state : CtxState
  desc : Desc
  express : Bool
  seq : Nat
  taken : Ns
  lifeEnd : Ns                     -- end of its lifetime (R105, R116)
  replays : Nat
  serial : Bool                    -- its next runs are serialized: its third replay was squashed (R113)
  serialRun : Bool                 -- the run in progress is serialized (R113)
  reads : List SetEntry
  recs : List CommitRec            -- in issue order
  egress : Nat                     -- EGRESS records of this run
  policed : Bool                   -- a POLICE yielded red (R226)
  dropReason : Option Nat          -- PDROP n (R148)
  failed : Option Nat              -- why it fails: its record is written in sequence order (R105, R111)
  parkedOn : Option ParkedOn
  partly : Bool                    -- side effects were applied before its end (R107, PARTIAL)
  insertFailed : Bool
  learned : List (Nat × List Byte) -- provisional records it learned (R259)
  sent : Nat                       -- egress frames enqueued by its commit
  lost : Nat                       -- egress frames that did not fit
  lostQuota : Nat                  -- those of them that were beyond their tenant's quota (R288)
  lostReason : Nat                 -- why the first of them did not (R288)
  waitEgress : Bool                -- its commit waits for a guaranteed egress queue (R288)
  window : Memory                  -- the packet window, 16 KiB
  dirty : List Int                 -- dirty blocks −2 to 61 (R286)
  pktLen : Nat                     -- PKT_LEN (R134)
  bound : Bool                     -- it has been dispatched, which binds it (R104)
  gens : AMap Nat                  -- table generations bound at dispatch (R104)
  progVersion : Nat                -- program version bound at dispatch (R104)
  entry : Nat                      -- ENTRY, ENV, CPEN, GUARD and CHANMAP of that version
  deriving DecidableEq, Repr

/-- One order domain (R98, R100, R115). -/
structure Domain where
  next : Nat
  oldest : Nat
  parking : Bool
  flight : List Nat                -- contexts in flight, oldest first
  waiting : List Desc              -- its part of the wait store, a FIFO
  deriving DecidableEq, Repr

/-- A write of a command, or of a task without a packet context, that is applied when no non-speculative context holds
the record in its read set (R22, R144); the command that ends with it, if any. -/
inductive CmdWrite where
  | words (table index : Nat) (ws : List (Nat × Word)) (acc : Option Nat)
  | delete (table : Nat) (key : List Byte) (acc : Option Nat)
  | insert (table : Nat) (key : List Byte) (record : List Word) (acc : Nat)
  deriving DecidableEq, Repr

/-- The order engine. -/
structure Meridian where
  cfg : BitVec 128                 -- MERIDIAN (R119)
  ctxs : AMap Ctx
  domains : AMap Domain            -- 2^20 × space + domain; space 1 is express
  rotate : AMap Nat                -- first port to serve, per priority (R99)
  waitFullSeen : Bool              -- the wait-store full event has been raised (R100)
  writes : List CmdWrite           -- command writes not applied yet, the oldest first (R22)
  due : List Nat                   -- domains whose oldest packet has changed in the command in hand
  suspended : Bool                 -- express suspended by a containment action (R508)
  unwindDue : AMap Ns              -- when a squash's unwind ends at the latest (R112)
  deriving DecidableEq, Repr

/-- Reset value of MERIDIAN (R119). -/
def meridianReset : BitVec 128 :=
  BitVec.ofNat 128 (1 + 15 * 2 ^ 4 + 1000 * 2 ^ 8 + 5000 * 2 ^ 24 + 10000 * 2 ^ 40 + 75 * 2 ^ 64 + 256 * 2 ^ 72)

/-- A domain at power-on: both sequences 0 (R98). -/
def Domain.reset : Domain := { next := 0, oldest := 0, parking := false, flight := [], waiting := [] }

/-- Meridian after reset. -/
def Meridian.reset : Meridian :=
  { cfg := meridianReset, ctxs := [], domains := [], rotate := [], waitFullSeen := false,
    writes := [], due := [], suspended := false, unwindDue := [] }

end Sys2Proof.Machine
end

