-- ==== Sys2Proof/Machine/StatePort.lean ====
section
/-! DEFINITION. State of the port complex, Tide Gate: logical ports, flow control, MACsec, egress queues,
optics and the laser interlock (R33–R67). -/

namespace Sys2Proof.Machine

/-- One segment of an egress chain: a cell, a first byte and a length (R286). -/
structure Seg where
  cell : Nat
  first : Nat
  len : Nat
  deriving DecidableEq, Repr

/-- A frame in an egress queue, with what its egress record would carry (R286, R505). -/
structure EgressFrame where
  len : Nat            -- stored length, without FCS
  segs : List Seg
  tenant : Nat
  program : Nat
  express : Bool
  domain : Nat
  seq : Nat
  ctx : Nat
  priority : Nat
  staged : Bool        -- read whole into staging, for a far pool (R292)
  deriving DecidableEq, Repr

/-- A running received pause (R42): its expiry, and whether a frame boundary has stopped the queues. -/
structure Pause where
  expiry : Ps
  stopped : Bool
  deriving DecidableEq, Repr

/-- A MAC control frame sent: PFC or PAUSE, the PCPs named with the pause time, and those named with zero (R44). -/
structure MacCtl where
  pfc : Bool
  asserted : Nat
  cleared : Nat
  time : Nat
  deriving DecidableEq, Repr

/-- What a logical port has on the fibre: nothing, a MAC control frame, or the head frame of a queue (R53), with the bytes
sent, their FCS among them (R39, R47). -/
inductive OnFibre where
  | idle
  | control (c : MacCtl) (wire : List Byte)
  | frame (queue : Nat) (f : EgressFrame) (wire : List Byte)
  | protectedFrame (queue : Nat) (f : EgressFrame) (sci an pn : Nat) (wire : List Byte)
  deriving DecidableEq, Repr

/-- One logical port (R34–R61). -/
structure LPort where
  cfg : BitVec 64                 -- PORT (R57)
  map : BitVec 320                -- PORT_MAP (R58)
  inband : BitVec 64              -- CMD_INBAND (R387)
  linkUp : Bool
  aligned : Bool                  -- PCS alignment locked (R60)
  fecDegraded : Bool
  fecUncorr : Bool                -- the FEC uncorrectable condition is set (R62)
  linkChanged : Bool
  fecUncorrSeen : Bool
  opticsAlarmSeen : Bool
  pauses : AMap Pause             -- PCP 0–7; 8 is the whole port in PAUSE mode
  xoff : Nat                      -- PCPs for which XOFF is asserted, a mask
  xoffPending : Nat               -- PCPs whose assertion waits for a frame boundary (R44)
  xonPending : Nat                -- PCPs whose deassertion waits for a frame boundary
  xoffRepeat : AMap Ps            -- when the frame of a PCP is repeated (R44)
  fibre : OnFibre
  credit : AMap Nat               -- DWRR credit in bytes, per weighted queue (R53)
  turn : Nat                      -- weighted queue served last in the round; 8 for none (R53)
  tokens : AMap (Nat × Ps)        -- shaper tokens in bit-picoseconds and their moment, per queue (R55)
  deriving DecidableEq, Repr

/-- One egress queue: its records, its frames and what Cote counts of it (R59, R287, R293). -/
structure EQueue where
  cfg : BitVec 64                 -- QUEUE (R59)
  buf : BitVec 64                 -- EQ_BUF (R287)
  frames : List EgressFrame
  high : Nat                      -- high-water mark in cells
  deriving DecidableEq, Repr

/-- A security association (R47–R51). -/
structure SecAssoc where
  key : BitVec 256                -- the SAK in Tide Gate's key store; no command reads it (R50)
  salt : BitVec 96
  ssci : BitVec 32
  pn : Nat                        -- transmit: next PN; receive: the PN expected next, the highest accepted plus 1
  enabled : Bool
  thresholdRaised : Bool
  retired : Bool
  deriving DecidableEq, Repr

/-- A MACsec secure channel (R47–R51). -/
structure SecChan where
  sci : Nat
  lport : Nat
  transmit : Bool
  owner : Nat
  xpn : Bool
  offset : Nat                    -- confidentiality offset 0, 30 or 50
  integrityOnly : Bool
  sciMode : Nat                   -- 0 always, 1 never, 2 when the ES bit is clear
  replay : Bool
  window : Nat
  pnThresh : Nat
  an : Nat                        -- transmit: the AN in use
  sas : AMap SecAssoc
  frames : Nat
  deriving DecidableEq, Repr

/-- One fibre lane pair of a physical port (R62). -/
structure Lane where
  rxPower : Int                   -- receive power in 0.1 dBm
  bias : Int                      -- laser bias off its calibrated value, in 0.1 %
  rxLow : Bool
  rxHigh : Bool
  los : Bool
  biasOut : Bool
  lit : Bool                      -- its transmit laser is lit (R35, R66)
  deriving DecidableEq, Repr

/-- One optical engine (R62, R63). -/
structure Engine where
  temp : Int                      -- °C
  warm : Bool
  hot : Bool
  dark : Bool                     -- held dark after an over-temperature shutdown
  deriving DecidableEq, Repr

/-- The port complex. -/
structure Ports where
  lports : AMap LPort             -- 4 × n + m
  queues : AMap EQueue            -- 8 × logical port + queue
  chans : List SecChan            -- in order of creation
  lanes : AMap Lane               -- 4 × physical port + lane
  engines : AMap Engine
  thresh : AMap (BitVec 64)       -- OPTICS_THRESH, per physical port (R64)
  laserEnN : Bool                 -- the LASER_EN_N input: true is high or unconnected (R65)
  darkUntil : Ns                  -- lasers stay dark until here after the interlock closes (R66)
  deriving DecidableEq, Repr

/-- Reset value of PORT (R57). -/
def portCfgReset : BitVec 64 := BitVec.ofNat 64 (0x2400 * 2 ^ 24 + 0xFFFF * 2 ^ 40)

/-- Reset value of PORT_MAP of a logical port, for a module base address (R58). -/
def portMapReset (base : BitVec 48) (lport : Nat) : BitVec 320 :=
  let pcp := (List.range 8).foldl (fun a p => a + (7 - p) * 2 ^ (24 + 3 * p)) 0
  let dscp := (List.range 64).foldl (fun a d => a + 7 * 2 ^ (128 + 3 * d)) 0
  BitVec.ofNat 320 (0x9100 + 7 * 2 ^ 16 + pcp + ((base.toNat + lport) % 2 ^ 48) * 2 ^ 64 + dscp)

/-- Reset value of CMD_INBAND (R387). -/
def inbandReset : BitVec 64 := BitVec.ofNat 64 (7 * 2 + 0x88B5 * 2 ^ 16 + 100 * 2 ^ 32)

/-- Reset value of QUEUE of queue `q` (R59). -/
def queueCfgReset (q : Nat) : BitVec 64 :=
  BitVec.ofNat 64 (b2n (q == 0) + 1 * 2 ^ 8 + 64 * 2 ^ 32 + (if q == 0 then 0 else 2 ^ (7 - q)) * 2 ^ 48)

/-- Reset value of EQ_BUF (R287). -/
def eqBufReset : BitVec 64 := BitVec.ofNat 64 (8192 * 2 ^ 8 + 8 * 2 ^ 32)

/-- Reset value of OPTICS_THRESH of a physical port: the temperature fields in the even port only (R64). -/
def opticsThreshReset (port : Nat) : BitVec 64 :=
  BitVec.ofNat 64 (1 + 5 * 2 ^ 4 + 1 * 2 ^ 8 + 6 * 2 ^ 12 + (256 - 90) * 2 ^ 16 + (256 - 80) * 2 ^ 24
    + 40 * 2 ^ 32 + 30 * 2 ^ 40 + (if port % 2 == 0 then 70 * 2 ^ 48 + 67 * 2 ^ 55 else 0))

/-- A logical port after reset (R57–R61): every running pause and pending frame gone, the link down. -/
def LPort.reset (base : BitVec 48) (lport : Nat) : LPort :=
  { cfg := portCfgReset, map := portMapReset base lport, inband := inbandReset, linkUp := false,
    aligned := false, fecDegraded := false, fecUncorr := false, linkChanged := false,
    fecUncorrSeen := false, opticsAlarmSeen := false, pauses := [], xoff := 0,
    xoffPending := 0, xonPending := 0, xoffRepeat := [], fibre := .idle, credit := [], turn := 8, tokens := [] }

/-- An egress queue after reset. -/
def EQueue.reset (q : Nat) : EQueue :=
  { cfg := queueCfgReset q, buf := eqBufReset, frames := [], high := 0 }

/-- A lane before any measurement (assumption 5: measured values start at 0 dBm and calibrated bias). -/
def Lane.reset : Lane :=
  { rxPower := 0, bias := 0, rxLow := false, rxHigh := false, los := false, biasOut := false, lit := false }

/-- An engine before any measurement (assumption 5). -/
def Engine.reset : Engine := { temp := 25, warm := false, hot := false, dark := false }

/-- The port complex after reset. -/
def Ports.reset : Ports :=
  { lports := [], queues := [], chans := [], lanes := [], engines := [], thresh := [],
    laserEnN := true, darkUntil := 0 }

end Sys2Proof.Machine
end

