-- ==== Sys2Proof/Machine/StatePower.lean ====
section
/-! DEFINITION. State of the power intake and always-on domain, Intake (R466–R488). -/

namespace Sys2Proof.Machine

/-- Where the module stands between OFF and service (R470, R472, R476, R477). -/
inductive Phase where
  | off                           -- OFF
  | starting                      -- power-up begun: the always-on domain runs, the bank charges
  | booting                       -- management domain runs: BOOT and BMK, set selected
  | commandReady
  | trafficReady
  | restarting                    -- a device restart in progress (R477)
  | flushing                      -- a shutdown decision has been taken (R470)
  | recovery                      -- USB recovery (R377)
  deriving DecidableEq, Repr

/-- Operating state code (R479). -/
inductive OpState where
  | run | doze | nap | standby | off
  deriving DecidableEq, Repr

/-- A transition of the operating state in progress (R481). -/
structure Transition where
  target : OpState
  acc : Option Nat                -- the command that ends when the target is reached
  since : Ns                      -- when it was ordered
  grace : Bool                    -- the 10 ms for running activations has passed
  railsAt : Option Ns             -- TARGET 4: when Intake opens the rails
  deriving DecidableEq, Repr

/-- Intake and the always-on domain. -/
structure Power where
  phase : Phase
  clock : Ns                      -- run clock (R485)
  epochF : Nat                    -- blown epoch fuses, 0–63 (R486)
  epochL : Nat
  epoch : Nat                     -- E
  saturated : Bool
  skipped : Bool                  -- E skipped at this power-on (R15)
  intake : BitVec 128             -- INTAKE: its RW and W1C fields (R488); the live fields are read from below
  pstate : BitVec 64              -- PSTATE as written (R480)
  state : OpState                 -- state in force
  before : OpState                -- state in force before STANDBY
  standbyAt : Ns                  -- when STANDBY was reached
  transition : Option Transition
  vin : Nat                       -- mV
  vinMin : Nat                    -- lowest VIN since the last read, mV
  bank : Nat                      -- mV
  pin : Nat                       -- W
  bankReady : Bool
  vinFell : Bool                  -- VIN has fallen since the power-up (R469)
  refclk : Bool                   -- REFCLK present
  timeLocked : Bool               -- the time and management PLLs have locked since the power-up (R476, R485)
  testAt : Ns                     -- a power-up that found a sensor too warm tests again from here on (R475)
  temps : AMap Int                -- 0 die, 1 input stage, 8–15 the DRAM stacks, °C
  hotSince : AMap Ns              -- since when a sensor is at or above its shutdown threshold
  warning : Bool                  -- the brownout warning holds
  dips : Nat
  hotSwapFailed : Nat             -- failed attempts since the last power-up report (R468)
  pwrEn : Bool
  resetN : Bool                   -- RESET_N is high
  pgood : Bool
  supplyAlert : Bool              -- SUPPLY_ALERT_N is low
  holdup : Bool                   -- HOLDUP_N is low
  therm : Bool                    -- THERM_N is low
  fault : Bool                    -- FAULT_N is low
  offHeld : Bool                  -- OFF for less than 100 ms: no new power-up (R472)
  syncCount : Nat                 -- SYNC_IN edges
  syncLast : Option Ns            -- the latest edge
  syncLatch : Stamp               -- latest latch (R487)
  syncOut : Bool
  powerHigh : Bool                -- input power above POWER_ALERT_W
  lands : Lands                   -- the lands as the last power-up found them
  pllLocked : Bool                -- the port PLLs are locked
  dramReady : Bool                -- DRAM_TRAINED has happened in this power-up
  markerOpen : Bool               -- the epoch-open marker of this epoch is written (R339)
  deriving DecidableEq, Repr

/-- Reset value of INTAKE (R488). -/
def intakeReset : BitVec 128 := BitVec.ofNat 128 (7 + 1150 * 2 ^ 4)

/-- Reset value of PSTATE (R480). -/
def pstateReset : BitVec 64 := 1

/-- The module OFF at shipment, its lands at their pulls (R473, R531; assumption 1). -/
def Power.reset : Power :=
  { phase := .off, clock := 0, epochF := 0, epochL := 0, epoch := 0,
    saturated := false, skipped := false, intake := intakeReset, pstate := pstateReset, state := .off,
    before := .doze, standbyAt := 0, transition := none, vin := 0, vinMin := 0, bank := 0, pin := 0,
    bankReady := false, vinFell := false, refclk := false, timeLocked := false, testAt := 0, temps := [], hotSince := [], warning := false, dips := 0,
    hotSwapFailed := 0, pwrEn := false, resetN := true, pgood := false,
    supplyAlert := false, holdup := false, therm := false, fault := false, offHeld := false,
    syncCount := 0, syncLast := none,
    syncLatch := ⟨0, 0⟩, syncOut := false, powerHigh := false, lands := ⟨63, 0, 3, false⟩, pllLocked := false, dramReady := false, markerOpen := false }

end Sys2Proof.Machine
end

