-- ==== Sys2Proof/Machine/StateSurvey.lean ====
section
/-! DEFINITION. State of the Survey Bus interface (R434–R465). -/

namespace Sys2Proof.Machine

/-- What the module sent last on the Survey Bus: its votes of a SEARCH, the bytes of a response, and whether it drove the
alert slot. -/
structure SvySent where
  votes : List Bool               -- one per step that it took part in: false drove vote A, true vote B (R461)
  bytes : List Byte               -- empty: no response
  alert : Bool                    -- the alert slot was driven (R458)
  deriving DecidableEq, Repr

/-- The assembly buffer of one controller (R455). -/
structure SvyAsm where
  live : Bool                     -- an assembly is in progress
  tag : Nat
  next : Nat
  bytes : List Byte
  lastWrite : Ns
  done : Option (Nat × Nat)       -- TAG and INDEX of the LAST frame of the last completed packet
  deriving DecidableEq, Repr

/-- The reply queue of one controller (R454, R456); tokens are given in order. -/
structure SvyQueue where
  pkts : List (Nat × OutPkt)      -- token and packet, the oldest first
  nextToken : Nat
  waiting : List OutPkt           -- packets that wait for a full queue
  starved : Nat                   -- packets that waited too long or found no room, discarded (R421, R456)
  deriving DecidableEq, Repr

/-- The Survey Bus interface. -/
structure Survey where
  strap : Nat                     -- SVY_ADDR as sampled; 63 is unstrapped
  assigned : Option Nat           -- a "P" value (R453)
  rate : Nat                      -- rate code, in the always-on domain
  pendingRate : Option Nat        -- a RATE frame whose rate is not in force yet (R443)
  locked : Bool
  failures : Nat                  -- consecutive frames that failed framing or CRC
  conflict : Bool
  newCause : Bool                 -- CAUSE NEW
  eventCause : Bool               -- CAUSE EVENT
  counters : AMap Nat             -- 0 NOISE, 1 FRAMING, 2 CRC, 3 IGNORED, 4 MALFORMED, 5 ADDRESS_CONFLICT, 6 hunts, 7 assemblies timed out
  asm : AMap SvyAsm               -- per controller 0–7
  queues : AMap SvyQueue
  searching : Bool                -- it takes part in the SEARCH of the last frame, whose next step has not come (R461)
  term : Bool                     -- SVY_TERM is tied to VRTN: the termination is connected (R436)
  sent : SvySent
  deriving DecidableEq, Repr

/-- An empty assembly buffer. -/
def SvyAsm.reset : SvyAsm :=
  { live := false, tag := 0, next := 0, bytes := [], lastWrite := 0, done := none }

/-- An empty reply queue; tokens start at 1 (R456). -/
def SvyQueue.reset : SvyQueue := { pkts := [], nextToken := 1, waiting := [], starved := 0 }

/-- The Survey Bus interface at power-on: unstrapped, in rate hunt, NEW set (R444, R452, R459). -/
def Survey.reset : Survey :=
  { strap := 63, assigned := none, rate := 0, pendingRate := none, locked := false, failures := 0,
    conflict := false, newCause := true, eventCause := false, counters := [], asm := [], queues := [],
    searching := false, term := false, sent := ⟨[], [], false⟩ }

end Sys2Proof.Machine
end

