-- ==== Sys2Proof/Machine/State.lean ====
section
/-! DEFINITION. The state of the Myolne, its faults and refusals, and the state after reset. -/

namespace Sys2Proof.Machine

/-- What a module is made with (R1, R2, R58): its variant, its serial number, its base address, its stepping. -/
structure Ident where
  flash : Bool                    -- EYN-M512-32L; else EYN-M512-00L
  serial : BitVec 64
  baseAddress : BitVec 48
  stepLetter : Nat                -- position in the alphabet: B is 2
  stepDigit : Nat
  deriving DecidableEq, Repr

/-- The whole machine: every block of the spec, the free-value counter and the commands that wait. -/
structure State where
  ident : Ident
  power : Power
  trust : Trust
  legend : Legend
  events : Events
  contain : Contain
  ports : Ports
  sluice : Sluice
  cote : Cote
  meridian : Meridian
  pans : AMap Pan                 -- 0–15
  threads : AMap Thread           -- by TID [11:0]
  gaz : Gaz
  dram : Dram
  stk : Stk
  host : HostPorts
  survey : Survey
  digests : List (Nat × Nat × List Byte) -- partial digests that `CSAVE` areas name (R228): tenant, algorithm, message bytes
  free : Nat                      -- uses of free values so far (assumption 3); no statement rests on it
  pending : List Instr            -- the commands that wait, first in, first out
  deriving DecidableEq, Repr

/-- Why the machine stops. -/
inductive Fault where
  /-- Raised by a command that names a unit the spec gives the hardware no such number of (a logical port of 64 or
  more, a Pan of 16 or more, a thread a core does not have). Safe: no such command can reach the hardware. -/
  | noSuchUnit
  deriving DecidableEq, Repr

/-- Why the machine has no meaning for a command. -/
inductive Refusal where
  /-- The name of a command without a meaning: no arm of `exec` raises it. Safe: it stops the machine. -/
  | notModelled (mnemonic : String)
  deriving DecidableEq, Repr

/-- An identity as the model names it (assumption 1): the 32L variant of stepping B0, serial and base address 0. -/
def Ident.reset : Ident := { flash := true, serial := 0, baseAddress := 0, stepLetter := 2, stepDigit := 0 }

/-- The machine at shipment, OFF, with nothing waiting (assumption 1). -/
def State.reset : State :=
  { ident := .reset, power := .reset, trust := .reset, legend := .reset, events := .reset, contain := .reset,
    ports := .reset, sluice := .reset, cote := .reset, meridian := .reset, pans := [], threads := [],
    gaz := .reset, dram := .reset, stk := .reset, host := .reset, survey := .reset, digests := [], free := 0, pending := [] }

end Sys2Proof.Machine
end

