-- ==== Sys2Proof/Machine/Units.lean ====
section
/-! DEFINITION. Which numbers name a unit that the hardware has (R17, R33, R97, R124, R133, R277, R301, R310, R413). -/

namespace Sys2Proof.Machine

/-- A logical port 4 × n + m (R34). -/
def okLport (l : Nat) : Bool := decide (l < 64)
/-- A physical port (R33). -/
def okPort (n : Nat) : Bool := decide (n < 16)
/-- An egress queue of a logical port (R53). -/
def okQueue (q : Nat) : Bool := decide (q < 8)
/-- A priority code point, or 8 for the whole port in PAUSE mode (R42). -/
def okPcp (p : Nat) : Bool := decide (p ≤ 8)
/-- An optical engine (R33). -/
def okEngine (k : Nat) : Bool := decide (k < 8)
/-- A Pan (R16). -/
def okPan (p : Nat) : Bool := decide (p < 16)
/-- A thread by TID [11:0]: 8 threads on a PE, 2 on a CC (R133). -/
def okTid (t : Nat) : Bool := decide (t < 4096) && (decide ((t / 8) % 32 < 30) || decide (t % 8 < 2))
/-- An order domain (R98). -/
def okDomain (d : Nat) : Bool := decide (d < 2 ^ 20)
/-- A packet context (R101). -/
def okCtx (c : Nat) : Bool := decide (c < 2 ^ 16)
/-- A coprocessor CP0–CP2 (R210). -/
def okUnit (u : Nat) : Bool := decide (u < 3)
/-- A TCAM bank (R242). -/
def okBank (b : Nat) : Bool := decide (b < 64)
/-- A buffer pool (R277). -/
def okPool (p : Nat) : Bool := decide (p < 64)
/-- A DRAM stack (R294). -/
def okStack (k : Nat) : Bool := decide (k < 6)
/-- A host link (R413). -/
def okLink (h : Nat) : Bool := decide (h < 4)
/-- A host function, 1024 × link + function, 0 the PF and 1–512 the VFs (R414). -/
def okFn (f : Nat) : Bool := decide (f / 1024 < 4) && decide (f % 1024 ≤ 512)
/-- A Survey Bus controller, address 0x80 plus this (R452). -/
def okCtrl (c : Nat) : Bool := decide (c < 8)
/-- An event source (R492). -/
def okSource (e : Nat) : Bool := decide (e < 2048)

/-- A trigger of a containment level, of which each has five (R507); none is the end of the action in progress. -/
def okTrigger (n : Option Nat) : Bool := n.all (fun k => decide (1 ≤ k) && decide (k ≤ 5))

end Sys2Proof.Machine
end

