-- ==== Sys2Proof/Machine/Ops.lean ====
section
/-! DEFINITION. The shared operations: time, free values, counters, raisings. -/

namespace Sys2Proof.Machine

/-- The outcome of a command whose units exist when `ok` holds; another command faults by name. -/
def checked (ok : Bool) (s : State) : Host.Outcome State Fault Refusal :=
  if ok then .next s else .fault .noSuchUnit

/-- The run clock (R485). -/
def now (s : State) : Ns := s.power.clock

/-- The timestamp of this moment (R13). -/
def stamp (s : State) : Stamp := ⟨s.power.epoch, s.power.clock⟩

/-- Whether the always-on domain runs (R485): in every state except OFF. -/
def powered (s : State) : Bool := s.power.phase != .off

/-- Nanoseconds of one step of the run clock (R485): from the time PLL, or from the always-on oscillator before that has locked and
while REFCLK is absent. -/
def clockStep (s : State) : Nat := if s.power.refclk && s.power.timeLocked then 1 else 250

/-- Places of READ_RETRY_STEP beside the tables: a capture ring's records by SEQ, and a telemetry part's (assumption 99). -/
def ringPlace (ring : Nat) : Nat := 0x10000 + ring
/-- The telemetry part of an owner. -/
def telePlace (owner : Nat) : Nat := 0x20000 + owner

/-- Whether Stockpile accepts work and programs NAND: no more once a shutdown is decided (R340). -/
def stkOpen (s : State) : Bool := s.power.phase != .flushing

/-- Whether Legend serves commands (R476, R482). -/
def legendUp (s : State) : Bool := s.power.phase == .commandReady || s.power.phase == .trafficReady

/-- Whether the traffic domains are powered (R476, R479). -/
def trafficUp (s : State) : Bool := s.power.phase == .trafficReady && s.power.state != .standby && s.power.state != .off

/-- A fresh free value, and the machine with its use counted (assumption 3). -/
def fresh (s : State) : Word × State := (Config.freeWord s.free, { s with free := s.free + 1 })

/-- The identity of a counter: block, instance and index (R502). -/
def cid (block inst index : Nat) : Nat := block * 2 ^ 24 + inst * 2 ^ 12 + index

/-- The identity of a table's counter: table ids have 16 bits, the instance field of R502 has 12 (assumption 19). -/
def tableCid (table index : Nat) : Nat := 2 ^ 32 + table * 2 ^ 12 + index

/-- The counter of a rule (R89, R499; assumption 19): 0 its hits, 1 its bytes, under its owner and its install number. -/
def ruleCid (owner order k : Nat) : Nat := 2 ^ 48 + (owner % 2 ^ 12) * 2 ^ 32 + (2 * order + k) % 2 ^ 32

/-- The ID of a counter as a snapshot or a record gives it (R502): of a table, the low 12 bits of its id; of a rule, its
owner and a number of 9 bits (assumption 19). -/
def wireId (id : Nat) : Nat :=
  if id < 2 ^ 32 then id
  else if id < 2 ^ 48 then cid 6 (id / 2 ^ 12 % 2 ^ 12) (id % 2 ^ 12)
  else cid 5 (id / 2 ^ 32 % 2 ^ 12) (0xE00 + id % 0x200)

/-- The largest value of a statistics counter (R499). -/
def statMax : Nat := 2 ^ 64 - 1

/-- A statistics counter advanced, saturating (R499). -/
def Stat.bump (c : Stat) (n : Nat) : Stat :=
  if c.value + n ≤ statMax then { c with value := c.value + n } else { value := statMax, sat := true }

/-- A raising noted for the fabric (R489). -/
def Events.note (e : Events) (r : Raising) : Events := { e with due := e.due ++ [r] }

/-- A statistics counter of the machine advanced; its first saturation raises source 0x4C1 (R499). -/
def Events.count (e : Events) (id n : Nat) : Events :=
  let old := AMap.at e.stats id ⟨0, false⟩
  let new := old.bump n
  let e := { e with stats := AMap.put e.stats id new }
  if new.sat && !old.sat then e.note ⟨0x4C1, 0xFFE, 1, wireId id * 2 ^ 288, false⟩ else e

/-- Advance a statistics counter. -/
def count (s : State) (id n : Nat) : State := { s with events := s.events.count id n }

/-- Value of a statistics counter. -/
def counted (s : State) (id : Nat) : Nat := (AMap.at s.events.stats id ⟨0, false⟩).value

/-- DATA of an event record that begins with a number of `k` bytes (R489): DATA is 40 bytes, the first byte highest. -/
def dataBytes (k v : Nat) : Nat := (v % 2 ^ (8 * k)) * 2 ^ (8 * (40 - k))

/-- Raise an event source for an owner (R489, R492). -/
def raise (s : State) (source owner code data : Nat) : State :=
  { s with events := s.events.note ⟨source, owner, code, data, false⟩ }

/-- Send the operator a copy of an owner's record (R492). -/
def raiseCopy (s : State) (source code data : Nat) : State :=
  { s with events := s.events.note ⟨source, 0xFFF, code, data, true⟩ }

/-- Raise a source whose owner is the device (R492). -/
def raiseDev (s : State) (source code data : Nat) : State := raise s source 0xFFE code data

/-- Count an item and raise its source at the first one after each read of the counter (R492). -/
def countFirst (s : State) (id source owner code data : Nat) : State :=
  let s := count s id 1
  if s.events.seen.contains id then s
  else raise { s with events := { s.events with seen := id :: s.events.seen } } source owner code data

/-- The operator's owner number (R350). -/
def operatorId : Nat := 0xFFF

/-- The device's owner number. -/
def deviceId : Nat := 0xFFE

/-- The completion block index of a record (R501). -/
def completionIndex (kind outcome reason : Nat) : Nat := kind * 0x400 + outcome * 0x100 + reason

/-- Count a pre-context or count-only reason per tenant (R501). -/
def countTenant (s : State) (tenant code : Nat) : State := count s (cid 5 tenant (0x800 + code)) 1

/-- Count a pre-context reason per physical port (R501). -/
def countPort (s : State) (lport code : Nat) : State := count s (cid 3 (lport / 4) (0x800 + code)) 1

/-- Count an index of a logical port (R500). -/
def countLport (s : State) (lport index n : Nat) : State := count s (cid 2 lport index) n

/-- A completion record written: kept, and counted (R501, R503). -/
def writeCompletion (s : State) (c : Completion) (bytes : Nat) : State :=
  let c := { c with time := stamp s }
  let s := { s with events := { s.events with completions := c :: s.events.completions, dueRecords := s.events.dueRecords ++ [c] } }
  let s := count s (cid 5 c.tenant (completionIndex c.kind c.outcome c.reason)) 1
  if c.kind == 0 && c.outcome == 0 then count s (cid 5 c.tenant 0xC00) bytes else s

/-- The 32 bytes of a completion record as one big-endian number (R385, R503): the first 4 bytes of TIME are the epoch. -/
def completionRecord (c : Completion) : Nat :=
  placeFields [(0, c.kind), (2, c.outcome), (4, c.reason), (12, c.programReason), (20, c.flags), (24, c.tenant),
    (36, c.priority), (40, c.domain), (64, c.seq), (80, c.context), (96, c.program),
    (128, c.time.ns), (192, c.time.epoch)]

/-- A device performance counter advanced by each selection that counts the item (R498). -/
def devCount (s : State) (unit source inst tenant n : Nat) : State :=
  s.events.devSelect.foldl (fun s e =>
    let v := e.2
    let i := fld v 12 12
    if fld v 0 4 == unit && fld v 4 8 == source && (i == 0xFFF || i == inst) && (!bit v 24 || fld v 25 12 == tenant) then
      let p := AMap.at s.events.devPerf e.1 ⟨0, 0⟩
      let sum := p.value + n
      if sum < 2 ^ 48 then { s with events := { s.events with devPerf := AMap.put s.events.devPerf e.1 ⟨sum, p.wraps⟩ } }
      else raiseDev { s with events := { s.events with
        devPerf := AMap.put s.events.devPerf e.1 ⟨sum - 2 ^ 48, (p.wraps + 1) % 65536⟩ } } 0x4C0 1 (dataBytes 2 e.1)
    else s) s

/-- Meridian cycles that end in the next step of the run clock (R483): the traffic-core PLL gives 1.25 GHz while its domain is
powered. -/
def meridianCycles (s : State) : Nat :=
  if trafficUp s then (now s + clockStep s) * 5 / 4 - now s * 5 / 4 else 0

/-- Contexts occupied, summed per Meridian cycle over the next step of the run clock (R498). -/
def countOccupied (s : State) : State :=
  let n := meridianCycles s
  s.meridian.ctxs.foldl (fun s c => devCount s 2 6 (c.1 / 4096) c.2.desc.tenant n) s

/-- With nothing waiting the run clock counts one step, in every state except OFF (R485; assumption 7). -/
def idle (s : State) : State :=
  if powered s then { countOccupied s with power := { s.power with clock := s.power.clock + clockStep s } } else s

end Sys2Proof.Machine
end

