-- ==== Sys2Proof/Machine/DramPorts.lean ====
section
/-! DEFINITION. The client ports of the DRAM subsystem: their records, profiles and counters; which rank a request meets, and
what it finds of a stack's self-refresh (R295, R297, R301–R303, R317–R319). -/

namespace Sys2Proof.Machine

/-- Replace the DRAM subsystem. -/
def State.setDram (s : State) (d : Dram) : State := { s with dram := d }

/-- A rank of the DRAM (R294). -/
def rankAt (s : State) (r : Nat) : Rank := AMap.at s.dram.ranks r (Rank.shipped r)

/-- The ranks that hold a slot, in slot order (R295). -/
def slotRanks (s : State) : List Nat :=
  (List.range 16).filterMap (fun k => (List.range 18).find? (fun r => (rankAt s r).slot == k && (rankAt s r).state != .migratingIn))

/-- The rank of an owner-relative address (R295, R297): slots are interleaved by 256 bytes over the physical extents; while
a rank's content is copied, a request below the copy pointer goes to the spare (R314). -/
def rankOf (s : State) (owner off : Nat) : Nat :=
  let l := slotRanks s
  let unit := Config.extentOf owner (off / 2 ^ 21) * 8192 + off % 2 ^ 21 / 256
  let r := l.getD (unit % l.length) 0
  match s.dram.move with
  | some m =>
    (match m.target with
      | some t => if r == m.source && unit / l.length / 16 < m.copied then t else r
      | none => r)
  | none => r

/-- A partial write to a poisoned line, discarded: counted in its stack and reported for its rank (R311). -/
def poisonDrop (s : State) (owner off : Nat) : State :=
  let r := rankOf s owner off
  raiseDev (count s (cid 7 (0x100 + r / 3) 0) 1) (0x343 + 4 * r) 1 0

/-- A counter of a client port (assumption 19): 0 TARGET_MISS, 1 late completions, 2 requests, 3 bytes, 4 requests
within profile, 5 requests refused beyond an allocation. -/
def portCountId (p i : Nat) : Nat := cid 7 p i
/-- A counter of a stack (assumption 19): 0 POISON_WRITE_DROPPED, 1 FORCED_REFRESH, 2 TRANSIENT, 3 LATE_WAKE. -/
def stackCountId (k i : Nat) : Nat := cid 7 (0x100 + k) i

/-- DRAM_PORT of a client port (R302). -/
def dramPort (s : State) (p : Nat) : BitVec 64 := AMap.at s.dram.ports p (dramPortReset p)
/-- GCLASS of DRAM_PORT (R302). -/
def portClass (v : BitVec 64) : Nat := fld v 0 3
/-- GBW of DRAM_PORT in GB/s (R302). -/
def portGbw (v : BitVec 64) : Nat := fld v 4 13
/-- TARGET_NS of DRAM_PORT (R302). -/
def portTarget (v : BitVec 64) : Nat := fld v 20 20
/-- DEMOTED of DRAM_PORT (R302). -/
def portDemoted (v : BitVec 64) : Bool := bit v 42

/-- A stack. -/
def stackAt (s : State) (k : Nat) : Stack := AMap.at s.dram.stackMap k .reset
/-- Replace a stack. -/
def setStack (s : State) (k : Nat) (x : Stack) : State := s.setDram { s.dram with stackMap := AMap.put s.dram.stackMap k x }

/-- Tokens of a port's profile bucket in bytes (R303): it fills at GBW and holds 64 KiB. -/
def profileTokens (s : State) (p : Nat) : Nat :=
  match AMap.find s.dram.buckets p with
  | none => 65536
  | some b => min 65536 (b.level + portGbw (dramPort s p) * (now s - b.since))

/-- Replace DRAM_PORT of a client port; its bucket has filled at the rate in force until now (R303). -/
def setDramPort (s : State) (p : Nat) (v : BitVec 64) : State :=
  s.setDram { s.dram with ports := AMap.put s.dram.ports p v, buckets := AMap.put s.dram.buckets p ⟨profileTokens s p, now s⟩ }

/-- Whether a request of a number of bytes is within the profile of its port (R303). -/
def withinProfile (s : State) (port bytes : Nat) : Bool :=
  let v := dramPort s port
  decide (portGbw v > 0) && !portDemoted v && decide (bytes ≤ profileTokens s port)

/-- WATCH_PAN of MERIDIAN. -/
def watchPan (s : State) : Nat := fld s.meridian.cfg 4 4

/-- Urgency at this moment of a request of a port (R303); `express` says that an express context asks. -/
def urgencyAt (s : State) (port bytes : Nat) (arrival : Ns) (express : Bool) : Nat :=
  let v := dramPort s port
  let prof := withinProfile s port bytes
  if express && prof && port == watchPan s then 7
  else max (fld v 40 2) (min (if prof then 7 else 3) (8 * (now s - arrival) / portTarget v))

/-- One request of a port served (R303, R321, R498): its counters and its profile; a late one within profile is a target miss,
unless self-refresh has delayed it (R319). -/
def servePort (s : State) (port owner bytes : Nat) (arrival : Ns) (asleep express : Bool) : State :=
  let s := if urgencyAt s port bytes arrival express == 7 then devCount s 5 2 port owner 1 else s
  let prof := withinProfile s port bytes
  let missed := prof && !asleep && decide (now s > arrival + portTarget (dramPort s port))
  let s := count (count s (portCountId port 2) 1) (portCountId port 3) bytes
  let s := if prof then
      let s := count s (portCountId port 4) 1
      s.setDram { s.dram with buckets := AMap.put s.dram.buckets port ⟨profileTokens s port - bytes, now s⟩ }
    else s
  let s := if missed then devCount (count s (portCountId port 0) 1) 5 3 port owner 1 else s
  devCount (devCount s 5 0 port owner 1) 5 1 port owner bytes

/-- First owner number that names the storage of a table (assumption 31). -/
def tableOwner : Nat := 0x1000

/-- A stack that leaves self-refresh at a moment (R318, R319): before the entry command an entry is aborted; after it the exit
starts when the minimum residency has passed. -/
def Stack.exitFrom (k : Stack) (t : Ns) : Stack :=
  match k.refresh with
  | .entering since => { k with refresh := if t < since + 300 then .active else .exiting (max t (since + 1900)) }
  | _ => k

/-- Whether a request arrives after a stack's entry command and before self-refresh holds, 0.3 to 0.4 µs after the entry started
(R318, R319). -/
def Stack.lateFor (k : Stack) (arrival : Ns) : Bool :=
  match k.refresh with
  | .entering since => decide (since + 300 ≤ arrival) && decide (arrival < since + 400)
  | .exiting t => decide (t ≤ arrival + 1600) && decide (arrival + 1500 < t)
  | .active => false

/-- LATE_WAKE counted for some requests of a stack (R319). -/
def countLate (s : State) (stack n : Nat) : State :=
  if n == 0 then s else devCount (count s (stackCountId stack 3) n) 5 4 0xFFF 0x1000 n

/-- A request reaches a stack at this moment (R27, R317, R319): it puts off self-refresh, or ends it, except in STANDBY. -/
def arrive (s : State) (stack : Nat) : State :=
  let k := stackAt s stack
  if !s.dram.trained || s.power.state == .standby then s
  else setStack (countLate s stack (b2n (k.lateFor (now s)))) stack { k.exitFrom (now s) with lastRequest := now s }

/-- A request of a client to its port at this moment for a place in an owner's memory, answered at once; the wait for a stack in
self-refresh is left out, and counts as no target miss (R301, R319; assumption 93). -/
def requestTo (s : State) (port owner off bytes : Nat) : State :=
  let stack := rankOf s owner off / 3
  servePort (arrive s stack) port owner bytes (now s) ((stackAt (arrive s stack) stack).refresh != .active) false

/-- A request of a client for a place that the spec does not lay out, a free value (R301; assumption 93). -/
def clientRequest (s : State) (port owner bytes : Nat) : State := requestTo s port owner (Config.placeOf port (now s)) bytes

/-- An extent that an owner gives up is overwritten with zeros by port 23 (R297; assumption 93). -/
def zeroFill (s : State) (owner bytes : Nat) : State := if bytes == 0 then s else clientRequest s 23 owner bytes

end Sys2Proof.Machine
end

