-- ==== Sys2Proof/Machine/Cells.lean ====
section
/-! DEFINITION. Cells, pools, ingress groups and XOFF: what Cote does with one cell (R275–R291, R44). -/

namespace Sys2Proof.Machine

/-- The pool record's fields (R278). -/
def poolGuaranteed (p : Pool) : Bool := bit p.cfg 0
/-- FAR of POOL (R278). -/
def poolFar (p : Pool) : Bool := bit p.cfg 1
/-- PCP of POOL (R278). -/
def poolPcp (p : Pool) : Nat := fld p.cfg 2 3
/-- CELLS of POOL (R278). -/
def poolCells (p : Pool) : Nat := fld p.cfg 8 25
/-- POOL of IG_BUF (R280). -/
def igPool (g : IGroup) : Nat := fld g.cfg 0 6
/-- MIN_CELLS of IG_BUF (R280). -/
def igMin (g : IGroup) : Nat := fld g.cfg 8 16
/-- XOFF_CELLS of IG_BUF (R280). -/
def igXoff (g : IGroup) : Nat := fld g.cfg 24 16
/-- XON_CELLS of IG_BUF (R280). -/
def igXon (g : IGroup) : Nat := fld g.cfg 40 16
/-- HEADROOM of IG_BUF in cells (R280). -/
def igHeadroom (g : IGroup) : Nat := 16 * fld g.cfg 56 8

/-- A pool of Cote. -/
def Cote.pool (k : Cote) (p : Nat) : Pool := AMap.at k.pools p .reset
/-- An ingress group: 8 × logical port + priority. -/
def Cote.group (k : Cote) (g : Nat) : IGroup := AMap.at k.groups g .reset

/-- The groups mapped to a pool, of the 512 (R280). -/
def Cote.groupsOf (k : Cote) (p : Nat) : List IGroup :=
  ((List.range 512).map k.group).filter (fun g => igPool g == p)

/-- Cells of a pool reserved and in headroom for its groups (R280). -/
def Cote.heldBack (k : Cote) (p : Nat) : Nat :=
  (k.groupsOf p).foldl (fun n g => n + igMin g + igHeadroom g) 0

/-- Free cells of the shared part of a pool (R280, R287). -/
def Cote.sharedFree (k : Cote) (p : Nat) : Nat :=
  poolCells (k.pool p) - k.heldBack p - (k.pool p).sharedUsed

/-- A refill read issued when the cache is low and the ring still holds handles not asked for (R279). -/
def Pool.refill (p : Pool) : Pool :=
  if p.cache < 512 && p.reads < 8 && decide (512 * p.reads < p.ring) then { p with reads := p.reads + 1 } else p

/-- One handle taken for a cell, from the cache, else (for a reserved cell) from the ring (R279, R282). -/
def Pool.take (p : Pool) : Pool :=
  let p := if p.cache > 0 then { p with cache := p.cache - 1 } else { p with ring := p.ring - 1 }
  let used := p.used + 1
  ({ p with used := used, high := max p.high used } : Pool).refill

/-- A cache above 1,792 handles writes 512 back, as often as it must, so that it never passes 2,048 (R277, R279). -/
def Pool.spill (p : Pool) : Pool :=
  let n := 512 * ceilDiv (p.cache - 1792) 512
  { p with cache := p.cache - n, ring := p.ring + n, writes := p.writes + n / 512 }

/-- One handle returned to the cache (R279). -/
def Pool.giveBack (p : Pool) : Pool := ({ p with cache := p.cache + 1 } : Pool).spill

/-- Handles taken from a pool's ring, then from its cache, as many as there are: the pool without them, and how many
(R281). -/
def Pool.yield (p : Pool) (n : Nat) : Pool × Nat :=
  let r := min n p.ring
  let c := min (n - r) p.cache
  ({ p with ring := p.ring - r, cache := p.cache - c }, r + c)

/-- Headroom handles that a group has neither in use nor in the headroom store (R281). -/
def igLacks (g : IGroup) : Nat := igHeadroom g - g.headroom - g.store

/-- The groups of a pool that lack headroom handles get them from its cells, in rising order (R281). -/
def Cote.fillStores (k : Cote) (pi : Nat) : Cote :=
  (k.groups.filter (fun g => igPool g.2 == pi && igLacks g.2 != 0)).foldl (fun k g =>
    let y := (k.pool pi).yield (igLacks g.2)
    { k with pools := AMap.put k.pools pi y.1, groups := AMap.put k.groups g.1 { g.2 with store := g.2.store + y.2 } }) k

/-- A handle given back to a pool: to a group of it that lacks headroom handles, else to its cache (R279, R281; assumption
92). -/
def Cote.giveBack (k : Cote) (pi : Nat) : Cote :=
  match k.groups.find? (fun g => igPool g.2 == pi && igLacks g.2 != 0) with
  | some g => { k with groups := AMap.put k.groups g.1 { g.2 with store := g.2.store + 1 } }
  | none => { k with pools := AMap.put k.pools pi (k.pool pi).giveBack }

/-- The smallest cell number of a buffer that is not in use (assumption 12). -/
def freshHandle {α : Type} : Nat → AMap α → Nat
  | n, [] => n
  | n, (h, _) :: rest => if h < n then freshHandle n rest else if h = n then freshHandle (n + 1) rest else n

/-- First handle of the near or of the far buffer (R275). -/
def bufferBase (far : Bool) : Nat := if far then 2 ^ 27 else 0

/-- What an ingress allocation answers. -/
structure AllocOut where
  cote : Cote
  handle : Option Nat
  headroomOver : Bool             -- discarded under HEADROOM_OVERRUN, else under NO_CELL
  cacheEmpty : Bool
  deriving DecidableEq, Repr

/-- Allocate one cell for a frame of an ingress group (R282, R283). -/
def Cote.allocIngress (k : Cote) (gi : Nat) (sendsPfc : Bool) (data : List Byte) : AllocOut :=
  let g := k.group gi
  let pi := igPool g
  let p := k.pool pi
  let emptyCache := p.cache == 0 && p.ring > 0
  let fail : AllocOut := ⟨k, none, poolGuaranteed p && sendsPfc, emptyCache && !poolGuaranteed p⟩
  let h := freshHandle 0 k.cells
  let cell (src : CellSource) : Cell := { refs := 1, pool := pi, group := some (gi, src), tenant := none, data := data }
  let store (g : IGroup) (p : Pool) (src : CellSource) : Cote :=
    { k with groups := AMap.put k.groups gi g, pools := AMap.put k.pools pi p, cells := AMap.put k.cells h (cell src) }
  let peak (g : IGroup) : IGroup := { g with high := max g.high (g.reserved + g.shared + g.headroom) }
  if g.reserved < igMin g && (p.cache > 0 || p.ring > 0) then
    ⟨store (peak { g with reserved := g.reserved + 1 }) p.take .reserved, some h, false, false⟩
  else if g.shared < igXoff g && k.sharedFree pi > 0 && p.cache > 0 then
    let shared := g.shared + 1
    let p' : Pool := { p.take with sharedUsed := p.sharedUsed + 1 }
    let xoff := g.xoff || (poolGuaranteed p && decide (shared ≥ igXoff g))
    ⟨store (peak { g with shared := shared, xoff := xoff }) p' .shared, some h, false, false⟩
  else if poolGuaranteed p && g.store > 0 then
    let used := p.used + 1
    ⟨store (peak { g with headroom := g.headroom + 1, store := g.store - 1, xoff := true }) { p with used := used, high := max p.high used } .headroom,
      some h, false, false⟩
  else fail

/-- Whether the shared part of a guaranteed pool is exhausted (R282); a pool whose groups leave no shared part has none to
exhaust. -/
def Cote.exhausted (k : Cote) (pi : Nat) : Bool :=
  poolGuaranteed (k.pool pi) && k.sharedFree pi == 0 && decide (k.heldBack pi < poolCells (k.pool pi))

/-- Whether a group's XOFF may deassert (R282): not while its pool's shared part is exhausted, which asserts it. -/
def Cote.xoffEnds (k : Cote) (g : IGroup) : Bool :=
  g.xoff && g.headroom == 0 && decide (g.shared ≤ igXon g) && (k.pool (igPool g)).cache > 0 && !k.exhausted (igPool g)

/-- A cell freed: its charges end and its handle goes back (R284, R289); a headroom handle goes to its group's headroom,
or to its pool when the group has no room for it any more (R281). -/
def Cote.free (k : Cote) (h : Nat) (c : Cell) : Cote :=
  let p := k.pool c.pool
  let shared := match c.group with
    | none => true
    | some (_, src) => src == .shared
  let p := { p with used := p.used - 1, sharedUsed := p.sharedUsed - b2n shared }
  let k := { k with cells := AMap.del k.cells h, pools := AMap.put k.pools c.pool p }
  match c.group with
  | none => k.giveBack c.pool
  | some (gi, src) =>
    let g := k.group gi
    let g := match src with
      | .reserved => { g with reserved := g.reserved - 1 }
      | .shared => { g with shared := g.shared - 1 }
      | .headroom => { g with headroom := g.headroom - 1 }
    let k := { k with groups := AMap.put k.groups gi g }
    if src == .headroom && igPool g == c.pool && igLacks g != 0 then
      { k with groups := AMap.put k.groups gi { g with store := g.store + 1 } }
    else k.giveBack c.pool

/-- A logical port. -/
def State.lport (s : State) (l : Nat) : LPort := AMap.at s.ports.lports l (.reset s.ident.baseAddress l)
/-- Replace a logical port. -/
def State.setLport (s : State) (l : Nat) (p : LPort) : State :=
  { s with ports := { s.ports with lports := AMap.put s.ports.lports l p } }
/-- An egress queue. -/
def State.queue (s : State) (l q : Nat) : EQueue := AMap.at s.ports.queues (8 * l + q) (.reset q)
/-- Replace an egress queue. -/
def State.setQueue (s : State) (l q : Nat) (e : EQueue) : State :=
  { s with ports := { s.ports with queues := AMap.put s.ports.queues (8 * l + q) e } }

/-- MODE of a physical port, held in the record of sub-port 0 (R34). -/
def portMode (s : State) (n : Nat) : Nat := fld (s.lport (4 * n)).cfg 0 2
/-- Sub-ports that a mode has (R34). -/
def subPorts (mode : Nat) : Nat := if mode == 0 then 1 else if mode == 1 then 2 else 4
/-- Whether a logical port exists in its physical port's mode (R34). -/
def lportExists (s : State) (l : Nat) : Bool := okLport l && decide (l % 4 < subPorts (portMode s (l / 4)))
/-- Rate of a logical port in units of 100 Mb/s (R34). -/
def lportRate (s : State) (l : Nat) : Nat :=
  match portMode s (l / 4) with | 0 => 8000 | 1 => 4000 | _ => 2000
/-- FC_MODE of PORT (R41). -/
def fcMode (p : LPort) : Nat := fld p.cfg 4 2
/-- MAX_FRAME of PORT (R57). -/
def maxFrame (p : LPort) : Nat := fld p.cfg 24 14
/-- ADMIN_UP of PORT (R57). -/
def adminUp (p : LPort) : Bool := bit p.cfg 2
/-- PAUSE_TX_TIME of PORT (R57). -/
def pauseTxTime (p : LPort) : Nat := fld p.cfg 40 16

/-- Whether a logical port sends flow control for a PCP (R41, R282): in PFC or PAUSE mode, with its PFC_TX_EN bit set. -/
def sendsPfc (p : LPort) (pcp : Nat) : Bool := (fcMode p == 1 || fcMode p == 2) && bit p.cfg (16 + pcp)

/-- XOFF asserted for a PCP: a frame is due at the next frame boundary (R44). -/
def LPort.assertXoff (p : LPort) (pcp : Nat) : LPort :=
  if maskHas p.xoff pcp then p
  else { p with xoff := maskSet p.xoff pcp, xoffPending := maskSet p.xoffPending pcp, xonPending := maskClear p.xonPending pcp }

/-- XOFF deasserted for a PCP: the frame with time zero is due (R44). -/
def LPort.deassertXoff (p : LPort) (pcp : Nat) : LPort :=
  if maskHas p.xoff pcp then
    { p with xoff := maskClear p.xoff pcp, xoffPending := maskClear p.xoffPending pcp,
             xonPending := maskSet p.xonPending pcp, xoffRepeat := AMap.del p.xoffRepeat pcp }
  else p

/-- Whether some group of a logical port still asserts XOFF for a PCP. -/
def Cote.pcpHeld (k : Cote) (l pcp : Nat) : Bool :=
  (List.range 8).any (fun q => (k.group (8 * l + q)).xoff && poolPcp (k.pool (igPool (k.group (8 * l + q)))) == pcp)

/-- After an allocation or a release, a group's XOFF and what Tide Gate sends for it follow (R282, R44); a traffic-core
action keeps XOFF asserted (R509). -/
def syncXoff (s : State) (gi : Nat) : State :=
  let l := gi / 8
  let g := s.cote.group gi
  let pcp := poolPcp (s.cote.pool (igPool g))
  let lp := s.lport l
  if s.cote.xoffEnds g then
    let s := { s with cote := { s.cote with groups := AMap.put s.cote.groups gi { g with xoff := false } } }
    if s.cote.pcpHeld l pcp || s.contain.core.isSome then s else s.setLport l (lp.deassertXoff pcp)
  else if g.xoff && sendsPfc lp pcp && lp.linkUp then s.setLport l (lp.assertXoff pcp)
  else s

/-- The write-backs of 512 handles that a pool has decided on, requested on the ring port (R279). -/
def writeBack (s : State) (pi : Nat) : State :=
  let p := s.cote.pool pi
  if p.writes == 0 then s
  else (List.range p.writes).foldl (fun s _ => clientRequest s 18 deviceId 2048)
    { s with cote := { s.cote with pools := AMap.put s.cote.pools pi { p with writes := 0 } } }

/-- The groups of a pool follow its cells: an exhausted shared part asserts XOFF for every one of them, and what may
deassert does (R282). -/
def syncPool (s : State) (pi : Nat) : State :=
  let s := writeBack s pi
  let k := s.cote
  let k := if k.exhausted pi then
      ((List.range 512).filter (fun g => igPool (k.group g) == pi && !(k.group g).xoff)).foldl (fun k g =>
        { k with groups := AMap.put k.groups g { k.group g with xoff := true } }) k
    else k
  ((k.groups.filter (fun g => igPool g.2 == pi && g.2.xoff)).map (·.1)).foldl syncXoff { s with cote := k }

/-- Release one reference of a cell; at zero the cell is freed; a cell not in use marks REFCOUNT_ERROR (R289, R291). -/
def releaseCell (s : State) (h : Nat) : State :=
  match AMap.find s.cote.cells h with
  | none => raiseDev (count { s with cote := { s.cote with refError := true } } (cid 1 0 0x2A0) 1) 0x301 1 0
  | some c =>
    if c.refs ≤ 1 then syncPool { s with cote := s.cote.free h c } c.pool
    else { s with cote := { s.cote with cells := AMap.put s.cote.cells h { c with refs := c.refs - 1 } } }

/-- Release one reference of each of some cells. -/
def releaseCells (s : State) (hs : List Nat) : State := hs.foldl releaseCell s

/-- A frame discarded before it takes a context: its cells are freed and it is counted under its reason, per tenant once
the scope search has named one, else per physical port (R21). -/
def discardDesc (s : State) (d : Desc) (code : Nat) : State :=
  let s := releaseCells s d.cells
  if d.named then countTenant s d.tenant code else countPort s d.lport code

/-- The level of a bucket at a moment, in millionths of a token: a rate in kpps adds its number each ns (R91); a bucket
that was never used is full (assumption 13). -/
def bucketLevel (b : Option Bucket) (rate burst : Nat) (t : Ns) : Nat :=
  match b with
  | none => burst * 1000000
  | some b => min (burst * 1000000) (b.level + rate * (t - b.since))

/-- A bucket whose rate or burst changes at a moment: it keeps its tokens up to the new burst (R95). -/
def retune (b : Option Bucket) (rate burst newBurst : Nat) (t : Ns) : Bucket :=
  ⟨min (newBurst * 1000000) (bucketLevel b rate burst t), t⟩

/-- Add one reference to a cell (R286, R289). -/
def shareCell (s : State) (h : Nat) : State :=
  match AMap.find s.cote.cells h with
  | none => s
  | some c => { s with cote := { s.cote with cells := AMap.put s.cote.cells h { c with refs := c.refs + 1 } } }

/-- Split bytes into pieces of at most 256 (R275); the fuel is the number of bytes. -/
def cellPieces : Nat → List Byte → List (List Byte)
  | 0, _ => []
  | _, [] => []
  | n + 1, bs => bs.take 256 :: cellPieces n (bs.drop 256)

/-- The DRAM lines of a far cell: 4 of the far buffer's (R275, R276; assumption 31). -/
def farLine (h : Nat) : Nat := 4 * (h - 2 ^ 27)

/-- A far cell's bytes written by port 19 (R301, R311): its whole lines are poisoned no more; what a partly written last line
would hold is lost while that is poisoned. -/
def writeFar (s : State) (h n : Nat) : State :=
  let s := requestTo s 19 deviceId (64 * farLine h) n
  let p := AMap.at s.dram.poison deviceId []
  let s := if n % 64 != 0 && p.contains (farLine h + n / 64) then poisonDrop s deviceId (64 * (farLine h + n / 64)) else s
  s.setDram { s.dram with poison := AMap.put s.dram.poison deviceId (p.filter (fun l => !(decide (farLine h ≤ l) && decide (l < farLine h + n / 64)))) }

/-- A new egress cell from a pool, charged to a tenant (R286, R288). -/
def newCell (s : State) (pool tenant : Nat) (data : List Byte) : State × Nat :=
  let p := s.cote.pool pool
  let h := freshHandle (bufferBase (poolFar p)) (s.cote.cells.filter (fun x => decide (bufferBase (poolFar p) ≤ x.1)))
  let p : Pool := { p.take with sharedUsed := p.sharedUsed + 1 }
  let c : Cell := { refs := 1, pool := pool, group := none, tenant := some tenant, data := data }
  let s := if poolFar p then writeFar s h data.length else s
  let s := devCount s 4 0 pool tenant 1
  (syncPool { s with cote := { s.cote with pools := AMap.put s.cote.pools pool p, cells := AMap.put s.cote.cells h c } } pool, h)

/-- New cells for bytes, as segments of a chain. -/
def newCells (s : State) (pool tenant : Nat) : List (List Byte) → State × List Seg
  | [] => (s, [])
  | d :: rest =>
    let r := newCell s pool tenant d
    let r' := newCells r.1 pool tenant rest
    (r'.1, ⟨r.2, 0, d.length⟩ :: r'.2)

/-- New egress cells that a tenant holds (R288). -/
def egressCellsOf (s : State) (tenant : Nat) : Nat := (s.cote.cells.filter (fun x => x.2.tenant == some tenant)).length

/-- Cells held by an egress queue: those of its frames, shared ones included (R287). -/
def queueCells (q : EQueue) : Nat := q.frames.foldl (fun n f => n + f.segs.length) 0

/-- The limit in force of an egress queue (R287): F × 2^(ALPHA − 8) with F the free shared cells of its pool. -/
def queueLimit (s : State) (q : EQueue) : Nat :=
  let alpha := fld q.buf 32 4
  let limit := fld q.buf 8 24
  let f := s.cote.sharedFree (fld q.buf 0 6)
  if alpha == 0 then limit else min limit (f * 2 ^ alpha / 256)

/-- EGRESS_CELLS of an owner's quota record (R350): bytes 40–43 of 128. -/
def quotaField (r : BitVec 1024) (byte width : Nat) : Nat := fld r (8 * (128 - byte - width)) (8 * width)

/-- The egress cell quota of an owner; a slot whose record is not written has none (R350). -/
def egressQuota (s : State) (tenant : Nat) : Nat :=
  match AMap.find s.trust.slots tenant with
  | none => if tenant == operatorId || tenant == deviceId then 134873088 else 0
  | some x => quotaField x.quota 40 4

/-- Why an egress frame does not fit: the queue or its pool, or the tenant's quota (R288). -/
def egressMisfit (s : State) (l q cells new tenant : Nat) : Option Nat :=
  let e := s.queue l q
  let pool := fld e.buf 0 6
  if egressCellsOf s tenant + new > egressQuota s tenant then some 0x14
  else if queueCells e + cells > queueLimit s e then some 0x13
  else if new > (s.cote.pool pool).cache || new > s.cote.sharedFree pool then some 0x13
  else none

/-- An egress record written for a frame lost after its packet has committed (R505). -/
def egressRecord (s : State) (f : EgressFrame) (reason : Nat) : State :=
  writeCompletion s
    { kind := 1, outcome := 1, reason := reason, programReason := 0, flags := b2n f.express * 8,
      tenant := f.tenant, priority := f.priority, domain := f.domain, seq := f.seq, context := f.ctx,
      program := f.program, time := ⟨0, 0⟩ } 0

/-- A frame dropped from its queue, a mirror copy or a frame of Legend's own like any other: references dropped, record
written (R56, R290, R505). -/
def dropFrame (reason : Nat) (s : State) (f : EgressFrame) : State :=
  egressRecord (releaseCells s (f.segs.map (·.cell))) f reason

/-- Counter of the frames that a pool could not hold (R293; assumption 19). -/
def poolDropId (pool : Nat) : Nat := cid 8 pool 1

/-- A frame that its egress queue did not take, in the drop counts of the queue and of its pool (R293; assumption 19). -/
def countQueueDrop (s : State) (l q : Nat) : State :=
  count (count s (cid 8 (0x400 + 8 * l + q) 0) 1) (poolDropId (fld (s.queue l q).buf 0 6)) 1

/-- Whether a logical port takes frames for transmission (R56). -/
def portOpen (s : State) (l : Nat) : Bool := (s.lport l).linkUp && adminUp (s.lport l)

/-- Put a frame at the tail of its queue; a port that is down drops it with LINK_DOWN (R53, R56). -/
def enqueueFrame (s : State) (l q : Nat) (f : EgressFrame) : State :=
  if portOpen s l then
    let e := s.queue l q
    let e := { e with frames := e.frames ++ [f] }
    s.setQueue l q { e with high := max e.high (queueCells e) }
  else dropFrame 0x31 s f

/-- Drop every frame of every queue of a logical port (R35, R56); a queue that empties keeps no credit (R53). -/
def drainQueues (reason : Nat) (s : State) (l : Nat) : State :=
  (List.range 8).foldl (fun s q =>
    let e := s.queue l q
    e.frames.foldl (dropFrame reason) (s.setQueue l q { e with frames := [] })) (s.setLport l { s.lport l with credit := [] })

/-- A frame of Legend's own, built in new cells of its queue's pool for the operator (R389); one that does not fit
is dropped by the port's egress policy. -/
def sendLegendFrame (s : State) (l q : Nat) (bytes : List Byte) : State :=
  let pieces := cellPieces bytes.length bytes
  let pool := fld (s.queue l q).buf 0 6
  match egressMisfit s l q pieces.length pieces.length operatorId with
  | some _ => countQueueDrop s l q
  | none =>
    let r := newCells s pool operatorId pieces
    enqueueFrame r.1 l q
      { len := bytes.length, segs := r.2, tenant := operatorId, program := 0,
        express := false, domain := 0, seq := 0, ctx := 0, priority := 6,
        staged := !poolFar (s.cote.pool pool) }

end Sys2Proof.Machine
end

