-- ==== Sys2Proof/Machine/Packets.lean ====
section
/-! DEFINITION. Command packets: the header, the status word, protection, the transports' outgoing queues
(R382–R389, R394, R402–R404, R421, R430, R456). -/

namespace Sys2Proof.Machine

/-- The header of a command packet (R382). -/
structure Header where
  magic : Nat
  version : Nat
  flags : Nat
  opcode : Nat
  tenant : Nat
  session : Nat
  seq : Nat
  length : Nat
  cookie : Nat
  deadline : Nat
  check : Nat
  deriving DecidableEq, Repr

/-- The header read from the first 32 bytes of a packet (R382). -/
def readHeader (b : List Byte) : Header :=
  { magic := beAt b 0 2, version := beAt b 2 1, flags := beAt b 3 1, opcode := beAt b 4 2, tenant := beAt b 6 2,
    session := beAt b 8 4, seq := beAt b 12 4, length := beAt b 16 4, cookie := beAt b 20 4, deadline := beAt b 24 4,
    check := beAt b 28 4 }

/-- The 28 bytes that CHECK covers. -/
def headerBody (h : Header) : List Byte :=
  beBytes 2 h.magic ++ beBytes 1 h.version ++ beBytes 1 h.flags ++ beBytes 2 h.opcode ++ beBytes 2 h.tenant ++
    beBytes 4 h.session ++ beBytes 4 h.seq ++ beBytes 4 h.length ++ beBytes 4 h.cookie ++ beBytes 4 h.deadline

/-- The 32 header bytes, CHECK computed (R382). -/
def headerBytes (h : Header) : List Byte := headerBody h ++ beBytes 4 (crc32c (headerBody h))

/-- The nonce of a kind and a sequence under a direction's IV (R384): kind 0 request, 1 reply, 2 acknowledgment,
3 notification. -/
def packetNonce (iv : BitVec 96) (kind seq : Nat) : BitVec 96 := iv ^^^ BitVec.ofNat 96 (kind * 2 ^ 32 + seq % 2 ^ 32)

/-- Text through AES-256-GCM, byte by byte (R384; assumption 4). -/
def gcmText (key : BitVec 256) (nonce : BitVec 96) (text : List Byte) : List Byte :=
  (List.range text.length).map (fun i => Config.gcmByte key nonce i text)

/-- A packet that the Myolne sends: protected in a session, in the clear with a zero tag in session 0 (R384). -/
def sealPacket (x : Option Session) (kind : Nat) (h : Header) (payload : List Byte) : List Byte :=
  let hd := headerBytes { h with length := payload.length }
  match x with
  | none => hd ++ payload ++ List.replicate 16 0
  | some x =>
    let n := packetNonce x.rspIv kind h.seq
    hd ++ gcmText x.rspKey n payload ++ beBytes 16 (Config.gcmTag x.rspKey n hd payload).toNat

/-- The 8-byte status word (R385). -/
def statusBytes (w : Status) : List Byte :=
  beBytes 2 w.code ++ beBytes 1 (b2n w.applied + 2 * b2n w.unknown + 4 * b2n w.extended) ++ beBytes 1 w.detailKind ++
    beBytes 4 w.detail

/-- A host function. -/
def State.func (s : State) (f : Nat) : HFunc := AMap.at s.host.funcs f .reset
/-- Replace a host function. -/
def State.setFunc (s : State) (f : Nat) (x : HFunc) : State :=
  { s with host := { s.host with funcs := AMap.put s.host.funcs f x } }
/-- A host link. -/
def State.link (s : State) (h : Nat) : HLink := AMap.at s.host.links h .reset
/-- Replace a host link. -/
def State.setLink (s : State) (h : Nat) (x : HLink) : State :=
  { s with host := { s.host with links := AMap.put s.host.links h x } }
/-- A USB interface. -/
def State.usbIf (s : State) (i : Nat) : UIface := AMap.at s.host.usb i .reset
/-- Replace a USB interface. -/
def State.setUsb (s : State) (i : Nat) (x : UIface) : State :=
  { s with host := { s.host with usb := AMap.put s.host.usb i x } }
/-- A Survey Bus reply queue. -/
def State.svyQueue (s : State) (c : Nat) : SvyQueue := AMap.at s.survey.queues c .reset
/-- Replace a Survey Bus reply queue. -/
def State.setSvyQueue (s : State) (c : Nat) (q : SvyQueue) : State :=
  { s with survey := { s.survey with queues := AMap.put s.survey.queues c q } }

/-- An index of FUNC_STATS advanced (R416). -/
def HFunc.bump (f : HFunc) (i : Nat) : HFunc := { f with stats := AMap.upd f.stats i 0 (· + 1) }

/-- Bytes of waiting packets. -/
def outBytes (l : List OutPkt) : Nat := l.foldl (fun n p => n + p.bytes.length) 0

/-- Keep at most 1 MiB of waiting packets, discarding the oldest (R421); each discard counts in `RBUF_STARVED`. -/
def HFunc.trim : Nat → HFunc → HFunc
  | 0, f => f
  | n + 1, f =>
    if outBytes f.out > 2 ^ 20 then HFunc.trim n (({ f with out := f.out.drop 1 } : HFunc).bump 3) else f

/-- Bytes of a Survey Bus reply queue (R454). -/
def svyBytes (q : SvyQueue) : Nat := outBytes (q.pkts.map (·.2))

/-- The token after one that is used; tokens are never 0 (R456). -/
def tokenAfter (t : Nat) : Nat := if t + 1 ≥ 2 ^ 32 then 1 else t + 1

/-- Waiting packets cut to 1 MiB, the oldest discarded (R421). -/
def trimWaiting : Nat → List OutPkt → List OutPkt
  | 0, l => l
  | n + 1, l => if outBytes l > 2 ^ 20 then trimWaiting n (l.drop 1) else l

/-- A packet added to a Survey Bus reply queue; a full queue makes it wait, with at most 1 MiB of waiting packets (R421, R454,
R456). -/
def SvyQueue.add (q : SvyQueue) (p : OutPkt) : SvyQueue :=
  if svyBytes q + p.bytes.length ≤ 2 ^ 18 && q.waiting.isEmpty then
    { q with pkts := q.pkts ++ [(q.nextToken, p)], nextToken := tokenAfter q.nextToken }
  else
    let waiting := trimWaiting (q.waiting.length + 1) (q.waiting ++ [p])
    { q with waiting := waiting, starved := q.starved + (q.waiting.length + 1 - waiting.length) }

/-- A packet added to a USB outgoing queue of at most 256 KiB; a full queue makes it wait, with at most 1 MiB of waiting packets
(R421, R430). -/
def UIface.add (u : UIface) (p : OutPkt) : UIface :=
  if u.discard then u
  else if outBytes u.out + p.bytes.length ≤ 2 ^ 18 && u.waiting.isEmpty then { u with out := u.out ++ [p] }
  else
    let waiting := trimWaiting (u.waiting.length + 1) (u.waiting ++ [p])
    { u with waiting := waiting, starved := u.starved + (u.waiting.length + 1 - waiting.length) }

/-- A packet that waits for a function in D3hot sets PME_Status, and sends a PME message when PME_En is set (R426). -/
def HFunc.notePme (f : HFunc) : HFunc :=
  if f.d3hot && !f.out.isEmpty && !f.pmeStatus then { f with pmeStatus := true, pmes := f.pmes + b2n f.pmeEnable } else f

/-- PCIE_WAKE_N is asserted while a link in L2 has a waiting packet (R426). -/
def wakeWanted (h : HostPorts) : Bool :=
  h.links.any (fun x => x.2.l2 && h.funcs.any (fun f => f.1 / 1024 == x.1 && !f.2.out.isEmpty))

/-- The fragments of an in-band packet: index, and the bytes of each (R387). -/
def fragments (room : Nat) : Nat → Nat → List Byte → List (Nat × List Byte)
  | 0, _, _ => []
  | _, _, [] => []
  | n + 1, i, bs => (i, bs.take room) :: fragments room n (i + 1) (bs.drop room)

/-- The frames of an in-band packet (R387, R389): addresses, the request's tags, ETYPE, shim, fragment. -/
def inbandFrames (s : State) (l : Nat) (mac : BitVec 48) (tags : List (BitVec 32)) (tag : Nat) (bytes : List Byte) :
    List (List Byte) :=
  let p := s.lport l
  let hd := beBytes 6 mac.toNat ++ beBytes 6 (fld p.map 64 48) ++ (tags.map (fun t => beBytes 4 t.toNat)).flatten ++
    beBytes 2 (fld p.inband 16 16)
  let room := maxFrame p - 4 - hd.length - 4
  let fs := fragments room 64 0 bytes
  fs.map (fun f => hd ++ beBytes 2 tag ++ beBytes 1 f.1 ++ beBytes 1 fs.length ++ f.2)

/-- Hand a packet to the transport and address it goes to (R386, R389, R421, R425, R430, R454). -/
def release (s : State) (via : Via) (p : OutPkt) : State :=
  match via with
  | .pcie fn =>
    let f := s.func fn
    let f := if f.discard then f.bump 2 else (({ f with out := f.out ++ [p] } : HFunc).trim (f.out.length + 1))
    let f := f.notePme
    let s := s.setFunc fn f
    { s with host := { s.host with wakeN := wakeWanted s.host } }
  | .inband l mac tags =>
    let frames := inbandFrames s l mac tags (s.legend.fragTag % 65536) p.bytes
    let s := { s with legend := { s.legend with fragTag := s.legend.fragTag + 1 } }
    frames.foldl (fun s b => sendLegendFrame s l (fld (s.lport l).inband 1 3) b) s
  | .survey c => s.setSvyQueue c ((s.svyQueue c).add p)
  | .usb i => s.setUsb i ((s.usbIf i).add p)

/-- A session. -/
def State.session (s : State) (id : Nat) : Option Session := AMap.find s.legend.sessions id
/-- Replace a session. -/
def State.setSession (s : State) (id : Nat) (x : Session) : State :=
  { s with legend := { s.legend with sessions := AMap.put s.legend.sessions id x } }
/-- Replace a command in flight. -/
def State.setEntry (s : State) (acc : Nat) (e : Entry) : State :=
  { s with legend := { s.legend with flight := AMap.put s.legend.flight acc e } }

/-- The header of what the Myolne sends for a request (R385). -/
def replyHeader (e : Entry) (flags deadline : Nat) : Header :=
  { magic := 0x4D59, version := 1, flags := flags, opcode := e.opcode, tenant := e.tenant, session := e.session,
    seq := e.seq, length := 0, cookie := e.cookie, deadline := deadline, check := 0 }

/-- The microseconds that a command's deadline has left (R382). -/
def remainingUs (s : State) (e : Entry) : Nat := if e.limit == 0 then 0 else (e.deadline - now s) / 1000

/-- The live session of a command: none in session 0, and none once that session has ended (R359). -/
def State.sessionOf (s : State) (e : Entry) : Option Session :=
  if e.session == 0 || e.heir.isSome then none else s.session e.session

/-- Where the packets of a command go (R386, R454): to the transport of its request, on the Survey Bus to the controller from
which the session's most recent accepted request came. -/
def replyVia (s : State) (e : Entry) : Via :=
  let last : Option Via := (s.sessionOf e).map (fun x => x.via)
  match e.via, last with
  | .survey _, some (.survey c) => .survey c
  | v, _ => v

/-- The acknowledgment of a command (R402): at most one, never after the final reply; none goes out in an orphan's case (R432),
and none can be protected once the session has ended (R384, R404). -/
def acknowledge (s : State) (acc : Nat) (e : Entry) : State :=
  if e.session != 0 && (s.sessionOf e).isNone then s
  else
    let bytes := sealPacket (s.sessionOf e) 2 (replyHeader e 3 (remainingUs s e)) (statusBytes ⟨1, false, false, false, 0, 0⟩)
    let s := s.setEntry acc { e with ack := some bytes }
    if e.orphan then s else release s (replyVia s e) ⟨bytes, now s, e.session, e.seq, false⟩

/-- Keep final replies to at most 256 KiB, the oldest released first (R394). -/
def keepReply : Nat → List (Nat × List Byte) → List (Nat × List Byte)
  | 0, l => l
  | n + 1, l => if l.foldl (fun m p => m + p.2.length) 0 > 2 ^ 18 then keepReply n (l.drop 1) else l

/-- The kept replies of the last 64 sequences, H − 63 to H (R394). -/
def keptWindow (high : Nat) (l : List (Nat × List Byte)) : List (Nat × List Byte) :=
  l.filter (fun k => decide (high < k.1 + 64))

/-- The last `n` items of a list. -/
def lastN {α : Type} (n : Nat) (l : List α) : List α := l.drop (l.length - n)

/-- A USB interface given a final reply for its orphan slot, or the reply counted lost (R432, R433). -/
def UIface.orphanReply (u : UIface) (acc : Nat) (p : OutPkt) : UIface :=
  if u.orphanPending == some acc then { u with orphan := some p, orphanPending := none }
  else { u with orphanLost := u.orphanLost + 1 }

/-- Send a final reply where it belongs: the orphan slot, or the transport of the request (R386, R432). -/
def deliverReply (s : State) (acc : Nat) (e : Entry) (p : OutPkt) : State :=
  match e.orphan, e.via with
  | true, .usb i =>
    let u := (s.usbIf i).orphanReply acc p
    let lost := u.orphanLost != (s.usbIf i).orphanLost
    let s := s.setUsb i u
    if lost then raiseDev s 0x444 1 0 else s
  | _, _ => release s (replyVia s e) p

/-- The orphan-reply slot no longer waits for a command whose status goes elsewhere (R404, R432). -/
def clearOrphan (s : State) (acc : Nat) (e : Entry) : State :=
  match e.orphan, e.via with
  | true, .usb i =>
    let u := s.usbIf i
    if u.orphanPending == some acc then s.setUsb i { u with orphanPending := none } else s
  | _, _ => s

/-- Whether the deadline of a command has passed before its commit point (R400). -/
def pastDeadline (s : State) (e : Entry) : Bool := e.limit != 0 && !e.committed && decide (now s ≥ e.deadline)

/-- The owner whose orphan log takes the status of a command whose session has ended (R404); of an ownerless session, the log
under its label (R395; assumption 50). -/
def orphanOwner (e : Entry) : Nat := ((e.heir.map (·.owner)).getD none).getD e.tenant

/-- End a command with its one final status (R385, R391, R394, R404). -/
def endCommand (s : State) (acc : Nat) (w : Status) (data : List Byte) : State :=
  match AMap.find s.legend.flight acc with
  | none => s
  | some e =>
    let w := { w with extended := w.extended || e.extended }
    let s := { s with legend := { s.legend with flight := AMap.del s.legend.flight acc } }
    if e.session == 0 then
      let bytes := sealPacket none 1 (replyHeader e 1 0) (statusBytes w ++ data)
      deliverReply s acc e ⟨bytes, now s, 0, e.seq, true⟩
    else match s.sessionOf e with
      | none =>
        let o := orphanOwner e
        let s := clearOrphan s acc e
        let log := AMap.at s.legend.orphanLogs o []
        { s with legend := { s.legend with
            orphanLogs := AMap.put s.legend.orphanLogs o (lastN 4096 (log ++ [(e.session, e.seq, w)])) } }
      | some x =>
        let bytes := sealPacket (some x) 1 (replyHeader e 1 0) (statusBytes w ++ data)
        let kept := keptWindow x.high (x.kept ++ [(e.seq, bytes)])
        let x := { x with kept := keepReply kept.length kept, log := lastN 4096 (x.log ++ [(e.seq, w)]) }
        deliverReply (s.setSession e.session x) acc e ⟨bytes, now s, e.session, e.seq, true⟩

/-- A status with nothing beside its code. -/
def plain (code : Nat) (applied : Bool) : Status := ⟨code, applied, false, false, 0, 0⟩

/-- A failure with a detail (R385). -/
def failWith (code kind detail : Nat) : Status := ⟨code, false, false, false, kind, detail⟩

/-- A notification to one session (R393, R403): none once its counter is used up. -/
def notify (s : State) (id : Nat) (x : Session) (opcode cookie : Nat) (payload : List Byte) : State :=
  if x.notif ≥ 0xFFFFFFFF then s
  else
    let x := { x with notif := x.notif + 1 }
    let h : Header := { magic := 0x4D59, version := 1, flags := 0, opcode := opcode, tenant := x.owner.getD operatorId,
                        session := id, seq := x.notif, length := 0, cookie := cookie, deadline := 0, check := 0 }
    release (s.setSession id x) x.via ⟨sealPacket (some x) 3 h payload, now s, id, x.notif, false⟩

end Sys2Proof.Machine
end

