-- ==== Sys2Proof/Machine/Fabric.lean ====
section
/-! DEFINITION. The event fabric: holdoffs, records, queues, targets (R489–R496). -/

namespace Sys2Proof.Machine

/-- EVENT_ROUTE of a source; SURVEY, TELEMETRY and EN are forced for the containment sources (R493). -/
def routeOf (s : State) (source : Nat) : BitVec 64 :=
  let r := AMap.at s.events.routes source (eventRouteReset source)
  if source / 16 == 0x50 then r ||| BitVec.ofNat 64 (1 + 2 ^ 19 + 2 ^ 20) else r

/-- Owner group of a source whose records belong to an owner (R492); none for a Device source. -/
def ownerGroup (source : Nat) : Option Nat :=
  if 0x060 ≤ source && source ≤ 0x09F then some 4
  else if 0x100 ≤ source && source ≤ 0x1FF then
    (if source % 16 == 8 then some 6 else if source % 16 == 9 then some 0 else none)
  else if 0x241 ≤ source && source ≤ 0x243 then some 1
  else if 0x3C2 ≤ source && source ≤ 0x3C5 then some 2
  else if source == 0x3C6 then some 3
  else if 0x510 ≤ source && source ≤ 0x51F then some 5
  else none

/-- MSI-X entries that the PF of a link holds in a strap mode (R423). -/
def pfVectors (strap link : Nat) : Nat :=
  match strap with
  | 0 => if link == 0 then 512 else 0
  | 1 => if link < 2 then 256 else 0
  | 2 => if link == 0 then 256 else if link < 3 then 128 else 0
  | _ => 128

/-- Links that a strap mode provides (R413). -/
def strapLinks : Nat → Nat
  | 0 => 1
  | 1 => 2
  | 2 => 3
  | _ => 4

/-- An MSI-X table entry; the mask of an entry never written is set, as PCI Express resets it (assumption 22). -/
def msixEntry (f : HFunc) (v : Nat) : BitVec 128 := AMap.at f.msixTable v (BitVec.ofNat 128 (2 ^ 96))

/-- Signal an MSI-X entry: sent, or its pending bit set while it is masked or MSI-X is disabled (R423). -/
def signalMsix (s : State) (fn v : Nat) : State :=
  let f := s.func fn
  if f.msixEnable && !bit (msixEntry f v) 96 then s.setFunc fn { f with msixSent := v :: f.msixSent }
  else s.setFunc fn { f with msixPending := if f.msixPending.contains v then f.msixPending else v :: f.msixPending }

/-- Home link of a tenant, 0xFF for none (R350, R415). -/
def homeLink (s : State) (tenant : Nat) : Nat :=
  match AMap.find s.trust.slots tenant with
  | none => 0xFF
  | some x => quotaField x.quota 2 1

/-- Whether the tenant's slot is not FREE. -/
def slotUsed (s : State) (tenant : Nat) : Bool :=
  match AMap.find s.trust.slots tenant with
  | none => false
  | some x => x.state != .free

/-- Whether a function is live: a PF of a link of the strap mode, or the VF of a tenant on its home link (R415). -/
def fnLive (s : State) (fn : Nat) : Bool :=
  let l := fn / 1024
  let k := fn % 1024
  decide (l < strapLinks s.host.strap) && (k == 0 || (homeLink s (k - 1) == l && slotUsed s (k - 1)))

/-- The function of a tenant's live VF, if it has one. -/
def liveVf (s : State) (tenant : Nat) : Option Nat :=
  let fn := 1024 * homeLink s tenant + tenant + 1
  if homeLink s tenant < 4 && fnLive s fn then some fn else none

/-- The 40 bytes of an event entry for a supervisor's fault queue, as one number (R495). -/
def supervisorEntry (r : EventRec) : Nat :=
  placeFields [(128, r.source), (144, r.code), (160, r.coalesced), (192, r.time.epoch), (224, r.time.ns)]

/-- A Pan. -/
def State.pan (s : State) (p : Nat) : Pan := AMap.at s.pans p .reset
/-- Replace a Pan. -/
def State.setPan (s : State) (p : Nat) (x : Pan) : State := { s with pans := AMap.put s.pans p x }

/-- Counter of `EVENT_LOST` of an owner and of `TELEMETRY_LOST` (R495, R496; assumption 19). -/
def eventLostId (owner : Nat) : Nat := cid 5 owner 0xD00
/-- Counter of `TELEMETRY_LOST` of an owner (R496; assumption 19). -/
def telemetryLostId (owner : Nat) : Nat := cid 5 owner 0xD01

/-- Records that an owner's telemetry part can hold (R338): 4 GiB for the operator and the device; a tenant's quota, within the
56 GiB that all tenants' parts share: where those are full, the writer's own part gives way (assumption 101). -/
def teleRoom (s : State) (part : Nat) : Nat :=
  if part == operatorId then 2 ^ 26
  else match AMap.find s.trust.slots part with
    | none => 0
    | some x =>
      let others := s.stk.telemetry.foldl (fun n p => if p.1 == part || p.1 == operatorId then n else n + p.2.recs.length) 0
      min (quotaField x.quota 56 2 * 2 ^ 14) (56 * 2 ^ 24 - others)

/-- A telemetry record appended to an owner's part (R338); kinds 2 to 4 at most 1,000 a second (R496); a module
without the flash tier has no telemetry (R3, R347). -/
def telemetryWrite (s : State) (owner kind source payload : Nat) : State :=
  let part := if owner == deviceId then operatorId else owner
  if !s.ident.flash || !stkOpen s then s
  else
    let sec := now s / 1000000000
    let r := AMap.at s.events.telemetryRate part (sec, 0)
    let used := if r.1 == sec then r.2 else 0
    let limited := kind == 2 || kind == 3 || kind == 4
    if limited && used ≥ 1000 then count s (telemetryLostId part) 1
    else
      let p := AMap.at s.stk.telemetry part ⟨[], 0⟩
      let t : TeleRec := { time := stamp s, owner := owner, kind := kind, source := source, seq := p.seq, payload := payload }
      { s with
        stk := { s.stk with telemetry := AMap.put s.stk.telemetry part ⟨lastN (teleRoom s part) (p.recs ++ [t]), (p.seq + 1) % 2 ^ 32⟩ },
        events := { s.events with telemetryRate :=
          if limited then AMap.put s.events.telemetryRate part (sec, used + 1) else s.events.telemetryRate } }

/-- The 64 bytes of an event record (R489). -/
def eventBytes (r : EventRec) : List Byte :=
  beBytes 4 r.time.epoch ++ beBytes 8 r.time.ns ++ beBytes 2 r.source ++ beBytes 2 r.owner ++ beBytes 2 r.code ++
    beBytes 2 (b2n r.lost) ++ beBytes 4 r.coalesced ++ beBytes 40 r.data

/-- The sessions of an owner, established ones. -/
def sessionsOf (s : State) (owner : Nat) : List Nat :=
  (s.legend.sessions.filter (fun x => x.2.owner == some owner && x.2.established)).map (·.1)

/-- Records an owner's queue holds at most (R495). -/
def queueRoom (owner : Nat) : Nat := if owner == operatorId then 4096 else 1024

/-- Notify every session of an owner of a record; the record leaves the queue when one session takes it (R495). -/
def notifyOwner (s : State) (owner : Nat) (r : EventRec) : State :=
  let takes := (sessionsOf s owner).filter (fun id =>
    match s.session id with | none => false | some x => decide (x.notif < 0xFFFFFFFF))
  if takes.isEmpty || !legendUp s then s
  else
    let s := takes.foldl (fun s id =>
      match s.session id with
      | none => s
      | some x => notify s id x 0x0A10 0 (eventBytes r)) s
    let q := AMap.at s.events.queues owner ⟨[], false⟩
    { s with events := { s.events with queues := AMap.put s.events.queues owner { q with recs := q.recs.dropLast } } }

/-- Post an event entry to a Pan's fault queue (R495). -/
def postSupervisor (s : State) (pan owner : Nat) (r : EventRec) : State :=
  let p := s.pan pan
  if p.faultQueue.length ≥ 64 then count s (eventLostId owner) 1
  else s.setPan pan { p with faultQueue := p.faultQueue ++ [(supervisorEntry r, 0)] }

/-- The targets of a Device or operator record beside its queue (R493). -/
def operatorTargets (s : State) (r : EventRec) : State :=
  let route := routeOf s r.source
  let link := fld route 3 2
  let s := if bit route 1 then notifyOwner s operatorId r else s
  let s := if bit route 2 && link < strapLinks s.host.strap && fld route 5 9 < pfVectors s.host.strap link
    then signalMsix s (1024 * link) (fld route 5 9) else s
  let s := if bit route 14 then postSupervisor s (fld route 15 4) operatorId r else s
  let s := if bit route 19 then { s with survey := { s.survey with eventCause := true } } else s
  if bit route 20 then
    telemetryWrite s r.owner (if r.source / 16 == 0x50 then 5 else 2) r.source
      (if r.source / 16 == 0x50 then r.data / 2 ^ 32 else beNat ((eventBytes r).drop 16 |>.take 36))
  else s

/-- The targets of a tenant's record (R494). -/
def tenantTargets (s : State) (r : EventRec) : State :=
  let g := (ownerGroup r.source).getD 0
  let route := AMap.at s.events.ownerRoutes r.owner ownerRouteReset
  let s := if bit route (4 * g) then notifyOwner s r.owner r else s
  let sig (s : State) (i : Nat) : State :=
    if bit route (4 * g + i) then match liveVf s r.owner with | none => s | some fn => signalMsix s fn i else s
  let s := sig (sig s 1) 2
  if bit route (4 * g + 3) then
    telemetryWrite s r.owner 2 r.source (beNat ((eventBytes r).drop 16 |>.take 36))
  else s

/-- A record enters its owner's queue and its targets act; a full queue loses it (R493–R495). -/
def emitRecord (s : State) (r : EventRec) : State :=
  let toOperator := r.owner == operatorId || r.owner == deviceId
  let qo := if toOperator then operatorId else r.owner
  if toOperator && !bit (routeOf s r.source) 0 then s
  else
    let q := AMap.at s.events.queues qo ⟨[], false⟩
    if q.recs.length ≥ queueRoom qo then
      let s := { s with events := { s.events with queues := AMap.put s.events.queues qo { q with lostNext := true } } }
      raiseDev (count s (eventLostId qo) 1) 0x4C2 1 (dataBytes 2 qo)
    else
      let r := { r with lost := q.lostNext }
      let s := { s with events := { s.events with queues := AMap.put s.events.queues qo ⟨q.recs ++ [r], false⟩ } }
      if toOperator then operatorTargets s r else tenantTargets s r

/-- A trigger reaches a capture ring (R335). -/
def triggerRing (s : State) (ring : Nat) : State :=
  match AMap.find s.stk.rings ring with
  | none => s
  | some x =>
    if x.state == .armed && fld x.cfg 12 2 == 2 then
      let x' : Ring := { x with state := .triggered, since := 0, trigNext := true }
      raise { s with stk := { s.stk with rings := AMap.put s.stk.rings ring x' } } 0x3C6 (fld x.cfg 0 12) 1 (dataBytes 4 ring)
    else count s (cid 9 ring 1) 1

/-- The rings whose trigger is of a kind and value (R334). -/
def ringsOn (s : State) (kind value : Nat) : List Nat :=
  (s.stk.rings.filter (fun x => fld x.2.cfg 32 2 == kind && fld x.2.cfg 34 11 == value)).map (·.1)

/-- A program event of an owner's program (R335, R492): it triggers the owner's rings of its code, and is raised. -/
def programEvent (s : State) (owner n data : Nat) : State :=
  let mine (r : Nat) : Bool := ((AMap.find s.stk.rings r).map (fun k => fld k.cfg 0 12)) == some owner
  raise (((ringsOn s 1 n).filter mine).foldl triggerRing s) (0x510 + n) owner 1 data

/-- Key of a (source, owner) pair. -/
def pairKey (source owner : Nat) : Nat := 4096 * source + owner

/-- One raising handled: counted, then a record at once or gathered in the holdoff (R490, R491). -/
def handleRaising (s : State) (r : Raising) : State :=
  let s := if r.copy then s else count s (cid 10 0 r.source) 1
  let s := if r.copy then s else (ringsOn s 2 r.source).foldl triggerRing s
  let key := pairKey r.source r.owner
  let us := fld (routeOf s r.source) 32 16
  let held := match AMap.find s.events.holdoffs key with
    | none => none
    | some h => if now s < h.until_ || h.gathered > 0 then some h else none
  match held with
  | some h =>
    let h' : Holdoff := { h with gathered := h.gathered + 1, code := r.code, data := r.data, time := stamp s }
    { s with events := { s.events with holdoffs := AMap.put s.events.holdoffs key h' } }
  | none =>
    let s := if us == 0 then s
      else { s with events := { s.events with holdoffs := AMap.put s.events.holdoffs key ⟨now s + us * 1000, 0, 0, 0, ⟨0, 0⟩⟩ } }
    emitRecord s { time := stamp s, source := r.source, owner := r.owner, code := r.code, lost := false, coalesced := 1, data := r.data }

/-- Handle the raisings that are due; a raising made while they are handled comes in the next round. -/
def settleRounds : Nat → State → State
  | 0, s => s
  | n + 1, s =>
    match s.events.due with
    | [] => s
    | due => settleRounds n (due.foldl handleRaising { s with events := { s.events with due := [] } })

/-- A completion record whose outcome its owner has chosen goes to that owner's telemetry (R496). -/
def recordTelemetry (s : State) (c : Completion) : State :=
  if (AMap.at s.events.telemetrySelect c.tenant []).contains c.outcome then
    telemetryWrite s c.tenant 4 0xFFFF (completionRecord c * 2 ^ 32)
  else s

/-- What a command has raised and recorded is handled (R489, R496); what is left after the last round of raisings waits
for the next command. -/
def settle (s : State) : State :=
  let recs := s.events.dueRecords
  settleRounds 4 (recs.foldl recordTelemetry { s with events := { s.events with dueRecords := [] } })

/-- A holdoff ends: the gathered raisings produce one record (R490). -/
def endHoldoff (s : State) (source owner : Nat) : State :=
  let key := pairKey source owner
  match AMap.find s.events.holdoffs key with
  | none => s
  | some h =>
    if now s < h.until_ then s
    else
      let s := { s with events := { s.events with holdoffs := AMap.del s.events.holdoffs key } }
      if h.gathered == 0 then s
      else
        let us := fld (routeOf s source) 32 16
        let s := if us == 0 then s
          else { s with events := { s.events with holdoffs := AMap.put s.events.holdoffs key ⟨now s + us * 1000, 0, 0, 0, ⟨0, 0⟩⟩ } }
        emitRecord s { time := h.time, source := source, owner := owner, code := h.code, lost := false, coalesced := h.gathered, data := h.data }

end Sys2Proof.Machine
end

