-- ==== Sys2Proof/Machine/Mem.lean ====
section
/-! DEFINITION. The memories a thread reaches: local stores, packet windows, Pan SRAM, DRAM (R122, R126-R129, R143). -/

namespace Sys2Proof.Machine

/-- A thread by its `TID` [11:0]. -/
def State.thread (s : State) (t : Nat) : Thread := AMap.at s.threads t .idle
/-- Replace a thread. -/
def State.setThread (s : State) (t : Nat) (x : Thread) : State := { s with threads := AMap.put s.threads t x }
/-- A packet context in use. -/
def State.ctx? (s : State) (c : Nat) : Option Ctx := AMap.find s.meridian.ctxs c
/-- Replace a packet context. -/
def State.setCtx (s : State) (c : Nat) (x : Ctx) : State :=
  { s with meridian := { s.meridian with ctxs := AMap.put s.meridian.ctxs c x } }
/-- Replace the order engine. -/
def State.setMeridian (s : State) (m : Meridian) : State := { s with meridian := m }
/-- Pan of a thread (R133). -/
def tidPan (t : Nat) : Nat := t / 256
/-- Core of a thread: 0–29 PE, 30–31 CC (R133). -/
def tidCore (t : Nat) : Nat := t / 8 % 32
/-- Thread number within its core (R133). -/
def tidThread (t : Nat) : Nat := t % 8
/-- Whether a thread runs on a control core. -/
def onCc (t : Nat) : Bool := decide (tidCore t ≥ 30)

/-- The packet context of a thread's task. -/
def Thread.ctxId (x : Thread) : Option Nat :=
  match x.task with
  | .packet c => some c
  | _ => none

/-- A byte of a memory whose unlisted bytes read 0. -/
def Memory.get (m : Memory) (a : Nat) : Byte := AMap.at m a 0
/-- A byte written to such a memory, in canonical form: a zero is not listed. -/
def Memory.set (m : Memory) (a : Nat) (b : Byte) : Memory := if b = 0 then AMap.del m a else AMap.put m a b
/-- The canonical form: addresses strictly rising, and no entry equal to what an unlisted address reads as. -/
def Memory.wf : Memory → Bool
  | [] => true
  | [(_, b)] => b != 0
  | (a, b) :: (a', b') :: rest => b != 0 && decide (a < a') && Memory.wf ((a', b') :: rest)
/-- Bytes written from an address on. -/
def Memory.setBytes (m : Memory) (a : Nat) : List Byte → Memory
  | [] => m
  | b :: rest => Memory.setBytes (Memory.set m a b) (a + 1) rest

/-- A reference moved on by some bytes. -/
def MemRef.plus (r : MemRef) (k : Nat) : MemRef :=
  match r with
  | .localStore t o => .localStore t (o + k)
  | .window c o => .window c (o + k)
  | .sram p o => .sram p (o + k)
  | .dram t o => .dram t (o + k)

/-- One byte of memory. A byte of a local store that its run has not written is free (R108, R127; assumption 3). -/
def readByte (s : State) : MemRef → Byte
  | .localStore t o => AMap.at (s.thread t).store o (Config.freeByte (s.thread t).localNum o)
  | .window c o => match s.ctx? c with | none => 0 | some x => Memory.get x.window o
  | .sram p o => Memory.get (s.pan p).sram o
  | .dram t o => Memory.get (AMap.at s.dram.content t []) o

/-- Bytes of memory. -/
def readBytes (s : State) (r : MemRef) (n : Nat) : List Byte := (List.range n).map (fun k => readByte s (r.plus k))

/-- The little-endian number in memory (R122). -/
def readMem (s : State) (r : MemRef) (n : Nat) : Nat := leNat (readBytes s r n)

/-- Block −2 to 61 of a window offset (R286). -/
def windowBlock (o : Nat) : Int := (o / 256 : Nat) - 2

/-- One byte written; a store to the window marks its block dirty (R286). -/
def writeByte (s : State) (r : MemRef) (b : Byte) : State :=
  match r with
  | .localStore t o => s.setThread t { s.thread t with store := AMap.put (s.thread t).store o b }
  | .window c o =>
    match s.ctx? c with
    | none => s
    | some x => s.setCtx c { x with
        window := Memory.set x.window o b,
        dirty := if x.dirty.contains (windowBlock o) then x.dirty else windowBlock o :: x.dirty }
  | .sram p o => s.setPan p { s.pan p with sram := Memory.set (s.pan p).sram o b }
  | .dram t o => s.setDram { s.dram with content := AMap.put s.dram.content t (Memory.set (AMap.at s.dram.content t []) o b) }

/-- Bytes written. -/
def writeBytes (s : State) (r : MemRef) : List Byte → State
  | [] => s
  | b :: rest => writeBytes (writeByte s r b) (r.plus 1) rest

/-- A number written, little-endian (R122). -/
def writeMem (s : State) (r : MemRef) (n v : Nat) : State := writeBytes s r (leBytes n v)

/-- Whether a 64-byte line of an owner's DRAM that an access touches is poisoned (R311); during a device zeroize every
access through the XTS engines fails (R368). -/
def poisoned (s : State) (r : MemRef) (n : Nat) : Bool :=
  match r with
  | .dram t o => s.trust.zeroizing.isSome || (AMap.at s.dram.poison t []).any (fun l => decide (l * 64 < o + n) && decide (o < l * 64 + 64))
  | _ => false

/-- What an address names to a thread: memory, a record byte, or the fault it raises. -/
inductive Place where
  | ref (r : MemRef)
  | record (off : Nat)            -- 0–31 the parse record, 32–63 the classification result
  | bad (code : Nat)
  deriving DecidableEq, Repr

/-- Size of a thread's data local store (R126). -/
def localSize (t : Nat) : Nat := if onCc t then 0x10000 else 0x4000

/-- Whether a `BOUNDx` value permits an access at a level (R129, R135). -/
def boundPermits (v : Word) (level off size : Nat) (write : Bool) : Bool :=
  let base := fld v 0 23
  let end_ := fld v 23 23
  let bitNo := (if level == 2 then 46 else 48) + b2n write
  decide (base ≤ off) && decide (off + size ≤ end_) && bit v bitNo

/-- A stored CSR in effect (R130). -/
def Thread.csr (x : Thread) (n : Nat) : Word := AMap.at x.csrs n 0

/-- Number of the DRAM window that holds an address, and the offset in it (R126). -/
def dramWindow (a : Nat) : Option (Nat × Nat) :=
  if a < 0x100000000 then none
  else
    let i := (a - 0x100000000) / 0x4000000000
    if i < 4 then some (i, (a - 0x100000000) % 0x4000000000) else none

/-- Where a byte of Pan SRAM is held: the last 320 KiB hold, for each of the four CC threads in turn, the 64 KiB of its local
store and the 16 KiB of its packet window (R126, R127; assumption 89). -/
def sramHome (s : State) (pan off : Nat) : MemRef :=
  if off < 0x3B0000 || 0x400000 ≤ off then .sram pan off
  else
    let o := off - 0x3B0000
    let t := 256 * pan + [240, 241, 248, 249].getD (o / 0x14000) 0
    let i := o % 0x14000
    if i < 0x10000 then .localStore t i
    else match (s.thread t).ctxId with
      | some c => .window c (i - 0x10000)
      | none => .sram pan off

/-- Where a reference's byte is held. -/
def homeOf (s : State) : MemRef → MemRef
  | .sram p o => sramHome s p o
  | r => r

/-- Where an access of a thread goes, or its fault (R126–R129); `ctxFault` is the code for a missing packet context. -/
def place (s : State) (x : Thread) (t a size : Nat) (write : Bool) : Place :=
  if a + size ≤ localSize t then .ref (.localStore t a)
  else if 0xFFFC0 ≤ a && a + size ≤ 0x100000 then
    (if x.ctxId.isNone then .bad 0x15 else if write then .bad 0x06 else .record (a - 0xFFFC0))
  else if 0x100000 ≤ a && a + size ≤ 0x104000 then
    (match x.ctxId with | none => .bad 0x15 | some c => .ref (.window c (a - 0x100000)))
  else if 0x1000000 ≤ a && a + size ≤ 0x1400000 then
    let off := a - 0x1000000
    if x.level == 0 then .ref (sramHome s (tidPan t) off)
    else if a ≥ 0x13B0000 then .bad 0x05
    else if (List.range 4).any (fun i => boundPermits (x.csr (0x30 + i)) x.level off size write) then .ref (.sram (tidPan t) off)
    else .bad 0x05
  else match dramWindow a with
    | none => .bad 0x05
    | some (i, off) =>
      let base := x.csr (0x40 + 2 * i)
      let limit := fld (x.csr (0x41 + 2 * i)) 12 26
      let target := fld base 12 26 * 4096 + off
      if limit != 0 && off + size ≤ limit * 4096 && bit base (b2n write) && target + size ≤ AMap.at s.dram.alloc x.tenant 0
      then .ref (.dram x.tenant target) else .bad 0x05

/-- A byte of the parse record and the classification result of a context (R75, R90). -/
def recordByte (s : State) (x : Thread) (off : Nat) : Byte :=
  match x.ctxId with
  | none => 0
  | some c =>
    match s.ctx? c with
    | none => 0
    | some k => BitVec.ofNat 8 (if off < 32 then fld k.desc.parse (8 * off) 8 else fld k.desc.cls (8 * (off - 32)) 8)

/-- The number that a place holds, little-endian. -/
def readPlace (s : State) (x : Thread) (p : Place) (n : Nat) : Nat :=
  match p with
  | .ref r => readMem s r n
  | .record off => leNat ((List.range n).map (fun k => recordByte s x (off + k)))
  | .bad _ => 0

/-- The lock unit's list that tracks a word: a Pan's, or the DRAM stacks' (R232). -/
def lockList (s : State) (r : MemRef) : List Lock :=
  match r with
  | .sram p _ => (s.pan p).locks
  | _ => s.dram.locks
/-- Replace that list. -/
def setLockList (s : State) (r : MemRef) (l : List Lock) : State :=
  match r with
  | .sram p _ => s.setPan p { s.pan p with locks := l }
  | _ => s.setDram { s.dram with locks := l }

/-- The offset of a reference in its memory. -/
def MemRef.off : MemRef → Nat
  | .localStore _ o => o
  | .window _ o => o
  | .sram _ o => o
  | .dram _ o => o

/-- Whether two references lie in one memory. -/
def MemRef.sameMemory (a b : MemRef) : Bool :=
  match a, b with
  | .localStore t _, .localStore u _ => t == u
  | .window t _, .window u _ => t == u
  | .sram t _, .sram u _ => t == u
  | .dram t _, .dram u _ => t == u
  | _, _ => false

/-- Whether two ranges of bytes overlap. -/
def overlaps (a : MemRef) (n : Nat) (b : MemRef) (m : Nat) : Bool :=
  a.sameMemory b && decide (a.off < b.off + m) && decide (b.off < a.off + n)

/-- The lock units' list that an access may meet: of the Pan whose SRAM holds its bytes, or of the DRAM stacks. -/
def locksNear (s : State) : MemRef → List Lock
  | .localStore t _ => (s.pan (tidPan t)).locks
  | .window c _ => (s.pan (c / 4096)).locks
  | r => lockList s r

/-- Whether an access touches a word held as a lock (R147). -/
def touchesLock (s : State) (r : MemRef) (n : Nat) : Bool :=
  (locksNear s r).any (fun l => l.held && overlaps (homeOf s l.place) 8 r n)

/-- Fields of MERIDIAN (R119). -/
def expressEn (s : State) : Bool := bit s.meridian.cfg 0

/-- PE_ISSUE of a PE in force: held at the urgent thread 0 on the watch Pan while the express path is on (R163). -/
def peIssueOf (s : State) (t : Nat) : BitVec 64 :=
  if expressEn s && tidPan t == watchPan s then 1 else AMap.at (s.pan (tidPan t)).peIssue (tidCore t) 0

/-- CC_MODE.DETERMINISTIC of the core of a thread (R170). -/
def deterministic (s : State) (t : Nat) : Bool := bit (AMap.at (s.pan (tidPan t)).ccMode (tidCore t) 0) 0

/-- Issue discipline of a thread, by the codes of R178. -/
def discipline (s : State) (t : Nat) : Nat :=
  if onCc t then (if deterministic s t then 4 else 3)
  else
    let r := peIssueOf s t
    if !bit r 0 then 0 else if fld r 1 3 == tidThread t then 1 else 2

/-- Whether a thread's blocking access waits for a line: of an owner's memory, or of a table's record (R106, R301). -/
def waitsFor (owner line : Nat) (x : Thread) : Bool :=
  match x.block with
  | .access (.stateLoad table i w) _ _ _ => tableOwner + table == owner && 2 * i + w / 8 == line
  | .access _ (.dram t o) _ _ => t == owner && (o / 64 == line || (o + 7) / 64 == line)
  | _ => false

/-- Whether a thread runs a packet of an express context (R117). -/
def expressThread (s : State) (t : Nat) : Bool :=
  match (s.thread t).task with
  | .packet c => (AMap.find s.meridian.ctxs c).any (·.express)
  | _ => false

/-- A request of a thread's to its Pan's port, or none where the access does not reach the DRAM (R301). -/
def panRequest (s : State) (t : Nat) (r : MemRef) (bytes : Nat) : State :=
  match r with
  | .dram owner off =>
    let since := (s.thread t).blockedAt
    servePort s (tidPan t) owner bytes since (decide (since < (stackAt s (rankOf s owner off / 3)).woke)) (expressThread s t)
  | _ => s

/-- The request of an access by a unit beside a Pan, such as a lock's or a counter's: none where it does not reach the DRAM
(R301). -/
def memRequest (s : State) (port : Nat) (r : MemRef) (bytes : Nat) : State :=
  match r with
  | .dram owner off => requestTo s port owner off bytes
  | _ => s

end Sys2Proof.Machine
end

