-- ==== Sys2Proof/Machine/Threads.lean ====
section
/-! DEFINITION. Threads and tasks: starting a run, priorities, the lock units, ends of tasks, observation
(R131, R180–R209, R232–R237). -/

namespace Sys2Proof.Machine

/-- The domain a context belongs to: 2^20 × space + domain (R97). -/
def domKey (express : Bool) (d : Nat) : Nat := 2 ^ 20 * b2n express + d
/-- Domain key of a context. -/
def Ctx.key (x : Ctx) : Nat := domKey x.express x.desc.domain
/-- A domain. -/
def State.dom (s : State) (k : Nat) : Domain := AMap.at s.meridian.domains k .reset
/-- Replace a domain. -/
def State.setDom (s : State) (k : Nat) (d : Domain) : State :=
  s.setMeridian { s.meridian with domains := AMap.put s.meridian.domains k d }
/-- A domain whose oldest packet has changed is looked at when the command has done its work (R106, R107, R114). -/
def markDomain (s : State) (k : Nat) : State :=
  if s.meridian.due.contains k then s else s.setMeridian { s.meridian with due := s.meridian.due ++ [k] }

/-- Whether a context is speculative: an older packet of its domain has not ended (R106). -/
def speculative (s : State) (c : Nat) : Bool :=
  match s.ctx? c with
  | none => false
  | some x => (s.dom x.key).flight.head? != some c
/-- Whether a thread's task is a packet task in a speculative context. -/
def Thread.spec (s : State) (x : Thread) : Bool :=
  match x.ctxId with
  | none => false
  | some c => speculative s c

/-- The threads that run a task. -/
def threadsOf (s : State) (k : TaskRef) : List Nat := (s.threads.filter (fun x => x.2.task == k && k != .none)).map (·.1)

/-- A task's effective priority: its base and every raise signalled for a lock that its threads hold (R202). -/
def effPrio (s : State) (k : TaskRef) (base : Nat) : Nat :=
  (threadsOf s k).foldl (fun p t => (s.thread t).raises.foldl (fun p r => min p r.2) p) base

/-- Handle of a persistent task (R192). -/
def taskHandle (pan slot gen : Nat) : Nat := pan + slot * 16 + gen * 65536
/-- A persistent task. -/
def State.task? (s : State) (pan slot : Nat) : Option PTask := AMap.find (s.pan pan).tasks slot
/-- Replace a persistent task. -/
def State.setTask (s : State) (pan slot : Nat) (k : PTask) : State :=
  s.setPan pan { s.pan pan with tasks := AMap.put (s.pan pan).tasks slot k }
/-- Handle of the task a thread runs; 0 for a packet task. -/
def handleOf (s : State) (k : TaskRef) : Nat :=
  match k with
  | .persistent pan slot => match s.task? pan slot with | none => 0 | some x => taskHandle pan slot x.gen
  | _ => 0

/-- Counter of a Pan by its index (R208; assumption 19). -/
def panCount (s : State) (pan index : Nat) : State := count s (cid 4 pan index) 1

/-- A decision recorded in a Pan's trace (R209). -/
def traceAdd (s : State) (pan : Nat) (r : TraceRec) : State :=
  let p := s.pan pan
  let mode := fld p.sched 56 2
  let passes := mode != 0 && bit p.sched (88 + r.kind) && (!bit p.sched 76 || r.tenant == fld p.sched 64 12) &&
    decide (fld p.sched 80 4 ≤ r.prio) && decide (r.prio ≤ fld p.sched 84 4)
  if !passes then s
  else if p.trace.length ≥ 2048 && mode == 2 then panCount s pan 10
  else s.setPan pan { p with trace := lastN 2048 (p.trace ++ [r]) }

/-- A decision about a thread: its kind, cause, and wait (R209). -/
def traceThread (s : State) (t kind cause wait : Nat) : State :=
  let x := s.thread t
  traceAdd s (tidPan t)
    { epoch := s.power.epoch, ns := now s, kind := kind, cause := cause, prio := effPrio s x.task x.prio, base := x.prio,
      tid := t, context := x.ctxId.getD 0, tenant := x.tenant, program := x.program, wait := wait,
      handle := handleOf s x.task }

/-- A core performance counter advanced; a carry past 2^48 − 1 wraps it and raises its event (R208, R497). -/
def perfAdd (s : State) (pan key n : Nat) : State :=
  let p := s.pan pan
  let v := AMap.at p.perf key (0, 0)
  let sum := v.1 + n
  if sum < 2 ^ 48 then s.setPan pan { p with perf := AMap.put p.perf key (sum, v.2) }
  else raiseDev (s.setPan pan { p with perf := AMap.put p.perf key (sum - 2 ^ 48, (v.2 + 1) % 65536) })
    (0x107 + 16 * pan) 1 (dataBytes 2 ((key / 4) * 256 + key % 4))

/-- Items of a source counted by one counter of the thread's core, if it selects them (R208). -/
def perfPick (s : State) (t source n i : Nat) : State :=
  let key := 4 * tidCore t + i
  let sel := (AMap.at (s.pan (tidPan t)).perfSel key (0, operatorId)).1
  if fld sel 0 5 == source && (!bit sel 8 || fld sel 5 3 == tidThread t) && (!bit sel 9 || fld sel 10 12 == (s.thread t).tenant)
  then perfAdd s (tidPan t) key n else s

/-- Items of a source counted by each counter of the thread's core that selects it (R208). -/
def perfItems (s : State) (t source n : Nat) : State :=
  perfPick (perfPick (perfPick (perfPick s t source n 0) t source n 1) t source n 2) t source n 3

/-- One item of a source counted (R208). -/
def perfCount (s : State) (t source : Nat) : State := perfItems s t source 1

/-- The instructions that a squash or a fault of a thread cancels counted (R155, R208): how many have issued then is a matter
of cycles, so a free value (assumption 3). -/
def countCancelled (s : State) (t : Nat) : State := perfItems (fresh s).2 t 14 ((fresh s).1.toNat % 2 ^ 16)

/-- What a run starts with (R181–R183). -/
structure RunSpec where
  task : TaskRef
  program : Nat
  base : Nat
  size : Nat
  binding : List (Nat × Nat)
  tenant : Nat
  prio : Nat
  level : Nat
  guard : Bool
  l2 : Nat
  l1 : Nat
  env : List Word
  entry : Nat
  arg : Word
  w2 : Word
  chanMap : BitVec 128

/-- Bits of a CSR that hold a value; the others read 0 (R132–R135). -/
def csrMask (n : Nat) : Word :=
  if n == 0x008 then 0x777
  else if n == 0x009 then 3
  else if n == 0x010 then BitVec.ofNat 64 (2 ^ 64 - 0x1000)
  else if n == 0x011 then BitVec.ofNat 64 (2 ^ 64 - 4)
  else if n / 4 == 0x0C then BitVec.ofNat 64 ((2 ^ 23 - 64) + (2 ^ 23 - 64) * 2 ^ 23 + 15 * 2 ^ 46)
  else if n / 8 == 8 && n % 2 == 0 then BitVec.ofNat 64 (3 + (2 ^ 26 - 1) * 2 ^ 12)
  else if n / 8 == 8 then BitVec.ofNat 64 ((2 ^ 26 - 1) * 2 ^ 12)
  else BitVec.ofNat 64 (2 ^ 64 - 1)

/-- The thread CSRs at the start of a run (R131). -/
def startCsrs (svcBase : Word) (r : RunSpec) : AMap Word :=
  let fixed : AMap Word := [(0x008, BitVec.ofNat 64 (r.l2 + 16 * r.l1 + 0x700)), (0x009, BitVec.ofNat 64 (b2n r.guard + 2)),
    (0x010, svcBase &&& csrMask 0x010), (0x012, 2)]
  let m := (List.range 4).foldl (fun m i => AMap.put m (0x30 + i) (r.env.getD i 0 &&& csrMask 0x30)) fixed
  (List.range 8).foldl (fun m i => AMap.put m (0x40 + i) (r.env.getD (4 + i) 0 &&& csrMask (0x40 + i))) m

/-- Empty the sibling links that touch any of some threads (R199). -/
def clearLinks (s : State) (pan : Nat) (ts : List Nat) : State :=
  let p := s.pan pan
  s.setPan pan { p with links := p.links.filter (fun l => !ts.contains (l.1 / 65536) && !ts.contains (l.1 % 65536)) }

/-- A thread starts a run: level, registers, CSRs, sibling links and coprocessors as R124, R183, R131 and R213 give them. -/
def startRun (s : State) (t : Nat) (r : RunSpec) : State :=
  let pan := tidPan t
  let s := clearLinks s pan [t]
  let old := s.thread t
  let pc := r.base + r.entry
  let x : Thread := { Thread.idle with
    task := r.task, first := true, run := old.run + 1, program := r.program, base := r.base, size := r.size, binding := r.binding,
    tenant := r.tenant, prio := r.prio, level := r.level, pc := pc, npc := pc + 4, branch := pc, regs := [(1, r.arg), (2, r.w2)],
    csrs := startCsrs (s.pan pan).svcBase r, chanMap := r.chanMap, localNum := s.free }
  let s := { s with free := s.free + 1 }
  let s := (s.setThread t x).setPan pan { s.pan pan with idleSince := now s }
  traceThread (perfCount s t 12) t 1 0 0

/-- The word of a lock (R233). -/
def lockWord (l : Lock) : Nat :=
  if l.held then
    l.owner + (l.ownerRun % 1024) * 2 ^ 12 + l.prio * 2 ^ 22 + b2n (!l.waiters.isEmpty) * 2 ^ 26 + 2 ^ 27 + l.tag * 2 ^ 32
  else b2n (!l.waiters.isEmpty) * 2 ^ 26 + b2n l.broken * 2 ^ 28 + l.tag * 2 ^ 32

/-- A lock stored in its unit's list; a word that the unit's table holds is written in the layout of R233, others are not
(R232). An entry with neither holder nor waiter leaves the list. -/
def putLock (s : State) (l : Lock) : State :=
  let others := (lockList s l.place).filter (fun x => x.place != l.place)
  let s := setLockList s l.place (if !l.held && l.waiters.isEmpty then others else others ++ [l])
  if l.inTable then writeMem s (homeOf s l.place) 8 (lockWord l) else s

/-- The lock at a word, if its unit has a holder or a waiter of it. -/
def findLock (s : State) (r : MemRef) : Option Lock := (lockList s r).find? (fun l => l.place == r)

/-- The raise of a lock set on a thread that holds it, or withdrawn when it is none; each is a RAISE in the trace
(R202, R209). -/
def setRaise (s : State) (t : Nat) (r : MemRef) (raise : Option Nat) : State :=
  let x := s.thread t
  let others := x.raises.filter (fun q => q.1 != r)
  let raises := match raise with | none => others | some p => (r, p) :: others
  if raises == x.raises then s else traceThread (s.setThread t { x with raises := raises }) t 6 0 0

/-- PRIO of a lock from its waiters and its owner's base priority (R235). -/
def lockPrio (s : State) (l : Lock) : Nat := l.waiters.foldl (fun p w => min p w.prio) (s.thread l.owner).prio

/-- The unit's PRIO of a held lock and the raise that it signals for it: none at the owner's base priority (R202, R235). -/
def setLockPrio (s : State) (l : Lock) (p : Nat) : State :=
  setRaise (putLock s { l with prio := p }) l.owner l.place (if p < (s.thread l.owner).prio then some p else none)

/-- A request of a thread with another priority: its lock with that request changed, and the PRIO which that asks for
(R202, R234, R235). -/
def reprioritized (s : State) (m : Lock) (u p : Nat) : Lock × Nat :=
  let m' := { m with waiters := m.waiters.map (fun w => if w.tid == u then { w with prio := p } else w) }
  (m', if m.waiters.any (fun w => w.tid == u && decide (p < w.prio)) then min m.prio p else lockPrio s m')

/-- A task's effective priority has changed: its threads' lock requests follow, and where that moves the PRIO of a held lock
its owner's task comes next, to a depth of 8; a raise that would go deeper is counted (R202). -/
def passOn : Nat → State → TaskRef → State
  | n, s, k => (threadsOf s k).foldl (fun s u =>
      match (s.thread u).block with
      | .lock r _ =>
        match findLock s r with
        | none => s
        | some m =>
          let p := effPrio s k (s.thread u).prio
          let q := reprioritized s m u p
          if q.1 == m then s
          else if !m.held || q.2 == m.prio then putLock s q.1
          else match n with
            | 0 => if q.2 < m.prio then panCount s (tidPan m.owner) 4 else s
            | n + 1 => passOn n (setLockPrio s q.1 q.2) (s.thread m.owner).task
      | _ => s) s

/-- A unit sets the PRIO of a held lock, and what follows from it (R202, R235). -/
def signalPrio (s : State) (l : Lock) (p : Nat) : State :=
  if !l.held || p == l.prio then putLock s l else passOn 7 (setLockPrio s l p) (s.thread l.owner).task

/-- Withdraw a raise of a lock from a thread (R202). -/
def dropRaise (s : State) (t : Nat) (r : MemRef) : State :=
  if (s.thread t).raises.any (fun q => q.1 == r) then passOn 7 (setRaise s t r none) (s.thread t).task else s

/-- PRIO of a held lock recomputed from its waiters and its owner's base priority when a waiter leaves (R235). -/
def recompute (s : State) (l : Lock) : State := signalPrio s l (lockPrio s l)

/-- A thread stops waiting for a lock (R112, R235). -/
def withdrawWait (s : State) (t : Nat) : State :=
  match (s.thread t).block with
  | .lock r _ =>
    match findLock s r with
    | none => s
    | some l => recompute s { l with waiters := l.waiters.filter (fun w => w.tid != t) }
  | _ => s

/-- A held lock is given up: the next grant reports `broken` (R237). -/
def releaseLock (s : State) (l : Lock) (broken : Bool) : State :=
  let s := memRequest (dropRaise s l.owner l.place) (tidPan l.owner) l.place 8
  putLock s { l with held := false, owner := 0, prio := 0, broken := broken }

/-- The best waiter: lowest priority, earliest among equals (R234). -/
def bestWaiter : List LockWaiter → Option LockWaiter
  | [] => none
  | w :: rest =>
    match bestWaiter rest with
    | none => some w
    | some v => if v.prio < w.prio then some v else some w

/-- Cycles that the next instruction's place adds (R171): 2 for the target of a taken branch, 1 for a line of 32 bytes
reached sequentially. -/
def Thread.lineCost (x : Thread) : Nat := if x.dslot && x.slotTaken then 2 else b2n (x.npc % 32 == 0)

/-- Cycles of R171 of an instruction that has blocked: an atomic or a lock on Pan SRAM takes 6; of the others, whose time
depends on other parties, the 1 that is certain. -/
def blockCost : Block → Nat
  | .access (.add _) (.sram _ _) _ _ => 6
  | .access (.cas _ _) (.sram _ _) _ _ => 6
  | .access (.swap _) (.sram _ _) _ _ => 6
  | .lock (.sram _ _) _ => 6
  | _ => 1

/-- A waiting thread gets its result and goes on to its next instruction (R159). -/
def Thread.deliver (x : Thread) (dst : Nat) (v : Word) : Thread :=
  { x with
    block := .none, pc := x.npc, npc := x.npc + 4, branch := if x.slotTaken then x.branch else x.npc, dslot := false,
    slotTaken := false, waited := false, issuedRegs := none, cost := x.cost + blockCost x.block + x.lineCost,
    regs := if dst == 0 then x.regs else AMap.put x.regs dst v, landed := AMap.put x.landed dst x.issued,
    prod := AMap.put x.prod dst ⟨x.issued, 1, x.pc, x.cost⟩, issued := x.issued + 1 }

/-- A thread's result delivered; where it was blocked, the wake is traced (R209). -/
def wake (s : State) (t dst : Nat) (v : Word) : State :=
  let u := s.setThread t ((s.thread t).deliver dst v)
  if (s.thread t).block == .none then u else traceThread u t 3 0 0

/-- A blocked thread may go on with the instruction it blocked at (R152; assumption 104). -/
def unblock (s : State) (t : Nat) : State :=
  traceThread (s.setThread t { s.thread t with block := .none }) t 3 0 0

/-! ### The store buffer of a CC -/

/-- The store buffer of the core of a thread, the oldest entry first; a PE has none (R143, R172). -/
def ccBuffer (s : State) (t : Nat) : List BufStore := AMap.at (s.pan (tidPan t)).buffers (tidCore t) []
/-- Replace it. -/
def setCcBuffer (s : State) (t : Nat) (l : List BufStore) : State :=
  let p := s.pan (tidPan t)
  s.setPan (tidPan t) { p with buffers := if l.isEmpty then AMap.del p.buffers (tidCore t) else AMap.put p.buffers (tidCore t) l }

/-- A loaded number extended to a word. -/
def loadValue (size : Nat) (signed : Bool) (v : Nat) : Word :=
  if signed then BitVec.ofInt 64 (signedOf (8 * size) v) else BitVec.ofNat 64 v

/-- A store that waits for room in its core's buffer enters as an entry leaves; an instruction that waits for the buffer to
be empty may go on (R159, R173). -/
def bufferServe (s : State) (t : Nat) : State :=
  match (s.thread t).block with
  | .bufferEmpty => if (ccBuffer s t).isEmpty then unblock s t else s
  | .bufferRoom place size v =>
    if (ccBuffer s t).length < 8 then wake (setCcBuffer s t (ccBuffer s t ++ [⟨t, place, size, v⟩])) t 0 0 else s
  | _ => s

/-- Entries of a core's store buffer have left: its two threads are served, the one that has waited longer first. -/
def bufferMoved (s : State) (t : Nat) : State :=
  let a := t / 8 * 8
  if (s.thread (a + 1)).blockedAt < (s.thread a).blockedAt then bufferServe (bufferServe s (a + 1)) a
  else bufferServe (bufferServe s a) (a + 1)

/-- What an entry that has left lets a thread of its core do: a load behind the last store that it overlaps has its result
(R172). -/
def afterDrain (s : State) (owner t : Nat) : State :=
  match (s.thread t).block with
  | .overlap n place size signed big dst =>
    if owner != t then s
    else if n ≤ 1 then
      wake s t dst (if big then BitVec.ofNat 64 (beNat (readBytes s place size)) else loadValue size signed (readMem s place size))
    else s.setThread t { s.thread t with block := .overlap (n - 1) place size signed big dst }
  | _ => s

/-- The oldest entry of the store buffer of a thread's core leaves (R173). A store to a word that has been granted as a lock
since it issued has no effect: the word stays as the lock unit last wrote it (R147; assumption 104). -/
def drainOne (s : State) (t : Nat) : State :=
  match ccBuffer s t with
  | [] => s
  | e :: rest =>
    let s := setCcBuffer s t rest
    let s := if touchesLock s e.place e.size then s else writeMem s e.place e.size e.value.toNat
    bufferMoved (afterDrain (afterDrain s e.tid (t / 8 * 8)) e.tid (t / 8 * 8 + 1)) t

/-- Entries leave until none of a thread is left: its run ends only then (R173); the fuel is above the buffer's size. -/
def drainAll : Nat → State → Nat → State
  | 0, s, _ => s
  | n + 1, s, t => if (ccBuffer s t).any (fun e => e.tid == t) then drainAll n (drainOne s t) t else s

/-- The stores of a thread that a squash undoes leave the buffer without effect, and one that waits to enter never does
(R112). -/
def dropStores (s : State) (t : Nat) : State :=
  let s := match (s.thread t).block with
    | .bufferRoom .. => s.setThread t { s.thread t with block := .none }
    | _ => s
  if (ccBuffer s t).any (fun e => e.tid == t) then bufferMoved (setCcBuffer s t ((ccBuffer s t).filter (fun e => e.tid != t))) t
  else s

/-! ### Ends of locks, searches and coprocessor commands -/

/-- A free lock is granted to its best waiter, which becomes ready with the broken flag as its result (R234, R236);
the other `LKT` waiters get 2. -/
def grantLock (s : State) (l : Lock) : State :=
  match bestWaiter l.waiters with
  | none => putLock s l
  | some w =>
    let rest := l.waiters.filter (fun v => v.tid != w.tid)
    let losers := rest.filter (·.tries)
    let keep := rest.filter (fun v => !v.tries)
    let x := s.thread w.tid
    let prio := keep.foldl (fun p v => min p v.prio) w.prio
    let l' : Lock := { l with
      inTable := true, held := true, addr := w.addr, owner := w.tid, ownerRun := x.run, prio := w.prio, tag := (l.tag + 1) % 65536, broken := false,
      brokenBefore := l.broken, leaseEnd := now s + w.lease * 1000, waiters := keep }
    let s := putLock s l'
    let s := match x.block with
      | .lock _ dst => wake s w.tid dst (if l.broken then 1 else 0)
      | _ => s
    let s := losers.foldl (fun s v =>
      match (s.thread v.tid).block with
      | .lock _ dst => wake s v.tid dst 2
      | _ => s) s
    if prio < w.prio then signalPrio s l' prio else s

/-- Every lock that a thread holds, in the units of its Pan's SRAM and of the DRAM stacks. -/
def locksHeld (s : State) (t : Nat) : List Lock :=
  ((s.pan (tidPan t)).locks ++ s.dram.locks).filter (fun l => l.held && l.owner == t)

/-- Release the locks of a thread at the end of its task, each counted in `LOCKS_AT_END` (R186), or at a squash,
which restores BROKEN (R112, R237). -/
def releaseLocks (s : State) (t : Nat) (squash : Bool) : State :=
  (locksHeld s t).foldl (fun s l =>
    let s := releaseLock s l (if squash then l.brokenBefore else true)
    if squash then s else panCount s (tidPan t) 1) s

/-- The searches of a thread are given up: at a squash their results are discarded on arrival (R112), at another end
they are late completions (R105). -/
def abortSearches (s : State) (t : Nat) (squash : Bool) : State :=
  { s with gaz := { s.gaz with searches := s.gaz.searches.map (fun q =>
      if q.tid == t then { q with aborted := q.aborted || squash, timedOut := q.timedOut || !squash } else q) } }

/-- Key of the CP0 that serves a thread: its PE pair, or its CC (R210). -/
def cp0Key (t : Nat) : Nat := if onCc t then tidCore t else tidCore t / 2

/-- Whether a thread's CP0 command is served before another's: an urgent thread's first, then the older, then the lower PE
(R211); between two threads of one PE the lower. -/
def cp0Before (s : State) (t u : Nat) : Bool :=
  let age (t : Nat) : Ns := match (s.thread t).cp0.cmds with | [] => 0 | c :: _ => c.at_
  let first (t : Nat) : Bool := discipline s t == 1
  if first t != first u then first t else if age t != age u then decide (age t < age u) else decide (t < u)

/-- The thread that a CP0 serves next, of those of its cores that have a command in it (R211). -/
def cp0Next (s : State) (pan key : Nat) : Option Nat :=
  let waiting := s.threads.filter (fun x => tidPan x.1 == pan && cp0Key x.1 == key && !x.2.cp0.cmds.isEmpty)
  waiting.foldl (fun best x => match best with
    | none => some x.1
    | some u => if cp0Before s x.1 u then some x.1 else some u) none

/-- A CP0 that has no command in progress takes the next one (R211). -/
def cp0Serve (s : State) (pan key : Nat) : State :=
  let p := s.pan pan
  if AMap.has p.cpBusy key then s
  else match cp0Next s pan key with
    | none => s
    | some t => s.setPan pan { p with cpBusy := AMap.put p.cpBusy key t }

/-- A CP0 whose command in progress was a thread's is free for the next (R211). -/
def cp0Free (s : State) (t : Nat) : State :=
  let p := s.pan (tidPan t)
  if AMap.find p.cpBusy (cp0Key t) == some t then
    cp0Serve (s.setPan (tidPan t) { p with cpBusy := AMap.del p.cpBusy (cp0Key t) }) (tidPan t) (cp0Key t)
  else s

/-- The coprocessor commands of a thread in flight are given up: aborted at a squash (R112), while at another end the results
of those that a unit has begun come later, as late completions (R105); a CP0 goes on with its command in progress (R211). -/
def abortCps (s : State) (t : Nat) (squash : Bool) : State :=
  let x := s.thread t
  let busy := AMap.find (s.pan (tidPan t)).cpBusy (cp0Key t) == some t
  let s := s.setThread t { x with cp0 := .reset, cp1 := .reset, cp2 := .reset }
  if squash then cp0Free s t
  else
    let late := (if busy && !x.cp0.cmds.isEmpty then [(t, 0)] else []) ++ x.cp1.cmds.map (fun _ => (t, 1)) ++ x.cp2.cmds.map (fun _ => (t, 2))
    s.setPan (tidPan t) { s.pan (tidPan t) with lateCp := (s.pan (tidPan t)).lateCp ++ late }

/-- Whether a delay entry leaves the list before another (R197). -/
def delayBefore (a b : DelayEntry) : Bool := decide (a.expiry < b.expiry) || (a.expiry == b.expiry && decide (a.prio < b.prio))

/-- An entry in its place on the delay list (R197). -/
def insertDelay (e : DelayEntry) : List DelayEntry → List DelayEntry
  | [] => [e]
  | x :: rest => if delayBefore e x then e :: x :: rest else x :: insertDelay e rest

/-- A persistent task's period timer started at a moment: it expires a period from now (R196). -/
def startTimer (p : Pan) (slot : Nat) (k : PTask) : Pan :=
  let period := fld k.desc 352 32
  if period == 0 then p else { p with delays := insertDelay ⟨.period slot, p.tick + period, fld k.desc 16 4⟩ p.delays }

/-- The tick of a period timer's next expiry, if the slot has a timer (R196). -/
def timerExpiry (p : Pan) (slot : Nat) : Option Nat := (p.delays.find? (fun d => d.who == .period slot)).map (·.expiry)

/-- A thread's entry leaves the delay list (R112, R195). -/
def dropDelay (s : State) (t : Nat) : State :=
  let p := s.pan (tidPan t)
  if p.delays.any (fun d => d.who == .thread t) then
    s.setPan (tidPan t) { p with delays := p.delays.filter (fun d => d.who != .thread t) }
  else s

/-- A thread waits no more among those of its persistent task in `EFW` (R193). -/
def dropWaiter (s : State) (t : Nat) : State :=
  match (s.thread t).task with
  | .persistent pan slot =>
    match s.task? pan slot with
    | none => s
    | some k => if k.waiters.contains t then s.setTask pan slot { k with waiters := k.waiters.filter (· != t) } else s
  | _ => s

/-- A CC_MODE that waits is applied once both threads of its CC are between tasks; the mode in force, written again, is no
change (R170). -/
def applyCcMode (s : State) (pan core : Nat) : State :=
  let p := s.pan pan
  match AMap.find p.ccPending core with
  | none => s
  | some m =>
    let t := 256 * pan + 8 * core
    if m == AMap.at p.ccMode core 0 then s.setPan pan { p with ccPending := AMap.del p.ccPending core }
    else if (s.thread t).task == .none && (s.thread (t + 1)).task == .none then
      s.setPan pan { p with ccMode := AMap.put p.ccMode core m, ccPending := AMap.del p.ccPending core }
    else s

/-- A thread returns to its core's pool: it holds no task, and nothing of its run (R149, R156). -/
def freeThread (s : State) (t : Nat) : State :=
  let x := s.thread t
  let s := (dropDelay (dropWaiter s t) t).setThread t { Thread.idle with run := x.run, localNum := x.localNum }
  applyCcMode s (tidPan t) (tidCore t)

/-- A task's links emptied at its end: those between two of its threads, of those that it has now and those that its `FORK`s
have taken, but for links between two that other tasks have taken since (R199). -/
def emptyTaskLinks (s : State) (pan : Nat) (ts : List Nat) : State :=
  let p := s.pan pan
  let kin := (ts.map (fun t => (s.thread t).kin)).flatten
  let mine (u : Nat) : Bool := ts.contains u || kin.any (fun k => k.1 == u)
  let left (u : Nat) : Bool := !ts.contains u && !kin.any (fun k => k.1 == u && k.2 == (s.thread u).run)
  s.setPan pan { p with links := p.links.filter (fun l =>
    let a := l.1 / 65536
    let b := l.1 % 65536
    !(mine a && mine b) || (left a && left b)) }

/-- Every thread of a task stops: its buffered stores leave, or are undone by a squash, its waits are withdrawn, its locks
released, its searches and coprocessor commands given up, the task's links emptied, the threads returned to the pool (R112,
R148, R173, R186, R199). The cause is the trace's END cause. -/
def stopThreads (s : State) (k : TaskRef) (squash : Bool) (cause : Nat) : State :=
  let ts := threadsOf s k
  let s := ts.foldl (fun s t => if squash then dropStores s t else drainAll 9 s t) s
  let s := ts.foldl (fun s t => if (s.thread t).first then traceThread s t 4 cause 0 else s) s
  let s := ts.foldl withdrawWait s
  let s := ts.foldl (fun s t => releaseLocks s t squash) s
  let s := ts.foldl (fun s t => abortCps (abortSearches s t squash) t squash) s
  let s := match ts with | [] => s | t :: _ => emptyTaskLinks s (tidPan t) ts
  ts.foldl freeThread s

/-- An entry at the tail or the head of its level of a Pan's ready list (R188). -/
def readyAdd (s : State) (pan level : Nat) (front : Bool) (e : ReadyEntry) : State :=
  let p := s.pan pan
  let l := AMap.at p.ready level []
  s.setPan pan { p with ready := AMap.put p.ready level (if front then e :: l else l ++ [e]), idleSince := now s }

/-- Remove a task's entry from a Pan's ready list. -/
def readyDrop (s : State) (pan : Nat) (k : TaskRef) : State :=
  let p := s.pan pan
  s.setPan pan { p with ready := p.ready.map (fun l => (l.1, l.2.filter (fun e => e.task != k))) }

/-- Whether a program is built for a control core (R187). -/
def programCc (s : State) (program : Nat) : Bool :=
  match AMap.find s.legend.programs program with | none => false | some p => p.cc

/-- WAKE_MASK of a persistent task (R181). -/
def wakeMask (k : PTask) : Nat := fld k.desc 320 32
/-- Base priority of a persistent task (R181). -/
def taskPrio (k : PTask) : Nat := fld k.desc 16 4
/-- Owner of a persistent task as its descriptor holds it (R181). -/
def taskTenant (k : PTask) : Nat := fld k.desc 32 12

/-- An IDLE task goes to READY at the tail of its level (R188, R193). -/
def activate (s : State) (pan slot : Nat) (k : PTask) : State :=
  let s := s.setTask pan slot { k with state := .ready, pendingAct := false, waiters := [] }
  readyAdd s pan (taskPrio k) false
    { task := .persistent pan slot, cc := programCc s (fld k.desc 0 16), since := now s, starved := false }

/-- The task of a slot is deleted with its period timer: the slot is free and its generation advances (R184, R192, R196). -/
def dropTask (s : State) (pan slot : Nat) (k : PTask) : State :=
  let p := s.pan pan
  s.setPan pan { p with tasks := AMap.del p.tasks slot, gens := AMap.put p.gens slot ((k.gen + 1) % 65536),
                        delays := p.delays.filter (fun d => d.who != .period slot) }

/-- An activation has ended: the task is deleted, goes back to READY, or to IDLE (R184, R185, R193). -/
def endActivation (s : State) (pan slot : Nat) (yielded : Bool) : State :=
  match s.task? pan slot with
  | none => s
  | some k =>
    if k.deleting then dropTask s pan slot k
    else if yielded || k.pendingAct || k.flags &&& wakeMask k != 0 then activate s pan slot k
    else s.setTask pan slot { k with state := .idle, waiters := [] }

/-- The threads of a task that wait in `EFW`, in the order they began to wait: thread, mask, destination (R193). -/
def efwWaiters (s : State) (pan slot : Nat) (k : PTask) : List (Nat × Nat × Nat) :=
  k.waiters.filterMap (fun t =>
    match (s.thread t).block with
    | .efw mask dst => if (s.thread t).task == .persistent pan slot then some (t, mask, dst) else none
    | _ => none)

/-- Flags set on a task: `EFW` waiters are ended in the order they began to wait, then an IDLE task starts (R193). -/
def setFlags (s : State) (pan slot flags : Nat) : State :=
  match s.task? pan slot with
  | none => s
  | some k =>
    let s := s.setTask pan slot { k with flags := k.flags ||| flags }
    if k.state == .idle then
      (if (k.flags ||| flags) &&& wakeMask k != 0 then activate s pan slot { k with flags := k.flags ||| flags } else s)
    else if k.state == .running then
      (efwWaiters s pan slot k).foldl (fun s w =>
        match s.task? pan slot with
        | none => s
        | some k =>
          let got := k.flags &&& w.2.1
          if got == 0 then s
          else wake (s.setTask pan slot { k with flags := k.flags - got, waiters := k.waiters.filter (· != w.1) }) w.1 w.2.2 (BitVec.ofNat 64 got)) s
    else s

end Sys2Proof.Machine
end

