-- ==== Sys2Proof/Machine/Queues.lean ====
section
/-! DEFINITION. Channels and message queues: what a channel is bound to, landing, who is served (R198–R203). -/

namespace Sys2Proof.Machine

/-- What a channel 8–15 of a thread is bound to (R198, R203). -/
inductive Chan where
  | unconnected
  | sibling (thread : Nat)         -- thread number of the core
  | readEnd (queue : Nat)
  | writeEnd (queue : Nat)
  | faultQueue
  | control
  deriving DecidableEq, Repr

/-- The binding of a message channel (R198, R203). -/
def chanOf (x : Thread) (ch : Nat) : Chan :=
  if (match x.task with | .supervisor _ => true | _ => false) then
    (if ch == 14 then .faultQueue else if ch == 15 then .control else .unconnected)
  else
    let e := fld x.chanMap (16 * (ch - 8)) 16
    match e % 4 with
    | 1 => .sibling (bitsOf e 2 10)
    | 2 => .readEnd (bitsOf e 2 10)
    | 3 => .writeEnd (bitsOf e 2 10)
    | _ => .unconnected

/-- Key of the directed link between two threads (R199). -/
def linkKey (sender receiver : Nat) : Nat := 65536 * sender + receiver

/-- A link. -/
def linkOf (s : State) (k : Nat) : List ChanEntry := AMap.at (s.pan (tidPan (k % 65536))).links k []
/-- Replace a link. -/
def setLinkTo (s : State) (k : Nat) (l : List ChanEntry) : State :=
  let pan := tidPan (k % 65536)
  let p := s.pan pan
  s.setPan pan { p with links := if l.isEmpty then AMap.del p.links k else AMap.put p.links k l }

/-- The oldest entry of a list that has not landed lands (R199, R200). -/
def landFirst : List ChanEntry → List ChanEntry
  | [] => []
  | e :: rest => if e.landed then e :: landFirst rest else { e with landed := true } :: rest

/-- A message queue of a Pan. -/
def msgqOf (s : State) (pan q : Nat) : Option MsgQ := AMap.find (s.pan pan).msgqs q
/-- Replace a message queue. -/
def setMsgq (s : State) (pan q : Nat) (x : MsgQ) : State :=
  s.setPan pan { s.pan pan with msgqs := AMap.put (s.pan pan).msgqs q x }

/-- The first of some threads with the lowest effective priority (R200). -/
def bestThread (s : State) : List Nat → Option Nat
  | [] => none
  | t :: rest =>
    match bestThread s rest with
    | none => some t
    | some u => if effPrio s (s.thread u).task (s.thread u).prio < effPrio s (s.thread t).task (s.thread t).prio then some u else some t

/-- The threads of a Pan that wait to read a queue, in the order they began to, with their destinations. -/
def queueReaders (s : State) (pan q : Nat) : List Nat :=
  (s.pan pan).chanWaits.filter (fun t => match (s.thread t).block with
    | .chanEmpty ch _ => decide (8 ≤ ch) && chanOf (s.thread t) ch == Chan.readEnd q
    | _ => false)

/-- The threads of a Pan that wait to write a queue. -/
def queueWriters (s : State) (pan q : Nat) : List Nat :=
  (s.pan pan).chanWaits.filter (fun t => match (s.thread t).block with
    | .chanFull ch _ => chanOf (s.thread t) ch == Chan.writeEnd q
    | _ => false)

/-- A thread that waited to write a channel goes on; its entry is on its way. -/
def writerGoes (s : State) (pan q t : Nat) (x : MsgQ) : State :=
  match (s.thread t).block with
  | .chanFull _ v => wake (setMsgq s pan q { x with entries := x.entries ++ [⟨v, false⟩] }) t 0 0
  | _ => s

/-- While a queue has room, its waiting writers are served (R200); the fuel is their number. -/
def serveWriters : Nat → State → Nat → Nat → State
  | 0, s, _, _ => s
  | n + 1, s, pan, q =>
    match msgqOf s pan q, bestThread s (queueWriters s pan q) with
    | some x, some t => if x.entries.length < x.depth then serveWriters n (writerGoes s pan q t x) pan q else s
    | _, _ => s

/-- A thread takes the first entry of a queue; a speculative context holds what it took (R201). -/
def takeMsg (s : State) (pan q : Nat) (x : MsgQ) (t : Nat) : Option (Word × State) :=
  match x.entries with
  | e :: rest =>
    if !e.landed then none
    else
      let y := s.thread t
      let held := match y.ctxId with
        | some c => if speculative s c then x.held ++ [(c, e.value)] else x.held
        | none => x.held
      some (e.value, setMsgq s pan q { x with entries := rest, held := held })
  | [] => none

/-- While a queue has landed entries, its waiting readers are served, then its writers (R200, R201). -/
def serveReaders : Nat → State → Nat → Nat → State
  | 0, s, pan, q => serveWriters (queueWriters s pan q).length s pan q
  | n + 1, s, pan, q =>
    match msgqOf s pan q, bestThread s (queueReaders s pan q) with
    | some x, some t =>
      match takeMsg s pan q x t, (s.thread t).block with
      | some (v, s'), .chanEmpty _ dst => serveReaders n (wake s' t dst v) pan q
      | _, _ => serveWriters (queueWriters s pan q).length s pan q
    | _, _ => serveWriters (queueWriters s pan q).length s pan q

/-- A queue's waiters served after a change of the queue. -/
def serveQueue (s : State) (pan q : Nat) : State := serveReaders (queueReaders s pan q).length s pan q

/-- A link's waiting reader takes a landed entry, and a waiting writer finds room (R199). -/
def serveLink (s : State) (k : Nat) : State :=
  let sender := k / 65536
  let receiver := k % 65536
  let s := match (s.thread receiver).block, linkOf s k with
    | .chanEmpty ch dst, e :: rest =>
      if e.landed && decide (8 ≤ ch) && chanOf (s.thread receiver) ch == Chan.sibling (tidThread sender) then
        wake (setLinkTo s k rest) receiver dst e.value
      else s
    | _, _ => s
  match (s.thread sender).block with
  | .chanFull ch v =>
    if chanOf (s.thread sender) ch == Chan.sibling (tidThread receiver) && decide ((linkOf s k).length < 4) then
      wake (setLinkTo s k (linkOf s k ++ [⟨v, false⟩])) sender 0 0
    else s
  | _ => s

/-- TID of the supervisor thread of a Pan: thread 1 of CC 30 (R203). -/
def supervisorTid (pan : Nat) : Nat := 256 * pan + 8 * 30 + 1

/-- The next of the 5 words of the oldest record of a Pan's fault queue; the fifth read frees its slot (R203). -/
def takeFaultWord (s : State) (pan : Nat) : Option (Word × State) :=
  let p := s.pan pan
  match p.faultQueue with
  | [] => none
  | (r, n) :: rest =>
    let v : Word := BitVec.ofNat 64 (bitsOf r (64 * n) 64)
    some (v, s.setPan pan { p with faultQueue := if n ≥ 4 then rest else (r, n + 1) :: rest })

/-- A supervisor that waits on its fault queue reads a record that has been posted (R203). -/
def wakeSupervisor (s : State) (pan : Nat) : State :=
  let t := supervisorTid pan
  match (s.thread t).block with
  | .chanEmpty ch dst =>
    if (s.thread t).task == .supervisor pan && ch == 14 then
      match takeFaultWord s pan with
      | none => s
      | some (v, s) => wake s t dst v
    else s
  | _ => s

end Sys2Proof.Machine
end

