-- ==== Sys2Proof/Machine/Contexts.lean ====
section
/-! DEFINITION. Packet contexts: taking one, squash, park, failure, end, the wait store (R97–R118). -/

namespace Sys2Proof.Machine

/-- A replacement of Sluice. -/
def State.setSluice (s : State) (x : Sluice) : State := { s with sluice := x }

/-- A Sluice output queue, 8 × physical port + priority (R285). -/
def soq (s : State) (k : Nat) : List Desc := AMap.at s.sluice.queues k []
/-- Replace a Sluice output queue; a new head stands there from now on. -/
def setSoq (s : State) (k : Nat) (q : List Desc) : State :=
  s.setSluice { s.sluice with queues := if q.isEmpty then AMap.del s.sluice.queues k else AMap.put s.sluice.queues k q }

/-- Best-effort cells of a Sluice output queue (R285). -/
def soqCells (q : List Desc) : Nat := q.foldl (fun n d => if d.guaranteed then n else n + d.cells.length) 0

/-- A classified frame enters the Sluice output queue of its port and priority (R19, R285). -/
def enterSoq (s : State) (d : Desc) : State :=
  let k := 8 * (d.lport / 4) + d.priority
  let q := soq s k
  if !d.guaranteed && decide (soqCells q + d.cells.length > fld s.cote.cfg 8 16) then
    discardDesc s d 0x52
  else setSoq s k (q ++ [{ d with headSince := now s }])

/-- WATCH_SLEEP of MERIDIAN. -/
def watchSleep (s : State) : Nat := fld s.meridian.cfg 1 2
/-- LIFETIME of MERIDIAN in ns. -/
def lifetimeNs (s : State) : Nat := 1000 * fld s.meridian.cfg 8 14
/-- PARK_LIFETIME of MERIDIAN in ns. -/
def parkNs (s : State) : Nat := 1000 * fld s.meridian.cfg 24 16
/-- LIFE_CAP of MERIDIAN in ns. -/
def capNs (s : State) : Nat := 1000 * fld s.meridian.cfg 40 16

/-- Pan of a context (R101). -/
def ctxPan (c : Nat) : Nat := c / 4096
/-- Base priority of a context's task: its Sluice priority (R101). -/
def Ctx.prio (x : Ctx) : Nat := x.desc.priority

/-- Slots of a Pan that ordinary or express contexts may take (R101). -/
def slotRange (s : State) (pan : Nat) (express : Bool) : Nat × Nat :=
  if express then (0xC00, 0x1000) else if pan == watchPan s then (0, 0xC00) else (0, 0x1000)

/-- The lowest free slot of a range, seen through the contexts in rising order (assumption 12). -/
def freeSlot (s : State) (pan : Nat) (express : Bool) : Option Nat :=
  let r := slotRange s pan express
  let h := freshHandle (4096 * pan + r.1) (s.meridian.ctxs.filter (fun c => decide (4096 * pan + r.1 ≤ c.1)))
  if h < 4096 * pan + r.2 then some h else none

/-- Whether a Pan takes packets: it is not out of service (R507). -/
def panServes (s : State) (pan : Nat) : Bool :=
  !s.contain.outOfService.contains pan && !AMap.has s.contain.pans pan && s.contain.core.isNone

/-- Pans that hold a packet's program; a command frame goes to Legend on Pan 0 (R103, R388). -/
def pansFor (s : State) (d : Desc) : List Nat :=
  if d.command then [0]
  else match AMap.find s.legend.programs d.program with
    | none => []
    | some p => (List.range 16).filter (fun i => maskHas p.pans i && panServes s i)

/-- Whether a Pan is awake. -/
def panAwake (s : State) (p : Nat) : Bool := (s.pan p).power == .awake

/-- Contexts in use on a Pan, express ones included (R103). -/
def occupied (s : State) (pan : Nat) : Nat := (s.meridian.ctxs.filter (fun c => ctxPan c.1 == pan)).length

/-- The Pan with the fewest contexts in use, the lowest number on a tie (R103). -/
def fewest (s : State) : List Nat → Option Nat
  | [] => none
  | p :: rest =>
    match fewest s rest with
    | none => some p
    | some q => if occupied s q < occupied s p then some q else some p

/-- Wake a gated Pan: 400 ns from clock gating, 6 µs from power gating (R27). -/
def wakePan (s : State) (p : Nat) : State :=
  match (s.pan p).power with
  | .clockGated => s.setPan p { s.pan p with power := .waking (now s) 400 }
  | .powerGated => s.setPan p { s.pan p with power := .waking (now s) 6000 }
  | _ => s

/-- Ordinary descriptors that wait in the Sluice output queues (R103). -/
def soqWaiting (s : State) : Nat :=
  s.sluice.queues.foldl (fun n q => if q.1 % 8 == 0 then n else n + q.2.length) 0

/-- Wake the lowest sleeping eligible Pan when the awake ones are crowded or too many descriptors wait (R103). -/
def wakeForLoad (s : State) (pans : List Nat) : State :=
  let awake := pans.filter (panAwake s)
  let crowded := awake.all (fun p => decide (occupied s p * 100 > fld s.meridian.cfg 64 7 * 4096))
  if crowded || decide (soqWaiting s > fld s.meridian.cfg 72 12) then
    match pans.find? (fun p => match (s.pan p).power with | .clockGated => true | .powerGated => true | _ => false) with
    | none => s
    | some p => wakePan s p
  else s

/-- Whether an express packet may take a context: the watch Pan serves, holds its program and has an express one free
(R103, R117). -/
def expressFits (s : State) (d : Desc) : Bool :=
  (freeSlot s (watchPan s) true).isSome && panServes s (watchPan s) && (pansFor s d).contains (watchPan s)

/-- The Pan a packet's context is taken on (R103, R117). -/
def choosePan (s : State) (d : Desc) (express : Bool) : Option Nat :=
  if express then (if expressFits s d then some (watchPan s) else none)
  else
    let free := (pansFor s d).filter (fun p => (freeSlot s p false).isSome)
    match fewest s (free.filter (panAwake s)) with
    | some p => some p
    | none => free.find? (fun p => match (s.pan p).power with | .waking _ _ => true | _ => false)

/-- CONTEXTS of an owner's quota record, the operator's own among them (R100, R118, R350). -/
def ctxQuota (s : State) (tenant : Nat) : Nat :=
  match AMap.find s.trust.slots tenant with
  | none => 64512
  | some x => min 64512 (quotaField x.quota 4 4)

/-- Contexts a tenant holds. -/
def ctxsHeld (s : State) (tenant : Nat) : Nat :=
  (s.meridian.ctxs.filter (fun c => c.2.desc.tenant == tenant && !c.2.express)).length

/-- Whether a packet may take a context now: its domain's depth, its tenant's quota (R100, R117). -/
def mayTake (s : State) (d : Desc) (express : Bool) : Bool :=
  let k := s.dom (domKey express d.domain)
  if express then k.flight.isEmpty
  else decide (k.flight.length < 64) && decide (ctxsHeld s d.tenant < ctxQuota s d.tenant)

/-- The version of its program that a context is bound to (R22, R104). -/
def ctxProg (s : State) (x : Ctx) : Option Prog :=
  match AMap.find s.legend.programs x.desc.program with
  | some p => if p.version == x.progVersion then some p else AMap.find s.legend.superseded (x.desc.program + 65536 * x.progVersion)
  | none => AMap.find s.legend.superseded (x.desc.program + 65536 * x.progVersion)

/-- Put a packet's task on its Pan's ready list (R188, R117). -/
def readyCtx (s : State) (c : Nat) (x : Ctx) (front : Bool) : State :=
  let level := if x.express then 0 else x.prio
  readyAdd s (ctxPan c) level front { task := .packet c, cc := (ctxProg s x).any (·.cc), since := now s, starved := false }

/-- A context bound at its dispatch to the program version in force and to the tables' current generation (R104). -/
def bindCtx (s : State) (x : Ctx) : Ctx :=
  let p := AMap.find s.legend.programs x.desc.program
  { x with bound := true, gens := [(0, s.gaz.generation)], progVersion := (p.map (·.version)).getD 0, entry := (p.map (·.entry)).getD 0 }

/-- A packet takes a context and the next sequence of its domain; one that is not parked is dispatched (R98, R101–R105,
R115). -/
def takeContext (s : State) (d : Desc) (express : Bool) (c : Nat) : State :=
  let key := domKey express d.domain
  let k := s.dom key
  let parked := k.parking && !express
  let x : Ctx := {
    state := if parked then .parked else .ready, desc := d, express := express, seq := k.next, taken := now s,
    lifeEnd := now s + (if parked then parkNs s else lifetimeNs s), replays := 0,
    serial := false, serialRun := false, reads := [], recs := [], egress := 0, policed := false,
    dropReason := none, failed := none, parkedOn := if parked then some .behind else none, 
    partly := false, insertFailed := false, learned := [], sent := 0, lost := 0, lostQuota := 0, lostReason := 0, waitEgress := false, window := [], dirty := [],
    pktLen := d.len - 4, bound := false, gens := [], progVersion := 0, entry := 0 }
  let x := if parked then x else bindCtx s x
  let s := s.setCtx c x
  let s := s.setDom key { k with next := (k.next + 1) % 65536, flight := k.flight ++ [c] }
  let s := devCount s 2 0 (ctxPan c) d.tenant 1
  if parked || d.command then s else readyCtx s c x false

/-- A packet placed by Meridian: a context where its domain, its quota and a Pan allow, else nothing. -/
def tryTake (s : State) (d : Desc) (express : Bool) : Option State :=
  if !mayTake s d express then none
  else
    let s := if express then s else wakeForLoad s (pansFor s d)
    let p := match choosePan s d express with
      | some p => some p
      | none =>
        if express then none
        else (pansFor s d).find? (fun p => (freeSlot s p false).isSome)
    match p with
    | none => none
    | some p =>
      let s := wakePan s p
      match freeSlot s p express with
      | none => none
      | some c => some (takeContext s d express c)

/-- Descriptors in the wait store (R100). -/
def waitUsed (s : State) : Nat := s.meridian.domains.foldl (fun n d => n + d.2.waiting.length) 0

/-- The heads of the wait store that may now take a context do so (R100); where heads of several domains could, the model serves the
lowest domain first, the ordinary space before the express one (assumption 50). The fuel is their number. -/
def drainWait : Nat → State → State
  | 0, s => s
  | n + 1, s =>
    let go := s.meridian.domains.findSome? (fun k =>
      match k.2.waiting with
      | [] => none
      | d :: rest => (tryTake s d (decide (k.1 ≥ 2 ^ 20))).map (fun s' => (k.1, rest, s')))
    match go with
    | none => s
    | some (k, rest, s') => drainWait n (s'.setDom k { s'.dom k with waiting := rest })

/-- A mirror copy enters a port queue: it shares the cells that its truncated length reaches (R289, R290). -/
def mirrorToPort (s : State) (c : Nat) (x : Ctx) (session : BitVec 64) : State :=
  let l := fld session 14 6
  let q := fld session 20 3
  let len := min (fld session 32 14) (x.desc.len - 4)
  let cells := x.desc.cells.take (ceilDiv len 256)
  let segs : List Seg := cells.zipIdx.map (fun c => ⟨c.1, 0, min 256 (len - 256 * c.2)⟩)
  let e := s.queue l q
  if !lportExists s l || decide (queueCells e + segs.length > queueLimit s e) then countTenant (countQueueDrop s l q) x.desc.tenant 0x72
  else
    let s := cells.foldl shareCell s
    enqueueFrame s l q
      { len := len, segs := segs, tenant := x.desc.tenant, program := 0, express := x.express,
        domain := x.desc.domain, seq := x.seq, ctx := c, priority := x.prio,
        staged := !poolFar (s.cote.pool (fld e.buf 0 6)) }

/-- The classification result of a slow-path copy: its own priority, selector, domain, reason, program and H (R90); it is
no express frame that was demoted (assumption 86). -/
def copyResult (cls : BitVec 256) (program : Nat) (w : SlowPlace) : BitVec 256 :=
  [(20, 3, w.priority), (23, 1, 0), (24, 4, 9), (32, 20, w.domain), (56, 8, 9), (64, 16, program), (160, 32, w.hash)].foldl
    (fun v f => setFld v f.1 f.2.1 f.2.2) cls

/-- The owner's slow-path program gets a copy as a packet of its own (R87, R88, R93): it enters the Sluice output queue of
its port and of the slow path's priority, as a slow-path frame does (assumption 88). -/
def copyToSlow (s : State) (x : Ctx) (len : Nat) (w : SlowPlace) : State :=
  match AMap.find s.sluice.slowPrograms x.desc.tenant with
  | none => countTenant s x.desc.tenant 0x57
  | some program =>
    let cells := x.desc.cells.take (ceilDiv len 256)
    let s := cells.foldl shareCell s
    enterSoq s { x.desc with
      len := len + 4, cells := cells, program := program, reason := 9, priority := w.priority, domain := w.domain,
      cls := copyResult x.desc.cls program w, copies := [], command := false }

/-- A copy released with its original's record (R87, R88, R290). -/
def releaseCopy (c : Nat) (x : Ctx) (s : State) (k : Copy) : State :=
  match k with
  | .mirror session id w =>
    match fld session 12 2 with
    | 1 => mirrorToPort s c x session
    | 2 =>
      let len := min (fld session 32 14) (x.desc.len - 4)
      let cells := x.desc.cells.take (ceilDiv len 256)
      let s := cells.foldl shareCell s
      let p : PendCap := { ring := fld session 24 8, session := id, owner := fld session 0 12, ruleId := fld x.desc.cls 96 32,
                           frameLen := x.desc.len, inPort := x.desc.lport, len := len, cells := cells,
                           time := ⟨s.power.epoch, x.desc.time⟩ }
      { s with stk := { s.stk with captures := s.stk.captures ++ [p] } }
    | 3 => copyToSlow s x (min (fld session 32 14) (x.desc.len - 4)) w
    | _ => countTenant s x.desc.tenant 0x71
  | .slow _ w => copyToSlow s x (x.desc.len - 4) w

/-- Entries of message queues that a context holds go back to the heads of their queues (R201). -/
def returnHeld (s : State) (c : Nat) : State :=
  let p := s.pan (ctxPan c)
  let touched := (p.msgqs.filter (fun q => q.2.held.any (fun h => h.1 == c))).map (·.1)
  let s := s.setPan (ctxPan c) { p with msgqs := p.msgqs.map (fun q =>
    (q.1, { q.2 with entries := (q.2.held.filter (fun h => h.1 == c)).map (fun h => ⟨h.2, true⟩) ++ q.2.entries,
                     held := q.2.held.filter (fun h => h.1 != c) })) }
  touched.foldl (fun s q => serveQueue s (ctxPan c) q) s
/-- Entries that a context holds are its own for good (R201). -/
def keepHeld (s : State) (c : Nat) : State :=
  let p := s.pan (ctxPan c)
  s.setPan (ctxPan c) { p with msgqs := p.msgqs.map (fun q => (q.1, { q.2 with held := q.2.held.filter (fun h => h.1 != c) })) }

/-- A flow table. -/
def State.table (s : State) (t : Nat) : Table := AMap.at s.gaz.tables t .empty
/-- Replace a table; a table that has been deleted stays deleted. -/
def State.setTable (s : State) (t : Nat) (x : Table) : State :=
  if AMap.has s.gaz.tables t then { s with gaz := { s.gaz with tables := AMap.put s.gaz.tables t x } } else s

/-- A provisional record goes back to its table's free list (R259). -/
def dropProvisional (s : State) (t i : Nat) : State :=
  let x := s.table t
  if x.provisional.contains i then
    s.setTable t { x with provisional := x.provisional.filter (· != i), freed := x.freed ++ [i], records := AMap.del x.records i }
  else s

/-- The commit buffer is discarded, its provisional records with it (R112, R259). -/
def discardRecs (s : State) (x : Ctx) : State :=
  x.recs.foldl (fun s r => match r with | .insert t _ i => dropProvisional s t i | _ => s) s

/-- Everything of a run is undone (R112, R115): threads stopped, held entries returned, sets and buffer emptied. -/
def undoRun (s : State) (c : Nat) (x : Ctx) (squash : Bool) (cause : Nat) : State :=
  let s := if squash then (threadsOf s (.packet c)).foldl countCancelled s else s
  let s := stopThreads s (.packet c) squash cause
  let s := if squash then returnHeld s c else s
  let s := discardRecs (readyDrop s (ctxPan c) (.packet c)) x
  match s.ctx? c with
  | none => s
  | some x => s.setCtx c { x with reads := [], recs := [], egress := 0, policed := false, dropReason := none,
                                  learned := [], insertFailed := false, dirty := [], window := [], waitEgress := false }

/-- A squash (R109, R112, R113): the run is undone, and its packet runs again once the unwind is complete. -/
def squash (s : State) (c : Nat) : State :=
  match s.ctx? c with
  | none => s
  | some x =>
    if x.state == .runSpec || x.state == .done then
      let s := undoRun s c x true 3
      match s.ctx? c with
      | none => s
      | some x =>
        let s := devCount s 2 1 (ctxPan c) x.desc.tenant 1
        let s := s.setMeridian { s.meridian with unwindDue := AMap.put s.meridian.unwindDue c (now s + 80) }
        s.setCtx c { x with state := .unwind, replays := min 3 (x.replays + 1), serial := x.serial || x.replays ≥ 3 }
    else s

/-- The packets younger than one in a list of contexts in flight. -/
def youngerThan (c : Nat) : List Nat → List Nat
  | [] => []
  | k :: rest => if k == c then rest else youngerThan c rest

/-- A run parks on a flash-only record (R115): undone without a replay, its domain parking, younger packets held; those
running or DONE keep their state and their work. -/
def park (s : State) (c : Nat) (on : ParkedOn) : State :=
  match s.ctx? c with
  | none => s
  | some x0 =>
    let s := undoRun s c x0 true 4
    match s.ctx? c with
    | none => s
    | some x =>
      let s := devCount s 2 4 (ctxPan c) x.desc.tenant 1
      let s := s.setCtx c { x with state := .parked, parkedOn := some on, lifeEnd := x.taken + parkNs s }
      let s := s.setDom x.key { s.dom x.key with parking := true }
      (youngerThan c (s.dom x.key).flight).foldl (fun s d =>
        match s.ctx? d with
        | none => s
        | some y =>
          if y.state == .ready then
            (readyDrop s (ctxPan d) (.packet d)).setCtx d { y with state := .parked, parkedOn := some .behind, lifeEnd := y.taken + parkNs s }
          else s.setCtx d { y with lifeEnd := max y.lifeEnd (y.taken + parkNs s) }) s

/-- Whether a context's runs are serialized: after its third replay, or under SER_ALL an ordinary packet's (R113). -/
def runsSerial (s : State) (x : Ctx) : Bool := x.serial || (bit s.meridian.cfg 84 && !x.express)

/-- Whether a domain still parks: a packet of it is parked on a record (R116). -/
def stillParking (s : State) (k : Domain) : Bool :=
  k.parking && k.flight.any (fun d =>
    match s.ctx? d with
    | none => false
    | some y => y.state == .parked && y.parkedOn != some .behind)

/-- A domain stops parking with its last packet parked on a record (R116). -/
def refreshParking (s : State) (key : Nat) : State := s.setDom key { s.dom key with parking := stillParking s (s.dom key) }

/-- A packet fails (R105, R111): its held effects are discarded, its copies released, its record written when it is
the oldest. `hold` keeps its threads, stopped, for the supervisor (R204). -/
def failCtx (s : State) (c reason : Nat) (hold : Bool) (cause : Nat) : State :=
  match s.ctx? c with
  | none => s
  | some x =>
    if x.state == .ending && !x.waitEgress then s
    else
      let spec := speculative s c
      let s := if hold then s else stopThreads s (.packet c) false cause
      let s := if spec then returnHeld s c else keepHeld s c
      let s := discardRecs (readyDrop s (ctxPan c) (.packet c)) x
      match s.ctx? c with
      | none => s
      | some x =>
        let x := { x with state := .ending, failed := some reason, recs := [], reads := [], waitEgress := false, parkedOn := none }
        let s := x.desc.copies.foldl (releaseCopy c x) (s.setCtx c { x with desc := { x.desc with copies := [] } })
        markDomain (refreshParking s x.key) x.key

/-- A context's record is written and the context is free; its domain advances (R102, R114, R289). -/
def endCtx (s : State) (c : Nat) (x : Ctx) (outcome reason flags : Nat) : State :=
  let s := writeCompletion s
    { kind := 0, outcome := outcome, reason := reason,
      programReason := if outcome == 1 && reason == 0x10 then x.dropReason.getD 0 else 0,
      flags := flags + b2n x.partly + 2 * b2n x.insertFailed + 8 * b2n x.express, tenant := x.desc.tenant,
      priority := x.prio, domain := x.desc.domain, seq := x.seq, context := c, program := x.desc.program,
      time := ⟨0, 0⟩ } x.desc.len
  let s := x.desc.copies.foldl (releaseCopy c x) s
  let s := releaseCells s x.desc.cells
  let s := s.setMeridian { s.meridian with ctxs := AMap.del s.meridian.ctxs c, unwindDue := AMap.del s.meridian.unwindDue c }
  let k := s.dom x.key
  let parking := stillParking s { k with flight := k.flight.filter (· != c) }
  let s := s.setDom x.key { k with flight := k.flight.filter (· != c), oldest := (x.seq + 1) % 65536, parking := parking }
  let s := { s with gaz := { s.gaz with
    absent := (s.gaz.absent.map (fun a => { a with ctxs := a.ctxs.filter (· != c) })).filter (fun a => !a.ctxs.isEmpty),
    tables := s.gaz.tables.map (fun t =>
      let q := t.2.quarantine.map (fun q => { q with ctxs := q.ctxs.filter (· != c) })
      (t.1, { t.2 with quarantine := q.filter (fun q => !q.ctxs.isEmpty),
                       freed := t.2.freed ++ (q.filter (fun q => q.ctxs.isEmpty)).map (·.index) })) } }
  drainWait (waitUsed s) (markDomain s x.key)

end Sys2Proof.Machine
end

