-- ==== Sys2Proof/Machine/Control.lean ====
section
/-! DEFINITION. Acceptance of command packets and the one way every command of Legend runs (R386, R390–R401, R408). -/

namespace Sys2Proof.Machine

/-- Number of a transport, as counters and command records name it (R341, R390): 0 PCIe, 1 in-band, 2 Survey Bus, 3 USB. -/
def transportOf : Via → Nat
  | .pcie _ => 0
  | .inband _ _ _ => 1
  | .survey _ => 2
  | .usb _ => 3

/-- Counter of packets discarded before acceptance, per transport and step of R390; 7 is the stale duplicate of R393
and 8 the duplicate whose reply is no longer kept (R394; assumption 19). -/
def discardId (via : Via) (reason : Nat) : Nat := cid 1 0 (16 * transportOf via + reason)

/-- Whether a session may send on a transport and function (R386, R427, R454). -/
def admits (via : Via) (owner : Option Nat) : Bool :=
  match via, owner with
  | .inband _ _ _, _ => true
  | .pcie fn, none => decide (fn % 1024 ≤ 512)
  | .pcie fn, some o => if fn % 1024 == 0 then o == operatorId else o + 1 == fn % 1024
  | _, none => true
  | _, some o => o == operatorId

/-- Whether request sequence `q` is acceptable under H and the window of 64 (R393). -/
def seqFresh (x : Session) (q : Nat) : Bool :=
  q != 0 && (decide (q > x.high) || (decide (x.high - q < 64) && !maskHas x.window (x.high - q)))

/-- Whether a sequence is a stale duplicate: at most H − 64 (R393). -/
def seqStale (x : Session) (q : Nat) : Bool := q == 0 || decide (q + 64 ≤ x.high)

/-- The session once a request sequence is accepted (R393). -/
def acceptSeq (x : Session) (q : Nat) (via : Via) (t : Ns) : Session :=
  let x := { x with via := via, lastMessage := t }
  if q > x.high then { x with high := q, window := (x.window <<< (q - x.high)) % 2 ^ 64 ||| 1, kept := keptWindow q x.kept }
  else { x with window := maskSet x.window (x.high - q) }

/-- The opcodes that are served as urgent whatever the flag (R399). -/
def alwaysUrgent (opcode : Nat) : Bool := [0x0106, 0x0902, 0x0901, 0x0103].contains opcode

/-- Whether a command is served ahead of ordinary ones (R399). -/
def isUrgent (e : Entry) : Bool := maskHas e.flags 3 || alwaysUrgent e.opcode

/-- Whether a command counts towards the limit of 4 urgent ones (R396, R399). -/
def countsUrgent (e : Entry) : Bool := maskHas e.flags 3 && !alwaysUrgent e.opcode

/-- The limit a new command of a session would break (R396): the code of its resource (R411). -/
def overLimit (s : State) (e : Entry) : Option Nat :=
  let mine := s.legend.flight.filter (fun x => x.2.session == e.session && e.session != 0)
  if decide (mine.length ≥ 32) || decide (s.legend.flight.length ≥ 8192) then some 0x70
  else if countsUrgent e && decide ((mine.filter (fun x => countsUrgent x.2)).length ≥ 4) then some 0x71
  else none

/-- When a CHAINED command gives up on a predecessor that has not been accepted (R398): 1 s, or its own deadline if that is
shorter. -/
def chainUntil (e : Entry) : Ns := e.acceptedAt + (if e.limit == 0 then 1000000000 else min 1000000000 (e.limit * 1000))

/-- A command that comes too late as the predecessor of a CHAINED one breaks that chain: the later one ends (R398). -/
def breakChains (s : State) (e : Entry) : State :=
  let late := s.legend.flight.filter (fun f => e.session != 0 && f.2.session == e.session && f.2.seq == e.seq + 1 && maskHas f.2.flags 2 &&
    f.2.stage == .waiting && decide (chainUntil f.2 ≤ now s))
  late.foldl (fun s f => endCommand s f.1 (failWith 0x0106 6 e.seq) []) s

/-- An accepted packet becomes a command in flight; one beyond a limit ends at once with BUSY (R390, R396, R402). -/
def takeIn (s : State) (e : Entry) : State :=
  let s := breakChains s e
  let acc := s.legend.nextAcc
  let beyond := overLimit s e
  let s := { s with legend := { s.legend with nextAcc := acc + 1, flight := AMap.put s.legend.flight acc e } }
  match beyond with
  | some r => endCommand s acc (failWith 0x0104 2 (r * 65536 + e.tenant)) []
  | none => if maskHas e.flags 1 then acknowledge s acc e else s

/-- A request already accepted (R394): its acknowledgment or its kept reply again, or nothing. -/
def resend (s : State) (via : Via) (id : Nat) (x : Session) (q : Nat) : State :=
  match s.legend.flight.find? (fun f => f.2.session == id && f.2.seq == q) with
  | some f =>
    match f.2.ack with
    | some bytes => release s via ⟨bytes, now s, id, q, false⟩
    | none => s
  | none =>
    match x.kept.find? (fun k => k.1 == q) with
    | some k => release s via ⟨k.2, now s, id, q, true⟩
    | none => count s (discardId via 8) 1

/-- The command that an accepted packet is. -/
def entryOf (s : State) (via : Via) (h : Header) (payload : List Byte) (orphan : Bool) : Entry :=
  { session := h.session, seq := h.seq, opcode := h.opcode, flags := h.flags, tenant := h.tenant, version := h.version,
    cookie := h.cookie, limit := h.deadline, deadline := now s + h.deadline * 1000, acceptedAt := now s, via := via,
    payload := payload, ack := none, extended := false, progressAt := 0, stage := .waiting, committed := false,
    orphan := orphan, heir := none }

/-- A request arrived on a function or interface: later packets go out again (R425, R432). -/
def requestSeen (s : State) (via : Via) : State :=
  match via with
  | .pcie fn => s.setFunc fn { (s.func fn).bump 0 with discard := false }
  | .usb i => s.setUsb i { s.usbIf i with discard := false }
  | _ => s

/-- Whether Legend, or BMK in USB recovery, takes packets of a transport (R377, R474). -/
def takesPackets (s : State) (via : Via) : Bool :=
  legendUp s || (s.power.phase == .recovery && transportOf via == 3)

/-- A whole packet offered to acceptance: the checks of R390 in order, each failure counted and discarded. -/
def offer (s : State) (via : Via) (bytes : List Byte) (orphan : Bool) : State :=
  let h := readHeader bytes
  let body := (bytes.drop 32).take h.length
  if !takesPackets s via then s
  else if bytes.length < 48 || bytes.length != 48 + h.length || h.length > 65504 then count s (discardId via 0) 1
  else if h.magic != 0x4D59 then count s (discardId via 1) 1
  else if h.check != crc32c (bytes.take 28) then count s (discardId via 2) 1
  else if maskHas h.flags 0 then count s (discardId via 3) 1
  else if h.session == 0 then takeIn s (entryOf s via h body orphan)
  else match s.session h.session with
    | none => count s (discardId via 4) 1
    | some x =>
      if !admits via x.owner || !x.established then count s (discardId via 4) 1
      else
        let n := packetNonce x.reqIv 0 h.seq
        let text := gcmText x.reqKey n body
        let tag := Config.gcmTag x.reqKey n (bytes.take 32) text
        if beNat (bytes.drop (32 + h.length)) != tag.toNat then count s (discardId via 5) 1
        else if seqFresh x h.seq then
          takeIn (s.setSession h.session (acceptSeq x h.seq via (now s))) (entryOf s via h text orphan)
        else if seqStale x h.seq then count s (discardId via 6) 1
        else resend s via h.session x h.seq

/-- Who may use an opcode (R408): bit 0 the operator, bit 1 a tenant, bit 2 an ownerless session. -/
def opcodeRoles (opcode : Nat) : Nat :=
  if [0x0000, 0x0004, 0x0006].contains opcode then 7
  else if [0x0001, 0x0003].contains opcode then 4
  else if [0x0005, 0x0100, 0x0108, 0x010A, 0x020B, 0x020C, 0x020D, 0x020E, 0x020F, 0x0210, 0x0302, 0x0303, 0x0304, 0x0307,
      0x030B, 0x0604, 0x0902, 0x0904, 0x0905, 0x0906, 0x0907, 0x0908, 0x0909, 0x0B07, 0x0C00, 0x0C01, 0x0C03].contains opcode then 3
  else if opcode / 256 == 4 then 3
  else if opcode / 256 == 5 && opcode != 0x0500 then 3
  else if opcode / 256 == 8 && opcode != 0x0800 && opcode != 0x0801 then 3
  else if opcode / 256 == 0x0A then 3
  else 1

/-- The role bit of a session's owner. -/
def roleBit : Option Nat → Nat
  | none => 2
  | some o => if o == operatorId then 0 else 1

/-- The owner on whose behalf a command acts: of its session, while that lives and after (R404); an ownerless one acts for no
one (R395). -/
def ownerOf (s : State) (e : Entry) : Option Nat :=
  match e.heir with
  | some h => h.owner
  | none => if e.session == 0 then none else ((s.session e.session).map (·.owner)).getD none

/-- The TENANT field that R395 allows. -/
def labelOk (s : State) (e : Entry) : Bool := e.tenant == (ownerOf s e).getD operatorId

/-- How a command ends, or that it ends at a later event. -/
inductive Ending where
  | done (w : Status) (data : List Byte)
  | later
  deriving DecidableEq, Repr

/-- What a command's body knows of its packet. -/
structure Call where
  acc : Nat
  owner : Nat                     -- the owner it acts for; the operator's number when ownerless
  isOp : Bool
  entry : Entry
  deriving DecidableEq, Repr

/-- Opcode areas that Legend serves in STANDBY (R482). -/
def standbyArea (opcode : Nat) : Bool := [0, 1, 0x0B].contains (opcode / 256)

/-- STANDBY holds, or has been ordered (R482). -/
def standbyHolds (s : State) : Bool :=
  s.power.state == .standby ||
    (match s.power.transition with | none => false | some t => t.target == .standby || t.target == .off)

/-- Whether STANDBY bars a command that needs a traffic domain (R482): in STANDBY, or accepted after the order. -/
def standbyBars (s : State) (acc : Nat) : Bool :=
  s.power.state == .standby || s.power.state == .off ||
    (standbyHolds s && (match s.power.transition with
      | none => true
      | some t => match t.acc with | none => true | some a => decide (acc > a)))

/-- The status of a CHAINED command's predecessor, when it has ended (R398): in the session's log, or, once the session has
ended, as the session left it or in the owner's orphan log. -/
def chainStatus (s : State) (e : Entry) : Option Status :=
  match e.heir with
  | some h =>
    match h.prior with
    | some w => some w
    | none =>
      let log : List (Nat × Nat × Status) := AMap.at s.legend.orphanLogs (orphanOwner e) []
      (log.find? (fun p => p.1 == e.session && p.2.1 + 1 == e.seq)).map (·.2.2)
  | none =>
    match s.session e.session with
    | none => none
    | some x => (x.log.find? (fun p => p.1 + 1 == e.seq)).map (·.2)

/-- Whether an entry waits for a CHAINED predecessor that has not ended (R398). -/
def chainWaits (s : State) (e : Entry) : Bool := maskHas e.flags 2 && e.session != 0 && (chainStatus s e).isNone

/-- The kind of object that an opcode acts on, and how many bytes of the payload's selector name one of that kind: 0 where there is
one only, 4 an object id, 8 an id with its index or an SCI (R385, R408, R409; assumption 97). -/
def objectKind (opcode : Nat) : Option (Nat × Nat) :=
  if [0x0101, 0x0102].contains opcode then some (1, 8)
  else if opcode == 0x0103 then some (2, 0)
  else if [0x0200, 0x0201, 0x0202, 0x0203, 0x0206, 0x020A].contains opcode then some (3, 4)
  else if [0x0204, 0x0205].contains opcode then some (4, 8)
  else if [0x0207, 0x0208, 0x0209].contains opcode then some (5, 4)
  else if decide (0x020B ≤ opcode) && decide (opcode ≤ 0x0210) then some (6, 8)
  else if [0x0300, 0x0301].contains opcode then some (7, 4)
  else if [0x0302, 0x0303, 0x0304].contains opcode then some (8, 4)
  else if decide (0x0305 ≤ opcode) && decide (opcode ≤ 0x0309) then some (opcode, 4)
  else if opcode == 0x030A then some (9, 0)
  else if [0x0400, 0x0401, 0x0402].contains opcode then some (10, 4)
  else if [0x0405, 0x0406, 0x0407, 0x0408, 0x040B].contains opcode then some (11, 4)
  else if [0x0409, 0x040A].contains opcode then some (12, 4)
  else if [0x0500, 0x0600, 0x0700].contains opcode then some (opcode, 0)
  else if (decide (0x0501 ≤ opcode) && decide (opcode ≤ 0x050D)) || [0x0807, 0x0808, 0x0809].contains opcode then some (13, 4)
  else if [0x0601, 0x0602, 0x0603, 0x0701].contains opcode then some (opcode, 4)
  else if [0x0800, 0x0801].contains opcode then some (14, 0)
  else if decide (0x0802 ≤ opcode) && decide (opcode ≤ 0x0806) then some (15, 4)
  else none

/-- The object that a command names: its kind and its selector; where the spec lays out no selector, it is free (R397, R399;
assumption 97). -/
def objectOf (e : Entry) : Nat × Nat :=
  match objectKind e.opcode with
  | some (kind, n) => (kind, beAt e.payload 0 n)
  | none => (0, Config.objectOf e.opcode e.payload)

/-- Whether two commands are on one object (R397, R399). -/
def sameObject (e f : Entry) : Bool := objectOf e == objectOf f

/-- The queue in which the effect of a command waits once it has started: 1 a table's batch, 2 the writes of records, 3 a cold
delete behind a promotion; 0 none. Such an effect has still to come (R22, R248, R326). -/
def effectQueue (opcode : Nat) : Nat :=
  if [0x0503, 0x0504].contains opcode then 1
  else if [0x0506, 0x0507, 0x0508].contains opcode then 2
  else if opcode == 0x0808 then 3
  else 0

/-- Whether an earlier command on one object has still to take effect, so that a later one may not (R397, R399): it waits for its
CHAINED predecessor, or its effect stands in a queue that the later one does not join. A chain of one session keeps its own
order. -/
def objectBusy (s : State) (acc : Nat) (e : Entry) : Bool :=
  s.legend.flight.any (fun f => decide (f.1 < acc) && sameObject f.2 e && !(f.2.session == e.session && decide (e.seq < f.2.seq)) &&
    ((f.2.stage == .waiting && chainWaits s f.2) ||
      (f.2.stage == .executing && !f.2.committed && effectQueue f.2.opcode != 0 && effectQueue f.2.opcode != effectQueue e.opcode)))

/-- Whether a command could start but for the order (R398). -/
def startable (s : State) (acc : Nat) (e : Entry) : Bool := e.stage == .waiting && !chainWaits s e && !objectBusy s acc e

/-- Whether an urgent command follows an ordinary one on its object that was accepted earlier and has not started: it never
overtakes that one (R399). -/
def heldBack (s : State) (acc : Nat) (e : Entry) : Bool :=
  s.legend.flight.any (fun f => decide (f.1 < acc) && startable s f.1 f.2 && !isUrgent f.2 && sameObject f.2 e)

/-- Whether another command must still start or take effect before this one (R397, R399): one accepted earlier, or an urgent
one. -/
def startsBefore (s : State) (acc : Nat) (e : Entry) : Bool :=
  objectBusy s acc e ||
  s.legend.flight.any (fun f => decide (f.1 < acc) && startable s f.1 f.2 && (isUrgent f.2 || !isUrgent e || sameObject f.2 e)) ||
  (!isUrgent e && s.legend.flight.any (fun f => f.1 != acc && startable s f.1 f.2 && isUrgent f.2 && !heldBack s f.1 f.2))

/-- BOOT serves the firmware commands that write and verify a BOOT or BMK image, and the restart, in session 0, when no BMK slot
verifies (R377; assumption 105). -/
def bootServes (s : State) (e : Entry) : Bool :=
  s.power.phase == .recovery && !s.trust.bmkRuns && e.session == 0 && [0x0B00, 0x0B01, 0x0105].contains e.opcode

/-- The checks of R391 that need no payload, in order; the status of the first that fails. -/
def headCheck (s : State) (e : Entry) (known : Bool) : Option Status :=
  if e.version != 1 then some (plain 0x0101 false)
  else if e.flags / 16 != 0 then some (failWith 0x0100 1 (0xFFFF * 65536 + 228))
  else if !labelOk s e then some (failWith 0x0100 1 (0xFFFF * 65536 + 192))
  else if !known then some (plain 0x0102 false)
  else if e.session == 0 && !([0x0000, 0x0004, 0x0006].contains e.opcode) && !bootServes s e then some (plain 0x0103 false)
  else if (AMap.at s.trust.slots operatorId Slot.free).state == .free && e.opcode / 256 != 0 && !bootServes s e then
    some (plain 0x0200 false)
  else if !maskHas (opcodeRoles e.opcode) (roleBit (ownerOf s e)) && !bootServes s e then some (plain 0x0201 false)
  else none

/-- Whether a slot is ZEROIZING: nothing is accepted for it (R349). -/
def slotBusy (s : State) (o : Nat) : Bool := (AMap.at s.trust.slots o Slot.free).state == .zeroizing

/-- A status that the machine's state forces before a command's own checks (R349, R377, R482; assumption 23): WRONG_STATE names
the state, 3 STANDBY, 5 USB recovery. -/
def stateCheck (s : State) (acc : Nat) (e : Entry) : Option Status :=
  if standbyBars s acc && !standbyArea e.opcode then some (failWith 0x0503 3 3)
  else if s.power.phase == .recovery && !([0, 0x0B].contains (e.opcode / 256)) && e.opcode != 0x0105 then some (failWith 0x0503 3 5)
  else match ownerOf s e with
    | none => none
    | some o => if slotBusy s o then some (plain 0x0203 false) else none

/-- Note how a body ended: its final status, or that the command goes on executing. -/
def conclude (acc : Nat) (r : State × Ending) : State :=
  match r.2 with
  | .done w data => endCommand r.1 acc w data
  | .later =>
    match AMap.find r.1.legend.flight acc with
    | none => r.1
    | some e => r.1.setEntry acc { e with stage := .executing }

/-- A keep-alive extension of a command's deadline (R401): D µs from now, at most 4 × D µs after acceptance; a moved
deadline is told to the requester at most once per 100 ms, with the cause of the retry. -/
def extendDeadline (cause : Nat) (s : State) (acc : Nat) : State :=
  match AMap.find s.legend.flight acc with
  | none => s
  | some e =>
    if e.limit == 0 || decide (now s ≥ e.deadline) then s
    else
      let d := min (now s + e.limit * 1000) (e.acceptedAt + 4 * e.limit * 1000)
      let tells := decide (d > e.deadline) && (e.progressAt == 0 || decide (now s ≥ e.progressAt + 100000000))
      let e := { e with deadline := max e.deadline d, extended := true, progressAt := if tells then now s else e.progressAt }
      let s := s.setEntry acc e
      match tells, s.sessionOf e with
      | true, some x =>
        notify s e.session x 0x0A11 e.cookie (beBytes 4 e.seq ++ beBytes 4 (remainingUs s e) ++ beBytes 1 cause ++ beBytes 7 0)
      | _, _ => s

/-- The status of a command whose payload is malformed (R391): step 7 comes first, so one that names another owner's object ends
NOT_PERMITTED; the last sequence number carries only KEY_UPDATE and END_SESSION (R393). -/
def malformedStatus (s : State) (c : CmdRef) (e : Entry) (r : State × Ending) : Option Status :=
  if e.seq == 0xFFFFFFFF && e.session != 0 && e.opcode != 0 then some (failWith 0x0100 1 (0xFFFF * 65536 + 128))
  else if c.malformed then
    match r.2 with
    | .done w _ => if w.code == 0x0201 then some w else some (failWith 0x0100 0 0)
    | .later => some (failWith 0x0100 0 0)
  else if pastDeadline s e then some (plain 0x0105 false)
  else none

/-- Run the body of a command whose order of start and whose checks allow it (R391, R397–R400); one whose deadline has passed
before this moment, at which it would commit or sample, ends DEADLINE_EXPIRED. None acts once a zeroize or a shutdown has been
decided (R368, R470). -/
def runBody (s : State) (c : CmdRef) (e : Entry) (known : Bool) (body : Call → State → State × Ending) : State :=
  if e.stage != .waiting || s.trust.zeroizing.isSome || s.power.phase == .flushing || chainWaits s e || startsBefore s c.acc e then s
  else
    let broken := maskHas e.flags 2 && match chainStatus s e with | none => false | some w => decide (w.code ≥ 0x100)
    if broken then endCommand s c.acc (failWith 0x0106 6 (e.seq - 1)) []
    else match headCheck s e known with
      | some w => endCommand s c.acc w []
      | none =>
        match stateCheck s c.acc e with
        | some w => endCommand s c.acc w []
        | none =>
          let o := ownerOf s e
          let r := body ⟨c.acc, o.getD operatorId, o == some operatorId, e⟩ s
          match malformedStatus s c e r with
          | some w => endCommand s c.acc w []
          | none => conclude c.acc r

/-- Run a command of Legend: its packet must be in flight under this opcode (R391); then what it raised is handled. -/
def runCommand (s : State) (c : CmdRef) (opcode : Nat) (body : Call → State → State × Ending) : State :=
  match AMap.find s.legend.flight c.acc with
  | none => s
  | some e => if e.opcode == opcode then settle (runBody s c e true body) else s

/-- Data of a reply at most (R407). -/
def replyMax : Nat := 65496

/-- The common endings. -/
def okDone (s : State) : State × Ending := (s, .done (plain 0 true) [])
/-- A read's ending: success without APPLIED, and its data (R410). -/
def okRead (s : State) (data : List Byte) : State × Ending := (s, .done (plain 0 false) data)
/-- A success that carries data and took effect. -/
def okData (s : State) (data : List Byte) : State × Ending := (s, .done (plain 0 true) data)
/-- A failure or another ending that changes nothing. -/
def ends (s : State) (w : Status) : State × Ending := (s, .done w [])
/-- An ending by a bare code. -/
def endsCode (s : State) (code : Nat) : State × Ending := ends s (plain code false)
/-- A FIELD failure: the record's byte offset in the payload and the field's lowest bit (R385). -/
def badField (code offset bit : Nat) : Status := failWith code 1 (offset * 65536 + bit)
/-- A FIELD failure in a payload that the spec does not lay out (assumption 25). -/
def badOpen (code opcode n : Nat) : Status := failWith code 1 (Config.fieldDetail opcode n % 2 ^ 32)
/-- A RESOURCE failure (R385, R411). -/
def noRoom (code resource object : Nat) : Status := failWith code 2 (resource * 65536 + object % 65536)

/-- What a command that names a slot tests: a slot that is ZEROIZING ends it with that status (R349). -/
def namesBusy (s : State) (o : Nat) : Bool × Status := (slotBusy s o, failWith 0x0203 3 o)

/-- The first of some tests that is violated, with its status (R391 step 8). -/
def firstBad : List (Bool × Status) → Option Status
  | [] => none
  | (b, w) :: rest => if b then some w else firstBad rest

/-- Go on unless a test is violated. -/
def unlessBad (s : State) (tests : List (Bool × Status)) (go : State × Ending) : State × Ending :=
  match firstBad tests with
  | some w => ends s w
  | none => go

/-- The fields of a record of width `n` that are in use, reserved bits all 0 (R10); else MALFORMED at the lowest
reserved bit that is set. -/
def reservedBad {n : Nat} (v : BitVec n) (reserved : List (Nat × Nat)) (offset : Nat) : List (Bool × Status) :=
  reserved.map (fun r => (fld v r.1 r.2 != 0, badField 0x0100 offset r.1))

end Sys2Proof.Machine
end

