-- ==== Sys2Proof/Machine/Quotas.lean ====
section
/-! DEFINITION. What tables take and what limits their growth: storage, quotas, DRAM allocations (R239, R241, R256, R296). -/

namespace Sys2Proof.Machine

/-- RECORDS_LOG2 of FLOW_CFG (R256). -/
def flowLog (t : Table) : Nat := fld t.cfg 0 5
/-- KEY_WORDS of FLOW_CFG. -/
def keyWords (t : Table) : Nat := fld t.cfg 5 3
/-- LEARN_EN of FLOW_CFG. -/
def learnEn (t : Table) : Bool := bit t.cfg 9
/-- COLD_EN of FLOW_CFG. -/
def coldEn (t : Table) : Bool := bit t.cfg 10
/-- COLD_FILTER_LOG2 of FLOW_CFG. -/
def filterLog (t : Table) : Nat := fld t.cfg 51 6
/-- Records of a table (R239, R256). -/
def tableSize (t : Table) : Nat := if t.kind == 3 then 2 ^ flowLog t else t.size


/-- Whether a rank is RETIRE_PENDING (R315): every growth of a DRAM allocation is refused (R296). -/
def retirePending (s : State) : Bool := s.dram.ranks.any (fun r => r.2.state == .retirePending)

/-- DRAM in whole extents of 2 MiB (R296). -/
def extents (n : Nat) : Nat := ceilDiv n (2 ^ 21) * 2 ^ 21

/-- Bytes of a table's entries or records and of its bucket arrays (R239, R255, R256, R264). -/
def storageBytes (t : Table) : Nat :=
  match t.kind with
  | 2 => 2 ^ t.indexBits * t.entryWords * 8
  | 3 => 144 * 2 ^ flowLog t + (if t.rehash.isSome then 16 * 2 ^ flowLog t else 0)
  | 4 => 128 * t.size
  | _ => 0

/-- Whether a table's storage is Gazetteer SRAM (R239, R256). -/
def inSram (t : Table) : Bool := if t.kind == 3 then bit t.cfg 8 else t.sram

/-- Whether a table's storage is lost: a trip has erased the key of its DRAM (R359, R368). -/
def tableErased (s : State) (t : Table) : Bool := s.trust.zeroizing.isSome && !inSram t && decide (2 ≤ t.kind)

/-- A client's request to the storage of a table, where that is DRAM (R301; assumption 93). -/
def tableRequest (s : State) (port table bytes : Nat) : State :=
  let t := s.table table
  if inSram t then s else clientRequest s port t.owner bytes

/-- Bytes of a table's cold filter, twice during a rebuild (R256, R331). -/
def filterBytes (t : Table) : Nat :=
  if t.kind == 3 && coldEn t && filterLog t != 0 then 2 ^ filterLog t / 8 * (1 + b2n t.filterNew.isSome) else 0

/-- Gazetteer SRAM that a table takes (R241). -/
def tableSram (t : Table) : Nat := if inSram t then storageBytes t else 0
/-- Gazetteer SRAM of a FLOW table's stash: 64 keys with their record indexes (R241, R257; 8 bytes an index is the model's
choice, assumption 91). -/
def stashBytes (t : Table) : Nat := if t.kind == 3 then 64 * (8 * keyWords t + 8) else 0
/-- Gazetteer SRAM of the absent list's 65,536 entries (R241, R263; 64 bytes an entry is the model's choice, assumption
91). -/
def absentBytes : Nat := 65536 * 64
/-- DRAM that a table takes, with its cold filter, in extents (R241, R256, R296). -/
def tableDram (t : Table) : Nat := extents ((if inSram t then 0 else storageBytes t) + filterBytes t)
/-- Hot flow records of a table (R256). -/
def tableFlows (t : Table) : Nat := if t.kind == 3 then 2 ^ flowLog t else 0

/-- A field of an owner's quota record; an owner without a record has no quota (R350). -/
def ownerQuota (s : State) (owner byte width : Nat) : Nat :=
  match AMap.find s.trust.slots owner with
  | none => 0
  | some x => quotaField x.quota byte width

/-- A measure summed over tables. -/
def sumTables (f : Table → Nat) (ts : AMap Table) : Nat := ts.foldl (fun n t => n + f t.2) 0
/-- The tables of an owner. -/
def tablesOf (s : State) (owner : Nat) : AMap Table := s.gaz.tables.filter (fun t => t.2.owner == owner)

/-- Slots in service: those that a rank holds (R295, R321). -/
def slotsHeld (s : State) : Nat :=
  ((List.range 18).filter (fun r => decide ((AMap.at s.dram.ranks r (Rank.shipped r)).slot < 16) &&
    (AMap.at s.dram.ranks r (Rank.shipped r)).state != .migratingIn)).length

/-- Allocatable capacity in bytes with a number of slots (R296): 12 GiB each, less a reserve of 8 GiB. -/
def capacityOfSlots (n : Nat) : Nat := 12 * 2 ^ 30 * n - 8 * 2 ^ 30

/-- DRAM that an owner's quota record grants, or that it holds beyond it (R350). -/
def grantOf (s : State) (owner : Nat) (bytes tables : Nat) : Nat :=
  max bytes (AMap.at s.dram.alloc owner 0) + max tables (sumTables tableDram (tablesOf s owner))

/-- DRAM granted to owners, or held by them beyond their grants, and to the far buffer (R350), the far buffer of a given size. -/
def dramGranted (s : State) (farGib : Nat) (skip : Option Nat) : Nat :=
  s.trust.slots.foldl (fun n x => if skip == some x.1 || x.2.state == .free then n
    else n + grantOf s x.1 (quotaField x.2.quota 24 8) (quotaField x.2.quota 32 8)) (farGib * 2 ^ 30)

/-- FAR_GIB in force (R293). -/
def farGib (s : State) : Nat := fld s.cote.cfg 0 6

/-- The DRAM allocated now (R296): the far buffer, the owners' memory, the tables with their cold filters. -/
def dramTaken (s : State) : Nat :=
  s.dram.alloc.foldl (fun n x => n + x.2) (farGib s * 2 ^ 30 + sumTables tableDram s.gaz.tables)

/-- The limits that a table's growth meets (R239, R241, R256, R296): the owner's quotas, then the device's. -/
def growTests (s : State) (owner : Nat) (old new : Table) : List (Bool × Status) :=
  let mine := tablesOf s owner
  let beyond (f : Table → Nat) (limit : Nat) : Bool :=
    decide (f old < f new) && decide (sumTables f mine + (f new - f old) > limit)
  let device (f : Table → Nat) (limit : Nat) : Bool :=
    decide (f old < f new) && decide (sumTables f s.gaz.tables + (f new - f old) > limit)
  [(beyond tableSram (ownerQuota s owner 12 4), noRoom 0x0400 0x11 owner),
   (beyond tableFlows (ownerQuota s owner 16 4), noRoom 0x0400 0x12 owner),
   (beyond tableDram (ownerQuota s owner 32 8), noRoom 0x0400 0x13 owner),
   (device (fun t => tableSram t + stashBytes t) (48 * 2 ^ 20 - absentBytes), noRoom 0x0401 0x11 owner),
   (device tableFlows (2 ^ 29), noRoom 0x0401 0x12 owner),
   (decide (tableDram old < tableDram new) && retirePending s, plain 0x0405 false),
   (decide (tableDram old < tableDram new) &&
     decide (dramTaken s + (tableDram new - tableDram old) > capacityOfSlots (slotsHeld s)), plain 0x0403 false)]

end Sys2Proof.Machine
end

