-- ==== Sys2Proof/Machine/Flow.lean ====
section
/-! DEFINITION. Flow hash tables: hashing, search, learning, insert, delete (R256–R263). -/

namespace Sys2Proof.Machine

/-- Buckets of a FLOW table (R257). -/
def bucketCount (t : Table) : Nat := 2 ^ (flowLog t - 2)
/-- Counter of a table by its index (R273; assumption 19). -/
def tableCount (s : State) (table index : Nat) : State := count s (tableCid table index) 1

/-- Lines of a FLOW table's storage after those of its records (R267; the numbering is the model's, assumption 31): the
buckets, those of a rehash's new array, the stash images. -/
def bucketLine (t : Table) (b : Nat) : Nat := 2 * tableSize t + b
/-- Line of a bucket of a rehash's new array. -/
def newBucketLine (t : Table) (b : Nat) : Nat := 2 * tableSize t + bucketCount t + b
/-- Line of a stash image. -/
def stashLine (t : Table) (p : Nat) : Nat := 2 * tableSize t + 2 * bucketCount t + p

/-- H1 of a key under a seed: the raw CRC-32C register (R257). -/
def flowH (seed : Nat) (key : List Byte) : Nat := crc32cRaw seed key
/-- The conflict hash (R257). -/
def flowKh (table : Nat) (key : List Byte) : Nat := crc32c (beBytes 2 table ++ key)

/-- What a key hashes to under two seeds (R257). -/
structure FlowHash where
  b1 : Nat
  b2 : Nat
  fp : Nat

/-- Buckets and fingerprint of a key (R257). -/
def flowHashOf (t : Table) (seed1 seed2 : Nat) (key : List Byte) : FlowHash :=
  let x := flowH seed1 key
  let y := flowH seed2 key
  let b1 := x % bucketCount t
  let b2 := y % bucketCount t
  { b1 := b1, b2 := if b2 == b1 then b1 ^^^ 1 else b2, fp := (x / 65536) ^^^ (y / 65536) }

/-- Seeds in force. -/
def seed1 (t : Table) : Nat := fld t.cfg 64 32
/-- The second seed in force. -/
def seed2 (t : Table) : Nat := fld t.cfg 96 32

/-- Words as bytes, little-endian (R9). -/
def wordBytes (ws : List Word) : List Byte := (ws.map (fun w => leBytes 8 w.toNat)).flatten
/-- Bytes as words, little-endian. -/
def bytesWords : Nat → List Byte → List Word
  | 0, _ => []
  | n + 1, bs => BitVec.ofNat 64 (leNat (bs.take 8)) :: bytesWords n (bs.drop 8)

/-- The 16 words of a record; an unlisted record reads 0 (R239). -/
def recordOf (t : Table) (i : Nat) : List Word := AMap.at t.records i (List.replicate 16 0)
/-- One word of a record. -/
def recordWord (t : Table) (i w : Nat) : Word := (recordOf t i).getD w 0
/-- The key that a record holds. -/
def recordKey (t : Table) (i : Nat) : List Byte := wordBytes ((recordOf t i).take (keyWords t))

/-- Where a key stands. -/
inductive FlowAt where
  | way (fresh : Bool) (bucket way : Nat)     -- in the new array of a rehash, or in the array in force
  | stash (pos : Nat)
  deriving DecidableEq, Repr

/-- The first way of a bucket whose record holds a key (R258). -/
def wayIn (t : Table) (bucket : AMap Way) (fp : Nat) (key : List Byte) : Option (Nat × Nat) :=
  (bucket.find? (fun w => w.2.fp == fp && recordKey t w.2.index == key)).map (fun w => (w.1, w.2.index))

/-- A key in one array: its first bucket, then its second (R258). -/
def inArray (t : Table) (fresh : Bool) (buckets : AMap (AMap Way)) (h : FlowHash) (key : List Byte) : Option (Nat × FlowAt) :=
  match wayIn t (AMap.at buckets h.b1 []) h.fp key with
  | some w => some (w.2, .way fresh h.b1 w.1)
  | none => (wayIn t (AMap.at buckets h.b2 []) h.fp key).map (fun w => (w.2, .way fresh h.b2 w.1))

/-- Search for a key: the record index and where the key stands (R258, R264). -/
def flowFind (t : Table) (key : List Byte) : Option (Nat × FlowAt) :=
  let inNew := match t.rehash with
    | none => none
    | some r => inArray t true r.buckets (flowHashOf t r.seed1 r.seed2 key) key
  match inNew with
  | some x => some x
  | none =>
    match inArray t false t.buckets (flowHashOf t (seed1 t) (seed2 t) key) key with
    | some x => some x
    | none => (t.stash.zipIdx.find? (fun e => e.1.key == key)).map (fun e => (e.1.index, .stash e.2))

/-- A bucket of an array. -/
def bucketOf (b : AMap (AMap Way)) (i : Nat) : AMap Way := AMap.at b i []

/-- The AGE of the place of a hit set to the current tick (R258). -/
def touch (t : Table) (at_ : FlowAt) : Table :=
  match at_ with
  | .way false b w => { t with buckets := AMap.put t.buckets b ((bucketOf t.buckets b).map (fun x =>
      if x.1 == w then (x.1, { x.2 with age := t.ageTick % 65536 }) else x)) }
  | .way true b w => { t with rehash := t.rehash.map (fun r => { r with
      buckets := AMap.put r.buckets b ((bucketOf r.buckets b).map (fun x =>
        if x.1 == w then (x.1, { x.2 with age := t.ageTick % 65536 }) else x)) }) }
  | .stash p => { t with stash := t.stash.zipIdx.map (fun e => if e.2 == p then { e.1 with age := t.ageTick % 65536 } else e.1) }

/-- The AGE of a place. -/
def ageAt (t : Table) (at_ : FlowAt) : Nat :=
  match at_ with
  | .way false b w => (AMap.at (bucketOf t.buckets b) w ⟨0, 0, 0⟩).age
  | .way true b w => match t.rehash with | none => 0 | some r => (AMap.at (bucketOf r.buckets b) w ⟨0, 0, 0⟩).age
  | .stash p => (t.stash.getD p ⟨[], 0, 0⟩).age

/-- The lowest free way of a bucket of 8. -/
def freeWay (b : AMap Way) : Option Nat := (List.range 8).find? (fun i => !AMap.has b i)

/-- The other bucket of the key that a way names (R260). -/
def otherBucket (t : Table) (s1 s2 : Nat) (b : Nat) (w : Way) : Nat :=
  let h := flowHashOf t s1 s2 (recordKey t w.index)
  if h.b1 == b then h.b2 else h.b1

/-- Breadth-first search for the first shortest chain of moves, at most 8 (R260): a chain lists (bucket, way), the
last first, and the bucket with a free way that its end moves to. -/
def moveChain (t : Table) (s1 s2 : Nat) (bs : AMap (AMap Way)) :
    Nat → List Nat → List (List (Nat × Nat)) → Option (List (Nat × Nat) × Nat)
  | 0, _, _ => none
  | n + 1, seen, frontier =>
    let ends := frontier.filterMap (fun c =>
      match c with
      | [] => none
      | (b, w) :: _ => some (c, otherBucket t s1 s2 b (AMap.at (bucketOf bs b) w ⟨0, 0, 0⟩)))
    match ends.find? (fun e => (freeWay (bucketOf bs e.2)).isSome) with
    | some e => some e
    | none =>
      let next := ends.foldl (fun (acc : List Nat × List (List (Nat × Nat))) e =>
        if acc.1.contains e.2 then acc
        else (e.2 :: acc.1, acc.2 ++ (List.range 8).map (fun w => (e.2, w) :: e.1))) (seen, [])
      moveChain t s1 s2 bs n next.1 next.2

/-- Make the moves of a chain, from its far end (R260). -/
def makeMoves : AMap (AMap Way) → List (Nat × Nat) → Nat → AMap (AMap Way)
  | bs, [], _ => bs
  | bs, (b, w) :: rest, target =>
    match AMap.find (bucketOf bs b) w, freeWay (bucketOf bs target) with
    | some x, some f =>
      let bs := AMap.put bs target (AMap.put (bucketOf bs target) f x)
      makeMoves (AMap.put bs b (AMap.del (bucketOf bs b) w)) rest b
    | _, _ => bs

/-- A way written in the bucket with more free ways, the first on a tie (R260). -/
def placeWay (bs : AMap (AMap Way)) (h : FlowHash) (x : Way) : Option (AMap (AMap Way)) :=
  let c1 := bucketOf bs h.b1
  let c2 := bucketOf bs h.b2
  let b := if c2.length < c1.length then h.b2 else h.b1
  match freeWay (bucketOf bs b) with
  | none => none
  | some w => some (AMap.put bs b (AMap.put (bucketOf bs b) w x))

/-- An insert into one array: a free way, or moves (R260). -/
def arrayInsert (t : Table) (s1 s2 : Nat) (bs : AMap (AMap Way)) (key : List Byte) (i age : Nat) : Option (AMap (AMap Way)) :=
  let h := flowHashOf t s1 s2 key
  let x : Way := ⟨i, h.fp, age⟩
  match placeWay bs h x with
  | some b => some b
  | none =>
    let start := (List.range 8).map (fun w => [(h.b1, w)]) ++ (List.range 8).map (fun w => [(h.b2, w)])
    match moveChain t s1 s2 bs 8 [h.b1, h.b2] start with
    | none => none
    | some (chain, target) => placeWay (makeMoves bs chain target) h x

/-- An insert into a table: an array, else the stash of 64; none when it fails (R260, R264). -/
def tableInsert (t : Table) (key : List Byte) (i : Nat) : Option Table :=
  let age := t.ageTick % 65536
  let placed := match t.rehash with
    | some r => (arrayInsert t r.seed1 r.seed2 r.buckets key i age).map (fun b => { t with rehash := some { r with buckets := b } })
    | none => (arrayInsert t (seed1 t) (seed2 t) t.buckets key i age).map (fun b => { t with buckets := b })
  match placed with
  | some t => some t
  | none => if t.stash.length < 64 then some { t with stash := t.stash ++ [⟨key, i, age⟩] } else none

/-- A key removed from wherever it stands (R261, R264). -/
def tableRemove (t : Table) (at_ : FlowAt) : Table :=
  match at_ with
  | .way false b w => { t with buckets := AMap.put t.buckets b (AMap.del (bucketOf t.buckets b) w) }
  | .way true b w => { t with rehash := t.rehash.map (fun r => { r with buckets := AMap.put r.buckets b (AMap.del (bucketOf r.buckets b) w) }) }
  | .stash p =>
    let gone := stashLine t p
    { t with stash := (t.stash.zipIdx.filter (fun e => e.2 != p)).map (·.1),
             poison := (t.poison.filter (· != gone)).map (fun l => if l > gone then l - 1 else l) }

/-- A free record index and the table without it: an index freed before, the earliest first, else a fresh one. -/
def takeIndex (t : Table) : Option (Nat × Table) :=
  match t.freed with
  | i :: rest => some (i, { t with freed := rest })
  | [] => if t.fresh < tableSize t then some (t.fresh, { t with fresh := t.fresh + 1 }) else none

/-- Free records of a FLOW table. -/
def freeRecords (t : Table) : Nat := t.freed.length + (tableSize t - t.fresh)

/-- A record as learned: the key in its key words, every other word 0 (R259); both its lines are clean (R267). -/
def writeNew (t : Table) (i : Nat) (key : List Byte) : Table :=
  { t with records := AMap.put t.records i (bytesWords (keyWords t) key ++ List.replicate (16 - keyWords t) 0),
           poison := t.poison.filter (fun l => l / 2 != i) }

/-- Contexts that are live (R261). -/
def liveCtxs (s : State) : List Nat := s.meridian.ctxs.map (·.1)

/-- A record index freed by a delete or by the demotion of a key is quarantined until the contexts live now have ended
(R261, R327). -/
def quarantine (s : State) (t : Table) (i : Nat) (demoted : Option (List Byte)) : Table :=
  if (liveCtxs s).isEmpty then { t with freed := t.freed ++ [i] }
  else { t with quarantine := t.quarantine ++ [⟨i, liveCtxs s, demoted⟩] }

/-- Speculative contexts, of one domain or of all, that hold an entry in their sets are squashed (R22, R109). -/
def squashHolders (s : State) (domain : Option Nat) (e : SetEntry) : State :=
  s.meridian.ctxs.foldl (fun s c =>
    if (domain.isNone || domain == some c.2.key) && speculative s c.1 && c.2.reads.contains e then squash s c.1 else s) s

/-- One rehash request of a table to its owner; with automatic rehash on, a rehash starts unless a quota refuses its second
array (R260, R264). -/
def requestRehash (s : State) (table : Nat) : State :=
  let t := s.table table
  if t.requestRaised then s
  else
    let s := raise (s.setTable table { t with requestRaised := true }) 0x241 t.owner 1 (dataBytes 2 table)
    if t.autoRehash && t.rehash.isNone then
      let a := fresh s
      let b := fresh a.2
      let t := b.2.table table
      let t' := { t with rehash := some ⟨a.1.toNat % 2 ^ 32, b.1.toNat % 2 ^ 32, [], none⟩ }
      if (firstBad (growTests s t.owner t t')).isSome then s else b.2.setTable table t'
    else s

/-- A TABLE_INSERT is applied (R260). The answer says whether the record stays: a dropped insert discards the packet's
writes to its index. -/
def applyInsert (s : State) (domain : Option Nat) (table : Nat) (key : List Byte) (i : Nat) : State × Option Nat :=
  let t := s.table table
  match flowFind t key with
  | some _ => (tableCount (dropProvisional s table i) table 0, some 0)
  | none =>
    match tableInsert t key i with
    | none => (requestRehash (tableCount (dropProvisional s table i) table 1) table, some 1)
    | some t' =>
      let s := s.setTable table { t' with provisional := t'.provisional.filter (· != i) }
      let s := { s with gaz := { s.gaz with absent := s.gaz.absent.filter (fun a => !(a.table == table && a.key == key)) } }
      let s := squashHolders s domain (.key table (flowKh table key))
      let s := tableRequest (devCount s 3 2 0 t.owner 1) 17 table 64
      (if t'.stash.length ≥ 48 && t'.stash.length != t.stash.length then requestRehash s table else s, none)

/-- A key deleted, its holders squashed, its index quarantined (R261). Causes: 11 program, 12 command, 13 aging. -/
def applyDelete (s : State) (domain : Option Nat) (table : Nat) (key : List Byte) (cause : Nat) : State :=
  let t := s.table table
  match flowFind t key with
  | none => s
  | some (i, at_) =>
    let s := s.setTable table (quarantine s (tableRemove t at_) i none)
    squashHolders (tableRequest (tableCount s table cause) 17 table 64) domain (.key table (flowKh table key))

/-- A record with a poisoned line (R267). -/
def recordPoisoned (t : Table) (i : Nat) : Bool := t.poison.contains (2 * i) || t.poison.contains (2 * i + 1)

/-- Whether a STATE_WRITE reaches a record: not a freed or quarantined one (R261). -/
def recordLive (t : Table) (i : Nat) : Bool :=
  t.kind != 3 || (!t.quarantine.any (fun q => q.index == i) && !t.freed.contains i && decide (i < t.fresh))

/-- Words written to one record together (R110): a poisoned line is written only whole (R267, R311). -/
def writeRecord (s : State) (table i : Nat) (ws : List (Nat × Word)) : State :=
  let t := s.table table
  if !recordLive t i then tableCount s table 2
  else
    let full (line : Nat) : Bool := (List.range 8).all (fun w => ws.any (fun x => x.1 == 8 * line + w))
    let open_ (w : Nat) : Bool := !t.poison.contains (2 * i + w / 8) || full (w / 8)
    let r := ws.foldl (fun r x => if open_ x.1 then r.set x.1 x.2 else r) (recordOf t i)
    let bad := ws.filter (fun x => !open_ x.1)
    let s := s.setTable table { t with records := AMap.put t.records i r,
                                       poison := t.poison.filter (fun l => !(l / 2 == i && full (l % 2))) }
    if bad.isEmpty then s else poisonDrop s (0x1000 + table) (128 * i + 64 * ((bad.map (·.1)).getD 0 0 / 8))

end Sys2Proof.Machine
end

