-- ==== Sys2Proof/Machine/Tally.lean ====
section
/-! DEFINITION. Counter and meter records of CP2, and what one update does (R224–R227). -/

namespace Sys2Proof.Machine

/-- A counter record after one packet of some bytes: both fields saturate and set SAT (R224). -/
def counterUpdate (v len : Nat) : Nat :=
  let packets := bitsOf v 0 63
  let bytes := bitsOf v 64 64
  let p := min (packets + 1) (2 ^ 63 - 1)
  let b := min (bytes + len) (2 ^ 64 - 1)
  let sat := Nat.testBit v 63 || decide (packets + 1 > 2 ^ 63 - 1) || decide (bytes + len > 2 ^ 64 - 1)
  p + b2n sat * 2 ^ 63 + b * 2 ^ 64

/-- Bytes credited between two moments at a rate in kb/s (R224). -/
def credited (last t rate : Nat) : Nat := if last > t then 0 else t * rate / 8000000 - last * rate / 8000000

/-- What a meter update gives: the colour (0 green, 1 yellow, 2 red) and the record; none for an invalid MODE. -/
def meterUpdate (v t len colour : Nat) : Option (Nat × Nat) :=
  let cir := bitsOf v 0 32
  let pir := bitsOf v 32 32
  let cbs := bitsOf v 64 32
  let pbs := bitsOf v 96 32
  let tc := bitsOf v 128 32
  let tp := bitsOf v 160 32
  let last := bitsOf v 192 60
  let mode := bitsOf v 252 2
  let aware := Nat.testBit v 254
  let t := t % 2 ^ 60
  let input := if aware then min colour 2 else 0
  let put (tc tp : Nat) : Nat :=
    bitsOf v 0 128 + tc * 2 ^ 128 + tp * 2 ^ 160 + t * 2 ^ 192 + mode * 2 ^ 252 + b2n aware * 2 ^ 254
  if mode == 0 then
    let credit := credited last t cir
    let spill := credit - min credit (cbs - tc)
    let tc := min (tc + credit) cbs
    let tp := min (tp + spill) pbs
    if input == 0 && len ≤ tc then some (0, put (tc - len) tp)
    else if input ≤ 1 && len ≤ tp then some (1, put tc (tp - len))
    else some (2, put tc tp)
  else if mode == 1 then
    let tc := min (tc + credited last t cir) cbs
    let tp := min (tp + credited last t pir) pbs
    if input == 2 || len > tp then some (2, put tc tp)
    else if input == 1 || len > tc then some (1, put tc (tp - len))
    else some (0, put (tc - len) (tp - len))
  else none

/-- A TALLY record or an immediate COUNT or POLICE applied by the near-memory unit (R225, R227): 1 COUNT, 2 POLICE.
The answer says whether the packet turned red. -/
def applyTally (s : State) (cmd pan : Nat) (r : MemRef) (len colour : Nat) : State × Bool :=
  let n := if cmd == 1 then 16 else 32
  let s := memRequest s pan r n
  if poisoned s r n then (raiseDev (panCount s pan 12) (0x106 + 16 * pan) 1 0, false)
  else if cmd == 1 then (writeMem s r 16 (counterUpdate (readMem s r 16) len), false)
  else match meterUpdate (readMem s r 32) (now s) len colour with
    | none => (raiseDev (panCount s pan 11) (0x105 + 16 * pan) 1 0, false)
    | some (c, v) => (writeMem s r 32 v, c == 2)

end Sys2Proof.Machine
end

