-- ==== Sys2Proof/Machine/Commit.lean ====
section
/-! DEFINITION. Commit: held records applied, egress frames built, records written; faults that act; domains driven on
(R107, R109, R111, R114, R148, R204, R226, R286–R289). -/

namespace Sys2Proof.Machine

/-- A piece of an egress chain before its cells are made (R286). -/
inductive Piece where
  | shared (cell first len : Nat)
  | fresh (bytes : List Byte)
  deriving DecidableEq, Repr

/-- Bytes of a packet window from a frame offset on. -/
def windowBytes (x : Ctx) (start : Int) (n : Nat) : List Byte :=
  (List.range n).map (fun (k : Nat) => Memory.get x.window (start + 512 + (k : Int)).toNat)

/-- The pieces of the bytes of one block, `n` bytes from frame offset `o` on (R286). -/
def blockPieces (x : Ctx) (o : Int) (n : Nat) : List Piece :=
  let stored : Nat := x.desc.len - 4
  let j := o.toNat / 256
  if o < 0 || x.dirty.contains (Int.ofNat j) || stored ≤ o.toNat then [.fresh (windowBytes x o n)]
  else
    let k := min n (stored - o.toNat)
    .shared (x.desc.cells.getD j 0) (o.toNat % 256) k ::
      (if k < n then [.fresh (windowBytes x (o + k) (n - k))] else [])

/-- The pieces of a run of bytes, block by block; the fuel is the number of blocks. -/
def framePieces (x : Ctx) : Nat → Int → Nat → List Piece
  | 0, _, _ => []
  | f + 1, o, n =>
    if n = 0 then []
    else
      let k := min n (256 - ((o + 512) % 256).toNat)
      blockPieces x o k ++ framePieces x f (o + k) (n - k)

/-- Copied bytes that adjoin are one run; each run takes cells of 256 bytes (R286). -/
def mergePieces : List Piece → List Piece
  | .fresh a :: rest =>
    match mergePieces rest with
    | .fresh b :: rest' => .fresh (a ++ b) :: rest'
    | r => .fresh a :: r
  | p :: rest => p :: mergePieces rest
  | [] => []

/-- The pieces with every copied run cut into cells. -/
def cutPieces (ps : List Piece) : List Piece :=
  (ps.map (fun p => match p with
    | .shared c f n => [Piece.shared c f n]
    | .fresh b => (cellPieces b.length b).map Piece.fresh)).flatten

/-- New cells in a chain. -/
def freshCount (ps : List Piece) : Nat := (ps.filter (fun p => match p with | .fresh _ => true | _ => false)).length

/-- The chain of an EGRESS record: sharing clean received cells for a near pool, else all copied (R286). -/
def egressPieces (x : Ctx) (far : Bool) (start : Int) (len : Nat) : List Piece :=
  let all := windowBytes x start len
  let copied := cutPieces [.fresh all]
  if far then copied
  else
    let ps := cutPieces (mergePieces (framePieces x 66 start len))
    if ps.length > 48 then copied else ps

/-- The segments of a chain: shared cells referenced once more and counted, new cells made (R286, R289, R498). -/
def buildChain (s : State) (pool tenant : Nat) : List Piece → State × List Seg
  | [] => (s, [])
  | .shared c f n :: rest =>
    let from_ := (AMap.find s.cote.cells c).elim pool (·.pool)
    let r := buildChain (shareCell (devCount s 4 1 from_ tenant 1) c) pool tenant rest
    (r.1, ⟨c, f, n⟩ :: r.2)
  | .fresh b :: rest =>
    let a := newCell s pool tenant b
    let r := buildChain a.1 pool tenant rest
    (r.1, ⟨a.2, 0, b.length⟩ :: r.2)

/-- What became of one EGRESS record at commit (R288). -/
inductive EgressOut where
  | sent (s : State)
  | lost (reason : Nat)
  | waits

/-- One EGRESS record applied (R286–R288). -/
def applyEgress (s : State) (c : Nat) (x : Ctx) (l q : Nat) (start : Int) (len : Nat) : EgressOut :=
  let pool := fld (s.queue l q).buf 0 6
  let ps := egressPieces x (poolFar (s.cote.pool pool)) start len
  match egressMisfit s l q ps.length (freshCount ps) x.desc.tenant with
  | some reason => if poolGuaranteed (s.cote.pool pool) then .waits else .lost reason
  | none =>
    let r := buildChain s pool x.desc.tenant ps
    .sent (enqueueFrame r.1 l q
      { len := len, segs := r.2, tenant := x.desc.tenant, program := x.desc.program,
        express := x.express, domain := x.desc.domain, seq := x.seq, ctx := c, priority := x.prio,
        staged := !poolFar (s.cote.pool pool) })

/-- The EGRESS records of a commit, in issue order, until one waits for its guaranteed queue (R288). -/
def commitEgress (c : Nat) : Nat → State → State
  | 0, s => s
  | n + 1, s =>
    match s.ctx? c with
    | none => s
    | some x =>
      match x.recs with
      | .egress l q start len :: rest =>
        (match applyEgress s c x l q start len with
          | .sent s' => commitEgress c n (s'.setCtx c { x with recs := rest, sent := x.sent + 1, waitEgress := false, partly := true })
          | .lost reason =>
            commitEgress c n ((countQueueDrop s l q).setCtx c { x with
              recs := rest, lost := x.lost + 1, lostQuota := x.lostQuota + b2n (reason == 0x14),
              lostReason := if x.lost == 0 then reason else x.lostReason, waitEgress := false })
          | .waits => s.setCtx c { x with waitEgress := true })
      | _ => s

/-- One held record other than EGRESS applied: what it does, and whether the packet turned red. -/
def applyRec (s : State) (c : Nat) (x : Ctx) (r : CommitRec) : State :=
  let key := some x.key
  match r with
  | .write t i w v => squashHolders (writeRecord (tableRequest s (ctxPan c) t 8) t i [(w, v)]) key (.record t i)
  | .tally cmd pan place len colour =>
    let o := applyTally s cmd pan place len colour
    if o.2 then match o.1.ctx? c with
      | none => o.1
      | some y => o.1.setCtx c { y with policed := true }
    else o.1
  | .insert t k i =>
    let o := applyInsert s key t k i
    if o.2 == some 1 then match o.1.ctx? c with
      | none => o.1
      | some y => o.1.setCtx c { y with insertFailed := true }
    else o.1
  | .delete t k => applyDelete s key t k 11
  | .event n payload =>
    programEvent s x.desc.tenant n (dataBytes 8 payload.toNat + x.desc.program % 65536 * 2 ^ 240)
  | .egress .. => s

/-- Whether a held record is an EGRESS. -/
def CommitRec.isEgress : CommitRec → Bool
  | .egress .. => true
  | _ => false

/-- The words that a list of records writes to one record of a table, in order. -/
def wordsFor (t i : Nat) (rs : List CommitRec) : List (Nat × Word) :=
  rs.filterMap (fun r => match r with
    | .write t' i' w v => if t' == t && i' == i then some (w, v) else none
    | _ => none)

/-- Held records applied in issue order; the writes of one record become visible together, at the first of them (R110). -/
def applyRecs (c : Nat) (x : Ctx) : List CommitRec → List (Nat × Nat) → State → State
  | [], _, s => s
  | .write t i w v :: rest, done, s =>
    if done.contains (t, i) then applyRecs c x rest done s
    else
      let words := wordsFor t i (.write t i w v :: rest)
      let s := squashHolders (writeRecord (tableRequest s (ctxPan c) t (8 * words.length)) t i words) (some x.key) (.record t i)
      applyRecs c x rest ((t, i) :: done) s
  | .insert t k i :: rest, done, s =>
    let o := applyInsert s (some x.key) t k i
    let s := if o.2 == some 1 then match o.1.ctx? c with
      | none => o.1
      | some y => o.1.setCtx c { y with insertFailed := true } else o.1
    applyRecs c x rest (if o.2.isSome then (t, i) :: done else done) s
  | r :: rest, done, s => applyRecs c x rest done (applyRec s c x r)

/-- Everything held but EGRESS is applied: the context is non-speculative (R107). -/
def applyHeld (s : State) (c : Nat) : State :=
  match s.ctx? c with
  | none => s
  | some x =>
    let now_ := x.recs.filter (fun r => !r.isEgress)
    if now_.isEmpty then s
    else
      let s := s.setCtx c { x with recs := x.recs.filter (·.isEgress), partly := true }
      applyRecs c x now_ [] s

/-- A packet's end as its program made it: outcome, reason (R148, R226, R288). -/
def verdict (x : Ctx) : Nat × Nat :=
  if x.dropReason.isSome then (1, 0x10)
  else if x.policed then (1, 0x12)
  else if x.egress == 0 then (1, 0x11)
  else if x.sent == 0 then (1, x.lostReason)
  else (0, 0)

/-- A commit: the held records, the completion record, the copies (R114). A dropped packet sends nothing; of a packet that
is forwarded each lost frame is counted under its own reason (R288). -/
def commit (s : State) (c : Nat) : State :=
  let s := applyHeld s c
  match s.ctx? c with
  | none => s
  | some x =>
    let s := if x.dropReason.isSome || x.policed then s.setCtx c { x with recs := [] } else commitEgress c 9 s
    match s.ctx? c with
    | none => s
    | some x =>
      if x.waitEgress then s
      else
        let v := verdict x
        let each (n reason : Nat) (s : State) : State := (List.range n).foldl (fun s _ => countTenant s x.desc.tenant reason) s
        let s := if v.1 == 0 then each x.lostQuota 0x14 (each (x.lost - x.lostQuota) 0x13 s) else s
        endCtx (devCount s 2 5 (ctxPan c) x.desc.tenant 1) c { x with partly := false } v.1 v.2 (if v.1 == 0 && x.lost > 0 then 4 else 0)

/-- A fault record as one number, TIME as given (R204). -/
def faultBits (r : FaultRec) (time : Nat) : Nat :=
  placeFields [(0, r.code), (8, b2n r.dslot), (9, b2n r.packet), (10, b2n r.deferred), (16, r.tid), (28, r.prio),
    (32, r.tenant), (48, r.context), (64, r.pc % 2 ^ 32), (96, r.handle), (128, r.value.toNat), (192, time), (288, r.program)]

/-- The fault record as the little-endian fault queue holds it: bytes 0–3 of TIME are the epoch (R9, R13, R204). -/
def faultRecord (r : FaultRec) : Nat := faultBits r (r.epoch + r.ns * 2 ^ 32)

/-- The fault record as DATA of TASK_FAULT, a big-endian field: bytes 0–3 of TIME are the epoch (R9, R13, R204, R490). -/
def faultData (r : FaultRec) : Nat := faultBits r (r.epoch * 2 ^ 64 + r.ns)

/-- A result in flight lands: it reaches its register unless a younger one has landed there, and sets its sticky bits
(R132, R153, R154). -/
def Thread.land (x : Thread) (f : Flight) : Thread :=
  let stale := match AMap.find x.landed f.reg with | none => false | some n => decide (n > f.num)
  { x with
    flights := x.flights.erase f, ov := x.ov || maskHas f.flags 0, dz := x.dz || maskHas f.flags 1,
    regs := if stale || f.reg == 0 then x.regs else AMap.put x.regs f.reg f.value,
    landed := if stale then x.landed else AMap.put x.landed f.reg f.num }

/-- Every result in flight lands, in program order (R155). -/
def Thread.landAll (x : Thread) : Thread := x.flights.foldl Thread.land x

/-- END or DISABLE on a faulted task: locks released, threads returned to the pool (R205). -/
def endFaulted (s : State) (k : TaskRef) (disable keepFlags : Bool) : State :=
  let s := stopThreads s k false 5
  match k with
  | .persistent pan slot =>
    match s.task? pan slot with
    | none => s
    | some t =>
      let t := { t with flags := if keepFlags then t.flags else 0, waiters := [] }
      if t.deleting then dropTask s pan slot t
      else if disable then
        raise (s.setTask pan slot { t with state := .disabled, pendingAct := false }) (0x108 + 16 * pan) (taskTenant t) 1
          (dataBytes 4 (taskHandle pan slot t.gen))
      else if keepFlags && t.flags &&& wakeMask t != 0 then activate s pan slot { t with state := .idle }
      else s.setTask pan slot { t with state := .idle, pendingAct := false }
  | _ => s

/-- A fault acts: the thread's older results land, its record is posted, its task's threads are held out of every wait, its
packet fails or its task is FAULTED (R150, R155, R204, R206). `at_` is the address reported, `since` the moment of a fault that
was deferred. -/
def actFault (s : State) (t code : Nat) (value : Word) (at_ : Nat) (since : Option (Nat × Ns)) : State :=
  let moment := since.getD (s.power.epoch, now s)
  let x := { (s.thread t).landAll with pendingCsrs := [], csrWrites := [] }
  let pan := tidPan t
  let s := traceThread (s.setThread t x) t 7 0 0
  match x.task with
  | .none => s
  | .supervisor _ =>
    (s.setThread t { x with held := true, block := .none }).setPan pan { s.pan pan with supervisorFaulted := true }
  | k =>
    let r : FaultRec := { code := code, dslot := x.dslot, packet := x.ctxId.isSome, deferred := since.isSome, tid := t, prio := x.prio,
                          tenant := x.tenant, context := x.ctxId.getD 0, pc := at_, handle := handleOf s k, value := value,
                          epoch := moment.1, ns := moment.2, program := x.program }
    let k' : TaskRef := if x.ctxId.isSome then .faulted t else k
    let s := (threadsOf s k).foldl (fun s u =>
      let s := dropDelay (withdrawWait s u) u
      s.setThread u { s.thread u with task := k', held := true, block := .none }) s
    let s := raise s (0x109 + 16 * pan) x.tenant 1 (faultData r)
    let s := if x.tenant == operatorId || x.tenant == deviceId then s
      else raiseCopy s (0x109 + 16 * pan) 1 (faultData { r with pc := 0, value := 0, handle := 0 })
    let s := match k with
      | .packet c => failCtx s c (if code == 0x13 then 0x25 else 0x20) true 5
      | .persistent p slot =>
        (match s.task? p slot with
          | none => s
          | some q => s.setTask p slot { q with state := .faulted, waiters := [] })
      | _ => s
    let p := s.pan pan
    if p.faultQueue.length < 64 then
      s.setPan pan { p with faultQueue := p.faultQueue ++ [(faultRecord r, 0)], held := p.held ++ [⟨k', threadsOf s k', now s⟩] }
    else
      let s := raiseDev (panCount s pan 7) (0x100 + 16 * pan) 1 0
      endFaulted s k' true false

/-- A thread's deferred outcome acts once its context is non-speculative (R111). -/
def actDeferred (s : State) (c t : Nat) : State :=
  match (s.thread t).block with
  | .deferred (.fault code v pc epoch ns) => actFault s t code v pc (some (epoch, ns))
  | .deferred (.poison table i _ _) =>
    if recordPoisoned (s.table table) i then failCtx s c 0x21 false 5 else unblock s t
  | .deferred .result => failCtx s c 0x21 false 5
  | .serial => unblock s t
  | _ => s

/-- The packets of a domain that are held behind no parked one any more, of its packets in flight: those before the first
that is parked on a record (R115, R116). -/
def unheld (s : State) : List Nat → List Nat
  | [] => []
  | c :: rest =>
    match s.ctx? c with
    | none => unheld s rest
    | some x =>
      if x.state != .parked then unheld s rest
      else if x.parkedOn == some .behind then c :: unheld s rest
      else []

/-- Whether a packet took its context after another (R116): by the moment, within one domain by its sequence. -/
def takenLater (s : State) (c d : Nat) : Bool :=
  match s.ctx? c, s.ctx? d with
  | some x, some y =>
    let place (k : Nat) : Nat := ((s.dom x.key).flight.findIdx? (· == k)).getD 0
    decide (x.taken > y.taken) || (x.taken == y.taken && (if x.key == y.key then decide (place c > place d) else decide (c > d)))
  | _, _ => false

/-- A context list in the order in which its packets took their contexts, the youngest first. -/
def insertYounger (s : State) (c : Nat) : List Nat → List Nat
  | [] => [c]
  | d :: rest =>
    if takenLater s c d then c :: d :: rest else d :: insertYounger s c rest

/-- A parked packet is READY again; one that was never dispatched is dispatched now (R104, R116). -/
def unpark (s : State) (c : Nat) : State :=
  match s.ctx? c with
  | none => s
  | some x =>
    let x := { x with state := .ready, parkedOn := none }
    s.setCtx c (if x.bound then x else bindCtx s x)

/-- READY packets put at the head of their levels, the youngest first. -/
def readyAhead (s : State) (c : Nat) : State :=
  match s.ctx? c with
  | none => s
  | some x => if x.desc.command then s else readyCtx s c x true

/-- Parked packets released, then those held behind them in some domains: ahead of the other entries of their levels as
one group, oldest first (R116, R188). -/
def releaseGroup (s : State) (parked doms : List Nat) : State :=
  let s := parked.foldl unpark s
  let behind := (doms.map (fun k => unheld s (s.dom k).flight)).flatten
  let s := behind.foldl unpark s
  let s := (behind.foldl (fun acc c => insertYounger s c acc) []).foldl readyAhead s
  (parked.foldl (fun acc c => insertYounger s c acc) []).foldl readyAhead s

/-- Packets of a domain that are held behind no parked one any more are released (R115, R116). -/
def releaseBehind (s : State) (key : Nat) : State := releaseGroup s [] [key]

/-- One look at the oldest packet of a domain (R102, R107, R111). The answer says whether the domain advanced. -/
def driveOnce (s : State) (key : Nat) : State × Bool :=
  let s := releaseBehind s key
  match (s.dom key).flight with
  | [] => (s, false)
  | c :: _ =>
    match s.ctx? c with
    | none => (s, false)
    | some x =>
      match x.failed with
      | some reason => (endCtx s c x 2 reason 0, true)
      | none =>
        if x.state == .runSpec then
          let s := applyHeld (keepHeld (s.setCtx c { x with state := .runNonspec }) c) c
          ((threadsOf s (.packet c)).foldl (fun s t => actDeferred s c t) s, false)
        else if x.state == .done then (applyHeld (keepHeld s c) c, false)
        else (s, false)

/-- A domain driven on until its oldest packet stays; at most its packets in flight can end. -/
def driveDomain : Nat → State → Nat → State
  | 0, s, _ => s
  | n + 1, s, key =>
    let r := driveOnce s key
    match (r.1.dom key).flight.head?.bind r.1.ctx? with
    | none => r.1
    | some x => if r.2 || x.failed.isSome then driveDomain n r.1 key else r.1

/-- The domains marked in a command are driven on, those marked meanwhile included. -/
def driveDue : Nat → State → State
  | 0, s => s
  | n + 1, s =>
    match s.meridian.due with
    | [] => s
    | key :: rest => driveDue n (driveDomain 70 (s.setMeridian { s.meridian with due := rest }) key)

/-- Whether a non-speculative context holds an entry in its set (R22). -/
def heldFirmly (s : State) (e : SetEntry) : Bool :=
  s.meridian.ctxs.any (fun c => c.2.reads.contains e && !speculative s c.1)

/-- A command ends with success, if there is one. -/
def endOk (s : State) (acc : Option Nat) : State :=
  match acc with
  | none => s
  | some a => endCommand s a (plain 0 true) []

/-- A record inserted by command (R22, R260, R408): a key that is present, a table without a free record and a full
stash are refused; the reply carries the record's index. -/
def insertRecord (s : State) (table : Nat) (key : List Byte) (record : List Word) (acc : Nat) : State :=
  let t := s.table table
  if !AMap.has s.gaz.tables table then endCommand s acc (plain 0x0107 false) []
  else if (flowFind t key).isSome then endCommand s acc (plain 0x0302 false) []
  else match takeIndex t with
    | none => endCommand s acc (failWith 0x0402 3 table) []
    | some (i, t') =>
      let words := bytesWords (keyWords t) key ++ (record.drop (keyWords t)).take (16 - keyWords t)
      let t' := writeNew t' i key
      let t' := { t' with records := AMap.put t'.records i (words ++ List.replicate (16 - words.length) 0) }
      (match tableInsert t' key i with
        | none => requestRehash (tableCount (endCommand s acc (failWith 0x0402 3 table) []) table 1) table
        | some t'' =>
          let s := s.setTable table t''
          let s := { s with gaz := { s.gaz with absent := s.gaz.absent.filter (fun a => !(a.table == table && a.key == key)) } }
          let s := squashHolders s none (.key table (flowKh table key))
          let s := if t''.stash.length ≥ 48 && t''.stash.length != t.stash.length then requestRehash s table else s
          endCommand s acc (plain 0 true) (beBytes 4 i))

/-- The command that a batch operation ends. -/
def BatchOp.acc : BatchOp → Nat
  | .write a _ => a
  | .delete a _ => a
  | .writeDirect a _ _ => a
  | .deleteDirect a _ => a

/-- The command and the table of a command write. -/
def CmdWrite.key : CmdWrite → Option Nat × Nat
  | .words t _ _ a => (a, t)
  | .delete t _ a => (a, t)
  | .insert t _ _ a => (some a, t)

/-- The command that a write belongs to, if any. -/
def CmdWrite.acc (w : CmdWrite) : Option Nat := w.key.1

/-- A command withdrawn from what it waits for (R400): its batch and the rebuild it shares go on without it; a
`COLD_DELETE` is found gone when the promotion it waits for ends (R333). -/
def withdraw (s : State) (acc : Nat) : State :=
  let tables : AMap Table := s.gaz.tables.map (fun t => (t.1, { t.2 with
    batch := t.2.batch.filter (fun b => b.acc != acc), rebuildAccs := t.2.rebuildAccs.filter (· != acc),
    rehash := t.2.rehash.filter (fun r => r.acc != some acc) }))
  { s with gaz := { s.gaz with tables := tables },
           meridian := { s.meridian with writes := s.meridian.writes.filter (fun w => w.acc != some acc) } }

/-- A command whose deadline has passed before its commit point ends, its effect withdrawn (R400). -/
def expireLate (s : State) (acc : Nat) : State :=
  match AMap.find s.legend.flight acc with
  | none => s
  | some e => if pastDeadline s e then endCommand (withdraw s acc) acc (plain 0x0105 false) [] else s

/-- One command write: applied, every speculative holder squashed, or kept until no firm holder is left (R22). -/
def tryCmdWrite (s : State) (w : CmdWrite) : State :=
  if (w.acc.bind (fun a => AMap.find s.legend.flight a)).any (pastDeadline s) then (w.acc.map (expireLate s)).getD s
  else match w with
  | .words t i ws acc =>
    if heldFirmly s (.record t i) then s.setMeridian { s.meridian with writes := s.meridian.writes ++ [w] }
    else endOk (squashHolders (writeRecord s t i ws) none (.record t i)) acc
  | .delete t k acc =>
    if heldFirmly s (.key t (flowKh t k)) then s.setMeridian { s.meridian with writes := s.meridian.writes ++ [w] }
    else endOk (applyDelete s none t k (if acc.isNone then 11 else 12)) acc
  | .insert t k r acc =>
    if heldFirmly s (.key t (flowKh t k)) then s.setMeridian { s.meridian with writes := s.meridian.writes ++ [w] }
    else insertRecord s t k r acc

/-- A gated Pan that has a task on its ready list is woken (R27, R197). -/
def wakeReady (s : State) (pan : Nat) : State :=
  if (s.pan pan).ready.any (fun l => !l.2.isEmpty) then wakePan s pan else s

/-- The end of a command: domains driven on, waiting command writes tried, then what was raised is handled. -/
def finish (s : State) : State :=
  let s := driveDue 256 s
  let s := settle (s.meridian.writes.foldl tryCmdWrite (s.setMeridian { s.meridian with writes := [] }))
  (List.range 16).foldl (fun s p => wakeReady (wakeSupervisor s p) p) s

/-- A speculative context that holds a lock for which a thread waits, while it waits to be non-speculative, is
squashed (R238). -/
def lockRule (s : State) (c : Nat) : State :=
  let ts := threadsOf s (.packet c)
  if speculative s c && ts.any (fun t => (s.thread t).block == .serial) &&
      ts.any (fun t => (locksHeld s t).any (fun l => !l.waiters.isEmpty)) then squash s c else s

end Sys2Proof.Machine
end

