-- ==== Sys2Proof/Machine/Operands.lean ====
section
/-! DEFINITION. Operand forms of Graticule: instruction words, registers, immediates (R121, R136, R153, R154). -/

namespace Sys2Proof.Machine

/-- An A-format word (R136). -/
def wordA (major : Nat) (a b c : BitVec 5) (f : Nat) : Nat :=
  major * 2 ^ 26 + a.toNat * 2 ^ 21 + b.toNat * 2 ^ 16 + c.toNat * 2 ^ 11 + f
/-- An I-format or M-format word. -/
def wordI (major : Nat) (a b : BitVec 5) (imm : Nat) : Nat :=
  major * 2 ^ 26 + a.toNat * 2 ^ 21 + b.toNat * 2 ^ 16 + imm % 65536
/-- A B-format word. -/
def wordB (major : Nat) (a : BitVec 5) (off : BitVec 21) : Nat := major * 2 ^ 26 + a.toNat * 2 ^ 21 + off.toNat
/-- An X-format word. -/
def wordX (major : Nat) (a b : BitVec 5) (n f : Nat) : Nat :=
  major * 2 ^ 26 + a.toNat * 2 ^ 21 + b.toNat * 2 ^ 16 + n % 4096 * 16 + f
/-- A C-format word: unit, operands, register, class and command. -/
def wordC (unit : Nat) (a b cr : BitVec 5) (cls cmd : Nat) : Nat :=
  (0x3C + unit) * 2 ^ 26 + a.toNat * 2 ^ 21 + b.toNat * 2 ^ 16 + cr.toNat * 2 ^ 11 + cls * 256 + cmd

/-- A general register as the instruction at hand sees it: w0 reads 0, a result in flight is not seen; one that has issued
and waits keeps what it read at its issue (R121, R153). -/
def Thread.reg (x : Thread) (r : BitVec 5) : Word := if r = 0 then 0 else AMap.at (x.issuedRegs.getD x.regs) r.toNat 0

/-- The result of a register of thread `t`, at a distance: a distance of 1 lands at once, a longer one stays in flight
(R153, R154). `flags` are the sticky bits that land with it, and those that it may set: the instruction is their youngest
producer, as it is the register's (R176). -/
def writeReg (s : State) (t : Nat) (r : BitVec 5) (v : Word) (distance flags : Nat) : State :=
  let x := s.thread t
  let p : Producer := ⟨x.issued, distance, x.pc, x.cost⟩
  let prod := AMap.put x.prod r.toNat p
  let prod := if maskHas flags 2 then AMap.put prod 32 p else prod
  let x := { x with prod := if maskHas flags 3 then AMap.put prod 33 p else prod }
  if distance ≤ 1 then
    s.setThread t { x with
      regs := if r = 0 then x.regs else AMap.put x.regs r.toNat v, landed := AMap.put x.landed r.toNat x.issued,
      ov := x.ov || maskHas flags 0, dz := x.dz || maskHas flags 1 }
  else s.setThread t { x with flights := x.flights ++ [⟨r.toNat, v, x.issued, flags, distance, x.cost + distance⟩] }

/-- The target of a B-format instruction: its address plus 4 times the signed offset (R136). -/
def branchTarget (x : Thread) (off : BitVec 21) : Nat := (x.pc + 2 ^ 64 + (4 * off.toInt + 2 ^ 64).toNat) % 2 ^ 64

/-- A sign-extended immediate or displacement. -/
def sext {n : Nat} (v : BitVec n) : Word := v.signExtend 64
/-- A zero-extended immediate. -/
def zext {n : Nat} (v : BitVec n) : Word := v.setWidth 64

/-- The signed range of 64 bits. -/
def fitsSigned (v : Int) : Bool := decide (-(2 ^ 63) ≤ v) && decide (v < 2 ^ 63)

end Sys2Proof.Machine
end

