-- ==== Sys2Proof/Machine/Flags.lean ====
section
/-! DEFINITION. Results and sticky flags of the arithmetic edges (R132, R142), and guarded mode's distance reports
(R165, R171, R175–R179). -/

namespace Sys2Proof.Machine

/-- The sticky bit OV as a flag mask. -/
def flagOv : Nat := 1
/-- The sticky bit DZ as a flag mask. -/
def flagDz : Nat := 2

/-- Mark of an instruction that may set OV (R142, R176). -/
def mayOv : Nat := 4
/-- Mark of an instruction that may set DZ (R142, R176). -/
def mayDz : Nat := 8

/-- −2^63. -/
def minWord : Word := BitVec.ofNat 64 (2 ^ 63)

/-- `NEG`: the result and the sticky bits (R142). -/
def negResult (b : Word) : Word × Nat := (-b, mayOv + (if b = minWord then flagOv else 0))

/-- `DIV`: the quotient toward zero and the sticky bits (R142). -/
def divResult (b c : Word) : Word × Nat :=
  if c = 0 then (0, mayOv + mayDz + flagDz)
  else if b = minWord ∧ c = -1 then (minWord, mayOv + mayDz + flagOv) else (b.sdiv c, mayOv + mayDz)

/-- `REM`: the remainder with the dividend's sign and the sticky bits (R142). -/
def remResult (b c : Word) : Word × Nat :=
  if c = 0 then (b, mayDz + flagDz)
  else if b = minWord ∧ c = -1 then (0, mayDz) else (b.srem c, mayDz)

/-- `DIVU` (R142). -/
def divuResult (b c : Word) : Word × Nat := if c = 0 then (0, mayDz + flagDz) else (b / c, mayDz)

/-- `REMU` (R142). -/
def remuResult (b c : Word) : Word × Nat := if c = 0 then (b, mayDz + flagDz) else (b % c, mayDz)

/-- The guaranteed separation S from a producer to the instruction that issues now (R165). -/
def separation (s : State) (t : Nat) (x : Thread) (p : Producer) : Nat :=
  let j := x.issued - p.num
  match discipline s t with
  | 0 => 8 * j
  | 3 => if j = 1 then 1 else j / 2
  | 4 => x.cost - p.cost
  | _ => j

/-- Whether a thread runs guarded, and whether it makes reports (R175, R177). -/
def guarded (x : Thread) : Bool := bit (x.csr 0x009) 0
/-- GMODE.REPORT. -/
def reporting (x : Thread) : Bool := bit (x.csr 0x009) 1

/-- Whether a report updates a record that is held (R179). -/
def DistReport.same (a b : DistReport) : Bool :=
  a.program == b.program && a.kind == b.kind && a.consumer == b.consumer && a.producer == b.producer && a.reg == b.reg &&
    a.csr == b.csr

/-- A distance report made: it joins the record it repeats, takes a slot, or is lost and counted (R179). -/
def addReport (s : State) (pan : Nat) (r : DistReport) : State :=
  let p := s.pan pan
  if p.reports.any r.same then
    s.setPan pan { p with reports := p.reports.map (fun q =>
      if r.same q then { q with repeats := min (q.repeats + 1) 0xFFFFFFFF, waitMax := max q.waitMax r.waitMax } else q) }
  else if p.reports.length < 256 then s.setPan pan { p with reports := p.reports ++ [r] }
  else
    countFirst (s.setPan pan { p with lostReports := AMap.upd p.lostReports r.tenant 0 (· + 1) })
      (cid 4 pan 0) (0x103 + 16 * pan) deviceId 1 0

/-- A report of a thread about one producer (R177, R178); the wait itself is a time, so a free value (assumption 3). -/
def report (s : State) (t kind reg csr required sep producer : Nat) : State :=
  let x := s.thread t
  let w := fresh s
  let s := if x.waited then w.2 else s
  addReport s (tidPan t)
    { kind := kind, reg := reg, discipline := discipline s t, csr := csr, required := required, separation := min sep 255,
      waitMax := if x.waited then w.1.toNat % 65536 else 0, consumer := x.pc, producer := producer, tid := t,
      program := x.program, context := x.ctxId.getD 0, tenant := x.tenant, repeats := 1, epoch := s.power.epoch, ns := now s }

/-- The reports of kind 1 of an instruction that reads some registers (R177). -/
def reportReads (s : State) (t : Nat) (srcs : List (BitVec 5)) : State :=
  let x := s.thread t
  if !(guarded x && reporting x) then s
  else srcs.eraseDups.foldl (fun s (r : BitVec 5) =>
    match AMap.find x.prod r.toNat with
    | none => s
    | some p =>
      let sep := separation s t x p
      if r != 0 && sep < p.distance then report s t 1 r.toNat 0 p.distance sep p.pc else s) s

/-- An instruction issues, once however often it waits: its reads are reported, and it is counted (R152, R177, R208). -/
def issued (s : State) (t : Nat) (srcs : List (BitVec 5)) : State :=
  if (s.thread t).issuedRegs.isSome then s else perfCount (reportReads s t srcs) t 2

/-- Whether the youngest producer of a register is still in flight; of OV it is under 32, of DZ under 33 (R176). -/
def producing (x : Thread) (r : Nat) : Bool :=
  match AMap.find x.prod r with
  | none => false
  | some p => x.flights.any (fun f => f.num == p.num)

/-- A source of an instruction that is not yet readable (R176). -/
def inFlight (x : Thread) (srcs : List (BitVec 5)) : Option Nat :=
  (srcs.find? (fun (r : BitVec 5) => r != 0 && producing x r.toNat)).map (fun (r : BitVec 5) => r.toNat)

end Sys2Proof.Machine
end

