-- ==== Sys2Proof/Machine/Issue.lean ====
section
/-! DEFINITION. The one way every instruction issues: fetch, delay slot, guarded wait, fault, block, advance
(R137, R140, R141, R150, R155, R159, R175, R176). -/

namespace Sys2Proof.Machine

/-- What an instruction does once it has issued. -/
inductive Eff where
  | next (s : State)                            -- completes
  | timed (s : State) (cost : Nat)              -- completes, in a number of cycles of its own (R171)
  | slot (s : State) (target : Nat) (taken : Bool)  -- a branch: its delay slot comes next
  | goto (s : State) (target : Nat)             -- SVC, SRET
  | wait (s : State) (b : Block)                -- the thread blocks at this instruction
  | trap (code : Nat) (value : Word)            -- a fault: no effect (R150)
  | left (s : State)                            -- the thread's run is over, or has been undone

/-- The thread goes on to its next instruction. -/
def Thread.advance (x : Thread) (cost : Nat) : Thread :=
  { x with pc := x.npc, npc := x.npc + 4, branch := if x.slotTaken then x.branch else x.npc, dslot := false,
           slotTaken := false, issued := x.issued + 1, cost := x.cost + cost + x.lineCost, waited := false, issuedRegs := none }

/-- The thread goes on to a delay slot (R140). -/
def Thread.toSlot (x : Thread) (target : Nat) (taken : Bool) (cost : Nat) : Thread :=
  { x with pc := x.npc, npc := if taken then target else x.npc + 4, branch := x.pc, dslot := true, slotTaken := taken,
           issued := x.issued + 1, cost := x.cost + cost + x.lineCost, waited := false, issuedRegs := none }

/-- The thread goes on at a target at once (R125). -/
def Thread.goto (x : Thread) (target cost : Nat) : Thread :=
  { x with pc := target, npc := target + 4, branch := x.pc, dslot := false, slotTaken := false, issued := x.issued + 1,
           cost := x.cost + cost, waited := false, issuedRegs := none }

/-- A fault of a thread: its younger instructions are cancelled; it is deferred while its context is speculative, else it
acts (R111, R150, R155). -/
def faultThread (s : State) (t code : Nat) (value : Word) (at_ : Nat) : State :=
  let s := countCancelled (dropDelay s t) t
  let x := s.thread t
  if x.spec s then s.setThread t { x with block := .deferred (.fault code value at_ s.power.epoch (now s)) }
  else actFault s t code value at_ none

/-- The trace's cause of a block (R209). -/
def blockCause : Block → Nat
  | .access _ (.dram _ _) _ _ => 1
  | .access _ _ _ _ => 0
  | .chanEmpty _ _ => 2
  | .chanFull _ _ => 2
  | .lock _ _ => 3
  | .efw _ _ => 4
  | .delay => 5
  | .serial => 6
  | .scoreboard _ _ _ => 7
  | .unitFull _ => 7
  | .join _ _ => 8
  | _ => 9

/-- The place in DRAM that a blocking access reaches: an owner and an offset, a table's record under the table's number (R301). -/
def dramPlace (s : State) (op : AccessOp) (r : MemRef) : Option (Nat × Nat) :=
  match op, r with
  | .stateLoad table i w, _ => if inSram (s.table table) then none else some (tableOwner + table, 64 * (2 * i + w / 8))
  | _, .dram owner off => some (owner, off)
  | _, _ => none

/-- A blocking access to DRAM reaches its stack as it issues (R317, R319). -/
def accessArrives (s : State) (b : Block) : State :=
  match b with
  | .access op r _ _ => (match dramPlace s op r with | none => s | some p => arrive s (rankOf s p.1 p.2 / 3))
  | _ => s

/-- Whether the stack that a blocking access reaches serves requests (R318). -/
def accessServed (s : State) (op : AccessOp) (r : MemRef) : Bool :=
  match dramPlace s op r with
  | none => true
  | some p => (stackAt s (rankOf s p.1 p.2 / 3)).refresh == .active

/-- A thread blocks at its instruction, which keeps what it read as it issued (R153, R159); a block until non-speculative
calls for R238. -/
def blockThread (s : State) (t : Nat) (b : Block) : State :=
  let x := s.thread t
  let x := { x with block := b, blockedAt := now s, issuedRegs := some (x.issuedRegs.getD x.regs) }
  let s := traceThread (accessArrives (s.setThread t x) b) t 2 (blockCause b) 0
  let s := if blockCause b == 2 then
      s.setPan (tidPan t) { s.pan (tidPan t) with chanWaits := (s.pan (tidPan t)).chanWaits.filter (· != t) ++ [t] } else s
  if b == .serial then
    match (s.thread t).ctxId with
    | none => s
    | some c => lockRule s c
  else s

/-- Whether a thread may issue: it has a task, is not held, not blocked, and its Pan is awake and not halted (R371). -/
def canIssue (s : State) (t : Nat) : Bool :=
  let x := s.thread t
  x.task != .none && !x.held && x.block == .none && panAwake s (tidPan t) && !(s.pan (tidPan t)).halted && powered s

/-- Whether the next instruction is misaligned, or lies outside the running program and, at level 1, outside the service
routines of the Pan's PRT image (R125, R126, R141; assumption 56). -/
def fetchBad (s : State) (t : Nat) : Bool :=
  let x := s.thread t
  let p := s.pan (tidPan t)
  let inside (base size : Nat) : Bool := decide (base ≤ x.pc) && decide (x.pc + 4 ≤ base + size)
  x.pc % 4 != 0 || !(inside x.base x.size || (x.level == 1 && inside p.svcBase.toNat p.svcSize))

/-- What an issued instruction's effect makes of the machine. -/
def applyEff (s : State) (t cost : Nat) (e : Eff) : State :=
  match e with
  | .next s => s.setThread t ((s.thread t).advance cost)
  | .timed s cost => s.setThread t ((s.thread t).advance cost)
  | .slot s target taken => s.setThread t ((s.thread t).toSlot target taken cost)
  | .goto s target => s.setThread t ((s.thread t).goto target cost)
  | .wait s b => blockThread s t b
  | .trap code value => faultThread s t code value (s.thread t).pc
  | .left s => s

/-- Where a thread's program counter names no instruction: the branch that led there, in a delay slot the slot itself (R140,
R141). -/
def Thread.fetchAt (x : Thread) : Nat := if x.dslot then x.pc else x.branch

/-- Issue of one instruction of a thread. `slotOk`: it may stand in a delay slot (R140); `srcs`: the registers it reads. An
instruction that has issued and waited for its thread's context, store buffer or unit has passed its checks: its command again
is that instruction going on (R152; assumption 104). -/
def issueState (s : State) (t : Nat) (slotOk : Bool) (word : Nat) (srcs : List (BitVec 5)) (cost : Nat)
    (body : State → Thread → Eff) : State :=
  let x := s.thread t
  if !canIssue s t then s
  else if x.issuedRegs.isSome then applyEff s t cost (body s x)
  else if fetchBad s t then faultThread s t 0x07 (BitVec.ofNat 64 x.pc) x.fetchAt
  else if x.dslot && !slotOk then faultThread s t 0x08 (BitVec.ofNat 64 word) x.pc
  else
    match (if guarded x then inFlight x srcs else none) with
    | some r => s.setThread t { x with block := .guarded r, waited := true }
    | none =>
      let s := issued s t srcs
      applyEff s t cost (body s (s.thread t))

/-- An instruction command: the thread issues it, and what follows from it is done. -/
def issue (t : Nat) (slotOk : Bool) (word : Nat) (srcs : List (BitVec 5)) (cost : Nat) (s : State)
    (body : State → Thread → Eff) : Host.Outcome State Fault Refusal :=
  checked (okTid t) (finish (issueState s t slotOk word srcs cost body))

/-- Issue of an instruction whose word or coprocessor may be refused: that is decided before its registers are read, so it
faults with no other effect (R137, R210, R212). -/
def issueLegal (t : Nat) (slotOk : Bool) (word : Nat) (srcs : List (BitVec 5)) (cost : Nat) (s : State)
    (bad : Option (Nat × Word)) (body : State → Thread → Eff) : Host.Outcome State Fault Refusal :=
  match bad with
  | some f => issue t slotOk word [] cost s (fun _ _ => .trap f.1 f.2)
  | none => issue t slotOk word srcs cost s body

/-- An instruction of one result at distance 1. -/
def alu (t : Nat) (a : BitVec 5) (srcs : List (BitVec 5)) (s : State) (f : Thread → Word) :
    Host.Outcome State Fault Refusal :=
  issue t true 0 srcs 1 s (fun s x => .next (writeReg s t a (f x) 1 0))

/-- A register-register instruction of distance 1. -/
def alu3 (t : Nat) (a b c : BitVec 5) (s : State) (f : Word → Word → Word) : Host.Outcome State Fault Refusal :=
  alu t a [b, c] s (fun x => f (x.reg b) (x.reg c))

/-- A register-register instruction that traps when its signed result does not fit (R142). -/
def trap3 (t : Nat) (a b c : BitVec 5) (s : State) (distance : Nat) (f : Int → Int → Int) :
    Host.Outcome State Fault Refusal :=
  issue t true 0 [b, c] 1 s (fun s x =>
    let v := f (x.reg b).toInt (x.reg c).toInt
    if fitsSigned v then .next (writeReg s t a (BitVec.ofInt 64 v) distance 0) else .trap 0x09 (x.reg b))

end Sys2Proof.Machine
end

