-- ==== Sys2Proof/Machine/Access.lean ====
section
/-! DEFINITION. Loads, stores, packet-window loads, atomics and the CC store buffer (R122, R126–R129, R139, R143, R159,
R172, R173, R230, R231). -/

namespace Sys2Proof.Machine

/-- The effective address of an M-format access (R136). -/
def effAddr (x : Thread) (b : BitVec 5) (disp : BitVec 16) : Nat := (x.reg b + sext disp).toNat

/-- The fault of an access that its place refuses: CONTEXT reports the instruction word, the others the address (R151). -/
def accessTrap (code word addr : Nat) : Eff := .trap code (BitVec.ofNat 64 (if code == 0x15 then word else addr))

/-- What a load finds in its thread's buffered stores (R172). -/
inductive Forward where
  | none
  | value (v : Nat)
  | after (left : Nat)
  deriving DecidableEq, Repr

/-- The youngest buffered store of a thread that overlaps a load, from the buffer's oldest on; `k` counts the thread's
stores before (R172). -/
def forwardFrom (t : Nat) (r : MemRef) (size : Nat) : List BufStore → Nat → Forward → Forward
  | [], _, f => f
  | e :: rest, k, f =>
    if e.tid != t then forwardFrom t r size rest k f
    else
      let f := if !overlaps e.place e.size r size then f
        else if e.place.off ≤ r.off && r.off + size ≤ e.place.off + e.size then
          .value (e.value.toNat / 2 ^ (8 * (r.off - e.place.off)) % 2 ^ (8 * size))
        else .after (k + 1)
      forwardFrom t r size rest (k + 1) f

/-- What a load of a thread finds in the store buffer of its CC (R172). -/
def forwarded (s : State) (t : Nat) (r : MemRef) (size : Nat) : Forward := forwardFrom t r size (ccBuffer s t) 0 .none

/-- Load distance of the local store, records and window: 2 on a PE, 3 on a CC (R139). -/
def loadDistance (t : Nat) : Nat := if onCc t then 3 else 2

/-- A load from memory: near ones, and in deterministic mode those of Pan SRAM, keep their distance, others block; one that a
buffered store covers in part waits for it (R139, R159, R171, R172). -/
def loadFrom (s : State) (t : Nat) (a : BitVec 5) (addr size : Nat) (signed : Bool) (r : MemRef) : Eff :=
  match forwarded s t r size with
  | .value v => .next (writeReg s t a (loadValue size signed v) 3 0)
  | .after k => .wait (perfCount s t 18) (.overlap k r size signed false a.toNat)
  | .none =>
    match r with
    | .localStore _ _ => .next (writeReg s t a (loadValue size signed (readMem s r size)) (loadDistance t) 0)
    | .window _ _ => .next (writeReg s t a (loadValue size signed (readMem s r size)) (loadDistance t) 0)
    | .sram _ _ =>
      if deterministic s t && onCc t then .next (writeReg s t a (loadValue size signed (readMem s r size)) 3 0)
      else .wait s (.access (.load size signed) r (BitVec.ofNat 64 addr) a.toNat)
    | _ => .wait s (.access (.load size signed) r (BitVec.ofNat 64 addr) a.toNat)

/-- A load instruction (R139). -/
def loadOp (t : Nat) (major : Nat) (a b : BitVec 5) (disp : BitVec 16) (size : Nat) (signed : Bool) (s : State) :
    Host.Outcome State Fault Refusal :=
  issue t true 0 [b] 1 s (fun s x =>
    let addr := effAddr x b disp
    if addr % size != 0 then .trap 0x04 (BitVec.ofNat 64 addr)
    else match place s x t addr size false with
      | .bad code => accessTrap code (wordI major a b disp.toNat) addr
      | .record off => .next (writeReg s t a (loadValue size signed (readPlace s x (.record off) size)) (loadDistance t) 0)
      | .ref r => loadFrom s t a addr size signed r)

/-- A store to memory: on a CC through the store buffer (R143, R172, R173). -/
def storeTo (s : State) (x : Thread) (t : Nat) (addr size : Nat) (v : Word) (r : MemRef) : Eff :=
  let near := match r with | .localStore _ _ => true | .window _ _ => true | _ => false
  let dram := match r with | .dram _ _ => true | _ => false
  if !near && x.spec s then .wait s .serial
  else if dram || (!near && !onCc t) then .wait s (.access (.store size v) r (BitVec.ofNat 64 addr) 0)
  else if onCc t && !deterministic s t then
    if (ccBuffer s t).length ≥ 8 then .wait s (.bufferRoom r size v)
    else .next (setCcBuffer s t (ccBuffer s t ++ [⟨t, r, size, v⟩]))
  else .next (writeMem s r size v.toNat)

/-- A store instruction (R139). -/
def storeOp (t : Nat) (major : Nat) (a b : BitVec 5) (disp : BitVec 16) (size : Nat) (s : State) :
    Host.Outcome State Fault Refusal :=
  issue t true 0 [a, b] 2 s (fun s x =>
    let addr := effAddr x b disp
    if addr % size != 0 then .trap 0x04 (BitVec.ofNat 64 addr)
    else match place s x t addr size true with
      | .bad code => accessTrap code (wordI major a b disp.toNat) addr
      | .record _ => .trap 0x06 (BitVec.ofNat 64 addr)
      | .ref r =>
        if touchesLock s r size then .trap 0x05 (BitVec.ofNat 64 addr)
        else storeTo s x t addr size (x.reg a) r)

/-- A packet-window load: big-endian, at any alignment, wholly in the window (R122, R139). -/
def windowLoad (t : Nat) (major : Nat) (a b : BitVec 5) (disp : BitVec 16) (size : Nat) (s : State) :
    Host.Outcome State Fault Refusal :=
  issue t true 0 [b] 1 s (fun s x =>
    let addr := effAddr x b disp
    match x.ctxId with
    | none => .trap 0x15 (BitVec.ofNat 64 (wordI major a b disp.toNat))
    | some c =>
      if addr < 0x100000 || addr + size > 0x104000 then .trap 0x05 (BitVec.ofNat 64 addr)
      else
        let r : MemRef := .window c (addr - 0x100000)
        match forwarded s t r size with
        | .value v => .next (writeReg s t a (BitVec.ofNat 64 (leNat (leBytes size v).reverse)) 3 0)
        | .after k => .wait (perfCount s t 18) (.overlap k r size false true a.toNat)
        | .none => .next (writeReg s t a (BitVec.ofNat 64 (beNat (readBytes s r size))) (loadDistance t) 0))

/-- `LD8` (R139). -/
def execLd8 (t : Nat) (a b : BitVec 5) (disp : BitVec 16) (s : State) : Host.Outcome State Fault Refusal := loadOp t 0x20 a b disp 1 false s
/-- `LD8S` (R139). -/
def execLd8s (t : Nat) (a b : BitVec 5) (disp : BitVec 16) (s : State) : Host.Outcome State Fault Refusal := loadOp t 0x21 a b disp 1 true s
/-- `LD16` (R139). -/
def execLd16 (t : Nat) (a b : BitVec 5) (disp : BitVec 16) (s : State) : Host.Outcome State Fault Refusal := loadOp t 0x22 a b disp 2 false s
/-- `LD16S` (R139). -/
def execLd16s (t : Nat) (a b : BitVec 5) (disp : BitVec 16) (s : State) : Host.Outcome State Fault Refusal := loadOp t 0x23 a b disp 2 true s
/-- `LD32` (R139). -/
def execLd32 (t : Nat) (a b : BitVec 5) (disp : BitVec 16) (s : State) : Host.Outcome State Fault Refusal := loadOp t 0x24 a b disp 4 false s
/-- `LD32S` (R139). -/
def execLd32s (t : Nat) (a b : BitVec 5) (disp : BitVec 16) (s : State) : Host.Outcome State Fault Refusal := loadOp t 0x25 a b disp 4 true s
/-- `LD64` (R139). -/
def execLd64 (t : Nat) (a b : BitVec 5) (disp : BitVec 16) (s : State) : Host.Outcome State Fault Refusal := loadOp t 0x26 a b disp 8 false s
/-- `ST8` (R139). -/
def execSt8 (t : Nat) (a b : BitVec 5) (disp : BitVec 16) (s : State) : Host.Outcome State Fault Refusal := storeOp t 0x28 a b disp 1 s
/-- `ST16` (R139). -/
def execSt16 (t : Nat) (a b : BitVec 5) (disp : BitVec 16) (s : State) : Host.Outcome State Fault Refusal := storeOp t 0x29 a b disp 2 s
/-- `ST32` (R139). -/
def execSt32 (t : Nat) (a b : BitVec 5) (disp : BitVec 16) (s : State) : Host.Outcome State Fault Refusal := storeOp t 0x2A a b disp 4 s
/-- `ST64` (R139). -/
def execSt64 (t : Nat) (a b : BitVec 5) (disp : BitVec 16) (s : State) : Host.Outcome State Fault Refusal := storeOp t 0x2B a b disp 8 s
/-- `LPW16` (R139). -/
def execLpw16 (t : Nat) (a b : BitVec 5) (disp : BitVec 16) (s : State) : Host.Outcome State Fault Refusal := windowLoad t 0x2C a b disp 2 s
/-- `LPW32` (R139). -/
def execLpw32 (t : Nat) (a b : BitVec 5) (disp : BitVec 16) (s : State) : Host.Outcome State Fault Refusal := windowLoad t 0x2D a b disp 4 s
/-- `LPW64` (R139). -/
def execLpw64 (t : Nat) (a b : BitVec 5) (disp : BitVec 16) (s : State) : Host.Outcome State Fault Refusal := windowLoad t 0x2E a b disp 8 s

/-- The word that an atomic leaves (R230). -/
def atomicNew (op : AccessOp) (old : Word) : Word :=
  match op with
  | .add c => old + c
  | .cas e c => if old == e then c else old
  | .swap c => c
  | _ => old

/-- An atomic instruction (R139, R171, R230, R231). -/
def atomicOp (t : Nat) (a b c : BitVec 5) (f : Nat) (srcs : List (BitVec 5)) (s : State) (op : Thread → AccessOp) :
    Host.Outcome State Fault Refusal :=
  issue t true 0 srcs 6 s (fun s x =>
    let addr := (x.reg b).toNat
    if addr % 8 != 0 then .trap 0x04 (BitVec.ofNat 64 addr)
    else match place s x t addr 8 true with
      | .bad code => accessTrap code (wordA 3 a b c f) addr
      | .record _ => .trap 0x06 (BitVec.ofNat 64 addr)
      | .ref r =>
        let near := match r with | .localStore _ _ => true | .window _ _ => true | _ => false
        if touchesLock s r 8 then .trap 0x05 (BitVec.ofNat 64 addr)
        else if !(ccBuffer s t).isEmpty then .wait s .bufferEmpty
        else if near then
          let old : Word := BitVec.ofNat 64 (readMem s r 8)
          let new := atomicNew (op x) old
          .timed (writeReg (if new == old then s else writeMem s r 8 new.toNat) t a old (if onCc t then 1 else 2) 0) 3
        else if x.spec s then .wait s .serial
        else .wait s (.access (op x) r (BitVec.ofNat 64 addr) a.toNat))
/-- `AADD` (R230). -/
def execAadd (t : Nat) (a b c : BitVec 5) (s : State) : Host.Outcome State Fault Refusal :=
  atomicOp t a b c 1 [b, c] s (fun x => .add (x.reg c))
/-- `ACAS`: it writes only when it finds wA (R230). -/
def execAcas (t : Nat) (a b c : BitVec 5) (s : State) : Host.Outcome State Fault Refusal :=
  atomicOp t a b c 2 [a, b, c] s (fun x => .cas (x.reg a) (x.reg c))
/-- `ASWP` (R230). -/
def execAswp (t : Nat) (a b c : BitVec 5) (s : State) : Host.Outcome State Fault Refusal :=
  atomicOp t a b c 3 [b, c] s (fun x => .swap (x.reg c))

/-- STORE_BUFFER_DRAIN (R173): the oldest entry of the store buffer of a thread's CC leaves. -/
def execStoreBufferDrain (tid : Nat) (s : State) : Host.Outcome State Fault Refusal :=
  checked (okTid tid) (finish (drainOne s tid))

/-- The result of the instruction of a thread with a program-order number lands; it may overtake older results of its
register of greater distances only (R153, R154). A guarded wait on the register's youngest producer, or a `CSYNC` that has
waited for the last result, ends (R174, R176). -/
def landResult (s : State) (t num : Nat) : State :=
  let x := s.thread t
  match x.flights.find? (fun f => f.num == num) with
  | none => s
  | some f =>
    if (x.flights.takeWhile (fun g => g.num != num)).any (fun g => g.reg == f.reg && decide (g.dist ≤ f.dist)) then s
    else
      let x := x.land f
      let s := s.setThread t x
      match x.block with
      | .guarded q => if producing x q || (q == 32 && producing x 33) then s else s.setThread t { x with block := .none }
      | .results => if x.flights.isEmpty then unblock s t else s
      | _ => s
/-- RESULT_LAND (R153, R154). -/
def execResultLand (tid num : Nat) (s : State) : Host.Outcome State Fault Refusal :=
  checked (okTid tid) (finish (landResult s tid num))

end Sys2Proof.Machine
end

