-- ==== Sys2Proof/Machine/Retire.lean ====
section
/-! DEFINITION. Ranks: their states, the admission of guarantees when the peak changes, retirement, migration and reshape
(R295, R306–R308, R313–R316, R321). -/

namespace Sys2Proof.Machine

/-! ### Counters and records -/

/-- Replace a rank. -/
def setRank (s : State) (r : Nat) (x : Rank) : State := s.setDram { s.dram with ranks := AMap.put s.dram.ranks r x }
/-- Code of a rank's state (R321). -/
def RankState.code : RankState → Nat
  | .inService => 0
  | .spare => 1
  | .migratingOut => 2
  | .migratingIn => 3
  | .retirePending => 4
  | .retired => 5
  | .failed => 6

/-- A rank's state changed, with its event (R321, R492): DATA is the state and the cause. -/
def changeRank (s : State) (r : Nat) (x : Rank) : State :=
  raiseDev (setRank s r x) (0x341 + 4 * r) 1 (dataBytes 2 (x.state.code * 256 + x.cause))

/-! ### Admission of guarantees (R306–R308) -/

/-- The in-service peak in GB/s (R295). -/
def peakGb (credited : Nat) : Nat := 450 * credited

/-- Ports that take part in the tests, with their GBW and target. -/
def guarantees (ports : List (Nat × BitVec 64)) : List (Nat × Nat × Nat) :=
  (ports.filter (fun p => decide (portGbw p.2 > 0) && !portDemoted p.2)).map (fun p => (p.1, portGbw p.2, portTarget p.2))

/-- The first port at which the sum of the guarantees exceeds 0.8 of the peak (R306 test 1). -/
def firstOverSum (peak : Nat) : Nat → List (Nat × Nat × Nat) → Option Nat
  | _, [] => none
  | sum, g :: rest => if 10 * (sum + g.2.1) > 8 * peak then some g.1 else firstOverSum peak (sum + g.2.1) rest

/-- Whether a port's latency target is infeasible (R306 test 2). -/
def targetFails (peak : Nat) (all : List (Nat × Nat × Nat)) (g : Nat × Nat × Nat) : Bool :=
  let sum := (all.filter (fun h => decide (h.2.2 ≤ g.2.2))).foldl (fun n h => n + h.2.1) 0
  decide (10 * sum * g.2.2 > 8 * (g.2.2 - 450) * peak)

/-- The test of R306 that a set of guarantees breaks, and the first port that fails it. -/
def admission (peak : Nat) (ports : List (Nat × BitVec 64)) : Option (Nat × Nat) :=
  let g := guarantees ports
  match firstOverSum peak 0 g with
  | some p => some (1, p)
  | none => (g.find? (targetFails peak g)).map (fun x => (2, x.1))

/-- The 24 client ports with their records. -/
def allPorts (s : State) : List (Nat × BitVec 64) := (List.range 24).map (fun p => (p, dramPort s p))

/-- The peak in force. -/
def peakNow (s : State) : Nat := peakGb s.dram.credited

/-- A class demoted or readmitted, with one event per port; a record written meanwhile takes effect (R307, R308). -/
def setClass (s : State) (demote : Bool) (c : Nat) : State :=
  ((allPorts s).filter (fun p => portClass p.2 == c && portDemoted p.2 != demote && (!demote || decide (portGbw p.2 > 0)))).foldl
    (fun s p =>
      let v := if demote then p.2 else AMap.at s.dram.awaiting p.1 p.2
      let s := setDramPort s p.1 (setFld v 42 1 (b2n demote))
      raiseDev (s.setDram { s.dram with awaiting := AMap.del s.dram.awaiting p.1 }) (0x388 + p.1) (if demote then 1 else 2) 0) s

/-- Whole classes demoted, lowest first, until the rest passes (R307). -/
def demoteClasses (s : State) : State :=
  (List.range 8).foldl (fun s i => if (admission (peakNow s) (allPorts s)).isSome then setClass s true (7 - i) else s) s

/-- Demoted classes readmitted, highest first, up to the first that fails (R308). -/
def readmitClasses (s : State) : State :=
  ((List.range 8).foldl (fun (r : State × Bool) c =>
    let some_ := (allPorts r.1).any (fun p => portClass p.2 == c && portDemoted p.2)
    if r.2 || !some_ then r
    else
      let ports := (allPorts r.1).map (fun p =>
        if portClass p.2 == c && portDemoted p.2 then (p.1, setFld (AMap.at r.1.dram.awaiting p.1 p.2) 42 1 0) else p)
      if (admission (peakNow r.1) ports).isSome then (r.1, true) else (setClass r.1 false c, false)) (s, false)).1

/-- The credited slots changed: classes are demoted when the peak falls, readmitted when it rises (R295, R307, R308). -/
def setCredited (s : State) (n : Nat) : State :=
  let rises := decide (n > s.dram.credited)
  let s := s.setDram { s.dram with credited := n }
  if rises then readmitClasses s else demoteClasses s

/-! ### Retirement (R313–R316) -/

/-- Powered time over all boot epochs (R313). -/
def poweredTime (s : State) : Ns := s.dram.powered + now s

/-- Corrected lines of a rank within the last 24 h of powered time (R313). -/
def windowLines (s : State) (x : Rank) : List (Nat × Nat × Ns) :=
  x.corrected.filter (fun e => decide (poweredTime s < e.2.2 + 86400000000000))

/-- The lowest-numbered spare (R314). -/
def lowestSpare (s : State) : Option Nat := (List.range 18).find? (fun r => (rankAt s r).state == .spare)

/-- Whether the allocations fit one slot fewer (R315). -/
def fitsOneFewer (s : State) : Bool := decide (dramTaken s ≤ capacityOfSlots (slotsHeld s - 1))

/-- A migration or reshape starts (R314, R315). -/
def startMove (s : State) (r : Nat) (cause : Nat) (spare : Option Nat) : State :=
  let s := setCredited s (slotsHeld s - 1)
  let s := changeRank s r { rankAt s r with state := .migratingOut, cause := cause }
  let s := match spare with
    | none => s
    | some t => changeRank s t { rankAt s t with state := .migratingIn }
  raiseDev (s.setDram { s.dram with move := some ⟨r, spare, now s, 0⟩ }) 0x3A0 1 0

/-- A rank that meets the criteria waits for the move that runs (R313). -/
def queueRank (s : State) (r cause : Nat) : State :=
  let s := setRank s r { rankAt s r with cause := cause }
  if s.dram.queue.contains r then s else s.setDram { s.dram with queue := s.dram.queue ++ [r] }

/-- A rank in service that meets the criteria is retired: one at a time (R313–R315); the target of a migration waits until
it is in service. -/
def retireRank (s : State) (r cause : Nat) : State :=
  let x := rankAt s r
  if x.state != .inService && x.state != .retirePending && x.state != .migratingIn then s
  else if s.dram.move.isSome then queueRank s r cause
  else match lowestSpare s with
    | some t => startMove s r cause (some t)
    | none =>
      if fitsOneFewer s then startMove s r cause none
      else if x.state == .retirePending then s
      else
        raiseDev (changeRank s r { x with state := .retirePending, cause := cause, pendingAt := now s }) (0x342 + 4 * r) 1 0

/-- The ranks that wait taken in turn, until one moves (R313). -/
def takeWaiting : Nat → State → State
  | 0, s => s
  | n + 1, s =>
    match s.dram.queue with
    | [] => s
    | r :: rest =>
      if s.dram.move.isSome then s
      else takeWaiting n (retireRank (s.setDram { s.dram with queue := rest }) r (rankAt s r).cause)

/-- A move has ended: the ranks that wait, or one that is pending, follow (R313, R315). -/
def nextMove (s : State) : State :=
  let s := takeWaiting s.dram.queue.length s
  if s.dram.move.isSome then s
  else match (List.range 18).find? (fun r => (rankAt s r).state == .retirePending) with
    | none => s
    | some r => if fitsOneFewer s || (lowestSpare s).isSome then retireRank s r (rankAt s r).cause else s

/-- A rank in service retired, or a spare that meets the criteria taken from the pool (R313, R316). -/
def condemn (s : State) (r cause : Nat) : State :=
  let x := rankAt s r
  if x.state == .spare then changeRank s r { x with state := .retired, cause := cause } else retireRank s r cause

end Sys2Proof.Machine
end

