-- ==== Sys2Proof/Machine/Tables.lean ====
section
/-! DEFINITION. State records and searches by programs: `SLD`, `SST`, `SRCH`, and what comes back (R106–R111, R144, R145,
R239–R268). -/

namespace Sys2Proof.Machine

/-- The table bound to a table number in a thread's program, if there is one (R240). -/
def boundTable (s : State) (x : Thread) (n : Nat) : Option (Nat × Table) :=
  match x.binding.find? (fun b => b.1 == n) with
  | none => none
  | some b => (AMap.find s.gaz.tables b.2).map (fun t => (b.2, t))

/-- The records that a context's buffered writes name: its write set (R106, R107). -/
def writeSet (x : Ctx) : List SetEntry :=
  (x.recs.filterMap (fun r => match r with
    | .write t i _ _ => some (SetEntry.record t i)
    | _ => none)).eraseDups

/-- Whether an entry would be the 17th distinct one of the read and write sets (R106). -/
def setFull (x : Ctx) (e : SetEntry) : Bool :=
  let all := (x.reads ++ writeSet x).eraseDups
  !all.contains e && decide (all.length ≥ 16)

/-- Commit buffer entries beside the record images (R107). -/
def furtherUsed (x : Ctx) : Nat :=
  (x.recs.filter (fun r => match r with
    | .write .. => false
    | _ => true)).length

/-- An entry placed in a context's read set; a serialized run has none, and none holds more than 16 (R106, R113). -/
def Ctx.addRead (x : Ctx) (e : SetEntry) : Ctx :=
  if x.serialRun || x.reads.contains e || setFull x e then x else { x with reads := x.reads ++ [e] }

/-- The context's own buffered write of a word, the youngest (R106). -/
def ownWrite (x : Ctx) (t i w : Nat) : Option Word :=
  x.recs.foldl (fun v r => match r with
    | .write t' i' w' y => if t' == t && i' == i && w' == w then some y else v
    | _ => v) none

/-- What `SLD` and `SST` address, or the value of the STATE fault (R144, R240). -/
def stateTarget (s : State) (x : Thread) (b : BitVec 5) (table : BitVec 8) (word : BitVec 4) (write : Bool) :
    (Nat × Table) ⊕ Word :=
  match boundTable s x table.toNat with
  | none => .inr (zext table)
  | some (id, t) =>
    if t.kind != 3 && t.kind != 4 then .inr (zext table)
    else if (x.reg b).toNat ≥ tableSize t then .inr (x.reg b)
    else if write && t.kind == 3 && word.toNat < keyWords t then .inr (x.reg b)
    else .inl (id, t)

/-- A promotion asked of Stockpile; every packet that waits for one record shares it (R115, R329). -/
def requestPromotion (s : State) (table kh : Nat) (key : List Byte) : State :=
  if !stkOpen s || s.stk.promotions.any (fun p => p.table == table && p.key == key && !p.gone) then s
  else { s with stk := { s.stk with promotions := s.stk.promotions ++ [⟨table, kh, key, false, 0, [], false⟩] } }

/-- A packet that reaches a record held only in the flash tier: its promotion is asked for and the run parks; an express
packet fails (R26, R115, R263). -/
def coldPacket (s : State) (c : Nat) (k : Ctx) (table : Nat) (key : List Byte) : State :=
  let s := requestPromotion (tableCount s table 14) table (flowKh table key) key
  if k.express then failCtx s c 0x24 false 5 else park s c (.key table key)

/-- The key of the record of an index, where a demotion has freed the index and the flash tier still holds the record
(R115, R327). -/
def flashOnly (s : State) (table i : Nat) : Option (List Byte) :=
  ((s.table table).quarantine.find? (fun q => q.index == i)).bind (fun q =>
    q.demoted.bind (fun key => if s.stk.cold.any (fun r => r.table == table && r.key == key) then some key else none))

/-- `SLD`: the record enters the read set at issue, and the thread blocks until the word is back (R106, R144); a packet's
run parks when the record is held only in the flash tier (R115). -/
def execSld (t : Nat) (a b : BitVec 5) (table : BitVec 8) (word : BitVec 4) (s : State) : Host.Outcome State Fault Refusal :=
  issue t true 0 [b] 1 s (fun s x =>
    match stateTarget s x b table word false with
    | .inr v => .trap 0x0D v
    | .inl (id, _) =>
      let i := (x.reg b).toNat
      let go (s : State) : Eff := .wait s (.access (.stateLoad id i word.toNat) (.dram x.tenant 0) 0 a.toNat)
      match x.ctxId with
      | none => go s
      | some c =>
        match s.ctx? c with
        | none => go s
        | some k =>
          if (ownWrite k id i word.toNat).isSome then go s
          else if let some key := flashOnly s id i then .left (coldPacket s c k id key)
          else if speculative s c && setFull k (.record id i) then .wait s .serial
          else go (s.setCtx c (k.addRead (.record id i))))

/-- A write by a context that is not speculative, applied as it issues (R107, R109). -/
def writeNow (s : State) (c : Nat) (k : Ctx) (id i w : Nat) (v : Word) : State :=
  let s := tableRequest (s.setCtx c { k with partly := true }) (ctxPan c) id 8
  squashHolders (writeRecord s id i [(w, v)]) (some k.key) (.record id i)

/-- `SST` (R107, R144). -/
def execSst (t : Nat) (a b : BitVec 5) (table : BitVec 8) (word : BitVec 4) (s : State) : Host.Outcome State Fault Refusal :=
  issue t true 0 [a, b] 1 s (fun s x =>
    match stateTarget s x b table word true with
    | .inr v => .trap 0x0D v
    | .inl (id, _) =>
      let i := (x.reg b).toNat
      let v := x.reg a
      match x.ctxId with
      | none =>
        let s := tableRequest s (tidPan t) id 8
        .next (s.setMeridian { s.meridian with writes := s.meridian.writes ++ [.words id i [(word.toNat, v)] none] })
      | some c =>
        match s.ctx? c with
        | none => .next s
        | some k =>
          if !speculative s c then .next (writeNow s c k id i word.toNat v)
          else if setFull k (.record id i) then .wait s .serial
          else .next (s.setCtx c { k with recs := k.recs ++ [.write id i word.toNat v] }))

/-- The word of a record as a thread sees it: its own buffered write, else what is committed (R106). -/
def stateWord (s : State) (x : Thread) (id i w : Nat) : Word :=
  let own := match x.ctxId with
    | none => none
    | some c => (s.ctx? c).bind (fun k => ownWrite k id i w)
  own.getD (recordWord (s.table id) i w)

/-- An `SLD` comes back: its word, or poison (R106, R111, R144); the spec states no address for the fault's value. -/
def stateLoadDone (s : State) (t dst id i w : Nat) : State :=
  let x := s.thread t
  let own := match x.ctxId with
    | none => false
    | some c => ((s.ctx? c).bind (fun k => ownWrite k id i w)).isSome
  if own || !(recordPoisoned (s.table id) i || tableErased s (s.table id)) then wake s t dst (stateWord s x id i w)
  else match x.ctxId with
    | none => let f := fresh s; faultThread f.2 t 0x16 f.1 x.pc
    | some c =>
      if speculative s c then s.setThread t { x with block := .deferred (.poison id i w dst) }
      else failCtx s c 0x21 false 5

/-- A store of up to 8 bytes at the memory: to a poisoned line of DRAM it is discarded and counted (R311). -/
def storeMem (s : State) (r : MemRef) (n : Nat) (v : Word) : State :=
  if poisoned s r n then poisonDrop s (match r with | .dram o _ => o | _ => 0) r.off else writeMem s r n v.toNat

/-- A blocking access comes back, once its stack serves it (R139, R159, R230, R318). -/
def accessDone (s : State) (t : Nat) : State :=
  let x := s.thread t
  match x.block with
  | .access op r addr dst =>
    let size := match op with | .load n _ => n | .store n _ => n | _ => 8
    let writes := match op with | .load _ _ => false | .stateLoad .. => false | _ => true
    if !accessServed s op r then s else
    (match op with
      | .stateLoad id i w => stateLoadDone (tableRequest s (tidPan t) id 8) t dst id i w
      | _ =>
        let s := panRequest s t r size
        if writes && touchesLock s r size then faultThread s t 0x05 addr x.pc
        else match op with
          | .store n v => wake (storeMem s r n v) t 0 0
          | .load n signed =>
            if poisoned s r n then faultThread s t 0x16 addr x.pc else wake s t dst (loadValue n signed (readMem s r n))
          | _ =>
            if poisoned s r 8 then faultThread s t 0x16 addr x.pc
            else
              let old : Word := BitVec.ofNat 64 (readMem s r 8)
              let new := atomicNew op old
              wake (if new == old then s else writeMem s r 8 new.toNat) t dst old)
  | _ => s

/-- MEMORY_ACCESS_COMPLETE (R159). -/
def execMemoryAccessComplete (tid : Nat) (s : State) : Host.Outcome State Fault Refusal :=
  checked (okTid tid) (finish (accessDone s tid))

/-- Bytes of a key of a table (R265). -/
def searchKeyBytes (t : Table) : Nat :=
  match t.kind with
  | 0 => 10 * t.width
  | 1 => if t.width == 1 then 8 else 24
  | 2 => 8
  | _ => 8 * keyWords t

/-- Channel entries that a search of a table reserves (R266). -/
def resultEntries (t : Table) : Nat := if t.kind == 2 then t.entryWords else 1

/-- The view slot of a table for a search bound to a generation (R248). -/
def slotAt (t : Table) (g : Nat) : Nat := if g ≥ t.genCur then t.current else 1 - t.current

/-- A view slot of a table. -/
def slotView (t : Table) (slot : Nat) : View := if slot == 0 then t.slot0 else t.slot1

/-- The view in force of a table. -/
def currentView (t : Table) : View := slotView t t.current
/-- The view slot that holds the previous view. -/
def otherView (t : Table) : View := slotView t (1 - t.current)

/-- Generation of the view that a thread's search uses: its context's, else the one in force (R248). -/
def searchGen (s : State) (x : Thread) : Nat :=
  match x.ctxId with
  | none => s.gaz.generation
  | some c => match s.ctx? c with | none => s.gaz.generation | some k => AMap.at k.gens 0 0

/-- Whether entry `a` comes before entry `b` in the order of a table's rows (R242, R252, R253). -/
def entryBefore (kind : Nat) (a b : TEntry) : Bool :=
  if kind == 1 then
    decide (a.plen > b.plen) || (a.plen == b.plen && ((!a.isGlobal && b.isGlobal) ||
      (a.isGlobal == b.isGlobal && decide (a.order < b.order))))
  else decide (a.prio < b.prio) || (a.prio == b.prio && decide (a.order < b.order))

/-- An entry inserted in the order of rows. -/
def insertRow (kind : Nat) (e : TEntry) : List TEntry → List TEntry
  | [] => [e]
  | x :: rest => if entryBefore kind e x then e :: x :: rest else x :: insertRow kind e rest

/-- Entries of a view in the order of rows. -/
def rowOrder (kind : Nat) (es : List TEntry) : List TEntry := es.foldl (fun acc e => insertRow kind e acc) []

/-- Entries per bank of a table (R242). -/
def perBank (t : Table) : Nat := 4096 / t.width

/-- An entry inserted in rising row number. -/
def insertAt (e : TEntry) : List TEntry → List TEntry
  | [] => [e]
  | x :: rest => if e.row < x.row then e :: x :: rest else x :: insertAt e rest

/-- The rows of a table, from its first: the entries visible in either view slot (R242, R248). -/
def physicalRows (t : Table) : List TEntry :=
  let cur := (currentView t).entries
  (cur ++ (otherView t).entries.filter (fun e => !cur.any (fun x => x.order == e.order))).foldl (fun acc e => insertAt e acc) []

/-- The visibility bits of an entry: the view slots that it stands in (R248). -/
def visOf (t : Table) (e : TEntry) : Nat :=
  b2n (t.slot0.entries.any (fun x => x.order == e.order)) + 2 * b2n (t.slot1.entries.any (fun x => x.order == e.order))

/-- The image of an entry as Legend writes it (R250). -/
def writtenImage (t : Table) (e : TEntry) : RowImage :=
  { value := e.value, mask := e.mask, tag := e.tag, vis := visOf t e, owner := e.owner, result := e.result }

/-- The image of an entry; none where the entry store cannot correct it (R250, R251). -/
def imageOf (t : Table) (e : TEntry) : Option RowImage :=
  match e.image with
  | none => some (writtenImage t e)
  | some i => i

/-- The rows of an entry, one of each unit (R242, R250). -/
def rowsOf (t : Table) (e : TEntry) : List Row :=
  flipRows (((imageOf t e).getD (writtenImage t e)).rows t.width) (e.bad.getD [])

/-- Whether a bank's presence vector sends it a search with a tag (R245). -/
def bankSelected (s : State) (b tag : Nat) : Bool :=
  let p := (AMap.at s.gaz.banks b .reset).presence
  maskHas p tag || maskHas p 63

/-- A bank searched now; a sleeping one wakes (R27, R271). -/
def searchBank (owner : Nat) (s : State) (b : Nat) : State :=
  let k := AMap.at s.gaz.banks b .reset
  let s := if k.asleep then devCount s 3 3 b owner 1 else s
  { s with gaz := { s.gaz with banks := AMap.put s.gaz.banks b { k with asleep := false, lastSearch := now s } } }

/-- What a search finds, before its result word is built (R250, R258, R263, R266). -/
inductive Found where
  | hit (value detail falses : Nat) (stash : Bool) (data : List Word)
  | miss (falses : Nat)
  | error (falses : Nat)
  | poison
  deriving DecidableEq, Repr

/-- Prefilter tag of a key: the CRC-32C of its 16-bit tag source, modulo 63 (R244). -/
def tagOf (pos key : Nat) : Nat := crc32c (beBytes 2 (key / 2 ^ pos % 65536)) % 63

/-- Whether the entry of a candidate verifies, with the result of its image (R250). -/
def candidate (t : Table) (slot tag key : Nat) (e : TEntry) : Option Nat :=
  match imageOf t e with
  | none => none
  | some i => if i.verifies t.owner slot tag key then some i.result else none

/-- Matches examined in row order, at most `n` (R250). -/
def examine (t : Table) (slot tag key : Nat) : Nat → Nat → List TEntry → Found
  | _, falses, [] => .miss falses
  | 0, falses, _ => .error falses
  | n + 1, falses, e :: rest =>
    match candidate t slot tag key e with
    | some v => .hit v (if t.kind == 1 then e.plen % 256 else e.id) falses false []
    | none => examine t slot tag key n (falses + 1) rest

/-- A TCAM or LPM search: the rows that match in the banks it is sent to, at most 4 candidates (R242, R245, R250). -/
def rowSearch (s : State) (t : Table) (slot key : Nat) : Found :=
  let tag := tagOf t.tagPos key
  examine t slot tag key 4 0 ((physicalRows t).filter (fun e =>
    !e.dead && bankSelected s (t.banks.getD (e.row / perBank t) 64) tag && entryHits (rowsOf t e) slot tag key))

/-- 64-byte line of a DIRECT entry in its table's storage (R267). -/
def directLine (t : Table) (i : Nat) : Nat := i * t.entryWords / 8

/-- The value of a DIRECT entry in a view: the stored one, or what a soft error has made of it; a superseded value stands in
the superseded store (R249, R269). -/
def directValue (t : Table) (v : View) (i : Nat) : List Word :=
  let e := AMap.at v.direct i []
  if e == AMap.at (currentView t).direct i [] then (AMap.find t.directBad i).getD e else e

/-- A DIRECT search (R255, R267). -/
def directSearch (t : Table) (v : View) (key : Nat) : Found :=
  let i := key % 2 ^ t.indexBits
  let e := directValue t v i
  let header := e.getD 0 0
  if t.poison.contains (directLine t i) then .poison
  else if !bit header 0 then .miss 0
  else if t.checkEn && (key / 2 ^ 24 != fld header 24 40 || key % 2 ^ 24 / 2 ^ t.indexBits != 0) then .miss 0
  else .hit 0 0 0 false (e.drop 1)

/-- Candidate records of a bucket: those whose fingerprint is the key's (R258). -/
def candidates (b : AMap Way) (fp : Nat) : List Nat := (b.filter (fun w => w.2.fp == fp)).map (·.2.index)

/-- The lines that a FLOW search reads beside its candidates' records: its buckets in each array, and the stash images (R258,
R264, R267). -/
def flowLines (t : Table) (key : List Byte) : List Nat :=
  let h := flowHashOf t (seed1 t) (seed2 t) key
  let new := match t.rehash with
    | none => []
    | some r =>
      let g := flowHashOf t r.seed1 r.seed2 key
      [newBucketLine t g.b1, newBucketLine t g.b2]
  [bucketLine t h.b1, bucketLine t h.b2] ++ new ++ (List.range t.stash.length).map (stashLine t)

/-- The candidate records of a FLOW search (R258, R264). -/
def flowCandidates (t : Table) (key : List Byte) : List Nat :=
  let h := flowHashOf t (seed1 t) (seed2 t) key
  let new := match t.rehash with
    | none => []
    | some r =>
      let g := flowHashOf t r.seed1 r.seed2 key
      candidates (bucketOf r.buckets g.b1) g.fp ++ candidates (bucketOf r.buckets g.b2) g.fp
  candidates (bucketOf t.buckets h.b1) h.fp ++ candidates (bucketOf t.buckets h.b2) h.fp ++ new

/-- Whether a FLOW search meets poison: a bucket or stash image that it reads, or a candidate record (R258, R267). -/
def flowPoison (t : Table) (key : List Byte) : Bool :=
  (flowLines t key).any (fun l => t.poison.contains l) || (flowCandidates t key).any (recordPoisoned t)

/-- Bytes that a search of a DIRECT or FLOW table reads: its entry, or two buckets of each array and its candidates' key
lines (R255, R258, R264). -/
def searchBytes (t : Table) (key : List Byte) : Nat :=
  if t.kind == 2 then 8 * t.entryWords else 128 * (1 + b2n t.rehash.isSome) + 64 * (flowCandidates t key).length

/-- Whether a search of a table reads a line of its storage (R258, R267, R268). -/
def searchReads (t : Table) (key : List Byte) (line : Nat) : Bool :=
  match t.kind with
  | 2 => directLine t (leNat key % 2 ^ t.indexBits) == line
  | 3 => (flowLines t key).contains line || (flowCandidates t key).any (fun i => line / 2 == i && decide (line < 2 * tableSize t))
  | _ => false

/-- A FLOW search (R258, R267). -/
def flowSearch (t : Table) (key : List Byte) : Found :=
  if flowPoison t key then .poison
  else match flowFind t key with
    | some (i, .stash _) => .hit i 0 0 true []
    | some (i, _) => .hit i 0 0 false []
    | none => .miss 0

/-- The banks that a search of a TCAM or LPM table is sent to have been searched now (R245, R271). -/
def touchBanks (s : State) (t : Table) (key : Nat) : State :=
  (t.banks.filter (fun b => bankSelected s b (tagOf t.tagPos key))).foldl (searchBank t.owner) s

/-- A result word (R266). -/
def resultWord (status : Nat) (skipped stash : Bool) (table detail value : Nat) : Word :=
  BitVec.ofNat 64 (status + b2n skipped * 16 + b2n stash * 32 + table * 256 + detail * 2 ^ 16 + value % 2 ^ 32 * 2 ^ 32)

/-- H1 of a key in a FLOW table's cold filter: under the seed that the filter was built with (R263). -/
def filterBits (t : Table) (kh h1 : Nat) : List Nat :=
  let a := kh * 2 ^ 32 + h1
  let b := (h1 * 2 ^ 32 + kh) ||| 1
  (List.range 4).map (fun i => (a + i * b) % 2 ^ 64 % 2 ^ filterLog t)

/-- Whether the cold filter, if there is one, has every bit of a key set (R256, R263). -/
def filterHit (t : Table) (kh : Nat) (key : List Byte) : Bool :=
  filterLog t == 0 || (filterBits t kh (flowH t.filterSeed key)).all (fun b => t.filter.contains b)

/-- Whether the absent list holds a key of a table (R263). -/
def isAbsent (s : State) (table : Nat) (key : List Byte) : Bool :=
  s.gaz.absent.any (fun a => a.table == table && a.key == key)

/-- A context that parked on an absent key's promotion has re-run its search; the entry goes with the last (R263). -/
def absentSeen (s : State) (table : Nat) (key : List Byte) (c : Nat) : State :=
  let seen := s.gaz.absent.map (fun a => if a.table == table && a.key == key then { a with ctxs := a.ctxs.filter (· != c) } else a)
  let left := seen.filter (fun a => !(a.table == table && a.key == key && a.ctxs.isEmpty))
  { s with gaz := { s.gaz with absent := left } }

/-- Late-completion and other device counters of Meridian, Legend and Gazetteer (R506; assumption 19): 0 LATE_PROMOTE,
1 CMD_LATE, 2 LATE_LOOKUP, 3 lookups of squashed runs, 4 late coprocessor results (R105), 0x10 + p LATE_DRAM of port p. -/
def lateId (k : Nat) : Nat := cid 1 0 (0x100 + k)

/-- A search on its way: its result word and data arrive later (R266, R268). -/
def pushSearch (s : State) (t : Nat) (x : Thread) (ch table no : Nat) (key : List Byte) (need : Nat) (word : Word)
    (data : List Word) : State :=
  let timeout := 1000 * fld s.gaz.cfg 4 10
  let q : Search := { num := s.gaz.searchNum, tid := t, ctx := x.ctxId, channel := ch, table := table, tableNo := no,
                      key := key, issued := now s, deadline := now s + timeout, result := word, data := data,
                      timedOut := false, aborted := false }
  let y := s.thread t
  let s := s.setThread t { y with reserved := AMap.put y.reserved ch (AMap.at y.reserved ch 0 + need) }
  { s with gaz := { s.gaz with searches := s.gaz.searches ++ [q], searchNum := s.gaz.searchNum + 1 } }

/-- False hits of a search, in its table's counter and in the device's (R273, R498). -/
def countFalses (s : State) (table n : Nat) : State :=
  if n == 0 then s else devCount (count s (tableCid table 6) n) 3 1 0 (s.table table).owner n

/-- What a search's outcome adds to its table's counters (R273). -/
def countFound (s : State) (table : Nat) (f : Found) : State :=
  match f with
  | .hit _ _ n _ _ => countFalses (tableCount s table 4) table n
  | .miss n => countFalses (tableCount s table 5) table n
  | .error n => countFalses (tableCount s table 7) table n
  | .poison => tableCount s table 8

/-- A FLOW miss on a table with the flash tier, for a key that is not absent and may be cold (R26, R263). -/
def coldMiss (s : State) (table : Nat) (t : Table) (key : List Byte) : Bool :=
  coldEn t && !isAbsent s table key && filterHit t (flowKh table key) key

/-- A record learned for a key (R259): provisional, its TABLE_INSERT held, or applied at once. The answer is its index. -/
def learn (s : State) (x : Thread) (table : Nat) (t : Table) (key : List Byte) : State × Option Nat :=
  match takeIndex t with
  | none => (s, none)
  | some (i, t') =>
    let t' := writeNew { t' with provisional := i :: t'.provisional } i key
    let s := tableRequest (tableCount (s.setTable table t') table 10) 17 table 128
    match x.ctxId.bind (fun c => (s.ctx? c).map (fun k => (c, k))) with
    | none => ((applyInsert s none table key i).1, some i)
    | some (c, k) =>
      if speculative s c then
        (s.setCtx c { k with recs := k.recs ++ [.insert table key i], learned := k.learned ++ [(table, key)] }, some i)
      else
        let r := applyInsert (s.setCtx c { k with partly := true }) (some k.key) table key i
        (match r.2, r.1.ctx? c with
          | some 1, some k => (r.1.setCtx c { k with insertFailed := true }, some i)
          | _, _ => (r.1, some i))

/-- A key deleted by a program: held while its context is speculative, else applied (R107, R261, R265). -/
def programDelete (s : State) (x : Thread) (table : Nat) (key : List Byte) : State :=
  match x.ctxId.bind (fun c => (s.ctx? c).map (fun k => (c, k))) with
  | none => s.setMeridian { s.meridian with writes := s.meridian.writes ++ [.delete table key none] }
  | some (c, k) =>
    if speculative s c then s.setCtx c { k with recs := k.recs ++ [.delete table key] }
    else applyDelete (s.setCtx c { k with partly := true }) (some k.key) table key 11

/-- The search itself, its operands in order (R248–R268). -/
def runSearch (s : State) (t : Nat) (x : Thread) (ch no op table : Nat) (tb : Table) (key : List Byte) : Eff :=
  let knum := leNat key
  let need := resultEntries tb
  let inPacket := x.ctxId.bind (fun c => (s.ctx? c).map (fun k => (c, k)))
  let isFlow := tb.kind == 3
  let entry := SetEntry.key table (flowKh table key)
  let spec := x.spec s
  let found := if tableErased s tb then Found.poison else match tb.kind with
    | 2 => directSearch tb (slotView tb (slotAt tb (searchGen s x))) knum
    | 3 => flowSearch tb key
    | _ => rowSearch s tb (slotAt tb (searchGen s x)) knum
  let missed := match found with | .miss _ => true | _ => false
  let hitAt := if isFlow then flowFind tb key else none
  let cold := isFlow && missed && coldMiss s table tb key
  let learns := isFlow && op == 1 && missed && !cold && learnEn tb
  let deletes := isFlow && op == 2 && (match found with | .hit .. => true | _ => false)
  let wantsSet := match inPacket with | some (_, k) => isFlow && spec && setFull k entry | none => false
  let wantsBuf := match inPacket with | some (_, k) => spec && (learns || deletes) && decide (furtherUsed k ≥ 32) | none => false
  if wantsSet || wantsBuf then .wait s .serial
  else
    let s := devCount (tableCount s table 3) 3 0 0 tb.owner 1
    let s := if tb.kind < 2 then s else tableRequest s 16 table (searchBytes tb key)
    let s := if tb.kind < 2 then touchBanks s tb knum else s
    let s := countFound s table found
    let s := match inPacket with
      | some (c, k) => if isFlow then s.setCtx c (k.addRead entry) else s
      | none => s
    let s := match hitAt with | some (_, at_) => if found != .poison then s.setTable table (touch (s.table table) at_) else s | none => s
    let absent := isFlow && missed && coldEn tb && isAbsent s table key
    let s := if absent then tableCount s table 15 else s
    let s := match x.ctxId with | some c => if absent then absentSeen s table key c else s | none => s
    let send (s : State) (status : Nat) (skipped stash : Bool) (detail value : Nat) (data : List Word) : Eff :=
      .next (pushSearch s t x ch table no key need (resultWord status skipped stash no detail value) data)
    let zeros := List.replicate (need - 1) (0 : Word)
    if cold then
      match inPacket with
      | none => send (requestPromotion (tableCount s table 14) table (flowKh table key) key) 4 false false 0 0 zeros
      | some (c, k) => .left (coldPacket s c k table key)
    else if learns then
      match learn s x table (s.table table) key with
      | (s, some i) => send s 2 false false 0 i zeros
      | (s, none) => send s 3 false false 0 0 zeros
    else match found with
      | .hit value detail falses stash data =>
        if deletes then send (programDelete s x table key) 8 false stash 0 value zeros
        else send s 0 (falses != 0) stash detail value data
      | .miss _ => send s 1 false false 0 0 zeros
      | .error _ => send s 5 false false 0 0 zeros
      | .poison => send s 6 false false 0 0 zeros

/-- `SRCH`: the checks at issue, then the search (R145, R240, R265). -/
def searchOp (t : Nat) (a b : BitVec 5) (chan : BitVec 3) (s : State) : Host.Outcome State Fault Refusal :=
  issue t true 0 [a, b] 1 s (fun s x =>
    let w := x.reg a
    let no := fld w 0 8
    let op := fld w 8 4
    let addr := (x.reg b).toNat
    match boundTable s x no with
    | none => .trap 0x0D (BitVec.ofNat 64 no)
    | some (table, tb) =>
      if tb.kind > 3 || fld w 12 52 != 0 || op > 2 || (op != 0 && tb.kind != 3) then .trap 0x0D (BitVec.ofNat 64 no)
      else if addr % 8 != 0 || addr + searchKeyBytes tb > localSize t then .trap 0x05 (x.reg b)
      else
        let room := (AMap.at x.responses chan.toNat []).length + AMap.at x.reserved chan.toNat 0 + resultEntries tb
        if room > 16 then .trap 0x0E (zext chan)
        else
          let r : MemRef := .localStore t addr
          if (ccBuffer s t).any (fun e => e.tid == t && overlaps e.place e.size r (searchKeyBytes tb)) then .wait s .bufferEmpty
          else runSearch s t x chan.toNat no op table tb (readBytes s r (searchKeyBytes tb)))

/-- SRCH_SEARCH: `SRCH` with OP 0 in wA (R265). -/
def execSrchSearch (t : Nat) (a b : BitVec 5) (chan : BitVec 3) (s : State) : Host.Outcome State Fault Refusal := searchOp t a b chan s
/-- SEARCH_OR_LEARN: `SRCH` with OP 1 in wA (R259). -/
def execSearchOrLearn (t : Nat) (a b : BitVec 5) (chan : BitVec 3) (s : State) : Host.Outcome State Fault Refusal := searchOp t a b chan s
/-- SRCH_DELETE: `SRCH` with OP 2 in wA (R265). -/
def execSrchDelete (t : Nat) (a b : BitVec 5) (chan : BitVec 3) (s : State) : Host.Outcome State Fault Refusal := searchOp t a b chan s

/-- A thread takes an entry of a response channel: a POISON result word acts as a poisoned `SLD` in a packet task (R267). -/
def takeResponse (s : State) (t dst : Nat) (e : Word × Bool) : State :=
  let x := s.thread t
  match x.ctxId with
  | none => wake s t dst e.1
  | some c =>
    if e.2 && fld e.1 0 4 == 6 then
      (if speculative s c then s.setThread t { x with block := .deferred .result } else failCtx s c 0x21 false 5)
    else wake s t dst e.1

/-- Entries arrive on a response channel; a thread that waits there takes the first (R145, R266). -/
def deliverResponse (s : State) (t ch : Nat) (word : Word) (data : List Word) : State :=
  let x := s.thread t
  let es := (word, true) :: data.map (fun w => (w, false))
  let left := AMap.at x.reserved ch 0 - es.length
  let all := AMap.at x.responses ch [] ++ es
  let put (l : List (Word × Bool)) : State :=
    s.setThread t { x with responses := AMap.put x.responses ch l, reserved := AMap.put x.reserved ch left }
  match x.block, all with
  | .chanEmpty c dst, e :: rest => if c == ch then takeResponse (put rest) t dst e else put all
  | _, _ => put all

/-- A search leaves the complex. -/
def dropSearch (s : State) (n : Nat) : State :=
  { s with gaz := { s.gaz with searches := s.gaz.searches.filter (fun q => q.num != n) } }

/-- Whether an older search of the same thread and channel has still to answer: results keep issue order (R145). -/
def olderSearch (s : State) (q : Search) : Bool :=
  s.gaz.searches.any (fun p => p.tid == q.tid && p.channel == q.channel && decide (p.num < q.num) && !p.timedOut && !p.aborted)

/-- SEARCH_RESULT (R112, R145, R266, R268). -/
def execSearchResult (num : Nat) (s : State) : Host.Outcome State Fault Refusal :=
  .next (match s.gaz.searches.find? (fun q => q.num == num) with
    | none => s
    | some q =>
      if q.aborted then finish (count (dropSearch s num) (lateId 3) 1)
      else if q.timedOut then finish (count (dropSearch s num) (lateId 2) 1)
      else if olderSearch s q then s
      else finish (deliverResponse (dropSearch s num) q.tid q.channel q.result q.data))

/-- SEARCH_TIMEOUT (R268): past its deadline a search delivers TIMEOUT once; its answer will be late. -/
def execSearchTimeout (num : Nat) (s : State) : Host.Outcome State Fault Refusal :=
  .next (match s.gaz.searches.find? (fun q => q.num == num) with
    | none => s
    | some q =>
      if q.aborted || q.timedOut || decide (now s < q.deadline) || olderSearch s q then s
      else
        let s := { s with gaz := { s.gaz with searches := s.gaz.searches.map (fun p =>
          if p.num == num then { p with timedOut := true } else p) } }
        let word := resultWord 7 false false q.tableNo 0 0
        finish (deliverResponse (tableCount s q.table 9) q.tid q.channel word (q.data.map (fun _ => 0))))

end Sys2Proof.Machine
end

