-- ==== Sys2Proof/Machine/Gaz.lean ====
section
/-! DEFINITION. Tables: their storage and quotas, the commands of area 0x05, views, scrub, rehash (R239–R274). -/

namespace Sys2Proof.Machine

/-- Banks of the classifier partition for a number of rule banks (R246). -/
def partitionBanks (rules : Nat) : Nat := 8 * (1 + rules)
/-- CLS_RULE_BANKS in force (R273). -/
def ruleBanks (s : State) : Nat := fld s.gaz.cfg 0 3

/-- Banks outside the partition that no table holds. -/
def freeBanks (s : State) (rules : Nat) : List Nat :=
  let used := (s.gaz.tables.map (fun t => t.2.banks)).flatten
  (List.range 64).filter (fun b => decide (b ≥ partitionBanks rules) && !used.contains b)

/-- Tables that the device holds of a kind (R239). -/
def kindLimit : Nat → Nat
  | 1 => 64
  | 2 => 64
  | _ => 256

/-- The address mask of an LPM entry: the top bits of the address, and the VRF unless it is global (R253). -/
def lpmMask (width plen : Nat) (isGlobal : Bool) : Nat :=
  let bits := if width == 1 then 32 else 128
  (2 ^ plen - 1) * 2 ^ (16 + bits - plen) + (if isGlobal then 0 else 0xFFFF)

/-- FLOW_CFG as a creation or a write may carry it (R256), at a byte offset of the payload. -/
def flowCfgBad (s : State) (v : BitVec 128) (offset : Nat) : List (Bool × Status) :=
  let filter := fld v 51 6
  reservedBad v [(11, 5), (57, 7)] offset ++
  [(decide (fld v 0 5 < 10), badField 0x0300 offset 0),
   (fld v 0 5 > 29, badField 0x0300 offset 0),
   (fld v 5 3 == 0 || fld v 5 3 == 7, badField 0x0300 offset 5),
   (fld v 16 16 == 0 || decide (fld v 16 16 > 60000), badField 0x0300 offset 16),
   (decide (fld v 32 16 > 32767), badField 0x0300 offset 32),
   (fld v 48 2 == 3, badField 0x0300 offset 48),
   (filter != 0 && (decide (filter < 20) || decide (filter > 38)), badField 0x0300 offset 51),
   (bit v 10 && !s.ident.flash, plain 0x0406 false),
   (bit v 10 && bit v 8, badField 0x0301 offset 10),
   (fld v 48 2 == 1 && filter == 0, badField 0x0301 offset 51)]

/-- A table as its creation describes it (R239, R252–R256); the seeds of a FLOW table are chosen by Gazetteer. -/
def tableFrom (owner : Nat) (x : TableSpec) (t : Ns) : Table :=
  { Table.empty with
    kind := x.kind, owner := owner, width := if x.kind < 2 then x.width else 1,
    tagPos := if x.kind == 0 then x.tagPos else 0,
    indexBits := if x.kind == 2 then x.indexBits else 0, entryWords := if x.kind == 2 then x.entryWords else 2,
    checkEn := x.kind == 2 && x.checkEn, sram := (x.kind == 2 || x.kind == 4) && x.sram,
    size := if x.kind == 4 then x.size else 0, cfg := if x.kind == 3 then setFld x.cfg 64 64 0 else 0,
    autoRehash := x.kind == 3 && x.autoRehash, ageAt := t }

/-- Whether a creation describes the table that is there (R405). -/
def sameTable (t new : Table) : Bool :=
  t.kind == new.kind && t.width == new.width && t.tagPos == new.tagPos && t.indexBits == new.indexBits &&
    t.entryWords == new.entryWords && t.checkEn == new.checkEn && t.sram == new.sram && t.size == new.size &&
    fld t.cfg 0 64 == fld new.cfg 0 64 && t.autoRehash == new.autoRehash

/-- Ranges of a creation (R252, R253, R255, R256). -/
def specBad (s : State) (x : TableSpec) : List (Bool × Status) :=
  match x.kind with
  | 0 => [(!([1, 2, 4].contains x.width), badOpen 0x0300 0x0501 1), (decide (x.tagPos + 16 > 80 * x.width), badOpen 0x0300 0x0501 2),
          (decide (ceilDiv (x.rows * x.width) 4096 > 32), badOpen 0x0300 0x0501 3)]
  | 1 => [(!([1, 2].contains x.width), badOpen 0x0300 0x0501 1), (decide (ceilDiv (x.rows * x.width) 4096 > 32), badOpen 0x0300 0x0501 3)]
  | 2 => [(x.indexBits == 0 || decide (x.indexBits > 24), badOpen 0x0300 0x0501 4), (!([2, 4, 8].contains x.entryWords), badOpen 0x0300 0x0501 5)]
  | 3 => flowCfgBad s x.cfg 8
  | 4 => []
  | _ => [(true, badOpen 0x0300 0x0501 0)]

/-- TABLE_CREATE's body (R239, R405). -/
def createTable (table : Nat) (x : TableSpec) (c : Call) (s : State) : State × Ending :=
  let new := tableFrom c.owner x (now s)
  let create : State × Ending :=
    let n := if x.kind < 2 then max 1 (ceilDiv (x.rows * x.width) 4096) else 0
    let banks := (freeBanks s (ruleBanks s)).take n
    unlessBad s
      ([(decide ((s.gaz.tables.filter (fun t => t.2.kind == x.kind)).length ≥ kindLimit x.kind), noRoom 0x0401 0x14 table),
        (decide (banks.length < n), noRoom 0x0401 0x10 table)] ++ growTests s c.owner .empty new)
      (let a := fresh s
       let b := fresh a.2
       let seeds := a.1.toNat % 2 ^ 32 + b.1.toNat % 2 ^ 32 * 2 ^ 32
       let new := { new with banks := banks, cfg := if x.kind == 3 then setFld new.cfg 64 64 seeds else new.cfg }
       let new := { new with filterSeed := if x.kind == 3 then a.1.toNat % 2 ^ 32 else 0 }
       let s := if x.kind == 3 then b.2 else s
       okDone { s with gaz := { s.gaz with
         tables := AMap.put s.gaz.tables table new,
         banks := banks.foldl (fun m b => AMap.put m b { Bank.reset with lastSearch := now s }) s.gaz.banks } })
  match AMap.find s.gaz.tables table with
  | some t =>
    if t.owner != c.owner then endsCode s 0x0201
    else unlessBad s (specBad s x) (if sameTable t new then endsCode s 2 else endsCode s 0x0302)
  | none => unlessBad s ((decide (table ≥ 2 ^ 16), badField 0x0300 0 32) :: specBad s x) create

/-- TABLE_CREATE (R239). -/
def execTableCreate (c : CmdRef) (table : Nat) (x : TableSpec) (s : State) : Host.Outcome State Fault Refusal :=
  .next (runCommand s c 0x0501 (createTable table x))

/-- The table a command names, of some kinds, its caller the owner (R391 step 7, R408). -/
def withTable (s : State) (c : Call) (table : Nat) (kinds : List Nat) (go : Table → State × Ending) : State × Ending :=
  match AMap.find s.gaz.tables table with
  | none => endsCode s 0x0107
  | some t =>
    if t.owner != c.owner then endsCode s 0x0201
    else if !kinds.contains t.kind then ends s (badField 0x0300 0 32)
    else go t

/-- Commands end with a status. -/
def endAll (s : State) (accs : List Nat) (w : Status) : State := accs.foldl (fun s a => endCommand s a w []) s

/-- A table removed with everything of it (R239, R329): its waiting commands end NOT_FOUND, its cold records go. -/
def removeTable (s : State) (table : Nat) : State :=
  let t := s.table table
  let writes := s.meridian.writes.filter (fun w => w.key.2 == table)
  let accs := t.batch.map (·.acc) ++ (match t.rehash with | none => [] | some r => r.acc.toList) ++ t.rebuildAccs ++
    writes.filterMap (fun w => w.key.1)
  let s := zeroFill (endAll s accs (plain 0x0107 false)) (tableOwner + table) (tableDram t)
  { s with
    gaz := { s.gaz with tables := AMap.del s.gaz.tables table, banks := s.gaz.banks.filter (fun b => !t.banks.contains b.1),
                        absent := s.gaz.absent.filter (fun a => a.table != table) },
    meridian := { s.meridian with writes := s.meridian.writes.filter (fun w => w.key.2 != table) },
    stk := { s.stk with cold := s.stk.cold.filter (fun r => r.table != table),
                        promotions := s.stk.promotions.map (fun p => if p.table == table then { p with gone := true } else p) } }

/-- TABLE_DELETE (R239, R405). -/
def execTableDelete (c : CmdRef) (table : Nat) (s : State) : Host.Outcome State Fault Refusal :=
  .next (runCommand s c 0x0502 (fun k s =>
    match AMap.find s.gaz.tables table with
    | none => endsCode s 3
    | some t => if t.owner != k.owner then endsCode s 0x0201 else okDone (nextMove (removeTable s table))))

/-- Prefilter tag of an entry (R244): 63 unless its mask covers the tag source. -/
def entryTag (t : Table) (value mask : Nat) : Nat :=
  if mask / 2 ^ t.tagPos % 65536 == 0xFFFF then tagOf t.tagPos value else 63

/-- The entry that an ENTRY_WRITE carries (R252, R253). -/
def entryFrom (t : Table) (x : EntrySpec) : TEntry :=
  let mask := if t.kind == 1 then lpmMask t.width x.plen x.isGlobal else x.mask % 2 ^ (80 * t.width)
  let value := x.value % 2 ^ (80 * t.width) &&& (if t.kind == 1 then mask else 2 ^ (80 * t.width) - 1)
  { id := x.id % 2 ^ 16, value := value, mask := mask, tag := entryTag t value mask, owner := t.owner, prio := if t.kind == 1 then 0 else x.prio % 2 ^ 16, result := x.result % 2 ^ 32,
    plen := if t.kind == 1 then x.plen else 0, isGlobal := t.kind == 1 && x.isGlobal, order := 0, row := 0, bad := none,
    image := none, shadowLost := false, dead := false }

/-- A table operation joins its table's batch; its command ends when the batch is published (R248). -/
def joinBatch (s : State) (table : Nat) (t : Table) (op : BatchOp) : State × Ending :=
  (s.setTable table { t with batch := t.batch ++ [op] }, .later)

/-- ENTRY_WRITE (R248–R255). -/
def execEntryWrite (c : CmdRef) (table : Nat) (x : EntrySpec) (s : State) : Host.Outcome State Fault Refusal :=
  .next (runCommand s c 0x0503 (fun k s => withTable s k table [0, 1, 2] (fun t =>
    if t.kind == 2 then
      unlessBad s [(x.words.length != t.entryWords, failWith 0x0100 0 0), (decide (x.id ≥ 2 ^ t.indexBits), badField 0x0300 0 0),
          (fld (x.words.getD 0 0) 1 23 != 0, badField 0x0100 8 1)]
        (joinBatch s table t (.writeDirect k.acc x.id x.words))
    else
      unlessBad s [(t.kind == 1 && decide (x.plen > (if t.width == 1 then 32 else 128)), badOpen 0x0300 0x0503 0)]
        (joinBatch s table t (.write k.acc (entryFrom t x))))))

/-- ENTRY_DELETE (R248–R255). -/
def execEntryDelete (c : CmdRef) (table entry : Nat) (s : State) : Host.Outcome State Fault Refusal :=
  .next (runCommand s c 0x0504 (fun k s => withTable s k table [0, 1, 2] (fun t =>
    if t.kind == 2 then
      unlessBad s [(decide (entry ≥ 2 ^ t.indexBits), badField 0x0300 0 0)] (joinBatch s table t (.deleteDirect k.acc entry))
    else joinBatch s table t (.delete k.acc entry))))

/-- TCAM units in use by classifier rules of an owner (R82). -/
def profileUnits (s : State) (profile : Nat) : Nat :=
  if profile < 8 then fixedUnits profile else customUnits (AMap.at s.sluice.profiles profile []).length
/-- TCAM units of an owner: classifier rules and the entries of its tables' views in force (R350). -/
def tcamUnits (s : State) (owner : Nat) : Nat :=
  (s.sluice.rules.filter (fun r => r.tenant == owner)).foldl (fun n r => n + profileUnits s r.profile) 0 +
    sumTables (fun t => if t.kind < 2 then t.width * (currentView t).entries.length else 0) (tablesOf s owner)

/-- A batch while it is written (R248): the new view, the statuses so far, and what waits for the next one (R249). -/
structure Draft where
  view : View
  order : Nat
  ended : List (Nat × Status)
  gone : List (Nat × Status)       -- commands that a quota has made leave the batch
  touched : List Nat
  left : List BatchOp
  deriving DecidableEq, Repr

/-- Two LPM entries that cannot both be visible (R253). -/
def samePrefix (a b : TEntry) : Bool := a.plen == b.plen && a.value == b.value && a.isGlobal == b.isGlobal

/-- One operation of a batch written (R248, R249, R253): `units` are the owner's units without this table, `quota` its
TCAM_UNITS, `spare` the entries that the superseded store still has for this table. -/
def draftOp (t : Table) (owner units quota spare : Nat) (d : Draft) (op : BatchOp) : Draft :=
  let done (w : Status) : List (Nat × Status) := d.ended ++ [(op.acc, w)]
  let direct (i : Nat) (go : Draft) : Draft :=
    if !d.left.isEmpty || (!d.touched.contains i && decide (d.touched.length ≥ spare)) then { d with left := d.left ++ [op] }
    else { go with touched := if d.touched.contains i then d.touched else i :: d.touched }
  match op with
  | .write _ e =>
    let es := d.view.entries
    let old := es.find? (fun x => x.id == e.id)
    let twin := if t.kind == 1 then es.find? (fun x => samePrefix x e && !(x.dead && x.id == e.id)) else none
    (match twin with
      | some x => { d with ended := done (if x.result == e.result then plain 2 false else failWith 0x0303 3 x.id) }
      | none =>
        if old.any (fun x => !x.dead && x == { x with
            value := e.value, mask := e.mask, prio := e.prio, result := e.result, plen := e.plen, isGlobal := e.isGlobal })
        then { d with ended := done (plain 2 false) }
        else
          let rest := es.filter (fun x => x.id != e.id)
          if old.isNone && decide (units + t.width * (rest.length + 1) > quota) then
            { d with gone := d.gone ++ [(op.acc, noRoom 0x0400 0x10 owner)] }
          else { d with view := { d.view with entries := rest ++ [{ e with order := d.order }] }, order := d.order + 1,
                        ended := done (plain 0 true) })
  | .delete _ id =>
    if d.view.entries.any (fun x => x.id == id) then
      { d with view := { d.view with entries := d.view.entries.filter (fun x => x.id != id) }, ended := done (plain 0 true) }
    else { d with ended := done (plain 3 false) }
  | .writeDirect _ i ws => direct i { d with view := { d.view with direct := AMap.put d.view.direct i ws }, ended := done (plain 0 true) }
  | .deleteDirect _ i =>
    if AMap.has d.view.direct i then
      direct i { d with view := { d.view with direct := AMap.del d.view.direct i }, ended := done (plain 0 true) }
    else if !d.left.isEmpty then { d with left := d.left ++ [op] }
    else { d with ended := done (plain 3 false) }

/-- Entries of the superseded store that a DIRECT table holds (R249): those whose value differs between its views. -/
def supersededOf (t : Table) : Nat :=
  if t.kind != 2 then 0
  else (((t.slot0.direct.map (·.1)) ++ (t.slot1.direct.map (·.1))).eraseDups.filter (fun i =>
    AMap.at t.slot0.direct i [] != AMap.at t.slot1.direct i [])).length

/-- Rows that a table's entries take while a new view is written: those visible in either slot, and the new ones (R248). -/
def rowsNeeded (t : Table) (v : View) : Nat :=
  ((t.slot0.entries ++ t.slot1.entries ++ v.entries).map (·.order)).eraseDups.length

/-- Whether one LPM region stands before another: the longer prefixes, and of one length the VRF entries (R253). -/
def regionBefore (a b : TEntry) : Bool :=
  decide (a.plen > b.plen) || (a.plen == b.plen && !a.isGlobal && b.isGlobal)
/-- Whether two entries are of one LPM region. -/
def sameRegion (a b : TEntry) : Bool := a.plen == b.plen && a.isGlobal == b.isGlobal

/-- An entry moved to a row: the copy is written first, from the image (R254). -/
def moveTo (order row : Nat) (rows : List TEntry) : List TEntry :=
  rows.map (fun e => if e.order == order then { e with row := row, bad := none } else e)

/-- A free row brought down to `goal`: the first entry of each region between moves to the far end of its region, which
frees its own row (R254). The fuel bounds the regions. -/
def openUp : Nat → Nat → Nat → List TEntry → List TEntry × Nat
  | 0, _, hole, rows => (rows, hole)
  | n + 1, goal, hole, rows =>
    if hole ≤ goal then (rows, hole)
    else match rows.find? (fun e => e.row + 1 == hole) with
      | none => (rows, hole)
      | some x =>
        let first := (rows.filter (sameRegion x)).foldl (fun m e => if e.row < m.row then e else m) x
        openUp n goal first.row (moveTo first.order hole rows)

/-- A free row brought up to `goal`: the last entry of each region between moves to its near end (R254). -/
def openDown : Nat → Nat → Nat → List TEntry → List TEntry × Nat
  | 0, _, hole, rows => (rows, hole)
  | n + 1, goal, hole, rows =>
    if hole ≥ goal then (rows, hole)
    else match rows.find? (fun e => e.row == hole + 1) with
      | none => (rows, hole)
      | some x =>
        let last := (rows.filter (sameRegion x)).foldl (fun m e => if e.row > m.row then e else m) x
        openDown n goal last.row (moveTo last.order hole rows)

/-- An LPM entry placed among the rows of its table's banks (R254): a free row of its region or at its borders, else the
nearest free row, brought to the border by moves; of two as near the higher one (assumption 91). -/
def placeLpm (cap : Nat) (rows : List TEntry) (e : TEntry) : List TEntry :=
  let lo := (rows.filter (fun x => regionBefore x e)).foldl (fun m x => max m (x.row + 1)) 0
  let hi := (rows.filter (fun x => regionBefore e x)).foldl (fun m x => min m x.row) cap
  let free (r : Nat) : Bool := !rows.any (fun x => x.row == r)
  match ((List.range hi).drop lo).find? free with
  | some r => rows ++ [{ e with row := r }]
  | none =>
    let up := ((List.range cap).drop hi).find? free
    let down := (List.range lo).reverse.find? free
    let goes : List TEntry × Nat :=
      match up, down with
      | some u, some d => if u - hi ≤ lo - 1 - d then openUp 260 hi u rows else openDown 260 (lo - 1) d rows
      | some u, none => openUp 260 hi u rows
      | none, some d => openDown 260 (lo - 1) d rows
      | none, none => (rows, cap)
    goes.1 ++ [{ e with row := goes.2 }]

/-- The rows of a TCAM table packed in row order, from the first (R242). -/
def packRows (kind : Nat) (rows : List TEntry) : List TEntry :=
  (rowOrder kind rows).zipIdx.map (fun e => if e.1.row == e.2 then e.1 else { e.1 with row := e.2, bad := none })

/-- The rows of a table after a batch has added entries (R242, R254). -/
def placeRows (t : Table) (cap : Nat) (new : List TEntry) : List TEntry :=
  if t.kind == 1 then new.foldl (placeLpm cap) (physicalRows t) else packRows t.kind (physicalRows t ++ new)

/-- The entries of a view at the places that the rows give them. -/
def View.placed (v : View) (rows : List TEntry) : View :=
  { v with entries := v.entries.map (fun e => (rows.find? (fun x => x.order == e.order)).getD e) }

/-- Rules of one width in the order of their rows (R242, R246). -/
def rulesOfWidth (s : State) (w : Nat) : List Rule := ruleOrder (s.sluice.rules.filter (fun r => profileUnits s r.profile == w))
/-- Scope rules in the order of their rows (R242). -/
def scopeRows (s : State) : List Rule := ruleOrder s.sluice.scopeRules
/-- Rule banks that a number of rules of one width take. -/
def banksForRules (w n : Nat) : Nat := ceilDiv (n * w) 4096
/-- Rule banks that the installed rules take (R246). -/
def rulesTake (s : State) : Nat :=
  banksForRules 1 (rulesOfWidth s 1).length + banksForRules 2 (rulesOfWidth s 2).length + banksForRules 4 (rulesOfWidth s 4).length

/-- The rule in entry `e` of the n-th rule bank of a replica: banks of width ×1 first, then ×2, then ×4. -/
def ruleAt (s : State) (n e : Nat) : Option Rule :=
  let n1 := banksForRules 1 (rulesOfWidth s 1).length
  let n2 := banksForRules 2 (rulesOfWidth s 2).length
  if n < n1 then (rulesOfWidth s 1)[n * 4096 + e]?
  else if n < n1 + n2 then (rulesOfWidth s 2)[(n - n1) * 2048 + e]?
  else (rulesOfWidth s 4)[(n - n1 - n2) * 1024 + e]?

/-- Width code of the n-th rule bank of a replica; 0 for one that holds no rule (R243, R246). -/
def ruleBankWidth (s : State) (n : Nat) : Nat :=
  let n1 := banksForRules 1 (rulesOfWidth s 1).length
  let n2 := banksForRules 2 (rulesOfWidth s 2).length
  if n < n1 || n ≥ rulesTake s then 0 else if n < n1 + n2 then 1 else 2

/-- Rules in the n-th rule bank of a replica, in entry order. -/
def rulesInBank (s : State) (n : Nat) : List Rule :=
  let n1 := banksForRules 1 (rulesOfWidth s 1).length
  let n2 := banksForRules 2 (rulesOfWidth s 2).length
  if n < n1 then ((rulesOfWidth s 1).drop (n * 4096)).take 4096
  else if n < n1 + n2 then ((rulesOfWidth s 2).drop ((n - n1) * 2048)).take 2048
  else ((rulesOfWidth s 4).drop ((n - n1 - n2) * 1024)).take 1024

/-- The rule banks of a replica that hold rules of a width (R245, R246). -/
def banksOfWidth (s : State) (k w : Nat) : List Nat :=
  ((List.range (ruleBanks s)).filter (fun n => decide (n < rulesTake s) && ruleBankWidth s n == w / 2)).map
    (fun n => k * (1 + ruleBanks s) + 1 + n)

/-- The table and the position in its bank list of a bank. -/
def bankOwner (s : State) (b : Nat) : Option (Nat × Table × Nat) :=
  s.gaz.tables.findSome? (fun t => (t.2.banks.findIdx? (· == b)).map (fun n => (t.1, t.2, n)))

/-- Whether a bank may never sleep (R271): classifier banks of a replica with a link up, banks of express programs. -/
def bankPinned (s : State) (b : Nat) : Bool :=
  let per := 1 + ruleBanks s
  if b < partitionBanks (ruleBanks s) then
    let k := b / per
    (List.range 8).any (fun i => (s.lport (8 * k + i)).linkUp)
  else match bankOwner s b with
    | none => false
    | some (table, _, _) => s.legend.programs.any (fun p => p.2.express && p.2.binding.any (fun x => x.2 == table))

/-- Valid entries of a bank (R243). -/
def bankUsed (s : State) (b : Nat) : Nat :=
  let per := 1 + ruleBanks s
  if b < partitionBanks (ruleBanks s) then
    let scope := b % per == 0
    ((if scope then s.sluice.scopeRules else rulesInBank s (b % per - 1)).filter (fun r =>
      (r.rowsIn (b / per) scope (if scope then 1 else profileUnits s r.profile)).all (·.valid))).length
  else match bankOwner s b with
    | none => 0
    | some (_, t, n) => ((physicalRows t).filter (fun e => e.row / perBank t == n && (rowsOf t e).all (·.valid))).length

/-- Banks after rows have changed: a bank with no valid row is powered off, so that it does not sleep, and a bank that may
not sleep is awake (R271). -/
def powerBanks (s : State) : State :=
  { s with gaz := { s.gaz with banks := s.gaz.banks.map (fun b =>
      (b.1, if b.2.asleep && (bankUsed s b.1 == 0 || bankPinned s b.1) then { b.2 with asleep := false, lastSearch := now s } else b.2)) } }

/-- The presence vector of a table's n-th bank (R245). -/
def presenceOf (t : Table) (n : Nat) : Nat :=
  ((physicalRows t).filter (fun e => e.row / perBank t == n)).foldl (fun m e => maskSet m e.tag) 0

/-- Presence bits set for every row of a table; with `clear`, stale bits go (R245, R269). -/
def setPresence (clear : Bool) (s : State) (table : Nat) : State :=
  let t := s.table table
  powerBanks (t.banks.zipIdx.foldl (fun s b =>
    let k := AMap.at s.gaz.banks b.1 .reset
    let k' : Bank := { k with presence := (if clear then 0 else k.presence) ||| presenceOf t b.2 }
    { s with gaz := { s.gaz with banks := AMap.put s.gaz.banks b.1 k' } }) s)

/-- Rewritten DIRECT entries: their soft errors, and the poison of a line written whole, are gone (R249, R267). -/
def Table.rewritten (t : Table) (touched : List Nat) : Table :=
  let clean := if t.entryWords == 8 then touched.map (directLine t) else []
  if t.kind != 2 then t
  else { t with poison := t.poison.filter (fun l => !clean.contains l),
                directBad := t.directBad.filter (fun e => !touched.contains e.1),
                directLost := t.directLost.filter (fun i => !touched.contains i) }

/-- A batch published: written into the unused slot, the generation advanced, its commands ended (R248, R249, R254). A
batch that needs more rows than the table's banks and the banks that Legend can add hold is refused whole; a command that a
quota has made leave it keeps its own status. -/
def publishBatch (s : State) (table : Nat) (t : Table) : State :=
  let base := currentView t
  let others := tcamUnits s t.owner - t.width * base.entries.length
  let spare := 65536 - sumTables supersededOf (AMap.del s.gaz.tables table)
  let quota := ownerQuota s t.owner 8 4
  let d := t.batch.foldl (draftOp t t.owner others quota spare) ⟨base, t.order, [], [], [], []⟩
  let want := if t.kind < 2 then min 32 (ceilDiv (rowsNeeded t d.view) (perBank t)) else 0
  let extra := (freeBanks s (ruleBanks s)).take (want - t.banks.length)
  let banks := t.banks ++ extra
  let cap := banks.length * perBank t
  if d.ended.isEmpty && d.gone.isEmpty then s
  else if t.kind < 2 && decide (rowsNeeded t d.view > cap) then
    let s := endAll (s.setTable table { t with batch := [] })
      ((t.batch.map (·.acc)).filter (fun a => !d.gone.any (fun e => e.1 == a))) (failWith 0x0402 3 table)
    d.gone.foldl (fun s e => endCommand s e.1 e.2 []) s
  else
    let g := s.gaz.generation + 1
    let rows := if t.kind < 2 then placeRows t cap (d.view.entries.filter (fun e => decide (t.order ≤ e.order))) else []
    let new := d.view.placed rows
    let old := base.placed rows
    let t' := { t.rewritten d.touched with
      slot0 := if t.current == 0 then old else new, slot1 := if t.current == 0 then new else old,
      current := 1 - t.current, genCur := g, order := d.order, batch := d.left, banks := banks }
    let s := { s with gaz := { s.gaz with
      generation := g, tables := AMap.put s.gaz.tables table t',
      banks := extra.foldl (fun m b => AMap.put m b { Bank.reset with lastSearch := now s }) s.gaz.banks } }
    let s := if t.kind < 2 then setPresence false s table else s
    (d.ended ++ d.gone).foldl (fun s e => endCommand s e.1 e.2 []) s

/-- Whether a context bound to a generation below a table's current one is live (R248 step 1). -/
def viewHeld (s : State) (t : Table) : Bool :=
  s.meridian.ctxs.any (fun c => c.2.bound && decide (AMap.at c.2.gens 0 0 < t.genCur))

/-- VIEW_PUBLISH (R248, R249, R400): a table's batch, once its previous slot is unused; a command whose deadline has passed has left
it. -/
def execViewPublish (table : Nat) (s : State) : Host.Outcome State Fault Refusal :=
  .next (match AMap.find s.gaz.tables table with
    | none => s
    | some t =>
      if t.kind > 2 || t.batch.isEmpty || viewHeld s t then s
      else
        let s := (t.batch.map (·.acc)).foldl expireLate s
        finish (publishBatch s table (s.table table)))

/-- Presence bits of the classifier's banks set for every row, of a scope row the wildcard's; with `clear`, stale bits go
(R244, R245, R269). -/
def setClsPresence (clear : Bool) (s : State) : State :=
  let per := 1 + ruleBanks s
  let bits := (if s.sluice.scopeRules.isEmpty then 0 else 2 ^ 63) ::
    (List.range (ruleBanks s)).map (fun n => (rulesInBank s n).foldl (fun m r => maskSet m (r.tag false)) 0)
  let banks := (List.range 8).foldl (fun m k => bits.zipIdx.foldl (fun m b =>
    AMap.upd m (k * per + b.2) .reset (fun y => { y with presence := (if clear then 0 else y.presence) ||| b.1 })) m) s.gaz.banks
  powerBanks { s with gaz := { s.gaz with banks := banks } }

/-- The row of a rule in a replica written again from its image. -/
def Rule.repair (k : Nat) (r : Rule) : Rule := { r with bad := r.bad.filter (fun b => b.1 != k) }
/-- Whether a replica's row of a rule differs from its image. -/
def Rule.changed (k : Nat) (r : Rule) : Bool := r.bad.any (fun b => b.1 == k)

/-- Counters of a bank (R251, R269; assumption 19): FALSE_HITS and SCRUB_REPAIRS. -/
def bankCount (s : State) (repair : Bool) (b : Nat) : State := count s (cid 1 0 ((if repair then 0x240 else 0x200) + b)) 1

/-- Every entry of a table's views changed alike. -/
def Table.mapEntries (f : TEntry → TEntry) (t : Table) : Table :=
  { t with slot0 := { t.slot0 with entries := t.slot0.entries.map f }, slot1 := { t.slot1 with entries := t.slot1.entries.map f } }

/-- The entry with one install number replaced in both views; its place and content are the same there. -/
def Table.setEntry (t : Table) (e : TEntry) : Table := t.mapEntries (fun x => if x.order == e.order then e else x)

/-- Counter SHADOW_REPAIRS (R269; assumption 19). -/
def shadowRepairs (s : State) (table n : Nat) : State :=
  (List.range n).foldl (fun s _ => raiseDev (count s (lateId 5) 1) 0x240 1 (dataBytes 4 table)) s

/-- The owner told of a dead entry (R251): DATA is the table and the entry's id (assumption 26). -/
def reportDead (s : State) (table owner id : Nat) : State := raise s 0x242 owner 1 (dataBytes 8 (table * 2 ^ 32 + id))

/-- An entry whose image differs from the shadow or cannot be corrected: entry, image and row are repaired from the shadow;
one whose shadow cannot be read either is dead, and one whose image alone can be read stands (R251, R269). -/
def TEntry.heal (t : Table) (e : TEntry) : TEntry :=
  if imageOf t e == some (writtenImage t e) then e
  else if !e.shadowLost then { e with image := none, bad := none }
  else if (imageOf t e).isNone then { e with dead := true } else e

/-- An entry healed in its table, with what Legend counts and reports (R251, R269). -/
def healEntry (table : Nat) (s : State) (e : TEntry) : State :=
  let t := s.table table
  let e' := e.heal t
  if e' == e then s
  else
    let s := s.setTable table (t.setEntry e')
    if e'.dead then reportDead s table t.owner e.id else shadowRepairs s table 1

/-- A rule healed in a replica (R251, R269). -/
def Rule.heal (k : Nat) (scope : Bool) (r : Rule) : Rule :=
  if r.imageIn k scope == some (r.written scope) then r
  else if !r.shadowLost then { r with images := r.images.filter (fun i => i.1 != k), bad := r.bad.filter (fun b => b.1 != k) }
  else if (r.imageIn k scope).isNone then { r with dead := true } else r

/-- The rules of a kind: the scope rules, or the others. -/
def clsRules (s : State) (scope : Bool) : List Rule := if scope then s.sluice.scopeRules else s.sluice.rules
/-- Replace the rules of a kind. -/
def setClsRules (s : State) (scope : Bool) (rs : List Rule) : State :=
  s.setSluice (if scope then { s.sluice with scopeRules := rs } else { s.sluice with rules := rs })
/-- One rule replaced; the install number names it. -/
def setRule (s : State) (scope : Bool) (r : Rule) : State :=
  setClsRules s scope ((clsRules s scope).map (fun x => if x.order == r.order then r else x))

/-- A rule healed in a replica, with what Legend counts and reports (R251, R269). -/
def healRule (k : Nat) (scope : Bool) (s : State) (r : Rule) : State :=
  let r' := r.heal k scope
  if r' == r then s
  else
    let s := setRule s scope r'
    if r'.dead then reportDead s 0xFFFFFFFF r.tenant r.id else shadowRepairs s 0xFFFFFFFF 1

/-- FALSE_HIT_REWRITE (R251): a row that differs from its image is written again, counted and reported; an image that
cannot be corrected is first repaired from the shadow. -/
def execFalseHitRewrite (bank entry : Nat) (s : State) : Host.Outcome State Fault Refusal :=
  checked (okBank bank) (
    let per := 1 + ruleBanks s
    let report (s : State) : State := finish (raiseDev (bankCount s false bank) (0x200 + bank) 1 0)
    if bank < partitionBanks (ruleBanks s) then
      let k := bank / per
      let scope := bank % per == 0
      (match (if scope then (scopeRows s)[entry]? else ruleAt s (bank % per - 1) entry) with
        | none => s
        | some r =>
          if (r.imageIn k scope).isNone then finish (healRule k scope s r)
          else if r.changed k then report (setRule s scope (r.repair k)) else s)
    else match bankOwner s bank with
      | none => s
      | some (table, t, n) =>
        (match (physicalRows t).find? (fun e => e.row == n * perBank t + entry) with
          | none => s
          | some e =>
            if decide (entry ≥ perBank t) then s
            else if (imageOf t e).isNone then finish (healEntry table s e)
            else if e.bad.isNone then s else report (s.setTable table (t.setEntry { e with bad := none }))))

/-- An image as the sweep's CRC takes it (R269; the encoding is the model's, assumption 91). -/
def imageBytes (i : RowImage) : List Byte :=
  beBytes 40 i.value ++ beBytes 40 i.mask ++ beBytes 1 i.tag ++ beBytes 1 i.vis ++ beBytes 2 i.owner ++ beBytes 16 i.result

/-- Whether a block of images differs from the same block of the shadow: the CRC-32C of the one is not that of the other,
or an image cannot be read (R269). -/
def blockDiffers (images : List (Option RowImage)) (shadow : List RowImage) : Bool :=
  images.any (fun i => i.isNone) ||
    crc32c ((images.filterMap (fun i => i.map imageBytes)).flatten) != crc32c ((shadow.map imageBytes).flatten)

/-- The entries of the blocks of 64 rows whose images differ from the shadow (R269). -/
def differingEntries (t : Table) : List TEntry :=
  let rows := physicalRows t
  let blocks := (rows.map (fun e => e.row / 64)).eraseDups.map (fun b => rows.filter (fun e => e.row / 64 == b))
  (blocks.filter (fun b => blockDiffers (b.map (imageOf t)) (b.map (writtenImage t)))).flatten

/-- The blocks of 64 DIRECT entries whose CRC differs from the shadow's, with a poisoned line or not: their entries (R269). -/
def sweepDirect (s : State) (table : Nat) (t : Table) : State :=
  let v := currentView t
  let differs (b : Nat) : Bool :=
    crc32c (((List.range 64).map (fun i => wordBytes (directValue t v (64 * b + i)))).flatten) !=
      crc32c (((List.range 64).map (fun i => wordBytes (AMap.at v.direct (64 * b + i) []))).flatten)
  let wrong := t.directBad.filter (fun e => !t.directLost.contains e.1 && differs (e.1 / 64))
  let lines := t.poison.filter (fun l => !t.directLost.any (fun i => directLine t i == l))
  shadowRepairs (s.setTable table { t with
      directBad := t.directBad.filter (fun e => !wrong.any (fun w => w.1 == e.1)),
      poison := t.poison.filter (fun l => !lines.contains l) })
    table (wrong.length + lines.length * max 1 (8 / t.entryWords))

/-- A sweep over one table (R269): each row that differs from its image is repaired and counted in its bank, the presence
vectors are made exact, and the blocks that differ from the shadow are repaired from it. -/
def sweepTable (s : State) (table : Nat) (t : Table) : State :=
  let bad := (physicalRows t).filter (fun e => e.bad.isSome && (imageOf t e).isSome)
  let s := bad.foldl (fun s e => bankCount s true (t.banks.getD (e.row / perBank t) 0)) s
  let t := t.mapEntries (fun e => if bad.any (fun x => x.order == e.order) then { e with bad := none } else e)
  let s := setPresence true (s.setTable table t) table
  (differingEntries t).foldl (healEntry table) s

/-- The bank of a rule in a replica. -/
def bankOfRule (s : State) (k : Nat) (r : Rule) : Nat :=
  let w := profileUnits s r.profile
  let i := ((rulesOfWidth s w).findIdx? (fun x => x.id == r.id && x.tenant == r.tenant)).getD 0
  let n1 := banksForRules 1 (rulesOfWidth s 1).length
  let n2 := banksForRules 2 (rulesOfWidth s 2).length
  k * (1 + ruleBanks s) + 1 + (if w == 1 then 0 else if w == 2 then n1 else n1 + n2) + i / (4096 / w)

/-- The bank of a row of the partition. -/
def bankOfCls (s : State) (k : Nat) (scope : Bool) (r : Rule) : Nat := if scope then k * (1 + ruleBanks s) else bankOfRule s k r

/-- A sweep over the rules of a kind in one replica (R269). -/
def sweepReplica (scope : Bool) (s : State) (k : Nat) : State :=
  let bad := (clsRules s scope).filter (fun r => r.changed k && (r.imageIn k scope).isSome)
  let s := bad.foldl (fun s r => setRule (bankCount s true (bankOfCls s k scope r)) scope (r.repair k)) s
  let rows := (if scope then scopeRows s else [1, 2, 4].flatMap (rulesOfWidth s)).zipIdx
  let blocks := (List.range (ceilDiv rows.length 64)).map (fun b => (rows.filter (fun r => r.2 / 64 == b)).map (·.1))
  ((blocks.filter (fun b => blockDiffers (b.map (Rule.imageIn k scope)) (b.map (fun r => r.written scope)))).flatten).foldl
    (healRule k scope) s

/-- A sweep over the classifier partition (R246, R269). -/
def sweepClassifier (s : State) : State :=
  setClsPresence true ((List.range 8).foldl (sweepReplica false) ((List.range 8).foldl (sweepReplica true) s))

/-- SCRUB_SWEEP of a table, or of the classifier partition under its id 0xFFFF_FFFF (R246, R269). -/
def execScrubSweep (table : Nat) (s : State) : Host.Outcome State Fault Refusal :=
  .next (if table == 0xFFFFFFFF then finish (sweepClassifier s)
    else match AMap.find s.gaz.tables table with
      | none => s
      | some t => if t.kind < 2 then finish (sweepTable s table t) else if t.kind == 2 then finish (sweepDirect s table t) else s)

/-- Dead entries of a table (R251). -/
def deadEntries (t : Table) : Nat := ((physicalRows t).filter (fun e => e.dead)).length

/-- BANK_SLEEP (R271): a bank with rows, not searched for BANK_IDLE_US, enters retention sleep. -/
def execBankSleep (bank : Nat) (s : State) : Host.Outcome State Fault Refusal :=
  checked (okBank bank) (
    let idle := fld s.gaz.cfg 48 16
    let k := AMap.at s.gaz.banks bank .reset
    if idle == 0 || k.asleep || bankUsed s bank == 0 || bankPinned s bank || decide (now s < k.lastSearch + 1000 * idle) then s
    else { s with gaz := { s.gaz with banks := AMap.put s.gaz.banks bank { k with asleep := true } } })

/-- The status record `GAZ_BANK` of a bank (R243); the banks of the partition are unallocated until the module admits
traffic. -/
def gazBank (s : State) (b : Nat) : Nat :=
  let per := 1 + ruleBanks s
  let asleep := b2n (AMap.at s.gaz.banks b .reset).asleep
  let lay (use width replica table : Nat) : Nat :=
    placeFields [(0, use), (3, width), (5, replica), (8, table), (24, bankUsed s b), (37, asleep)]
  if b < partitionBanks (ruleBanks s) then
    (if s.power.phase != .trafficReady then lay 0 0 0 0
     else if b % per == 0 then lay 1 0 (b / per) 0 else lay 2 (ruleBankWidth s (b % per - 1)) (b / per) 0)
  else match bankOwner s b with
    | none => lay 0 0 0 0
    | some (table, t, _) => lay (3 + t.kind) (t.width / 2) 0 table

/-- An entry as table reads encode it (R269, R270; the layout is the model's, assumption 26). -/
def entryBytes (t : Table) (e : TEntry) : List Byte :=
  beBytes 2 e.id ++ beBytes 2 e.prio ++ beBytes 1 e.plen ++ beBytes 1 (b2n e.isGlobal) ++ beBytes 4 e.result ++
    beBytes (10 * t.width) e.value ++ beBytes (10 * t.width) e.mask

/-- The entries of a table's view in force, encoded, in rising id or index. -/
def encodedEntries (t : Table) : List (List Byte) :=
  if t.kind == 2 then (currentView t).direct.map (fun e => beBytes 4 e.1 ++ wordBytes e.2)
  else
    let m : AMap TEntry := (currentView t).entries.foldl (fun m e => AMap.put m e.id e) []
    m.map (fun e => entryBytes t e.2)


/-- ENTRY_READ: the owner reads entries of the view in force (R408). -/
def execEntryRead (c : CmdRef) (table first count : Nat) (s : State) : Host.Outcome State Fault Refusal :=
  .next (runCommand s c 0x0505 (fun k s => withTable s k table [0, 1, 2] (fun t =>
    okRead s (((((encodedEntries t).drop first).take count).flatten).take replyMax))))

/-- The blocks of 64 entries from `first` on whose CRC differs from the owner's (R270). -/
def differingBlocks (es : List (List Byte)) (first : Nat) (crcs : List Nat) : List Nat :=
  (crcs.zipIdx.filter (fun x => crc32c (((es.drop (64 * (first + x.2))).take 64).flatten) != x.1 % 2 ^ 32)).map (fun x => first + x.2)

/-- TABLE_COMPARE (R270). -/
def execTableCompare (c : CmdRef) (table first : Nat) (crcs : List Nat) (s : State) : Host.Outcome State Fault Refusal :=
  .next (runCommand s c 0x050C (fun k s => withTable s k table [0, 1, 2] (fun t =>
    okRead s ((((differingBlocks (encodedEntries t) first crcs).map (beBytes 4)).flatten).take replyMax))))

/-- FLOW_INSERT (R22, R260, R408): applied between two commits. -/
def execFlowInsert (c : CmdRef) (table : Nat) (key : List Byte) (record : List Word) (s : State) : Host.Outcome State Fault Refusal :=
  .next (finish (runCommand s c 0x0506 (fun k s => withTable s k table [3] (fun t =>
    unlessBad s [(key.length != 8 * keyWords t || decide (record.length > 16), failWith 0x0100 0 0)]
      (s.setMeridian { s.meridian with writes := s.meridian.writes ++ [.insert table key record k.acc] }, .later)))))

/-- FLOW_DELETE (R22, R261). -/
def execFlowDelete (c : CmdRef) (table : Nat) (key : List Byte) (s : State) : Host.Outcome State Fault Refusal :=
  .next (finish (runCommand s c 0x0507 (fun k s => withTable s k table [3] (fun t =>
    unlessBad s [(key.length != 8 * keyWords t, failWith 0x0100 0 0)]
      (if (flowFind t key).isNone then endsCode s 3
       else (s.setMeridian { s.meridian with writes := s.meridian.writes ++ [.delete table key (some k.acc)] }, .later))))))

/-- STATE_WRITE (R22, R240, R261): words of one record, applied together between two commits. -/
def execStateWrite (c : CmdRef) (table index word : Nat) (values : List Word) (s : State) : Host.Outcome State Fault Refusal :=
  .next (finish (runCommand s c 0x0508 (fun k s => withTable s k table [3, 4] (fun t =>
    unlessBad s [(decide (index ≥ tableSize t), badField 0x0300 0 0), (decide (word + values.length > 16), badOpen 0x0300 0x0508 0),
        (t.kind == 3 && decide (word < keyWords t), badOpen 0x0300 0x0508 0), (!recordLive t index, plain 0x0107 false)]
      (s.setMeridian { s.meridian with writes := s.meridian.writes ++
        [.words table index (values.zipIdx.map (fun v => (word + v.2, v.1))) (some k.acc)] }, .later)))))

/-- STATE_READ (R408): the owner reads record words; a poisoned line yields no data (assumption 27). -/
def execStateRead (c : CmdRef) (table index word count : Nat) (s : State) : Host.Outcome State Fault Refusal :=
  .next (runCommand s c 0x0509 (fun k s => withTable s k table [3, 4] (fun t =>
    unlessBad s [(decide (index ≥ tableSize t), badField 0x0300 0 0), (decide (word + count > 16), badOpen 0x0300 0x0509 0),
        (count != 0 && (List.range 2).any (fun l => t.poison.contains (2 * index + l) &&
          (List.range count).any (fun i => (word + i) / 8 == l)), plain 0x0600 false)]
      (okRead s (wordBytes (((recordOf t index).drop word).take count))))))

/-- FLOW_CFG_WRITE (R256): only the fields marked live may change. -/
def execFlowCfgWrite (c : CmdRef) (table : Nat) (record : BitVec 128) (s : State) : Host.Outcome State Fault Refusal :=
  .next (runCommand s c 0x050A (fun k s => withTable s k table [3] (fun t =>
    let fixed (lo w : Nat) : Bool × Status := (fld record lo w != fld t.cfg lo w, badField 0x0300 8 lo)
    unlessBad s (flowCfgBad s record 8 ++ [fixed 0 5, fixed 5 3, fixed 8 1, fixed 10 1, fixed 51 6])
      (okDone (s.setTable table { t with cfg := setFld record 64 64 (fld t.cfg 64 64) })))))

/-- REHASH (R264): a second bucket array under new seeds; the command ends when every key has moved. -/
def execRehash (c : CmdRef) (table : Nat) (s : State) : Host.Outcome State Fault Refusal :=
  .next (runCommand s c 0x050B (fun k s => withTable s k table [3] (fun t =>
    let a := fresh s
    let b := fresh a.2
    let t' := { t with rehash := some ⟨a.1.toNat % 2 ^ 32, b.1.toNat % 2 ^ 32, [], some k.acc⟩ }
    unlessBad s ((t.rehash.isSome, failWith 0x0503 3 table) :: growTests s t.owner t t') (b.2.setTable table t', .later))))

/-- Every key of an array and of the stash. -/
def storedWays (t : Table) : List (List Byte × Nat × Nat) :=
  ((t.buckets.map (fun b => b.2.map (fun w => (recordKey t w.2.index, w.2.index, w.2.age)))).flatten) ++
    t.stash.map (fun e => (e.key, e.index, e.age))

/-- Keys moved into the new array one by one; none when one finds no way (R264). -/
def moveAll (t : Table) (r : Rehash) : List (List Byte × Nat × Nat) → AMap (AMap Way) → Option (AMap (AMap Way))
  | [], bs => some bs
  | (key, i, age) :: rest, bs =>
    match arrayInsert t r.seed1 r.seed2 bs key i age with
    | none => none
    | some bs => moveAll t r rest bs

/-- A filter rebuild begun for a table (R331): deferred, with one event to the owner, when the quota cannot hold the
second array. Commands that wait for a rebuild wait for this one. -/
def startRebuild (s : State) (table : Nat) : State :=
  let t := s.table table
  if t.filterNew.isSome || !coldEn t || filterLog t == 0 then s
  else
    let t' := { t with filterNew := some [] }
    match firstBad (growTests s t.owner t t') with
    | some _ => raiseCopy (raise s 0x3C5 t.owner 1 (dataBytes 2 table)) 0x3C5 1 0
    | none => s.setTable table t'

/-- REHASH_COMPLETE (R264, R267, R331): every key moved, the old array freed; with a cold filter the command goes on
until the filter has been rebuilt. -/
def execRehashComplete (table : Nat) (s : State) : Host.Outcome State Fault Refusal :=
  .next (match AMap.find s.gaz.tables table with
    | none => s
    | some t =>
      match t.rehash with
      | none => s
      | some r =>
        match moveAll t r (storedWays t) r.buckets with
        | none => s
        | some bs =>
          let waits := coldEn t && filterLog t != 0
          let seeds := r.seed1 + r.seed2 * 2 ^ 32
          let t' := { t with
            cfg := setFld t.cfg 64 64 seeds, buckets := bs, stash := [], rehash := none, requestRaised := false,
            poison := (t.poison.filter (fun l => decide (l < 2 * tableSize t))) ++
              ((t.poison.filter (fun l => decide (newBucketLine t 0 ≤ l) && decide (l < stashLine t 0))).map (fun l => l - bucketCount t)),
            rebuildAccs := if waits then t.rebuildAccs ++ r.acc.toList else t.rebuildAccs }
          let s := s.setTable table t'
          finish (if waits then startRebuild s table else endOk s r.acc))

/-- Occupancy of a table: entries of its view in force, or records in use. -/
def occupancy (t : Table) : Nat :=
  match t.kind with
  | 2 => (currentView t).direct.length
  | 3 => tableSize t - freeRecords t
  | 4 => t.size
  | _ => (currentView t).entries.length

/-- Size of a table in entries or records. -/
def capacityOf (t : Table) : Nat :=
  match t.kind with
  | 2 => 2 ^ t.indexBits
  | 3 => tableSize t
  | 4 => t.size
  | _ => t.banks.length * perBank t

/-- TABLE_READ: kind, size, occupancy, counters, the count of dead entries and the status of the banks, for the owner and the operator, and for its
owner a FLOW table's FLOW_CFG; of a FLOW table its cold records (R326); the operator reads every bank under the partition's id (R30, R241, R243, R246, R273; layout
of the model, assumption 26). -/
def execTableRead (c : CmdRef) (table : Nat) (s : State) : Host.Outcome State Fault Refusal :=
  .next (runCommand s c 0x050D (fun k s =>
    if table == 0xFFFFFFFF then
      (if k.isOp then okRead s (((List.range 64).map (fun b => beBytes 8 (gazBank s b))).flatten ++
        beBytes 4 ((s.sluice.scopeRules ++ s.sluice.rules).filter (fun r => r.dead)).length) else endsCode s 0x0201)
    else match AMap.find s.gaz.tables table with
      | none => endsCode s 0x0107
      | some t =>
        if t.owner != k.owner && !k.isOp then endsCode s 0x0201
        else okRead s (beBytes 1 t.kind ++ beBytes 1 t.width ++ beBytes 2 t.owner ++ beBytes 4 (capacityOf t) ++
          beBytes 4 (occupancy t) ++ beBytes 4 t.banks.length ++ (if t.owner == k.owner then beBytes 16 t.cfg.toNat else []) ++
          beBytes 4 (deadEntries t) ++
          beBytes 8 (s.stk.cold.filter (fun r => r.table == table)).length ++ ((List.range 27).map (fun i => beBytes 8 (counted s (tableCid table i)))).flatten ++
          (t.banks.map (fun b => beBytes 8 (gazBank s b))).flatten)))

/-- Banks that a table's rows need at least (R242). -/
def banksNeeded (t : Table) : Nat := if t.kind < 2 then max 1 (ceilDiv (physicalRows t).length (perBank t)) else 0

/-- The first table, by id, whose entries find no bank when the tables keep at least what they need (R247). -/
def firstUnmovable (room : Nat) : AMap Table → Nat → Option Nat
  | [], _ => none
  | (id, t) :: rest, n => if n + banksNeeded t > room then some id else firstUnmovable room rest (n + banksNeeded t)

/-- A table on other banks: rows that they do not reach are packed anew (R247). -/
def Table.onBanks (t : Table) (banks : List Nat) : Table :=
  let rows := physicalRows t
  let t := { t with banks := banks }
  if rows.any (fun e => decide (e.row ≥ banks.length * perBank t)) then
    let packed := packRows t.kind rows
    { t with slot0 := t.slot0.placed packed, slot1 := t.slot1.placed packed }
  else t

/-- Every table's banks outside a partition: those it has there already, then free ones (R247). -/
def movedTables (s : State) (rules : Nat) : AMap Table :=
  let room := 64 - partitionBanks rules
  let fits := decide (sumTables (fun t => t.banks.length) s.gaz.tables ≤ room)
  let want (t : Table) : Nat := if fits then t.banks.length else banksNeeded t
  let keep (t : Table) : List Nat := (t.banks.filter (fun b => decide (b ≥ partitionBanks rules))).take (want t)
  let kept := (s.gaz.tables.map (fun t => keep t.2)).flatten
  let free := (List.range 64).filter (fun b => decide (b ≥ partitionBanks rules) && !kept.contains b)
  (s.gaz.tables.foldl (fun (acc : AMap Table × List Nat) t =>
    let more := want t.2 - (keep t.2).length
    (acc.1 ++ [(t.1, t.2.onBanks (keep t.2 ++ acc.2.take more))], acc.2.drop more)) ([], free)).1

/-- GAZ_WRITE (R247, R273). -/
def execGazWrite (c : CmdRef) (record : BitVec 64) (s : State) : Host.Outcome State Fault Refusal :=
  .next (runCommand s c 0x0500 (fun _ s =>
    let n := fld record 0 3
    let unmovable := firstUnmovable (64 - partitionBanks n) s.gaz.tables 0
    unlessBad s (reservedBad record [(3, 1), (14, 2), (26, 6), (46, 2)] 0 ++
      [(n == 0 || decide (n > 5), badField 0x0300 0 0),
       (fld record 4 10 == 0 || decide (fld record 4 10 > 1000), badField 0x0300 0 4),
       (decide (fld record 16 10 < fld record 4 10) || decide (fld record 16 10 > 1000), badField 0x0300 0 16),
       (decide (fld record 32 14 < 10) || decide (fld record 32 14 > 10000), badField 0x0300 0 32),
       (decide (rulesTake s > n), failWith 0x0402 3 0xFFFFFFFF),
       (n != ruleBanks s && unmovable.isSome, failWith 0x0402 3 (unmovable.getD 0))])
      (let same := n == ruleBanks s
       let tables := if same then s.gaz.tables else movedTables s n
       let s := { s with gaz := { s.gaz with cfg := record, tables := tables } }
       okDone (if same then s else setClsPresence true (tables.foldl (fun s t => setPresence true s t.1) s)))))

end Sys2Proof.Machine
end

