-- ==== Sys2Proof/Machine/Flash.lean ====
section
/-! DEFINITION. The flash tier: demotion, promotion, the cold filter, capture rings, telemetry, wear, and the commands of
area 0x08 (R262, R263, R322–R347). -/

namespace Sys2Proof.Machine

/-- Replace the flash tier. -/
def State.setStk (s : State) (k : Stk) : State := { s with stk := k }

/-- CAPTURE_64G, LIFE_DAYS and REBUILD_PCT of STK (R345). -/
def captureUnits (s : State) : Nat := fld s.stk.cfg 0 6
/-- LIFE_DAYS of STK. -/
def lifeDays (s : State) : Nat := fld s.stk.cfg 8 12
/-- REBUILD_PCT of STK. -/
def rebuildPct (s : State) : Nat := fld s.stk.cfg 20 7

/-- Cold records that the cold region holds at most, for a capture region (R322, R323). -/
def coldCap (units : Nat) : Nat := min (256 * 10 ^ 9) ((2 ^ 45 - 64 * 2 ^ 30 - units * 64 * 2 ^ 30) / 132)

/-- One day of the run clock. -/
def dayNs : Nat := 86400 * 10 ^ 9

/-- Days of powered time in service, this epoch included (R343). -/
def serviceDays (s : State) : Nat := (s.stk.served + now s) / dayNs

/-- The daily write allowance in MiB (R343); past the service life the spec states none (assumption 24). -/
def allowance (s : State) : Nat :=
  if serviceDays s < lifeDays s then (ratedMiB - s.stk.used) / (lifeDays s - serviceDays s) else Config.lateAllowance

/-- The write credit brought up to this moment, at most 7 days' worth (R343). -/
def accrue (s : State) : State :=
  let gain := allowance s * (now s - s.stk.creditAt) / dayNs
  if gain == 0 then s
  else
    let credit := min (7 * allowance s) (s.stk.credit + gain)
    s.setStk { s.stk with credit := credit, creditAt := now s, creditLow := s.stk.creditLow && decide (credit < allowance s),
                          creditOut := s.stk.creditOut && credit == 0 }

/-- Bytes programmed at their raw cost, an open value (R343; assumption 24); the events below 1 day and at exhaustion. -/
def charge (s : State) (bytes : Nat) : State :=
  let s := accrue s
  let cost := Config.rawCost s.free bytes
  let s := { s with free := s.free + 1 }
  let credit := s.stk.credit - cost
  let low := decide (credit < allowance s)
  let k := s.stk
  let s := s.setStk { k with credit := credit, used := k.used + cost, creditLow := k.creditLow || low, creditOut := k.creditOut || credit == 0 }
  let s := if low && !k.creditLow then raiseDev s 0x3C1 1 0 else s
  if credit == 0 && !k.creditOut then raiseDev s 0x3C1 2 0 else s

/-- A page of the cold region rewritten elsewhere, at its raw cost (R332, R343). -/
def relocatePage (s : State) : State := charge s Config.nandPage

/-- Whether the write credit is exhausted (R343). -/
def creditGone (s : State) : Bool := (accrue s).stk.credit == 0

/-- The state that Stockpile reports (R344, R347). -/
def stkState (s : State) : StkState := if s.ident.flash then s.stk.state else .absent

/-- A change of Stockpile's state raises one event (R344). -/
def setStkState (s : State) (x : StkState) : State :=
  if s.stk.state == x then s else raiseDev (s.setStk { s.stk with state := x }) 0x3C0 1 0

/-- An event of a table's owner and of the operator, whose copy has no data (R492). -/
def raiseBoth (s : State) (source owner code data : Nat) : State :=
  let s := raise s source owner code data
  if owner == operatorId then s else raiseCopy s source code 0

/-- Cold records of a table. -/
def coldOf (s : State) (table : Nat) : List ColdRec := s.stk.cold.filter (fun r => r.table == table)
/-- Cold records of an owner. -/
def coldHeld (s : State) (owner : Nat) : Nat := (s.stk.cold.filter (fun r => r.owner == owner)).length
/-- A cold record by its table and key. -/
def coldFind (s : State) (table : Nat) (key : List Byte) : Option ColdRec :=
  s.stk.cold.find? (fun r => r.table == table && r.key == key)
/-- A cold record leaves the cold tier. -/
def coldDrop (s : State) (table : Nat) (key : List Byte) : State :=
  s.setStk { s.stk with cold := s.stk.cold.filter (fun r => !(r.table == table && r.key == key)) }

/-- The reason, if any, for which Stockpile refuses a demotion, the first that holds (R328). -/
def demoteRefused (s : State) (owner : Nat) : Option Nat :=
  if stkState s == .readOnly || stkState s == .failed then some 1
  else if creditGone s then some 2
  else if s.stk.cold.length ≥ coldCap (captureUnits s) then some 3
  else if coldHeld s owner ≥ ownerQuota s owner 44 8 then some 4
  else if (s.stk.cold.filter (·.staged)).length ≥ 16777216 then some 5
  else none

/-- Counter of a demotion refusal of the device (R328; assumption 19). -/
def refusalId (reason : Nat) : Nat := cid 1 0 (0x280 + reason)

/-- Whether a live context has a record or its key in its sets (R327). -/
def inLiveSet (s : State) (table index : Nat) (key : List Byte) : Bool :=
  s.meridian.ctxs.any (fun c =>
    c.2.reads.contains (.record table index) || c.2.reads.contains (.key table (flowKh table key)) ||
      (writeSet c.2).contains (.record table index) ||
      c.2.recs.any (fun r => match r with
        | .delete t k => t == table && k == key
        | _ => false))

/-- A record moved to the cold tier (R327): staged, its filter bits set, its place in the table freed. -/
def demote (s : State) (table : Nat) (key : List Byte) : State :=
  let t := s.table table
  match flowFind t key with
  | none => s
  | some (i, at_) =>
    let kh := flowKh table key
    let r : ColdRec := { table := table, owner := t.owner, kh := kh, key := key, demoted := stamp s, staged := true, words := recordOf t i }
    let s := s.setStk { s.stk with cold := s.stk.cold ++ [r] }
    let bits (f : List Nat) (seed : Nat) : List Nat := (f ++ filterBits t kh (flowH seed key)).eraseDups
    let t' := { t with filter := if filterLog t == 0 then t.filter else bits t.filter t.filterSeed,
                       filterNew := t.filterNew.map (fun f => bits f (seed1 t)) }
    let s := s.setTable table (quarantine s (tableRemove t' at_) i (some key))
    devCount (tableCount s table 19) 6 1 0 t.owner 1

/-- A demotion, or the deletion that a refused one becomes (R262, R328). -/
def demoteOrDelete (s : State) (table : Nat) (key : List Byte) : State :=
  let owner := (s.table table).owner
  match demoteRefused s owner with
  | none => demote (accrue s) table key
  | some reason =>
    let s := tableCount s table 16
    let first := !s.events.seen.contains (refusalId reason)
    let s := countFirst s (refusalId reason) 0x3C2 owner reason (dataBytes 2 table)
    let s := if first && owner != operatorId then raiseCopy s 0x3C2 reason 0 else s
    applyDelete s none table key 13

/-- IDLE_ACTION applied to one record (R262): 1 acts as 0 on a table without COLD_EN (R256). -/
def idleAction (s : State) (table : Nat) (key : List Byte) : State :=
  let t := s.table table
  let a := fld t.cfg 48 2
  if a == 2 then raise s 0x243 t.owner 1 (dataBytes 2 table + flowKh table key * 2 ^ 272)
  else if a == 1 && coldEn t then (if stkOpen s then demoteOrDelete s table key else s)
  else applyDelete s none table key 13

/-- Idleness of an age under the current tick (R262). -/
def idleness (t : Table) (age : Nat) : Nat := (t.ageTick % 65536 + 65536 - age) % 65536

/-- Records in order of greatest idleness, the first met first on a tie (R262). -/
def insertIdle (x : List Byte × Nat × Nat) : List (List Byte × Nat × Nat) → List (List Byte × Nat × Nat)
  | [] => [x]
  | y :: rest => if x.2.2 > y.2.2 then x :: y :: rest else y :: insertIdle x rest

/-- RECLAIM_EARLY (R262): records acted on, idlest first, until enough are free or have been freed. -/
def reclaim (table : Nat) : List (List Byte × Nat × Nat) → Nat → State → State
  | [], _, s => s
  | (key, _, _) :: rest, free, s =>
    let t := s.table table
    if free * 64 ≥ tableSize t then s
    else
      let gone := if fld t.cfg 48 2 == 2 then 0 else 1
      reclaim table rest (free + gone) (idleAction s table key)

/-- Whether an aging pass skips a record: one that a live context has read, and of those to be demoted one that is in a live
context's sets at all (R262, R327). -/
def agingSkips (s : State) (table index : Nat) (key : List Byte) : Bool :=
  if fld (s.table table).cfg 48 2 == 1 then inLiveSet s table index key
  else s.meridian.ctxs.any (fun c => c.2.reads.contains (.record table index))

/-- One aging pass over a FLOW table (R262). -/
def agePass (s : State) (table : Nat) : State :=
  let t := s.table table
  let limit := fld t.cfg 32 16
  let all := (storedWays t).filter (fun r => !agingSkips s table r.2.1 r.1)
  let idle := all.filter (fun r => limit != 0 && decide (idleness t r.2.2 ≥ limit))
  let s' := idle.foldl (fun s r => idleAction s table r.1) s
  if bit t.cfg 50 && decide (freeRecords t * 64 < tableSize t) then
    let done := if fld t.cfg 48 2 == 2 then 0 else idle.length
    let rest := all.filter (fun r => !idle.contains r)
    let order := rest.foldl (fun acc r => insertIdle (r.1, r.2.1, idleness t r.2.2) acc) []
    reclaim table order (freeRecords t + done) s'
  else s'

/-- AGING_SCAN (R262): the age tick follows the run clock, then a pass runs; none runs during a rehash. -/
def execAgingScan (table : Nat) (s : State) : Host.Outcome State Fault Refusal :=
  .next (match AMap.find s.gaz.tables table with
    | none => s
    | some t =>
      if t.kind != 3 then s
      else
        let tick := 1000000 * fld t.cfg 16 16
        let n := (now s - t.ageAt) / tick
        let s := s.setTable table { t with ageTick := t.ageTick + n, ageAt := t.ageAt + n * tick }
        if t.rehash.isSome then s else finish (agePass s table))

/-- The filter of a table rebuilt when its leftover bits exceed the threshold (R331). -/
def autoRebuild (s : State) (table : Nat) : State :=
  let t := s.table table
  if t.leftovers * 100 > rebuildPct s * t.covered then startRebuild s table else s

/-- A record has left the cold tier by promotion or by command (R331). -/
def leftCold (s : State) (table : Nat) (key : List Byte) : State :=
  let s := coldDrop s table key
  autoRebuild (s.setTable table { s.table table with leftovers := (s.table table).leftovers + 1 }) table

/-- How a promotion ends (R329). -/
inductive PromEnd where
  | success | superseded | absent | full | deleted | media | state
  deriving DecidableEq, Repr

/-- The counter of a promotion's end (R346; assumption 19). -/
def PromEnd.counter : PromEnd → Nat
  | .success => 20
  | .superseded => 17
  | .absent => 21
  | .full => 22
  | .deleted => 23
  | .media => 24
  | .state => 25

/-- The end that a promotion comes to now (R329, R333); in FAILED a key that is in neither store ends absent. -/
def promotionEndOf (s : State) (p : Promotion) : PromEnd :=
  if p.gone || !AMap.has s.gaz.tables p.table then .deleted
  else match coldFind s p.table p.key with
    | none => .absent
    | some _ =>
      if s.stk.state == .failed then .state
      else if p.step ≥ 10 then .media
      else
        let t := s.table p.table
        if (flowFind t p.key).isSome then .superseded
        else match takeIndex t with
          | none => .full
          | some (i, t') => if (tableInsert (writeNew t' i p.key) p.key i).isNone then .full else .success

/-- A promoted record inserted as a device write between two commits (R329). -/
def insertPromoted (s : State) (p : Promotion) (r : ColdRec) : State :=
  match takeIndex (s.table p.table) with
  | none => s
  | some (i, t) =>
    let t := writeNew t i p.key
    match tableInsert { t with records := AMap.put t.records i r.words } p.key i with
    | none => s
    | some t =>
      let s := s.setTable p.table t
      let s := { s with gaz := { s.gaz with absent := s.gaz.absent.filter (fun a => !(a.table == p.table && a.key == p.key)) } }
      let s := squashHolders s none (.key p.table p.kh)
      leftCold (if t.stash.length ≥ 48 then requestRehash s p.table else s) p.table p.key

/-- Contexts parked on a promotion's key, the oldest first by their place in the list of contexts. -/
def parkedFor (s : State) (p : Promotion) : List Nat :=
  (s.meridian.ctxs.filter (fun c => c.2.state == .parked && c.2.parkedOn == some (.key p.table p.key))).map (·.1)

/-- Domains of some contexts. -/
def domainsOf (s : State) (cs : List Nat) : List Nat := (cs.filterMap (fun c => (s.ctx? c).map (·.key))).eraseDups

/-- Parked packets run again, oldest first, then those held behind them (R116). -/
def releaseParked (s : State) (p : Promotion) : State :=
  let cs := parkedFor s p
  let doms := domainsOf s cs
  doms.foldl markDomain (doms.foldl refreshParking (releaseGroup s cs doms))

/-- Packets parked on a promotion that failed fail with PROMOTE_FAIL; those held behind are dispatched (R116). -/
def failParked (s : State) (p : Promotion) : State :=
  let cs := parkedFor s p
  let doms := domainsOf s cs
  releaseGroup (cs.foldl (fun s c => failCtx s c 0x23 false 5) s) [] doms

/-- An entry of the absent list for a promotion, kept while contexts that parked on it have still to search (R263). -/
def placeAbsent (s : State) (p : Promotion) (ctxs : List Nat) : State :=
  if ctxs.isEmpty then s
  else
    let a : Absent := { table := p.table, kh := p.kh, key := p.key, ctxs := ctxs }
    { s with gaz := { s.gaz with absent := s.gaz.absent.filter (fun a => !(a.table == p.table && a.key == p.key)) ++ [a] } }

/-- A lost record (R329): its owner and the operator hear of it. -/
def recordLost (s : State) (p : Promotion) : State :=
  let owner := match coldFind s p.table p.key with
    | some r => r.owner
    | none => (s.table p.table).owner
  raiseBoth (tableCount (coldDrop s p.table p.key) p.table 18) 0x3C4 owner 1 (dataBytes 2 p.table + p.kh * 2 ^ 272)

/-- A cold record deleted by command, or found absent (R326, R405); for a command that its deadline has ended meanwhile
the result is a late completion (R401). -/
def coldDeleteNow (s : State) (table : Nat) (key : List Byte) (acc : Nat) : State :=
  if !AMap.has s.legend.flight acc then count s (lateId 1) 1
  else match coldFind s table key with
  | none => endCommand s acc (plain 3 false) []
  | some _ => endCommand (leftCold s table key) acc (plain 0 true) []

/-- A promotion ends (R116, R263, R326, R329, R333). -/
def endPromotion (s : State) (p : Promotion) : State :=
  let e := promotionEndOf s p
  let owner := (s.table p.table).owner
  let s := s.setStk { s.stk with promotions := s.stk.promotions.filter (fun q => !(q.table == p.table && q.key == p.key && q.gone == p.gone)) }
  let s := devCount (tableCount s p.table e.counter) 6 0 0 owner 1
  let s := if p.late then count s (lateId 0) 1 else s
  let read := e == .success || e == .superseded || e == .full
  let s := if read && decide (1 ≤ p.step) then relocatePage s else s
  let s := match e with
    | .success =>
      (match coldFind s p.table p.key with
        | none => s
        | some r => releaseParked (insertPromoted s p r) p)
    | .superseded => releaseParked (leftCold s p.table p.key) p
    | .absent => releaseParked (placeAbsent s p (parkedFor s p)) p
    | .full => failParked (raiseBoth s 0x3C3 owner 1 (dataBytes 2 p.table)) p
    | .deleted => failParked s p
    | .media => failParked (recordLost s p) p
    | .state => failParked (recordLost s p) p
  (p.deletes.filter (fun a => !p.gone || AMap.has s.legend.flight a)).foldl (fun s a => coldDeleteNow s p.table p.key a) s

/-- PROMOTION_END (R329). -/
def execPromotionEnd (table : Nat) (key : List Byte) (s : State) : Host.Outcome State Fault Refusal :=
  .next (match s.stk.promotions.find? (fun p => p.table == table && p.key == key) with
    | none => s
    | some p => finish (endPromotion s p))

/-- A keep-alive extension to the packets parked on a promotion (R116, R332): 1 ms more, at most LIFE_CAP from the take;
it never shortens a lifetime, and comes too late for one that has ended. -/
def extendParked (s : State) (p : Promotion) : State :=
  (parkedFor s p).foldl (fun s c =>
    match s.ctx? c with
    | none => s
    | some x =>
      if now s < x.lifeEnd then s.setCtx c { x with lifeEnd := max x.lifeEnd (min (now s + 1000000) (x.taken + capNs s)) } else s) s

/-- Whether a record that a command could read stands on NAND at a place (R332). -/
def onNand (s : State) (place : Nat) (key : List Byte) : Bool :=
  (match coldFind s place key with | none => false | some r => !r.staged) ||
  (match AMap.find s.stk.rings (place - 0x10000) with
    | none => false
    | some x => decide (0x10000 ≤ place) && x.recs.any (fun r => r.flash && key == beBytes 4 r.seq)) ||
  (decide (0x20000 ≤ place) &&
    (AMap.at s.stk.telemetry (place - 0x20000) ⟨[], 0⟩).recs.any (fun r => key == beBytes 4 r.seq))

/-- Step of the ladder that the next read of a record needs; 0: the first decode holds (R332). -/
def ladderStep (s : State) (place : Nat) (key : List Byte) : Nat :=
  match s.stk.ladders.find? (fun l => l.1 == place && l.2.1 == key) with
  | none => 0
  | some l => l.2.2

/-- The step of a record set; at 0 nothing is left of the ladder. -/
def setLadder (s : State) (place : Nat) (key : List Byte) (step : Nat) : State :=
  let rest := s.stk.ladders.filter (fun l => !(l.1 == place && l.2.1 == key))
  s.setStk { s.stk with ladders := if step == 0 then rest else rest ++ [(place, key, step)] }

/-- The end of a ladder whose page could be read: the page is rewritten elsewhere, at a charge in the cold region (R332, R343). -/
def endLadder (s : State) (place : Nat) (key : List Byte) : State :=
  let s := if decide (place < 0x10000) then relocatePage s else s
  setLadder s place key 0

/-- Keep-alive extensions of a command's deadline: one before each step that its read has climbed, at most 9 (R332, R401). -/
def climbFor (s : State) (acc n : Nat) : State := (List.range (min n 9)).foldl (fun s _ => extendDeadline 1 s acc) s

/-- A command reads a record from NAND (R332, R333): each step extends its deadline, whether the ladder ends well or not, and a
page that needed one is rewritten. -/
def readNand (s : State) (acc place : Nat) (key : List Byte) : State :=
  let n := ladderStep s place key
  let s := climbFor s acc n
  if n == 0 || n ≥ 10 then s else endLadder s place key

/-- Whether the ladder has failed for a record (R333). -/
def lostOn (s : State) (place : Nat) (key : List Byte) : Bool := decide (ladderStep s place key ≥ 10)

/-- A command reads records of one place (R333): the data, or, where the ladder has failed for some, a status that names the
first of them, and as data the SEQ of the first and of the last one of the lost range (assumption 99). -/
def readRecords (s : State) (acc place : Nat) (seqs : List Nat) (data : List Byte) : State × Ending :=
  let u := seqs.foldl (fun s q => readNand s acc place (beBytes 4 q)) s
  match seqs.dropWhile (fun q => !lostOn s place (beBytes 4 q)) with
  | [] => okRead u data
  | q :: rest =>
    let last := ((q :: rest).takeWhile (fun q => lostOn s place (beBytes 4 q))).getLast?.getD q
    (u, .done (failWith 0x0600 3 q) (beBytes 4 q ++ beBytes 4 last))

/-- A read whose command its deadline has ended while the ladder ran (R333): the ladder runs to its end all the same, and its
result counts once as a late completion (R401). -/
def lateRead (s : State) (acc place : Nat) (keys : List (List Byte)) : State :=
  let open_ := keys.filter (fun k => decide (1 ≤ ladderStep s place k) && !lostOn s place k)
  let missed := match AMap.find s.legend.flight acc with
    | none => decide (acc < s.legend.nextAcc)
    | some e => pastDeadline s e
  if missed && !open_.isEmpty then open_.foldl (fun s k => endLadder s place k) (count s (lateId 1) 1) else s

/-- READ_RETRY_STEP (R332): the read of a record on NAND fails to decode and climbs one step; step 9 is the last. The read is a
promotion's, or that of the next command. -/
def execReadRetryStep (table : Nat) (key : List Byte) (s : State) : Host.Outcome State Fault Refusal :=
  .next (match s.stk.promotions.find? (fun p => p.table == table && p.key == key) with
    | none => if onNand s table key then setLadder s table key (min 10 (ladderStep s table key + 1)) else s
    | some p =>
      if p.step ≥ 10 || ((coldFind s table key).map (·.staged)).getD true then s
      else
        let s := s.setStk { s.stk with promotions := s.stk.promotions.map (fun q =>
          if q.table == table && q.key == key && q.gone == p.gone then { q with step := q.step + 1 } else q) }
        if p.step ≥ 9 then s else finish (devCount (p.deletes.foldl (extendDeadline 1) (extendParked s p)) 6 2 0 (s.table table).owner 1))

/-- STAGED_RECORD_WRITE (R327, R343, R344): a staged record reaches the cold region, or its program fails and the block
is retired, which may leave fewer spare blocks than READ_ONLY allows. -/
def execStagedRecordWrite (table : Nat) (key : List Byte) (ok : Bool) (s : State) : Host.Outcome State Fault Refusal :=
  .next (match coldFind s table key with
    | none => s
    | some r =>
      if !r.staged || stkState s == .failed || !stkOpen s then s
      else
        let s := charge s 128
        if ok then
          finish (s.setStk { s.stk with cold := s.stk.cold.map (fun x =>
            if x.table == table && x.key == key then { x with staged := false } else x) })
        else
          let f := fresh s
          let spare := f.1.toNat % (s.stk.spare + 1)
          let s := f.2.setStk { f.2.stk with spare := spare }
          finish (if spare < 2 && (s.stk.state == .normal || s.stk.state == .degraded) then setStkState s .readOnly else s))

/-- FILTER_REBUILD_SWITCH (R331): searches switch to the new array, which holds the bits of every cold record under the
seeds in force; the commands that waited for it end. -/
def execFilterRebuildSwitch (table : Nat) (s : State) : Host.Outcome State Fault Refusal :=
  .next (match AMap.find s.gaz.tables table with
    | none => s
    | some t =>
      if t.filterNew.isNone || t.rehash.isSome then s
      else
        let cold := coldOf s table
        let bits := (cold.map (fun r => filterBits t r.kh (flowH (seed1 t) r.key))).flatten.eraseDups
        let t' := { t with filter := bits, filterNew := none, filterSeed := seed1 t, covered := cold.length, leftovers := 0,
                           rebuildAccs := [] }
        finish (endAll (tableCount (s.setTable table t') table 26) t.rebuildAccs (plain 0 true)))

/-- FILTER_REBUILD (R331). -/
def execFilterRebuild (c : CmdRef) (table : Nat) (s : State) : Host.Outcome State Fault Refusal :=
  .next (runCommand s c 0x0809 (fun k s =>
    if !s.ident.flash then endsCode s 0x0406
    else withTable s k table [3] (fun t =>
      if t.filterNew.isSome then ends s (failWith 0x0503 3 table)
      else if !coldEn t || filterLog t == 0 then ends s (failWith 0x0503 3 table)
      else
        let s' := startRebuild s table
        let t' := s'.table table
        if t'.filterNew.isSome then (s'.setTable table { t' with rebuildAccs := t'.rebuildAccs ++ [k.acc] }, .later)
        else ends s' ((firstBad (growTests s t.owner t { t with filterNew := some [] })).getD (noRoom 0x0400 0x13 t.owner)))))

/-- FLASH_CHANNEL_FAULT (R344): kind 0 a die, 1 a channel, 2 the controller. DEGRADED after a die or channel fault; FAILED once
two channels are lost or the controller has failed, and every promotion fails at once. -/
def execFlashChannelFault (kind : Nat) (s : State) : Host.Outcome State Fault Refusal :=
  checked (decide (kind < 3)) (
    if !s.ident.flash then s
    else
      let s := if kind == 1 then s.setStk { s.stk with lostChannels := s.stk.lostChannels + 1 }
        else if kind == 2 then s.setStk { s.stk with ctrlFailed := true } else s
      if kind == 2 || s.stk.lostChannels ≥ 2 then
        let s := setStkState s .failed
        finish (s.stk.promotions.foldl endPromotion s)
      else if s.stk.state == .normal then finish (setStkState s .degraded)
      else s)

/-- STRIPE_REBUILD_END (R344). -/
def execStripeRebuildEnd (s : State) : Host.Outcome State Fault Refusal :=
  .next (if s.stk.state == .degraded then finish (setStkState s .normal) else s)

/-- Bytes that a capture record takes in its ring (R336). -/
def capBytes (len : Nat) : Nat := 32 + ceilDiv len 32 * 32
/-- Bytes of a ring's size (R334). -/
def ringBytes (x : Ring) : Nat := fld x.cfg 16 16 * 2 ^ 26
/-- Bytes written in a ring. -/
def ringFill (x : Ring) : Nat := x.recs.foldl (fun n r => n + capBytes r.bytes.length) 0
/-- Bytes in the capture staging (R337). -/
def stagedBytes (s : State) : Nat :=
  s.stk.rings.foldl (fun n x => n + (x.2.recs.filter (fun r => !r.flash)).foldl (fun m r => m + capBytes r.bytes.length) 0) 0

/-- Oldest records overwritten until a new one fits (R335); the fuel is the number of records. -/
def makeRoom (limit : Nat) : Nat → List CapRec → List CapRec
  | 0, l => l
  | n + 1, l => if l.foldl (fun m r => m + capBytes r.bytes.length) 0 > limit then makeRoom limit n (l.drop 1) else l

/-- Replace a ring. -/
def State.setRing (s : State) (ring : Nat) (x : Ring) : State := s.setStk { s.stk with rings := AMap.put s.stk.rings ring x }

/-- A ring closes, with one event to its owner (R335, R492). -/
def closeRing (s : State) (ring : Nat) (x : Ring) : State :=
  raise (s.setRing ring { x with state := .closed }) 0x3C6 (fld x.cfg 0 12) 2 (dataBytes 4 ring)

/-- The stored bytes of a copy, from its cells. -/
def copyBytes (s : State) (p : PendCap) : List Byte :=
  ((p.cells.map (fun c => match AMap.find s.cote.cells c with | none => [] | some k => k.data)).flatten).take p.len

/-- A copy written to its ring (R335–R337). -/
def writeCapture (s : State) (x : Ring) (p : PendCap) : State :=
  let r : CapRec := { time := p.time, seq := x.seq, ruleId := p.ruleId, frameLen := p.frameLen, inPort := p.inPort, session := p.session,
                      flags := b2n (decide (p.len < p.frameLen - 4)) + 2 * b2n x.trigNext + 4 * b2n x.gapNext,
                      bytes := copyBytes s p, flash := false }
  let need := capBytes r.bytes.length
  let recs := makeRoom (ringBytes x - need) x.recs.length x.recs
  let since := x.since + need
  let x' : Ring := { x with recs := recs ++ [r], seq := (x.seq + 1) % 2 ^ 32, since := since, trigNext := false, gapNext := false }
  let s := charge (count s (cid 9 p.ring 3) 1) need
  if x.state == .triggered && decide (since * 100 ≥ fld x.cfg 45 7 * ringBytes x) then closeRing s p.ring x' else s.setRing p.ring x'

/-- What happens to a copy that arrives at its ring (R335, R337). -/
def arriveCapture (s : State) (p : PendCap) : State :=
  match AMap.find s.stk.rings p.ring with
  | none => countTenant s p.owner 0x71
  | some x =>
    let gap (s : State) (x : Ring) : State := s.setRing p.ring { x with gapNext := true }
    if x.state == .disabled then countTenant s p.owner 0x71
    else if x.state == .closed then gap (count s (cid 9 p.ring 0) 1) x
    else
      let need := capBytes p.len
      if stagedBytes s + need > 2 ^ 29 || creditGone s || stkState s == .readOnly || stkState s == .failed then
        gap (count (countTenant s p.owner 0x73) (cid 9 p.ring 2) 1) x
      else if fld x.cfg 12 2 == 1 && decide (ringFill x + need > ringBytes x) then
        closeRing (count s (cid 9 p.ring 0) 1) p.ring { x with gapNext := true }
      else writeCapture s x p

/-- Staged records of a ring written to flash, in SEQ order (R337). -/
def flushRecs : Nat → List CapRec → List CapRec
  | 0, l => l
  | _, [] => []
  | n + 1, r :: rest => if r.flash then r :: flushRecs (n + 1) rest else { r with flash := true } :: flushRecs n rest

/-- CAPTURE_WRITE (R290, R337): the oldest copy of a ring is moved into the capture staging and its cells are released;
`flushed` of the ring's staged records have meanwhile been written to flash; neither after a shutdown decision (R340). -/
def execCaptureWrite (ring flushed : Nat) (s : State) : Host.Outcome State Fault Refusal :=
  .next (if !stkOpen s then s else
    let s := match AMap.find s.stk.rings ring with
      | none => s
      | some x => s.setRing ring { x with recs := flushRecs flushed x.recs }
    match s.stk.captures.find? (fun p => p.ring == ring) with
    | none => s
    | some p =>
      let i := (s.stk.captures.findIdx? (fun q => q.ring == ring)).getD 0
      let s := s.setStk { s.stk with captures := (s.stk.captures.zipIdx.filter (fun q => q.2 != i)).map (·.1) }
      finish (releaseCells (arriveCapture (accrue s) p) p.cells))

/-- STK_WRITE (R322, R345, R347). -/
def execStkWrite (c : CmdRef) (record : BitVec 64) (s : State) : Host.Outcome State Fault Refusal :=
  .next (runCommand s c 0x0800 (fun _ s =>
    if !s.ident.flash then endsCode s 0x0406
    else
      let u := fld record 0 6
      unlessBad s (reservedBad record [(6, 2), (27, 37)] 0 ++
        [(decide (u > 32), badField 0x0300 0 0),
         (decide (fld record 8 12 < 365) || decide (fld record 8 12 > 3652), badField 0x0300 0 8),
         (decide (fld record 20 7 < 5) || decide (fld record 20 7 > 100), badField 0x0300 0 20),
         (u != captureUnits s && !s.stk.rings.isEmpty, failWith 0x0500 3 ((s.stk.rings.head?.map (·.1)).getD 0)),
         (u != captureUnits s && decide (s.stk.cold.length > coldCap u), noRoom 0x0401 0x40 0)])
        (okDone ((accrue s).setStk { (accrue s).stk with cfg := record }))))

/-- Code of a state in STK_STATUS (R346). -/
def stkCode : StkState → Nat
  | .normal => 0
  | .degraded => 1
  | .readOnly => 2
  | .failed => 3
  | .absent => 4

/-- STK_STATUS (R346, R347). -/
def stkStatus (s : State) : Nat :=
  if !s.ident.flash then 4
  else
    let s := accrue s
    let day := allowance s
    placeFields [(0, stkCode s.stk.state), (4, s.stk.cold.length), (42, coldCap (captureUnits s)), (80, min 100 (s.stk.used * 100 / ratedMiB)),
      (87, s.stk.spare), (94, if day == 0 then 0 else min 70 (s.stk.credit * 10 / day))]

/-- STK_READ (R346). -/
def execStkRead (c : CmdRef) (s : State) : Host.Outcome State Fault Refusal :=
  .next (runCommand s c 0x0801 (fun _ s => okRead s (beBytes 16 (stkStatus s))))

/-- Sizes of the rings of an owner, or of all, but one ring, in 64 MiB units (R334). -/
def ringSizes (s : State) (but : Nat) (owner : Option Nat) : Nat :=
  s.stk.rings.foldl (fun n x =>
    if x.1 != but && (owner.isNone || owner == some (fld x.2.cfg 0 12)) then n + fld x.2.cfg 16 16 else n) 0

/-- A ring as it is created (R335). -/
def freshRing (record : BitVec 64) : Ring :=
  { cfg := record, state := if fld record 16 16 == 0 then .disabled else .armed, recs := [], seq := 0, since := 0,
    trigNext := false, gapNext := false }

/-- A ring under a changed record (R334): a change of MODE, SIZE or OWNER empties it; a ring that a restart has left
without its record goes on with the records it holds (R324, R478). -/
def changedRing (x : Ring) (record : BitVec 64) : Ring :=
  if fld x.cfg 12 2 == fld record 12 2 && fld x.cfg 16 16 == fld record 16 16 && fld x.cfg 0 12 == fld record 0 12 then
    { x with cfg := record, state := if x.state == .disabled && fld record 16 16 != 0 then .armed else x.state }
  else { freshRing record with seq := x.seq }

/-- RING_WRITE (R334). -/
def execRingWrite (c : CmdRef) (ring : Nat) (record : BitVec 64) (s : State) : Host.Outcome State Fault Refusal :=
  .next (runCommand s c 0x0802 (fun k s =>
    let owner := fld record 0 12
    let old := AMap.find s.stk.rings ring
    if !s.ident.flash then endsCode s 0x0406
    else if (old.map (fun x => fld x.cfg 0 12 != k.owner)).getD false || (owner != k.owner && !k.isOp) then endsCode s 0x0201
    else
      let kind := fld record 32 2
      let size := fld record 16 16
      unlessBad s (namesBusy s owner :: reservedBad record [(14, 2), (52, 12)] 8 ++
        [(decide (ring ≥ 256), badField 0x0300 0 32),
         (owner != operatorId && (decide (owner ≥ 512) || !slotUsed s owner), badField 0x0300 8 0),
         (fld record 12 2 == 3, badField 0x0300 8 12),
         (decide (size > 32768), badField 0x0300 8 16),
         (kind == 3, badField 0x0300 8 32),
         (kind == 1 && decide (fld record 34 11 > 15), badField 0x0300 8 34),
         (fld record 45 7 == 0 || decide (fld record 45 7 > 100), badField 0x0300 8 45),
         (kind == 2 && owner != operatorId, badField 0x0301 8 32),
         (decide (ringSizes s ring (some owner) + size > ownerQuota s owner 52 4) &&
            decide (size > (old.map (fun x => fld x.cfg 16 16)).getD 0), noRoom 0x0400 0x41 owner),
         (decide (ringSizes s ring none + size > captureUnits s * 1024), noRoom 0x0401 0x41 owner)])
        (okDone (s.setRing ring (match old with
          | none => freshRing record
          | some x => changedRing x record)))))

/-- A ring that a command names, its caller the owner (R334). -/
def withRing (s : State) (k : Call) (ring : Nat) (absent : Nat) (go : Ring → State × Ending) : State × Ending :=
  if !s.ident.flash then endsCode s 0x0406
  else match AMap.find s.stk.rings ring with
    | none => endsCode s absent
    | some x => if fld x.cfg 0 12 != k.owner then endsCode s 0x0201 else go x

/-- RING_DELETE (R334). -/
def execRingDelete (c : CmdRef) (ring : Nat) (s : State) : Host.Outcome State Fault Refusal :=
  .next (runCommand s c 0x0803 (fun k s => withRing s k ring 3 (fun _ =>
    okDone (s.setStk { s.stk with
      rings := AMap.del s.stk.rings ring, ladders := s.stk.ladders.filter (fun l => l.1 != ringPlace ring) }))))

/-- RING_REARM (R335). -/
def execRingRearm (c : CmdRef) (ring : Nat) (s : State) : Host.Outcome State Fault Refusal :=
  .next (runCommand s c 0x0804 (fun k s => withRing s k ring 0x0107 (fun x =>
    if x.state == .disabled then ends s (failWith 0x0503 3 ring)
    else okDone (s.setRing ring { x with state := .armed, since := 0, trigNext := false }))))

/-- RING_TRIGGER_COMMAND (R335): the trigger command of the ring's owner. -/
def execRingTriggerCommand (c : CmdRef) (ring : Nat) (s : State) : Host.Outcome State Fault Refusal :=
  .next (runCommand s c 0x0805 (fun k s => withRing s k ring 0x0107 (fun _ => okDone (triggerRing s ring))))

/-- A capture record as it is read (R336). -/
def capRecBytes (r : CapRec) : List Byte :=
  let hd := beBytes 4 r.time.epoch ++ beBytes 8 r.time.ns ++ beBytes 4 r.seq ++ beBytes 4 r.ruleId ++ beBytes 2 r.bytes.length ++
    beBytes 2 r.frameLen ++ beBytes 1 r.inPort ++ beBytes 1 r.session ++ beBytes 1 r.flags ++ [0]
  let n := capBytes r.bytes.length - 32 - r.bytes.length
  hd ++ beBytes 4 (crc32c (hd ++ r.bytes)) ++ r.bytes ++ List.replicate n 0

/-- Code of a ring's state, as ring reads give it (assumption 26). -/
def ringCode : RingState → Nat
  | .armed => 0
  | .triggered => 1
  | .closed => 2
  | .disabled => 3

/-- Reset value of RING (R334): the operator's, POST_PCT 50, SIZE 0. -/
def ringReset : BitVec 64 := BitVec.ofNat 64 (0xFFF + 50 * 2 ^ 45)

/-- A ring that nobody has written: RING at its reset, DISABLED and empty (R334, R335). -/
def Ring.reset : Ring := freshRing ringReset

/-- RING as a reader sees it: whole for the owner; the operator reads OWNER and SIZE of any ring (R30, R337). -/
def ringSeen (mine : Bool) (cfg : BitVec 64) : Nat :=
  if mine then cfg.toNat else placeFields [(0, fld cfg 0 12), (16, fld cfg 16 16)]

/-- The part of a ring that its owner and the operator read (R337; layout of the model, assumption 26): RING as each sees it,
state, fill, counts. -/
def ringHead (s : State) (ring : Nat) (x : Ring) (mine : Bool) : List Byte :=
  beBytes 8 (ringSeen mine x.cfg) ++ beBytes 1 (ringCode x.state) ++ beBytes 8 (ringFill x) ++ beBytes 4 x.recs.length ++
    ((List.range 4).map (fun i => beBytes 8 (counted s (cid 9 ring i)))).flatten

/-- The SEQs of the records that a read of a ring takes from NAND. -/
def ringSeqs (x : Ring) (offset count : Nat) : List Nat :=
  (((x.recs.drop offset).take count).filter (·.flash)).map (·.seq)

/-- RING_READ (R333, R334, R337): state and counts for the owner and the operator, records for the owner; to the operator a ring
without a record shows the reset of RING. -/
def execRingRead (c : CmdRef) (ring offset count : Nat) (s : State) : Host.Outcome State Fault Refusal :=
  let x := AMap.at s.stk.rings ring Ring.reset
  let s := lateRead s c.acc (ringPlace ring) ((ringSeqs x offset count).map (beBytes 4))
  .next (runCommand s c 0x0806 (fun k s =>
    let mine := fld x.cfg 0 12 == k.owner
    if !s.ident.flash then endsCode s 0x0406
    else if !AMap.has s.stk.rings ring && (!k.isOp || decide (ring ≥ 256)) then endsCode s 0x0107
    else if !mine && !k.isOp then endsCode s 0x0201
    else
      let recs := if mine then (x.recs.drop offset).take count else []
      readRecords s k.acc (ringPlace ring) (if mine then ringSeqs x offset count else [])
        ((ringHead s ring x mine ++ (recs.map capRecBytes).flatten).take replyMax)))

/-- A cold record as a command carries it (R325). -/
def coldBytes (r : ColdRec) : List Byte :=
  beBytes 2 r.table ++ beBytes 2 r.owner ++ beBytes 4 r.kh ++ beBytes 4 r.demoted.epoch ++ beBytes 8 r.demoted.ns ++
    beBytes 1 (b2n (!r.staged)) ++ beBytes 3 0 ++ wordBytes r.words

/-- COLD_READ (R325, R326, R333): by key, without a promotion; a failed flash tier or ladder yields no record (assumptions 27
and 99). -/
def execColdRead (c : CmdRef) (table : Nat) (key : List Byte) (s : State) : Host.Outcome State Fault Refusal :=
  let s := lateRead s c.acc table [key]
  .next (runCommand s c 0x0807 (fun k s =>
    if !s.ident.flash then endsCode s 0x0406
    else withTable s k table [3] (fun _ =>
      match coldFind s table key with
      | none => endsCode s 0x0107
      | some r =>
        if stkState s == .failed then endsCode s 0x0600
        else if lostOn s table key then ends (readNand s k.acc table key) (plain 0x0600 false)
        else okRead (readNand s k.acc table key) (coldBytes r))))

/-- COLD_DELETE (R326): applied after a promotion under way. -/
def execColdDelete (c : CmdRef) (table : Nat) (key : List Byte) (s : State) : Host.Outcome State Fault Refusal :=
  .next (runCommand s c 0x0808 (fun k s =>
    if !s.ident.flash then endsCode s 0x0406
    else withTable s k table [3] (fun _ =>
      if s.stk.promotions.any (fun p => p.table == table && p.key == key && !p.gone) then
        (s.setStk { s.stk with promotions := s.stk.promotions.map (fun p =>
          if p.table == table && p.key == key && !p.gone then { p with deletes := p.deletes ++ [k.acc] } else p) }, .later)
      else match coldFind s table key with
        | none => endsCode s 3
        | some _ => okDone (leftCold s table key))))

/-- A telemetry record (R338). -/
def teleBytes (r : TeleRec) : List Byte :=
  let hd := beBytes 4 r.time.epoch ++ beBytes 8 r.time.ns ++ beBytes 2 r.owner ++ beBytes 2 r.kind ++ beBytes 2 r.source ++ beBytes 2 0 ++
    beBytes 4 r.seq ++ beBytes 36 r.payload
  hd ++ beBytes 4 (crc32c hd)

/-! ### The journal entry -/

/-- A command record of the journal (R341). -/
def cmdRecBytes (c : CmdRec) : List Byte :=
  packBytes [(1, c.transport), (1, c.stage), (2, c.opcode), (2, c.tenant), (2, 0), (4, c.session), (4, c.sequence), (4, c.cookie), (12, 0)]

/-- The owners in the order of the journal entry (R341). -/
def journalOwners : List Nat := List.range 512 ++ [operatorId, deviceId]

/-- The first 64 bytes of a journal entry (R341). -/
def journalHead (e : JournalEntry) : List Byte :=
  packBytes [(4, 0x534B4A4E), (2, 1), (1, e.cause), (1, b2n e.overflow), (4, e.time.epoch), (8, e.time.ns), (4, e.vinMin),
    (4, e.cmdCount), (4, e.cmds.length), (32, 0)]

/-- Packets in flight of a journal entry, a word for each owner (R341). -/
def journalPackets (e : JournalEntry) : List Byte := (journalOwners.map (fun o => beBytes 4 (AMap.at e.packets o 0))).flatten

/-- Copies lost in the capture staging, a word for each ring (R341). -/
def journalRings (e : JournalEntry) : List Byte := ((List.range 256).map (fun i => beBytes 4 (AMap.at e.rings i 0))).flatten

/-- A journal entry as it is laid out (R341). -/
def journalBytes (e : JournalEntry) : List Byte :=
  journalHead e ++ (e.cmds.map cmdRecBytes).flatten ++ journalPackets e ++ journalRings e

/-- A journal entry with its commit page, which holds the CRC of the whole entry (R340). -/
def commitJournal (e : JournalEntry) : JournalEntry := { e with commit := some (crc32c (journalBytes e)) }

/-- Whether a journal entry's commit page stands and its CRC holds (R342). -/
def journalWhole (e : JournalEntry) : Bool := e.commit == some (crc32c (journalBytes e))

/-- TELEMETRY_READ (R333, R338, R347): records of the caller's part. -/
def execTelemetryRead (c : CmdRef) (offset count : Nat) (s : State) : Host.Outcome State Fault Refusal :=
  let chosen (o : Nat) : List TeleRec := ((AMap.at s.stk.telemetry o ⟨[], 0⟩).recs.drop offset).take (min count 1023)
  let s := match AMap.find s.legend.flight c.acc with
    | none => s
    | some e =>
      let o := (ownerOf s e).getD operatorId
      lateRead s c.acc (telePlace o) ((chosen o).map (fun r => beBytes 4 r.seq))
  .next (runCommand s c 0x080A (fun k s =>
    if !s.ident.flash then endsCode s 0x0406
    else
      let recs := chosen k.owner
      readRecords s k.acc (telePlace k.owner) (recs.map (·.seq)) ((recs.map teleBytes).flatten)))

end Sys2Proof.Machine
end

