-- ==== Sys2Proof/Machine/System.lean ====
section
/-! DEFINITION. CSR access, `CSYNC`, service calls, `TRAP`, `SER`, `FENCE` (R108, R124–R135, R173, R174, R177). -/

namespace Sys2Proof.Machine

/-- Whether a number is in the CSR map (R130). -/
def csrExists (n : Nat) : Bool :=
  decide (n ≤ 5) || n == 8 || n == 9 || (decide (0x10 ≤ n) && decide (n ≤ 0x12)) || n == 0x18 || n == 0x19 ||
    n / 4 == 8 || n / 4 == 0x0C || n / 8 == 8

/-- The highest level number that may read a CSR (R130). -/
def csrReadLevel (n : Nat) : Nat := if 0x10 ≤ n && n ≤ 0x12 then 1 else 2

/-- The highest level number that may write a CSR; none may write the others (R130). -/
def csrWriteLevel (n : Nat) : Option Nat :=
  if n == 0 || n == 4 || n / 4 == 8 then some 2
  else if n == 0x11 then some 1
  else if n == 8 || n == 9 || n == 0x10 || n / 4 == 0x0C || n / 8 == 8 then some 0
  else none

/-- The sync class (R130). -/
def csrSync (n : Nat) : Bool := n == 8 || n == 9 || n == 0x10 || n / 4 == 0x0C || n / 8 == 8

/-- `TCTX` as it reads (R133). -/
def tctx (s : State) (x : Thread) : Nat :=
  match x.ctxId.bind (fun c => (s.ctx? c).map (fun k => (c, k))) with
  | none => 0
  | some (c, k) => c + 2 ^ 16 + b2n (speculative s c) * 2 ^ 17 + b2n k.express * 2 ^ 18 + k.replays % 4 * 2 ^ 19 + b2n k.serialRun * 2 ^ 21

/-- `TSTAT` as it reads (R132). -/
def tstat (x : Thread) : Nat := b2n x.ov + 2 * b2n x.dz + 4 * x.level + 16 * b2n (bit (x.csr 9) 0) + 32 * b2n x.dslot

/-- The value of a CSR as a read returns it (R130–R135). `PKT_LEN` outside a packet task has no value in the spec: free. -/
def csrRead (s : State) (t : Nat) (x : Thread) (n : Nat) : Word × State :=
  if n == 0 then (BitVec.ofNat 64 (tstat x), s)
  else if n == 1 then (BitVec.ofNat 64 t, s)
  else if n == 2 then (BitVec.ofNat 64 (tctx s x), s)
  else if n == 3 then (BitVec.ofNat 64 x.tenant, s)
  else if n == 4 then
    match x.ctxId.bind s.ctx? with
    | none => fresh s
    | some k => (BitVec.ofNat 64 k.pktLen, s)
  else if n == 5 then (512, s)
  else if n == 0x18 then (BitVec.ofNat 64 (now s), s)
  else if n == 0x19 then (BitVec.ofNat 64 s.power.epoch, s)
  else (x.csr n, s)

/-- A write to a CSR that the level permits, or the fault it raises (R130, R132, R134). -/
def csrWrite (s : State) (t n : Nat) (v : Word) (word : Nat) : Eff :=
  let x := s.thread t
  if n == 0 then .next (s.setThread t { x with ov := x.ov && !bit v 0, dz := x.dz && !bit v 1 })
  else if n == 4 then
    match x.ctxId with
    | none => .trap 0x15 (BitVec.ofNat 64 word)
    | some c =>
      if v.toNat > 15872 then .trap 0x0C v
      else match s.ctx? c with
        | none => .next s
        | some k => .next (s.setCtx c { k with pktLen := v.toNat })
  else if csrSync n then
    .next (s.setThread t { x with
      pendingCsrs := AMap.put x.pendingCsrs n (v &&& csrMask n),
      csrWrites := AMap.put x.csrWrites n ⟨x.issued, 0, x.pc, x.cost⟩ })
  else .next (s.setThread t { x with csrs := AMap.put x.csrs n (v &&& csrMask n) })

/-- The reports of a CSR read (R177): kind 2 of `TSTAT`, one for each of the youngest producers of OV and DZ, kind 3 of a sync-class CSR with a pending write. -/
def reportCsr (s : State) (t n : Nat) : State :=
  let x := s.thread t
  if !(guarded x && reporting x) then s
  else if n == 0 then
    let ov := (AMap.find x.prod 32).toList
    let dz := (AMap.find x.prod 33).toList
    (ov ++ dz.filter (fun p => !ov.contains p)).foldl (fun s p =>
      let sep := separation s t x p
      if sep < p.distance then report s t 2 0 0 p.distance sep p.pc else s) s
  else match AMap.find x.csrWrites n with
    | none => s
    | some p => report s t 3 0 n 0 (separation s t x p) p.pc

/-- A CSR instruction: `f` gives the value to write, none for a read (R130, R139). -/
def csrOp (t : Nat) (a b : BitVec 5) (n : BitVec 12) (xf : Nat) (srcs : List (BitVec 5)) (s : State)
    (f : Option (Word → Word → Word)) : Host.Outcome State Fault Refusal :=
  let word := wordX 1 a b n.toNat xf
  let bad : Option (Nat × Word) := if csrExists n.toNat then none else some (0x01, BitVec.ofNat 64 word)
  issueLegal t true word srcs 1 s bad (fun s x =>
    let i := n.toNat
    if x.level > csrReadLevel i then .trap 0x02 (zext n)
    else if f.isSome && (match csrWriteLevel i with | none => true | some l => decide (x.level > l)) then .trap 0x02 (zext n)
    else if i == 0 && guarded x && (producing x 32 || producing x 33) then
      .left (s.setThread t { x with block := .guarded 32, waited := true, issuedRegs := some (x.issuedRegs.getD x.regs) })
    else
      let r := csrRead s t x i
      match f with
      | none => .next (writeReg (reportCsr r.2 t i) t a r.1 1 0)
      | some g =>
        match csrWrite r.2 t i (g r.1 (x.reg b)) word with
        | .next s => .next (writeReg s t a r.1 1 0)
        | e => e)

/-- `CSRR` (R130). -/
def execCsrr (t : Nat) (a : BitVec 5) (n : BitVec 12) (s : State) : Host.Outcome State Fault Refusal := csrOp t a 0 n 0 [] s none
/-- `CSRW` (R130). -/
def execCsrw (t : Nat) (a b : BitVec 5) (n : BitVec 12) (s : State) : Host.Outcome State Fault Refusal :=
  csrOp t a b n 1 [b] s (some (fun _ v => v))
/-- `CSRS` (R130). -/
def execCsrs (t : Nat) (a b : BitVec 5) (n : BitVec 12) (s : State) : Host.Outcome State Fault Refusal :=
  csrOp t a b n 2 [b] s (some (fun old v => old ||| v))
/-- `CSRC` (R130). -/
def execCsrc (t : Nat) (a b : BitVec 5) (n : BitVec 12) (s : State) : Host.Outcome State Fault Refusal :=
  csrOp t a b n 3 [b] s (some (fun old v => old &&& ~~~v))

/-- `CSYNC`: once every earlier result has landed, the pending writes take effect; the wait for the last of them is part of
its cycles (R130, R171, R174). -/
def execCsync (t : Nat) (s : State) : Host.Outcome State Fault Refusal :=
  issue t true (wordX 1 0 0 0 4) [] 1 s (fun s x =>
    if !x.flights.isEmpty then
      .wait (s.setThread t { x with cost := x.flights.foldl (fun c f => max c f.ready) x.cost }) .results
    else .next (s.setThread t { x with
      csrs := x.pendingCsrs.foldl (fun m p => AMap.put m p.1 p.2) x.csrs, pendingCsrs := [], csrWrites := [] }))

/-- `SER` (R108). -/
def execSer (t : Nat) (s : State) : Host.Outcome State Fault Refusal :=
  issue t true (wordX 1 0 0 0 5) [] 1 s (fun s x => if x.spec s then .wait s .serial else .next s)

/-- `SVC` (R125): accepted at level 2 with n in 0–255. -/
def execSvc (t : Nat) (n : BitVec 12) (s : State) : Host.Outcome State Fault Refusal :=
  let word := wordX 1 0 0 n.toNat 6
  issue t false word [] 3 s (fun s x =>
    if x.level != 2 || n.toNat > 255 then .trap 0x02 (BitVec.ofNat 64 word)
    else
      let csrs := AMap.put (AMap.put x.csrs 0x11 (BitVec.ofNat 64 (x.pc + 4) &&& csrMask 0x11)) 0x12 2
      .goto (s.setThread t { x with level := 1, csrs := csrs }) ((x.csr 0x10).toNat + 16 * n.toNat))

/-- `SRET` (R125): accepted at level 1 only. -/
def execSret (t : Nat) (s : State) : Host.Outcome State Fault Refusal :=
  let word := wordX 1 0 0 0 7
  issue t false word [] 3 s (fun s x =>
    if x.level != 1 then .trap 0x02 (BitVec.ofNat 64 word)
    else .goto (s.setThread t { x with level := fld (x.csr 0x12) 0 2 }) (x.csr 0x11).toNat)

/-- `TRAP`: fault USER (R151). -/
def execTrap (t : Nat) (n : BitVec 12) (s : State) : Host.Outcome State Fault Refusal :=
  issue t true (wordX 1 0 0 n.toNat 8) [] 1 s (fun _ _ => .trap 0x17 (zext n))

/-- `FENCE`: a CC's buffered stores have left (R143, R173); no operation on a PE. -/
def execFence (t : Nat) (s : State) : Host.Outcome State Fault Refusal :=
  issue t true (wordX 1 0 0 0 9) [] 1 s (fun s _ =>
    if (ccBuffer s t).isEmpty then .next s else .wait s .bufferEmpty)

/-- The coprocessor registers that a unit defines (R218, R222, R225). -/
def crDefined (unit cr : Nat) : Bool :=
  match unit with
  | 0 => decide (cr ≤ 11)
  | 1 => decide (cr ≤ 9) || (decide (16 ≤ cr) && decide (cr ≤ 23))
  | 2 => decide (cr ≤ 4)
  | _ => false

/-- Whether a C-format word of CP0–CP2 is assigned, its unused fields 0 (R137, R214, R219, R223, R225). -/
def legalC (unit a b cr cls cmd : Nat) : Bool :=
  match cls with
  | 0 => a == 0 && cmd == 0 && crDefined unit cr
  | 1 => b == 0 && cmd == 0 && crDefined unit cr
  | 2 =>
    cr == 0 && (match unit with
      | 0 => decide (1 ≤ cmd) && decide (cmd ≤ 6) && a == 0 && b == 0
      | 1 => (cmd == 1 && b == 0) || (cmd == 3 && a == 0 && b == 0) || cmd == 2 || cmd == 4 || cmd == 5
      | _ => (decide (1 ≤ cmd) && decide (cmd ≤ 4)) || (cmd == 5 && b == 0))
  | 3 => a == 0 && cr == 0 && cmd == 0
  | 4 => a == 0 && cr == 0 && cmd == 0
  | _ => false

/-- Whether an X-format word is assigned, its unused fields 0 (R137, R139). -/
def legalX (thread : Bool) (a b n f : Nat) : Bool :=
  if thread then
    match f with
    | 0 => a == 0 && n == 0
    | 1 => n == 0
    | 2 => a == 0 && b == 0 && n == 0
    | 3 => n == 0
    | 4 => n == 0
    | 5 => a == 0 && n == 0
    | 6 => a == 0 && b == 0 && decide (n ≤ 255)
    | 7 => a == 0 && decide (n ≤ 15)
    | _ => false
  else
    match f with
    | 0 => b == 0 && csrExists n
    | 1 => csrExists n
    | 2 => csrExists n
    | 3 => csrExists n
    | 6 => a == 0 && b == 0
    | 8 => a == 0 && b == 0
    | 4 => a == 0 && b == 0 && n == 0
    | 5 => a == 0 && b == 0 && n == 0
    | 7 => a == 0 && b == 0 && n == 0
    | 9 => a == 0 && b == 0 && n == 0
    | _ => false

/-- Whether an instruction word is legal under R137, by the assignments of R138 and R139. -/
def legalWord (w : Nat) : Bool :=
  let major := w / 2 ^ 26
  let a := bitsOf w 21 5
  let b := bitsOf w 16 5
  let c := bitsOf w 11 5
  let f := bitsOf w 0 11
  let imm := bitsOf w 0 16
  if major == 0 then
    ([1, 2, 3, 4, 8, 9, 0xA, 0xB, 0x10, 0x11, 0x12, 0x13, 0x14, 0x15, 0x16, 0x18, 0x19, 0x1A, 0x1B, 0x1C, 0x20, 0x21].contains f) ||
      ([5, 6, 0x28, 0x29, 0x2A, 0x2B, 0x2C, 0x2D, 0x40].contains f && c == 0)
  else if major == 1 then legalX false a b (bitsOf w 4 12) (bitsOf w 0 4)
  else if major == 2 then [1, 2, 3, 4, 0x10, 0x11, 0x12, 0x13, 0x14, 0x15].contains f
  else if major == 3 then [1, 2, 3, 0x10, 0x21].contains f || (f == 0x20 && c == 0)
  else if major ≤ 0x0E then true
  else if major == 0x0F then imm / 256 == 0
  else if major == 0x10 then imm / 2 ^ 13 == 0
  else if major == 0x11 then imm / 2 ^ 12 == 0
  else if major == 0x12 || major == 0x13 then b == 0
  else if major ≤ 0x1B then true
  else if 0x20 ≤ major && major ≤ 0x2E then major != 0x27
  else if major == 0x30 || major == 0x31 then imm / 16 % 16 == 0
  else if major == 0x32 then imm / 8 == 0
  else if major == 0x33 || major == 0x34 then imm != 0
  else if major == 0x35 then a == 0 && imm == 0
  else if 0x36 ≤ major && major ≤ 0x38 then b == 0 && imm / 16 == 0
  else if major == 0x3A then legalX true a b (bitsOf w 4 12) (bitsOf w 0 4)
  else if 0x3C ≤ major && major ≤ 0x3E then legalC (major - 0x3C) a b c (bitsOf w 8 3) (bitsOf w 0 8)
  else false

/-- ILLEGAL_INSTRUCTION: a fetched word that R137 calls illegal faults with no other effect; a word of CP3, and on a CC of
CP2, faults with CP_DISABLED (R151, R210). A legal word is another command's. -/
def execIllegalInstruction (tid : Nat) (word : BitVec 32) (s : State) : Host.Outcome State Fault Refusal :=
  issue tid true word.toNat [] 1 s (fun s _ =>
    let major := fld word 26 6
    if major == 0x3F || (major == 0x3E && onCc tid) then .trap 0x03 (BitVec.ofNat 64 (major - 0x3C))
    else if legalWord word.toNat then .left s
    else .trap 0x01 (zext word))

end Sys2Proof.Machine
end

