-- ==== Sys2Proof/Machine/Locks.lean ====
section
/-! DEFINITION. Lock instructions and the lock units' own events (R147, R232–R238). -/

namespace Sys2Proof.Machine

/-- Words that the table of a word's unit holds: of the 256 KiB bank of a Pan's SRAM, or of the DRAM stack that holds the
word's physical address (R232, R295, R297). -/
def unitPeers (s : State) (r : MemRef) : Nat :=
  let stackOf : MemRef → Nat
    | .dram owner o => rankOf s owner o / 3
    | _ => 0
  match r with
  | .sram p o => ((s.pan p).locks.filter (fun l => l.inTable && l.place.off / 2 ^ 18 == o / 2 ^ 18)).length
  | _ => (s.dram.locks.filter (fun l => l.inTable && stackOf l.place == stackOf r)).length

/-- Whether a unit has no entry left for a word that it does not hold (R232). -/
def tableFull (s : State) (r : MemRef) : Bool :=
  match r with
  | .sram _ _ => decide (unitPeers s r ≥ 128)
  | _ => decide (unitPeers s r ≥ 8192)

/-- The entry of a word that a unit takes into its table: it goes on from the tag and the BROKEN that the word carries
(R232). -/
def acquireWord (s : State) (l : Lock) : Lock :=
  let w := readMem s (homeOf s l.place) 8
  { l with inTable := true, tag := bitsOf w 32 16, broken := Nat.testBit w 28 }

/-- The unit's entry of a word; a word that nobody holds or waits for is not in its table. -/
def lockEntry (s : State) (r : MemRef) : Lock :=
  match findLock s r with
  | some l => l
  | none =>
    { place := r, inTable := false, addr := 0, held := false, owner := 0, ownerRun := 0, prio := 0, tag := 0, broken := false,
      brokenBefore := false, leaseEnd := 0, waiters := [] }

/-- Where a lock instruction acts, or its fault: Pan SRAM, for level 0 the part that holds CC memories too, or a DRAM window
(R126, R147). -/
def lockPlace (s : State) (x : Thread) (t : Nat) (addr : Word) : MemRef ⊕ Eff :=
  if addr.toNat % 8 != 0 then .inr (.trap 0x04 addr)
  else match place s x t addr.toNat 8 true with
    | .ref (.sram p o) => .inl (.sram p o)
    | .ref (.dram k o) => .inl (.dram k o)
    | .ref _ => if 0x1000000 ≤ addr.toNat then .inl (.sram (tidPan t) (addr.toNat - 0x1000000)) else .inr (.trap 0x05 addr)
    | _ => .inr (.trap 0x05 addr)

/-- Whether a thread holds the lock at a word. -/
def holdsLock (s : State) (t : Nat) (r : MemRef) : Bool :=
  match findLock s r with
  | none => false
  | some l => l.held && l.owner == t

/-- A request joins a lock's waiters, the unit taking the word into its table if there is room; one that outranks the owner
raises it (R202, R232, R234, R235). -/
def requestLock (s : State) (x : Thread) (t : Nat) (r : MemRef) (addr : Word) (lease : Nat) (tries : Bool) : State :=
  let l := lockEntry s r
  let p := effPrio s x.task x.prio
  let l := if l.inTable || tableFull s r then l else acquireWord s l
  let l := { l with waiters := l.waiters ++ [⟨t, addr, p, lease, tries⟩] }
  signalPrio (memRequest s (tidPan t) r 8) l (if p < l.prio then p else l.prio)

/-- LOCK_TABLE_FULL counted, with its event at the first wait after each read (R232). -/
def countTableFull (s : State) (t : Nat) (r : MemRef) : State :=
  match r with
  | .sram p _ => countFirst s (cid 4 p 13) (0x104 + 16 * p) deviceId 1 0
  | _ => countFirst s (cid 4 (tidPan t) 13) 0x3A1 deviceId 1 0

/-- The context of a lock's owner comes under R238 as soon as a thread waits for the lock. -/
def applyLockRule (s : State) (l : Lock) : State :=
  match (s.thread l.owner).ctxId with
  | none => s
  | some c => if l.held then lockRule s c else s

/-- `LKA` and `LKT` (R147). -/
def acquire (t : Nat) (major : Nat) (a b : BitVec 5) (lease : BitVec 16) (tries : Bool) (s : State) :
    Host.Outcome State Fault Refusal :=
  let word := wordI major a b lease.toNat
  let bad : Option (Nat × Word) := if lease = 0 then some (0x01, BitVec.ofNat 64 word) else none
  issueLegal t true word [b] 6 s bad (fun s x =>
    match lockPlace s x t (x.reg b) with
    | .inr e => e
    | .inl r =>
      if holdsLock s t r then .trap 0x11 (x.reg b)
      else if !(ccBuffer s t).isEmpty then .wait s .bufferEmpty
      else
        let l := lockEntry s r
        let full := !l.inTable && tableFull s r
        if tries && (l.held || full) then .next (writeReg s t a 2 1 0)
        else
          let s := if full then countTableFull s t r else s
          .left (applyLockRule (blockThread (requestLock s x t r (x.reg b) lease.toNat tries) t (.lock r a.toNat)) l))

/-- `LKA` (R147). -/
def execLka (t : Nat) (a b : BitVec 5) (lease : BitVec 16) (s : State) : Host.Outcome State Fault Refusal :=
  acquire t 0x33 a b lease false s
/-- `LKT` (R147). -/
def execLkt (t : Nat) (a b : BitVec 5) (lease : BitVec 16) (s : State) : Host.Outcome State Fault Refusal :=
  acquire t 0x34 a b lease true s

/-- `LKR` (R147, R237). -/
def execLkr (t : Nat) (b : BitVec 5) (s : State) : Host.Outcome State Fault Refusal :=
  issue t true (wordI 0x35 0 b 0) [b] 2 s (fun s x =>
    match lockPlace s x t (x.reg b) with
    | .inr e => e
    | .inl r =>
      match findLock s r with
      | none => .trap 0x10 (x.reg b)
      | some l =>
        if !(l.held && l.owner == t) then .trap 0x10 (x.reg b)
        else if !(ccBuffer s t).isEmpty then .wait s .bufferEmpty
        else .next (releaseLock s l false))

/-- A grant of a free lock, after which R238 is looked at for the context that has it now. -/
def grantNext (s : State) (l : Lock) : State :=
  let s := grantLock s l
  match findLock s l.place with
  | none => s
  | some m => if m.waiters.isEmpty then s else applyLockRule s m

/-- LOCK_GRANT (R234): a free lock goes to its best waiter; a word that its unit's table does not hold waits for an entry
(R232). -/
def execLockGrant (place : MemRef) (s : State) : Host.Outcome State Fault Refusal :=
  .next (match findLock s place with
    | none => s
    | some l =>
      if l.held || l.waiters.isEmpty then s
      else if l.inTable then finish (grantNext s l)
      else if tableFull s place then s
      else finish (grantNext s (acquireWord s l)))

/-- LEASE_EXPIRED (R236): past its lease a lock is broken and granted on, and its owner faults. -/
def execLeaseExpired (place : MemRef) (s : State) : Host.Outcome State Fault Refusal :=
  .next (match findLock s place with
    | none => s
    | some l =>
      if !l.held || decide (now s < l.leaseEnd) then s
      else
        let o := l.owner
        let s := releaseLock s l true
        let s := match findLock s place with
          | none => s
          | some l => grantNext s l
        let s := panCount s (tidPan o) 14
        let x := s.thread o
        let already := match x.block with | .deferred (.fault ..) => true | _ => false
        let s := if x.held || x.task == .none || already then s
          else faultThread (withdrawWait s o) o 0x12 l.addr x.pc
        finish s)

end Sys2Proof.Machine
end

