-- ==== Sys2Proof/Machine/Channels.lean ====
section
/-! DEFINITION. Channel instructions, landings, and what a supervisor does to faulted tasks (R145, R198–R206). -/

namespace Sys2Proof.Machine

/-- Whether the sibling thread of a channel belongs to the task of thread `t` now (R199). -/
def siblingOurs (s : State) (t n : Nat) : Bool :=
  decide (n < (if onCc t then 2 else 8)) && (s.thread (t / 8 * 8 + n)).task == (s.thread t).task

/-- The entries of a channel that could be read now (R198, R203). -/
def channelReady (s : State) (x : Thread) (t ch : Nat) : Option Nat :=
  if ch < 8 then some (AMap.at x.responses ch []).length
  else match chanOf x ch with
    | .unconnected => none
    | .sibling n => some ((linkOf s (linkKey (t / 8 * 8 + n) t)).takeWhile (·.landed)).length
    | .readEnd q => some (match msgqOf s (tidPan t) q with | none => 0 | some m => (m.entries.takeWhile (·.landed)).length)
    | .faultQueue => some ((s.pan (tidPan t)).faultQueue.foldl (fun n r => n + 5 - r.2) 0)
    | _ => some 0

/-- `CHR` on a message channel (R198–R203). -/
def readMessage (s : State) (x : Thread) (t ch dst : Nat) : Eff :=
  let bad : Eff := .trap 0x0E (BitVec.ofNat 64 ch)
  let got (r : Word × State) : Eff := .left (wake r.2 t dst r.1)
  match chanOf x ch with
  | .sibling n =>
    let k := linkKey (t / 8 * 8 + n) t
    (match linkOf s k with
      | [] => if siblingOurs s t n then .wait s (.chanEmpty ch dst) else bad
      | e :: rest => if e.landed then got (e.value, serveLink (setLinkTo s k rest) k) else .wait s (.chanEmpty ch dst))
  | .readEnd q =>
    (match msgqOf s (tidPan t) q with
      | none => bad
      | some m =>
        match takeMsg s (tidPan t) q m t with
        | none => .wait s (.chanEmpty ch dst)
        | some r => got (r.1, serveQueue r.2 (tidPan t) q))
  | .faultQueue => match takeFaultWord s (tidPan t) with | none => .wait s (.chanEmpty ch dst) | some r => got r
  | _ => bad

/-- `CHR` (R145, R198). -/
def execChr (t : Nat) (a : BitVec 5) (chan : BitVec 4) (s : State) : Host.Outcome State Fault Refusal :=
  issue t true 0 [] 1 s (fun s x =>
    let ch := chan.toNat
    if ch < 8 then
      match AMap.at x.responses ch [] with
      | [] => .wait s (.chanEmpty ch a.toNat)
      | e :: rest => .left (takeResponse (s.setThread t { x with responses := AMap.put x.responses ch rest }) t a.toNat e)
    else readMessage s x t ch a.toNat)

/-- END, REARM or DISABLE on the faulted task of a held thread; another word is discarded and counted (R205). -/
def controlTask (s : State) (pan held action : Nat) : State :=
  let p := s.pan pan
  let found := p.held.find? (fun h => h.tids.contains held && (s.thread held).held)
  match found with
  | none => panCount s pan 5
  | some h =>
    let s := s.setPan pan { p with held := p.held.filter (fun g => g.task != h.task) }
    endFaulted s h.task (action == 3) (action == 2)

/-- A control word (R205). -/
def controlWord (s : State) (pan : Nat) (v : Word) : State :=
  let action := fld v 0 4
  if action == 0 || action > 3 || fld v 4 12 != 0 || fld v 28 36 != 0 then panCount s pan 5
  else controlTask s pan (fld v 16 12) action

/-- `CHW` on a message channel (R108, R199–R201, R205). -/
def writeMessage (s : State) (x : Thread) (t ch : Nat) (v : Word) : Eff :=
  let bad : Eff := .trap 0x0E (BitVec.ofNat 64 ch)
  match chanOf x ch with
  | .sibling n =>
    let k := linkKey t (t / 8 * 8 + n)
    if n == tidThread t || !siblingOurs s t n then bad
    else if (linkOf s k).length ≥ 4 then .wait s (.chanFull ch v)
    else .next (setLinkTo s k (linkOf s k ++ [⟨v, false⟩]))
  | .writeEnd q =>
    (match msgqOf s (tidPan t) q with
      | none => bad
      | some m =>
        if x.spec s then .wait s .serial
        else if m.entries.length ≥ m.depth then .wait s (.chanFull ch v)
        else .next (setMsgq s (tidPan t) q { m with entries := m.entries ++ [⟨v, false⟩] }))
  | .control => .next (controlWord s (tidPan t) v)
  | _ => bad

/-- `CHW` (R145, R198). -/
def execChw (t : Nat) (a : BitVec 5) (chan : BitVec 4) (s : State) : Host.Outcome State Fault Refusal :=
  issue t true 0 [a] 2 s (fun s x =>
    if chan.toNat < 8 then .trap 0x0E (zext chan) else writeMessage s x t chan.toNat (x.reg a))

/-- `CHP` (R198). -/
def execChp (t : Nat) (a : BitVec 5) (chan : BitVec 4) (s : State) : Host.Outcome State Fault Refusal :=
  issue t true 0 [] 1 s (fun s x =>
    match channelReady s x t chan.toNat with
    | none => .trap 0x0E (zext chan)
    | some n => .next (writeReg s t a (BitVec.ofNat 64 n) 1 0))

/-- CHANNEL_ENTRY_LAND (R199): the oldest entry on its way lands, and a reader that waits takes it. -/
def execChannelEntryLand (sender receiver : Nat) (s : State) : Host.Outcome State Fault Refusal :=
  checked (okTid sender && okTid receiver)
    (let k := linkKey sender receiver
     finish (serveLink (setLinkTo s k (landFirst (linkOf s k))) k))

/-- MSGQ_ENTRY_LAND (R200): the oldest entry on its way lands, and waiters are served. -/
def execMsgqEntryLand (pan queue : Nat) (s : State) : Host.Outcome State Fault Refusal :=
  checked (okPan pan)
    (match msgqOf s pan queue with
      | none => s
      | some m => finish (serveQueue (setMsgq s pan queue { m with entries := landFirst m.entries }) pan queue))

/-- SUPERVISOR_END (R205). -/
def execSupervisorEnd (pan held : Nat) (s : State) : Host.Outcome State Fault Refusal :=
  checked (okPan pan) (finish (controlTask s pan held 1))
/-- SUPERVISOR_REARM (R205). -/
def execSupervisorRearm (pan held : Nat) (s : State) : Host.Outcome State Fault Refusal :=
  checked (okPan pan) (finish (controlTask s pan held 2))
/-- SUPERVISOR_DISABLE (R205). -/
def execSupervisorDisable (pan held : Nat) (s : State) : Host.Outcome State Fault Refusal :=
  checked (okPan pan) (finish (controlTask s pan held 3))

/-- SUPERVISOR_TIMEOUT (R206): past `SCHED.FAULT_HOLD_US` a packet task is ended, a persistent one disabled, and counted. -/
def execSupervisorTimeout (pan : Nat) (s : State) : Host.Outcome State Fault Refusal :=
  checked (okPan pan)
    (let p := s.pan pan
     match p.held with
     | [] => s
     | h :: rest =>
       if now s < h.postedAt + 1000 * fld p.sched 40 16 then s
       else
         let s := s.setPan pan { p with held := rest }
         let s := endFaulted s h.task true false
         finish (raiseDev (panCount s pan 6) (0x101 + 16 * pan) 1 0))

end Sys2Proof.Machine
end

