-- ==== Sys2Proof/Machine/Tasks.lean ====
section
/-! DEFINITION. Thread and task instructions: `FORK`, `EXIT`, `JOIN`, `YIELD`, event flags, `DLY`, `EGR`, `PDROP`, `EVP`
(R148, R149, R184–R196). -/

namespace Sys2Proof.Machine

/-- Threads that dispatch and `FORK` never take (R17, R170, R189, R191). -/
def excluded (s : State) (t : Nat) : Bool :=
  (tidPan t == watchPan s && !onCc t && tidThread t == 0 && expressEn s) ||
  (tidCore t == 30 && tidThread t == 1) ||
  (onCc t && tidThread t == 1 && deterministic s t) ||
  (tidPan t == 0 && onCc t && (tidCore t == 30 || maskHas s.legend.ccAssign 1))

/-- The threads of a core. -/
def coreThreads (t : Nat) : List Nat := (List.range (if onCc t then 2 else 8)).map (fun k => t / 8 * 8 + k)

/-- The pool of a core: its threads that hold no task and are not excluded (R191). -/
def pool (s : State) (t : Nat) : List Nat :=
  (coreThreads t).filter (fun u => (s.thread u).task == .none && !excluded s u)

/-- A child thread as `FORK` starts it (R131, R149, R191, R198, R213). -/
def childOf (s : State) (x : Thread) (t u target : Nat) : Thread :=
  { Thread.idle with
    task := x.task, parent := some t, run := (s.thread u).run + 1, program := x.program, base := x.base, size := x.size,
    binding := x.binding, tenant := x.tenant, prio := x.prio, pc := target, npc := target + 4, branch := x.pc, regs := x.regs,
    level := x.level, csrs := x.csrs, chanMap := x.chanMap, localNum := s.free }

/-- The links between one thread and some others are emptied (R199). -/
def emptyLinks (s : State) (u : Nat) (ts : List Nat) : State :=
  let p := s.pan (tidPan u)
  s.setPan (tidPan u) { p with links := p.links.filter (fun l =>
    !((l.1 / 65536 == u && ts.contains (l.1 % 65536)) || (l.1 % 65536 == u && ts.contains (l.1 / 65536)))) }

/-- `FORK` (R149, R191). -/
def execFork (t : Nat) (a : BitVec 5) (off : BitVec 21) (s : State) : Host.Outcome State Fault Refusal :=
  issue t true (wordB 0x1B a off) [] 1 s (fun s x =>
    match pool s t with
    | [] => .next (writeReg (perfCount s t 13) t a (-1) 1 0)
    | u :: _ =>
      let target := branchTarget x off
      let child := childOf s x t u target
      let s := emptyLinks { s with free := s.free + 1 } u (threadsOf s x.task)
      let s := traceThread (s.setThread u child) u 5 0 0
      let s := s.setThread t { s.thread t with children := (s.thread t).children ++ [tidThread u] }
      let s := match (threadsOf s x.task).find? (fun v => (s.thread v).first) with
        | none => s
        | some v => s.setThread v { s.thread v with kin := (s.thread v).kin ++ [(u, child.run)] }
      .next (writeReg s t a (BitVec.ofNat 64 (tidThread u)) 1 0))

/-- The end of a packet task as its program made it: DONE while speculative, else its record is due (R102, R148). -/
def endPacket (s : State) (c : Nat) (cause : Nat) : State :=
  let s := stopThreads s (.packet c) false cause
  match s.ctx? c with
  | none => s
  | some k => s.setCtx c { k with state := if speculative s c then .done else .ending }

/-- A thread and its running descendants return to the pool; the fuel bounds the depth of the family (R149). -/
def stopFamily : Nat → State → Nat → State
  | 0, s, _ => s
  | n + 1, s, t =>
    let s := (s.thread t).children.foldl (fun s k => stopFamily n s (t / 8 * 8 + k)) s
    let s := drainAll 9 (withdrawWait s t) t
    freeThread (abortCps (abortSearches (releaseLocks s t false) t false) t false) t

/-- A child's exit: its running children are stopped, its value kept for its parent, or delivered to a `JOIN` (R149). Where
the parent holds an unjoined value of an earlier child of that thread number, a `JOIN` gives the value kept, at once, and a second
`EXIT` replaces it: the spec is silent (DESIGN CHOICE, assumption 50). -/
def exitChild (s : State) (t parent : Nat) (v : Word) : State :=
  let n := tidThread t
  let s := stopFamily 8 s t
  let p := s.thread parent
  let p := { p with children := p.children.filter (· != n) }
  match p.block with
  | .join child dst =>
    if child == n then wake (s.setThread parent p) parent dst v
    else s.setThread parent { p with exited := AMap.put p.exited n v }
  | _ => s.setThread parent { p with exited := AMap.put p.exited n v }

/-- `EXIT` (R148, R149, R184, R186). -/
def execExit (t : Nat) (b : BitVec 5) (s : State) : Host.Outcome State Fault Refusal :=
  issue t false (wordX 0x3A 0 b 0 0) [b] 1 s (fun s x =>
    match x.parent with
    | some p => .left (exitChild s t p (x.reg b))
    | none =>
      match x.task with
      | .packet c => .left (endPacket s c 0)
      | .persistent pan slot => .left (endActivation (stopThreads s x.task false 0) pan slot false)
      | k => .left (stopThreads s k false 0))

/-- `JOIN` (R149). -/
def execJoin (t : Nat) (a b : BitVec 5) (s : State) : Host.Outcome State Fault Refusal :=
  issue t true 0 [b] 1 s (fun s x =>
    let n := (x.reg b).toNat
    match AMap.find x.exited n with
    | some v => .left (wake (s.setThread t { x with exited := AMap.del x.exited n }) t a.toNat v)
    | none => if x.children.contains n then .wait s (.join n a.toNat) else .trap 0x0F (x.reg b))

/-- `YIELD` (R185). -/
def execYield (t : Nat) (s : State) : Host.Outcome State Fault Refusal :=
  let word := wordX 0x3A 0 0 0 2
  issue t true word [] 1 s (fun s x =>
    match x.task with
    | .packet _ => .trap 0x15 (BitVec.ofNat 64 word)
    | .persistent pan slot =>
      .left (endActivation (stopThreads s x.task false 2) pan slot true)
    | _ => .next s)

/-- `EFW` (R193, R194). -/
def execEfw (t : Nat) (a b : BitVec 5) (s : State) : Host.Outcome State Fault Refusal :=
  issue t true 0 [b] 1 s (fun s x =>
    let mask := (x.reg b).toNat
    if mask == 0 then .left (wake s t a.toNat 0)
    else match x.task with
      | .persistent pan slot =>
        (match s.task? pan slot with
          | none => .wait s (.efw mask a.toNat)
          | some k =>
            let got := k.flags &&& mask
            if got != 0 then .left (wake (s.setTask pan slot { k with flags := k.flags - got }) t a.toNat (BitVec.ofNat 64 got))
            else .wait (s.setTask pan slot { k with waiters := k.waiters ++ [t] }) (.efw mask a.toNat))
      | _ => .wait s (.efw mask a.toNat))

/-- The task that a handle names, if it is there in that generation (R192). -/
def taskByHandle (s : State) (h : Nat) : Option (Nat × Nat × PTask) :=
  let pan := h % 16
  let slot := h / 16 % 1024
  match s.task? pan slot with
  | none => none
  | some k => if h / 2 ^ 14 % 4 == 0 && k.gen == h / 65536 then some (pan, slot, k) else none

/-- `EFS` (R192): on its way to its task, or discarded and counted. -/
def execEfs (t : Nat) (a b : BitVec 5) (s : State) : Host.Outcome State Fault Refusal :=
  let word := wordX 0x3A a b 0 4
  issue t true word [a, b] 1 s (fun s x =>
    if x.ctxId.isSome then .trap 0x15 (BitVec.ofNat 64 word)
    else
      let h := (x.reg a).toNat
      let reject : Eff := .next (panCount s (tidPan t) 2)
      if h ≥ 2 ^ 32 then reject
      else match taskByHandle s h with
        | none => reject
        | some (pan, _, k) =>
          if x.level != 0 && taskTenant k != x.tenant then reject
          else .next (s.setPan pan { s.pan pan with efs := (s.pan pan).efs ++ [(h, fld (x.reg b) 0 32, tidPan t)] }))

/-- FLAG_APPLY (R192, R193): an `EFS` reaches its task; one whose task is gone is discarded and counted. -/
def execFlagApply (handle flags : Nat) (s : State) : Host.Outcome State Fault Refusal :=
  .next
    (let pan := handle % 16
     match (s.pan pan).efs.find? (fun e => e.1 == handle && e.2.1 == flags) with
     | none => s
     | some e =>
       let s := s.setPan pan { s.pan pan with efs := (s.pan pan).efs.erase e }
       match taskByHandle s handle with
       | none => finish (panCount s e.2.2 2)
       | some (p, slot, _) => finish (setFlags s p slot flags))

/-- `DLY` (R195). -/
def execDly (t : Nat) (b : BitVec 5) (s : State) : Host.Outcome State Fault Refusal :=
  issue t true 0 [b] 1 s (fun s x =>
    let p := s.pan (tidPan t)
    let e : DelayEntry := ⟨.thread t, p.tick + Nat.min (x.reg b).toNat 0xFFFFFFFF + 1, effPrio s x.task x.prio⟩
    .wait (s.setPan (tidPan t) { p with delays := insertDelay e p.delays }) .delay)

/-- `PDROP` (R148). -/
def execPdrop (t : Nat) (n : BitVec 8) (s : State) : Host.Outcome State Fault Refusal :=
  let word := wordX 0x3A 0 0 n.toNat 6
  issue t false word [] 1 s (fun s x =>
    match x.ctxId with
    | none => .trap 0x15 (BitVec.ofNat 64 word)
    | some c =>
      match s.ctx? c with
      | none => .next s
      | some k => .left (endPacket (s.setCtx c { k with dropReason := some n.toNat }) c 1))

/-- `EVP` (R107, R492): held while speculative, else raised at once. -/
def execEvp (t : Nat) (b : BitVec 5) (n : BitVec 4) (s : State) : Host.Outcome State Fault Refusal :=
  issue t true 0 [b] 1 s (fun s x =>
    let data := dataBytes 8 (x.reg b).toNat + x.program % 65536 * 2 ^ 240
    match x.ctxId.bind (fun c => (s.ctx? c).map (fun k => (c, k))) with
    | none => .next (programEvent s x.tenant n.toNat data)
    | some (c, k) =>
      if speculative s c then
        (if furtherUsed k ≥ 32 then .wait s .serial else .next (s.setCtx c { k with recs := k.recs ++ [.event n.toNat (x.reg b)] }))
      else .next (programEvent (s.setCtx c { k with partly := true }) x.tenant n.toNat data))

/-- Whether the operands of `EGR` are within their limits (R148). -/
def egressValid (s : State) (a b c : Word) : Bool :=
  let l := fld a 0 6
  let start := b.toInt
  decide (a.toNat < 512) && lportExists s l && decide (-512 ≤ start) && decide (14 ≤ c.toNat) &&
    decide (c.toNat + 4 ≤ maxFrame (s.lport l)) && decide (start + c.toNat ≤ 15872)

/-- `EGR` (R107, R148). -/
def execEgr (t : Nat) (a b c : BitVec 5) (s : State) : Host.Outcome State Fault Refusal :=
  let word := wordA 3 a b c 0x10
  issue t true word [a, b, c] 1 s (fun s x =>
    match x.ctxId with
    | none => .trap 0x15 (BitVec.ofNat 64 word)
    | some id =>
      match s.ctx? id with
      | none => .next s
      | some k =>
        if k.egress ≥ 8 then .trap 0x13 9
        else if !egressValid s (x.reg a) (x.reg b) (x.reg c) then .trap 0x14 (x.reg a)
        else if speculative s id && decide (furtherUsed k ≥ 32) then .wait s .serial
        else .next (s.setCtx id { k with
          egress := k.egress + 1,
          recs := k.recs ++ [.egress (fld (x.reg a) 0 6) (fld (x.reg a) 6 3) (x.reg b).toInt (x.reg c).toNat] }))

end Sys2Proof.Machine
end

