-- ==== Sys2Proof/Machine/Coproc.lean ====
section
/-! DEFINITION. Coprocessors CP0–CP2: transfers, commands, the scoreboard, save and restore (R210–R229). -/

namespace Sys2Proof.Machine

/-- A thread's context in a coprocessor. -/
def Thread.cp (x : Thread) (unit : Nat) : CpCtx := if unit == 0 then x.cp0 else if unit == 1 then x.cp1 else x.cp2
/-- Replace it. -/
def Thread.setCp (x : Thread) (unit : Nat) (k : CpCtx) : Thread :=
  if unit == 0 then { x with cp0 := k } else if unit == 1 then { x with cp1 := k } else { x with cp2 := k }

/-- Whether the `CPEN` bit of a coprocessor is set for the thread's level (R135, R212). -/
def cpEnabled (x : Thread) (unit : Nat) : Bool := bit (x.csr 8) (4 * (2 - x.level) + unit)

/-- The fault of a C-format instruction before it acts: CP3, CP2 on a CC, an unassigned form, a clear enable (R137, R210,
R212). -/
def cpFault (x : Thread) (t unit word : Nat) (legal : Bool) : Option (Nat × Word) :=
  if unit == 3 || (unit == 2 && onCc t) then some (0x03, BitVec.ofNat 64 unit)
  else if !legal then some (0x01, BitVec.ofNat 64 word)
  else if !cpEnabled x unit then some (0x03, BitVec.ofNat 64 unit)
  else none

/-- Registers that `MTC` may not write (R218, R222, R225). -/
def cpReadOnly (unit cr : Nat) : Bool :=
  match unit with
  | 0 => cr == 10
  | 1 => cr == 0 || cr == 2 || cr == 8 || cr == 9 || decide (16 ≤ cr)
  | _ => decide (1 ≤ cr)

/-- Bits that a coprocessor register holds; the others read 0 (R218, R222, R225). -/
def cpMask (unit cr : Nat) : Word :=
  if cr == 0 && (unit == 0 || unit == 2) then 3
  else if unit == 0 && cr == 11 then 0xFFFF
  else if unit == 1 && (cr == 1 || cr == 2) then 0xFFFFFFFF
  else BitVec.ofNat 64 (2 ^ 64 - 1)

/-- A register of a context. -/
def CpCtx.reg (k : CpCtx) (cr : Nat) : Word := AMap.at k.regs cr 0
/-- Write a register of a context. -/
def CpCtx.set (k : CpCtx) (cr : Nat) (v : Word) : CpCtx := { k with regs := AMap.put k.regs cr v }
/-- Write several registers. -/
def CpCtx.sets (k : CpCtx) (vs : List (Nat × Word)) : CpCtx := vs.foldl (fun k v => k.set v.1 v.2) k

/-- `MTC` (R214). -/
def execMtc (t : Nat) (unit : BitVec 2) (b cr : BitVec 5) (s : State) : Host.Outcome State Fault Refusal :=
  let word := wordC unit.toNat 0 b cr 0 0
  issueLegal t true word [b] 1 s (cpFault (s.thread t) t unit.toNat word (crDefined unit.toNat cr.toNat)) (fun s x =>
    if cpReadOnly unit.toNat cr.toNat then .next s
    else .next (s.setThread t (x.setCp unit.toNat ((x.cp unit.toNat).set cr.toNat (x.reg b &&& cpMask unit.toNat cr.toNat)))))

/-- `MFC` (R214, R215): it blocks while the register's scoreboard bit is clear. -/
def execMfc (t : Nat) (unit : BitVec 2) (a cr : BitVec 5) (s : State) : Host.Outcome State Fault Refusal :=
  let word := wordC unit.toNat a 0 cr 1 0
  issueLegal t true word [] 1 s (cpFault (s.thread t) t unit.toNat word (crDefined unit.toNat cr.toNat)) (fun s x =>
    let k := x.cp unit.toNat
    if maskHas k.pendingRegs cr.toNat then .wait s (.scoreboard unit.toNat cr.toNat a.toNat)
    else .next (writeReg s t a (k.reg cr.toNat) 2 0))

/-- The registers that a command writes (R219, R223, R225). -/
def cpWrites (unit cmd : Nat) : List Nat :=
  match unit, cmd with
  | 0, 2 => [8, 9, 10]
  | 0, _ => [10]
  | 1, 1 => [0, 8, 9]
  | 1, 2 => [0, 9]
  | 1, 3 => [0, 16, 17, 18, 19, 20, 21, 22, 23]
  | 1, 4 => [0, 1]
  | 1, _ => [0, 2]
  | _, 3 => [1, 2, 4]
  | _, 4 => [3, 4]
  | _, _ => [1, 2, 4]

/-- Scoreboard: the registers that some command in flight still writes (R215). -/
def pendingMask (unit : Nat) (cmds : List CpCmd) : Nat :=
  (cmds.map (fun c => cpWrites unit c.cmd)).flatten.foldl maskSet 0

/-- A context with its commands in flight replaced. -/
def CpCtx.setCmds (k : CpCtx) (unit : Nat) (cmds : List CpCmd) : CpCtx :=
  { k with cmds := cmds, pendingRegs := pendingMask unit cmds }

/-- Commands of one thread that a unit holds (R216). -/
def cpRoom (unit : Nat) : Nat := if unit == 2 then 16 else 1

/-- A command enters its unit, with copies of the operand registers (R215); a CP0 that has none in progress begins it (R211). -/
def startCmd (s : State) (t unit : Nat) (x : Thread) (cmd : Nat) (a b : Word) (regs : AMap Word) : State :=
  let k := x.cp unit
  let s := s.setThread t (x.setCp unit (k.setCmds unit (k.cmds ++ [⟨cmd, now s, a, b, regs⟩])))
  if unit == 0 then cp0Serve s (tidPan t) (cp0Key t) else s

/-- A C-format command: its checks, then what it does once its unit has room (R214–R217). -/
def cpCommand (t unit cmd : Nat) (a b : BitVec 5) (useA useB : Bool) (s : State)
    (go : State → Thread → Eff) : Host.Outcome State Fault Refusal :=
  let word := wordC unit a b 0 2 cmd
  issueLegal t true word [a, b] 1 s (cpFault (s.thread t) t unit word ((useA || a == 0) && (useB || b == 0))) go

/-- A range of bytes in the thread's local store or packet window (R217, R218); none breaks the rule. -/
def cpRange (x : Thread) (t a n : Nat) : Option MemRef :=
  if a + n ≤ localSize t then some (.localStore t a)
  else match x.ctxId with
    | some c => if 0x100000 ≤ a && a + n ≤ 0x104000 then some (.window c (a - 0x100000)) else none
    | none => none

/-- A command that reads or writes those memories: once the thread's buffered stores have left, and its unit has room. -/
def cpReady (unit : Nat) (s : State) (t : Nat) (x : Thread) (go : Eff) : Eff :=
  if (ccBuffer s t).any (fun e => e.tid == t) then .wait s .bufferEmpty
  else if (x.cp unit).cmds.length ≥ cpRoom unit then .wait s (.unitFull unit)
  else go

/-- Whether a CP0 data command has a length, nonce or algorithm out of range (R218–R220). -/
def cipherBad (k : CpCtx) (cmd : Nat) : Bool :=
  let alg := (k.reg 0).toNat
  let xts := cmd == 4 || cmd == 5
  decide ((k.reg 3).toNat > 15872) ||
    (if xts then alg != 2 || decide ((k.reg 3).toNat < 16)
     else decide (alg > 1) || decide ((k.reg 5).toNat > 256) || fld (k.reg 7) 32 32 != 0)

/-- The address fault of a CP0 data command, if it has one (R218). -/
def cipherFault (x : Thread) (t : Nat) (k : CpCtx) (cmd : Nat) : Option Word :=
  let n := (k.reg 3).toNat
  let src := (k.reg 1).toNat
  let dst := (k.reg 2).toNat
  if n > 0 && (cpRange x t src n).isNone then some (k.reg 1)
  else if n > 0 && (cpRange x t dst n).isNone then some (k.reg 2)
  else if (cmd == 2 || cmd == 3) && (k.reg 5).toNat > 0 && (cpRange x t (k.reg 4).toNat (k.reg 5).toNat).isNone then some (k.reg 4)
  else if src != dst && src < dst + n && dst < src + n then some (k.reg 2)
  else none

/-- A CP0 data command (R217–R219). The spec does not say which comes first where a command has both a length, nonce or
algorithm out of range and an address outside its memories: the model ends it BAD_LENGTH with no fault, and checks no address of a
range of length 0 (DESIGN CHOICE, assumption 50). -/
def cipherOp (t cmd : Nat) (a b : BitVec 5) (s : State) : Host.Outcome State Fault Refusal :=
  cpCommand t 0 cmd a b false false s (fun s x =>
    let k := x.cp0
    match (if cipherBad k cmd then none else cipherFault x t k cmd) with
    | some v => .trap 0x05 v
    | none => cpReady 0 s t x (.next (startCmd s t 0 x cmd 0 0 k.regs)))

/-- KEYLOAD (R221). -/
def execKeyload (t : Nat) (a b : BitVec 5) (s : State) : Host.Outcome State Fault Refusal :=
  cpCommand t 0 1 a b false false s (fun s x => cpReady 0 s t x (.next (startCmd s t 0 x 1 0 0 x.cp0.regs)))
/-- CP0 SEAL (R219). -/
def execCp0Seal (t : Nat) (a b : BitVec 5) (s : State) : Host.Outcome State Fault Refusal := cipherOp t 2 a b s
/-- CP0 OPEN (R219). -/
def execCp0Open (t : Nat) (a b : BitVec 5) (s : State) : Host.Outcome State Fault Refusal := cipherOp t 3 a b s
/-- XTS_ENC (R219). -/
def execXtsEnc (t : Nat) (a b : BitVec 5) (s : State) : Host.Outcome State Fault Refusal := cipherOp t 4 a b s
/-- XTS_DEC (R219). -/
def execXtsDec (t : Nat) (a b : BitVec 5) (s : State) : Host.Outcome State Fault Refusal := cipherOp t 5 a b s
/-- KEYCLR (R219). -/
def execKeyclr (t : Nat) (a b : BitVec 5) (s : State) : Host.Outcome State Fault Refusal :=
  cpCommand t 0 6 a b false false s (fun s x => cpReady 0 s t x (.next (startCmd s t 0 x 6 0 0 x.cp0.regs)))

/-- A CP1 command over bytes: their place is checked at issue, unless their length is refused (R217, R223). -/
def digestOp (t cmd limit : Nat) (a b : BitVec 5) (s : State) : Host.Outcome State Fault Refusal :=
  cpCommand t 1 cmd a b true true s (fun s x =>
    let n := (x.reg b).toNat
    if 0 < n && n ≤ limit && (cpRange x t (x.reg a).toNat n).isNone then .trap 0x05 (x.reg a)
    else cpReady 1 s t x (.next (startCmd s t 1 x cmd (x.reg a) (x.reg b) x.cp1.regs)))

/-- SHA_INIT (R223). -/
def execShaInit (t : Nat) (a b : BitVec 5) (s : State) : Host.Outcome State Fault Refusal :=
  cpCommand t 1 1 a b true false s (fun s x => cpReady 1 s t x (.next (startCmd s t 1 x 1 (x.reg a) 0 x.cp1.regs)))
/-- SHA_UPDATE (R223). -/
def execShaUpdate (t : Nat) (a b : BitVec 5) (s : State) : Host.Outcome State Fault Refusal := digestOp t 2 15872 a b s
/-- SHA_FINAL (R223). -/
def execShaFinal (t : Nat) (a b : BitVec 5) (s : State) : Host.Outcome State Fault Refusal :=
  cpCommand t 1 3 a b false false s (fun s x => cpReady 1 s t x (.next (startCmd s t 1 x 3 0 0 x.cp1.regs)))
/-- CP1 CRC (R223). -/
def execCp1Crc (t : Nat) (a b : BitVec 5) (s : State) : Host.Outcome State Fault Refusal := digestOp t 4 15872 a b s
/-- TOEPLITZ (R223). -/
def execToeplitz (t : Nat) (a b : BitVec 5) (s : State) : Host.Outcome State Fault Refusal := digestOp t 5 36 a b s

/-- Where a CP2 record is, or the fault of its address (R217, R224, R225). -/
def tallyPlace (s : State) (x : Thread) (t : Nat) (addr : Word) (align size : Nat) (write : Bool) : MemRef ⊕ Eff :=
  if addr.toNat % align != 0 then .inr (.trap 0x04 addr)
  else match place s x t addr.toNat size write with
    | .ref (.sram p o) => .inl (.sram p o)
    | .ref (.dram k o) => .inl (.dram k o)
    | _ => .inr (.trap 0x05 addr)

/-- COUNT or POLICE: a TALLY record while speculative, else applied as it issues (R107, R216, R225, R226). -/
def tallyOp (t cmd align : Nat) (a b : BitVec 5) (s : State) : Host.Outcome State Fault Refusal :=
  cpCommand t 2 cmd a b true true s (fun s x =>
    match tallyPlace s x t (x.reg a) align align true with
    | .inr e => e
    | .inl r =>
      let len := (x.reg b).toNat
      let colour := (x.cp2.reg 0).toNat
      match x.ctxId.bind (fun c => (s.ctx? c).map (fun k => (c, k))) with
      | none =>
        if x.cp2.cmds.length ≥ 16 then .wait s (.unitFull 2) else .next (applyTally s cmd (tidPan t) r len colour).1
      | some (c, k) =>
        if speculative s c then
          (if furtherUsed k ≥ 32 then .wait s .serial
           else .next (s.setCtx c { k with recs := k.recs ++ [.tally cmd (tidPan t) r len colour] }))
        else if x.cp2.cmds.length ≥ 16 then .wait s (.unitFull 2)
        else
          let o := applyTally s cmd (tidPan t) r len colour
          .next (match o.1.ctx? c with
            | none => o.1
            | some k => o.1.setCtx c { k with partly := true, policed := k.policed || o.2 }))

/-- COUNT (R225). -/
def execCount (t : Nat) (a b : BitVec 5) (s : State) : Host.Outcome State Fault Refusal := tallyOp t 1 16 a b s
/-- POLICE (R225, R226). -/
def execPolice (t : Nat) (a b : BitVec 5) (s : State) : Host.Outcome State Fault Refusal := tallyOp t 2 32 a b s

/-- A CP2 command that returns values: serializing; the unit acts as it issues, and its results come back (R108, R225). -/
def fetchOp (t cmd align : Nat) (a b : BitVec 5) (useB : Bool) (s : State)
    (act : State → MemRef → Thread → State × List (Nat × Word)) : Host.Outcome State Fault Refusal :=
  cpCommand t 2 cmd a b true useB s (fun s x =>
    match tallyPlace s x t (x.reg a) align (if cmd == 4 then 32 else 16) (cmd != 5) with
    | .inr e => e
    | .inl r =>
      if x.spec s then .wait s .serial
      else if poisoned s r (if cmd == 4 then 32 else 16) then .trap 0x16 (x.reg a)
      else if x.cp2.cmds.length ≥ 16 then .wait s (.unitFull 2)
      else
        let o := act (memRequest s (tidPan t) r (if cmd == 4 then 32 else 16)) r x
        .next (startCmd o.1 t 2 (o.1.thread t) cmd (x.reg a) (x.reg b) (o.2.map (fun v => (v.1, v.2)))))

/-- COUNT_FETCH (R225). -/
def execCountFetch (t : Nat) (a b : BitVec 5) (s : State) : Host.Outcome State Fault Refusal :=
  fetchOp t 3 16 a b true s (fun s r x =>
    let v := readMem s r 16
    (writeMem s r 16 (counterUpdate v (x.reg b).toNat), [(1, BitVec.ofNat 64 v), (2, BitVec.ofNat 64 (v / 2 ^ 64)), (4, 0)]))
/-- METER (R225, R227). -/
def execMeter (t : Nat) (a b : BitVec 5) (s : State) : Host.Outcome State Fault Refusal :=
  fetchOp t 4 32 a b true s (fun s r x =>
    match meterUpdate (readMem s r 32) (now s) (x.reg b).toNat (x.cp2.reg 0).toNat with
    | some (c, v) => (writeMem s r 32 v, [(3, BitVec.ofNat 64 c), (4, 0)])
    | none => (s, [(1, 0), (2, 0), (3, 0), (4, 7)]))
/-- CP2 READ (R225). -/
def execCp2Read (t : Nat) (a b : BitVec 5) (s : State) : Host.Outcome State Fault Refusal :=
  fetchOp t 5 16 a b false s (fun s r _ =>
    let v := readMem s r 16
    (s, [(1, BitVec.ofNat 64 v), (2, BitVec.ofNat 64 (v / 2 ^ 64)), (4, 0)]))

/-- An entry of an owner's key table, if it may be loaded: within the quota and not empty (R221, R356). -/
def keyEntry (s : State) (tenant index : Nat) : Option (BitVec 512) :=
  match AMap.find s.trust.slots tenant with
  | none => none
  | some x => if index < quotaField x.quota 20 4 then AMap.find (AMap.at s.trust.keys tenant []) index else none

/-- The 12 bytes of a nonce, or the 16 of a tweak, as one number in wire order (R218). -/
def ivNumber (regs : AMap Word) (n : Nat) : Nat :=
  beNat ((leBytes 8 (AMap.at regs 6 0).toNat ++ leBytes 8 (AMap.at regs 7 0).toNat).take n)

/-- Cipher output of a CP0 command over some bytes, and its tag over the plain text (R219; assumption 4). -/
def cipherText (cmd alg : Nat) (key : BitVec 512) (regs : AMap Word) (src aad : List Byte) : List Byte × Nat :=
  let k : BitVec 256 := key.extractLsb' 256 256
  let n : BitVec 96 := BitVec.ofNat 96 (ivNumber regs 12)
  let pos := List.range src.length
  if cmd == 4 || cmd == 5 then
    (pos.map (fun i => Config.xtsByte (cmd == 4) key (BitVec.ofNat 128 (ivNumber regs 16)) i src), 0)
  else
    let out := pos.map (fun i => if alg == 0 then Config.gcmByte k n i src else Config.chachaByte k n i src)
    let plain := if cmd == 2 then src else out
    (out, (if alg == 0 then Config.gcmTag k n aad plain else Config.chachaTag k n aad plain).toNat)

/-- TAG0 and TAG1 of a tag (R218). -/
def tagWords (tag : Nat) : Word × Word :=
  (BitVec.ofNat 64 (leNat ((beBytes 16 tag).take 8)), BitVec.ofNat 64 (leNat ((beBytes 16 tag).drop 8)))

/-- A CP0 command completes: what it writes to memory and to its context (R219–R221); algorithm 3 is refused with BAD_LENGTH
whatever the command (R218). -/
def finishCipher (s : State) (t : Nat) (c : CpCmd) : State :=
  let x := s.thread t
  let put (k : CpCtx) : State := s.setThread t { x with cp0 := k }
  let r (cr : Nat) : Word := AMap.at c.regs cr 0
  if (r 0).toNat == 3 then put (x.cp0.set 10 4)
  else if c.cmd == 1 then
    match keyEntry s x.tenant (r 11).toNat with
    | some key => put ({ x.cp0 with key := some ((r 11).toNat, key) }.set 10 0)
    | none => put ({ x.cp0 with key := none }.set 10 2)
  else if c.cmd == 6 then put ({ x.cp0 with key := none }.set 10 0)
  else if cipherBad { x.cp0 with regs := c.regs } c.cmd then put (x.cp0.set 10 4)
  else match x.cp0.key with
    | none => put (x.cp0.set 10 3)
    | some (_, key) =>
      let n := (r 3).toNat
      let bytes (a k : Nat) : List Byte := match cpRange x t a k with | some m => readBytes s m k | none => []
      let o := cipherText c.cmd (r 0).toNat key c.regs (bytes (r 1).toNat n) (bytes (r 4).toNat (r 5).toNat)
      let tag := tagWords o.2
      let good := c.cmd != 3 || (tag.1 == r 8 && tag.2 == r 9)
      let out := if good then o.1 else List.replicate n 0
      let k := if c.cmd == 2 then (x.cp0.set 8 tag.1).set 9 tag.2 else x.cp0
      let s := put (k.set 10 (if good then 0 else 1))
      match cpRange x t (r 2).toNat n with | some m => writeBytes s m out | none => s

/-- Bits of some bytes, the most significant first. -/
def bitsMsb (bs : List Byte) : List Bool := (bs.map (fun b => (List.range 8).map (fun i => b.getLsbD (7 - i)))).flatten

/-- The Toeplitz hash of some bytes under a 40-byte key (R223). -/
def toeplitzHash (key bs : List Byte) : Nat :=
  let k := beNat key
  (bitsMsb bs).zipIdx.foldl (fun h b => if b.1 then h ^^^ (k / 2 ^ (288 - b.2) % 2 ^ 32) else h) 0

/-- Bytes of a digest (R222). -/
def digestBytes (alg : Nat) : Nat := if alg == 0 then 32 else if alg == 1 then 48 else 64

/-- DIGEST0–DIGEST7 of a message (R222, R223; assumption 4). -/
def digestRegs (alg : Nat) (msg : List Byte) : List (Nat × Word) :=
  let n := digestBytes alg
  let bs := (List.range 64).map (fun i => if i < n then Config.shaByte (8 * n) msg i else (0 : Byte))
  (List.range 8).map (fun i => (16 + i, BitVec.ofNat 64 (leNat ((bs.drop (8 * i)).take 8))))

/-- A CP1 command completes (R223). An algorithm number above 2 at SHA_INIT chooses an algorithm that the spec does not
state. -/
def finishDigest (s : State) (t : Nat) (c : CpCmd) : State :=
  let x := s.thread t
  let k := x.cp1
  let put (s : State) (k : CpCtx) : State := s.setThread t { x with cp1 := k }
  let n := c.b.toNat
  let bytes : List Byte := match cpRange x t c.a.toNat n with | some m => readBytes s m n | none => []
  match c.cmd with
  | 1 =>
    let f := fresh s
    let s := if c.a.toNat > 2 then f.2 else s
    let alg := if c.a.toNat > 2 then f.1.toNat % 3 else c.a.toNat
    put s ({ k with sha := some (alg, []) }.sets [(0, 0), (8, BitVec.ofNat 64 alg), (9, 0)])
  | 2 =>
    (match k.sha with
      | none => put s (k.set 0 6)
      | some (alg, m) =>
        if n > 15872 then put s (k.set 0 4)
        else put s ({ k with sha := some (alg, m ++ bytes) }.sets [(0, 0), (9, BitVec.ofNat 64 (m.length + n))]))
  | 3 =>
    (match k.sha with
      | none => put s (k.set 0 6)
      | some (alg, m) => put s (({ k with sha := none }.set 0 0).sets (digestRegs alg m)))
  | 4 =>
    if n > 15872 then put s (k.set 0 4)
    else put s ((k.set 0 0).set 1 (BitVec.ofNat 64 (crc32cRaw (AMap.at c.regs 1 0).toNat bytes)))
  | _ =>
    if n > 36 then put s (k.set 0 4)
    else
      let key := ((List.range 5).map (fun i => leBytes 8 (AMap.at c.regs (3 + i) 0).toNat)).flatten
      put s ((k.set 0 0).set 2 (BitVec.ofNat 64 (toeplitzHash key bytes)))

/-- The words of a save area after its header: the registers, then the key handle or the partial digest (R228). -/
def saveWords (unit : Nat) (k : CpCtx) (digest : Nat) : List Word :=
  match unit with
  | 0 => (List.range 12).map k.reg ++ [match k.key with | none => 0 | some (i, _) => BitVec.ofNat 64 (i + 2 ^ 16)]
  | 1 => (List.range 10).map k.reg ++ (List.range 8).map (fun i => k.reg (16 + i)) ++
      [match k.sha with | none => 0 | some _ => BitVec.ofNat 64 (digest + 1)]
  | _ => (List.range 5).map k.reg

/-- Bytes of a save area (R228). -/
def saveBytes (unit : Nat) : Nat := if unit == 0 then 256 else if unit == 1 then 320 else 64

/-- `CSAVE` acts (R228). -/
def saveNow (s : State) (t unit addr : Nat) : State :=
  let x := s.thread t
  let k := x.cp unit
  let header : Word := BitVec.ofNat 64 (unit + 2 ^ 8 + x.tenant * 2 ^ 16)
  let ws := header :: saveWords unit k s.digests.length
  let s := match unit, k.sha with
    | 1, some d => { s with digests := s.digests ++ [(x.tenant, d)] }
    | _, _ => s
  let bs := wordBytes ws
  writeBytes s (.localStore t addr) (bs ++ List.replicate (saveBytes unit - bs.length) 0)

/-- The partial digest that a save area of CP1 names: one that its tenant saved; a word that names none is not one that a
`CSAVE` wrote, and what digest it restores is free (R228, R229; assumption 3). -/
def savedDigest (s : State) (tenant : Nat) (w : Word) : State × Option (Nat × List Byte) :=
  if w = 0 then (s, none)
  else match s.digests[w.toNat - 1]? with
    | some (owner, d) => if owner == tenant then (s, some d) else freeDigest s
    | none => freeDigest s
where
  freeDigest (s : State) : State × Option (Nat × List Byte) :=
    let f := fresh s
    (f.2, some (f.1.toNat % 3, leBytes 8 f.1.toNat))

/-- `CREST` acts (R228, R229): the context is replaced, or reset with BAD_RESTORE. -/
def restoreNow (s : State) (t unit addr : Nat) : State :=
  let x := s.thread t
  let w (i : Nat) : Word := BitVec.ofNat 64 (readMem s (.localStore t (addr + 8 * i)) 8)
  let kept (cr i : Nat) : Nat × Word := (cr, w i &&& (if cr == status unit then 0xFF else cpMask unit cr))
  let bad := s.setThread t (x.setCp unit (CpCtx.reset.set (status unit) 5))
  if fld (w 0) 0 2 != unit || fld (w 0) 8 8 != 1 || fld (w 0) 16 12 != x.tenant then bad
  else
    match unit with
    | 0 =>
      let k := CpCtx.reset.sets ((List.range 12).map (fun i => kept i (1 + i)))
      if bit (w 13) 16 then
        match keyEntry s x.tenant (fld (w 13) 0 16) with
        | none => bad
        | some key => s.setThread t { x with cp0 := { k with key := some (fld (w 13) 0 16, key) } }
      else s.setThread t { x with cp0 := k }
    | 1 =>
      let k := (CpCtx.reset.sets ((List.range 10).map (fun i => kept i (1 + i)))).sets ((List.range 8).map (fun i => kept (16 + i) (11 + i)))
      let d := savedDigest s x.tenant (w 19)
      d.1.setThread t { x with cp1 := { k with sha := d.2 } }
    | _ => s.setThread t { x with cp2 := CpCtx.reset.sets ((List.range 5).map (fun i => kept i (1 + i))) }
where
  /-- STATUS of a unit (R218, R222, R225). -/
  status (unit : Nat) : Nat := if unit == 0 then 10 else if unit == 1 then 0 else 4

/-- `CSAVE` and `CREST`: their address is checked, then they wait for the unit's commands (R228). -/
def contextOp (t : Nat) (unit : BitVec 2) (b : BitVec 5) (cls : Nat) (block : Word → Block) (s : State)
    (act : State → Nat → State) : Host.Outcome State Fault Refusal :=
  let word := wordC unit.toNat 0 b 0 cls 0
  issueLegal t true word [b] 1 s (cpFault (s.thread t) t unit.toNat word true) (fun s x =>
    let addr := (x.reg b).toNat
    if addr % 64 != 0 then .trap 0x04 (x.reg b)
    else if addr + saveBytes unit.toNat > localSize t then .trap 0x05 (x.reg b)
    else if (ccBuffer s t).any (fun e => e.tid == t) then .wait s .bufferEmpty
    else if !(x.cp unit.toNat).cmds.isEmpty then .wait s (block (x.reg b))
    else .left (wake (act s addr) t 0 0))

/-- `CSAVE` (R228). -/
def execCsave (t : Nat) (unit : BitVec 2) (b : BitVec 5) (s : State) : Host.Outcome State Fault Refusal :=
  contextOp t unit b 3 (.save unit.toNat) s (fun s addr => saveNow s t unit.toNat addr)
/-- `CREST` (R228, R229). -/
def execCrest (t : Nat) (unit : BitVec 2) (b : BitVec 5) (s : State) : Host.Outcome State Fault Refusal :=
  contextOp t unit b 4 (.restore unit.toNat) s (fun s addr => restoreNow s t unit.toNat addr)

/-- What waited for a unit goes on (R214–R216, R228). -/
def cpResume (s : State) (t unit : Nat) : State :=
  let x := s.thread t
  let k := x.cp unit
  match x.block with
  | .scoreboard u cr dst => if u == unit && !maskHas k.pendingRegs cr then wake s t dst (k.reg cr) else s
  | .unitFull u => if u == unit then unblock s t else s
  | .save u a => if u == unit && k.cmds.isEmpty then wake (saveNow s t unit a.toNat) t 0 0 else s
  | .restore u a => if u == unit && k.cmds.isEmpty then wake (restoreNow s t unit a.toNat) t 0 0 else s
  | _ => s

/-- The oldest command of a thread in a unit completes (R215, R216); a shared CP0 completes the one that it has in progress,
and begins the next (R211). -/
def cpComplete (s : State) (t unit : Nat) : State :=
  let x := s.thread t
  if unit == 0 && AMap.find (s.pan (tidPan t)).cpBusy (cp0Key t) != some t then s
  else match (x.cp unit).cmds with
  | [] => s
  | c :: rest =>
    let s := if unit == 0 then finishCipher s t c
      else if unit == 1 then finishDigest s t c
      else s.setThread t { x with cp2 := x.cp2.sets c.regs }
    let x := s.thread t
    let s := s.setThread t (x.setCp unit ((x.cp unit).setCmds unit rest))
    cpResume (if unit == 0 then cp0Free s t else s) t unit

/-- The result of a command whose run has ended arrives: discarded, and counted as a late completion (R105; assumption 19). -/
def lateResult (s : State) (t unit : Nat) : State :=
  let p := s.pan (tidPan t)
  let s := count (s.setPan (tidPan t) { p with lateCp := p.lateCp.erase (t, unit) }) (lateId 4) 1
  if unit == 0 then cp0Free s t else s

/-- COPROCESSOR_RESULT (R105, R211, R215). -/
def execCoprocessorResult (tid unit : Nat) (s : State) : Host.Outcome State Fault Refusal :=
  checked (okTid tid && okUnit unit)
    (finish (if (s.pan (tidPan tid)).lateCp.contains (tid, unit) then lateResult s tid unit else cpComplete s tid unit))

end Sys2Proof.Machine
end

