-- ==== Sys2Proof/Machine/Schedule.lean ====
section
/-! DEFINITION. What Meridian and the task schedulers do on their own: intake, dispatch, commit, wakes, expiries,
the delay list (R99, R100, R102, R105, R112, R114, R117, R189, R195–R197, R208, R479). -/

namespace Sys2Proof.Machine

/-- Whether the traffic domains serve packets: not while the hold stands (R510). -/
def serves (s : State) : Bool := trafficUp s && !s.contain.hold && s.contain.core.isNone && s.trust.zeroizing.isNone

/-- The queue without its head; the next descriptor stands at the head from now on (R285). -/
def popSoq (s : State) (k : Nat) : State :=
  match soq s k with
  | _ :: d :: rest => setSoq s k ({ d with headSince := now s } :: rest)
  | _ => setSoq s k []

/-- Descriptors the wait store holds at most (R100). -/
def waitRoom : Nat := 131072

/-- Whether a descriptor must go by the wait store: its domain has packets there, or may take no context (R100). -/
def needsWait (s : State) (d : Desc) (express : Bool) : Bool :=
  !(s.dom (domKey express d.domain)).waiting.isEmpty || !mayTake s d express

/-- Whether Meridian can take a descriptor now (R99, R100). -/
def canPlace (s : State) (d : Desc) (express : Bool) : Bool :=
  if express && (freeSlot s (watchPan s) true).isNone then false
  else if needsWait s d express then decide (waitUsed s < waitRoom)
  else if express then expressFits s d
  else (pansFor s d).any (fun p => (freeSlot s p false).isSome)

/-- Whether a head is stopped by the full wait store alone (R100). -/
def stoppedByWait (s : State) (d : Desc) (express : Bool) : Bool :=
  needsWait s d express && decide (waitUsed s ≥ waitRoom)

/-- The ports in the order a priority serves them in this cycle (R99). -/
def portOrder (s : State) (prio : Nat) : List Nat :=
  (List.range 16).map (fun i => (i + AMap.at s.meridian.rotate prio 0) % 16)

/-- One selected descriptor handled: a context and a sequence, or the wait store (R98, R100). -/
def handleHead (s : State) (port prio : Nat) : State :=
  let k := 8 * port + prio
  match soq s k with
  | [] => s
  | d :: _ =>
    let d := { d with taken := now s }
    let express := prio == 0
    let key := domKey express d.domain
    if needsWait s d express then
      if waitUsed s < waitRoom then
        let s := popSoq s k
        (s.setMeridian { s.meridian with waitFullSeen := false }).setDom key
          { s.dom key with waiting := (s.dom key).waiting ++ [d] }
      else s
    else match tryTake (popSoq s k) d express with
      | some s' => s'
      | none => s

/-- The heads selected for one priority, at most one per port not selected before, each while a place is left beside those that
the heads selected before it take (R99): the second part is the state in which they have taken theirs. -/
def selectPrio (prio : Nat) (acc : List (Nat × Nat) × State) : List (Nat × Nat) × State :=
  if prio == 0 && acc.2.meridian.suspended then acc
  else (portOrder acc.2 prio).foldl (fun acc port =>
    match soq acc.2 (8 * port + prio) with
    | [] => acc
    | d :: _ =>
      if acc.1.any (fun t => t.1 == port) || !canPlace acc.2 d (prio == 0) then acc
      else (acc.1 ++ [(port, prio)], handleHead acc.2 port prio)) acc

/-- The ports that 16 numbers name, those that a list of selections holds, in rising order. -/
def selectedBy (sel : List (Nat × Nat)) : List (Nat × Nat) :=
  (List.range 16).filterMap (fun p => sel.find? (fun t => t.1 == p))

/-- The event of the first stop at a full wait store (R100). -/
def noteStop (s : State) : State :=
  let stopped := s.sluice.queues.any (fun q => match q.2 with
    | [] => false
    | d :: _ => stoppedByWait s d (q.1 % 8 == 0))
  if stopped && !s.meridian.waitFullSeen then
    raiseDev (s.setMeridian { s.meridian with waitFullSeen := true }) 0x0E0 1 0
  else s

/-- One Meridian cycle of intake (R99, R100): the wait store's heads that may take a context come first; of the selected heads the
lowest port is handled first. -/
def intake (s : State) : State :=
  let s := drainWait (waitUsed s) s
  let sel := ((List.range 8).foldl (fun acc p => selectPrio p acc) ([], s)).1
  let s := noteStop s
  let s := (selectedBy sel).foldl (fun s t => handleHead s t.1 t.2) s
  let next := (List.range 8).foldl (fun m p => AMap.put m p ((AMap.at m p 0 + 1) % 16)) s.meridian.rotate
  s.setMeridian { s.meridian with rotate := next }

/-- DESCRIPTOR_INTAKE (R99, R100): in the hold Meridian takes nothing (R510). -/
def execDescriptorIntake (s : State) : Host.Outcome State Fault Refusal :=
  .next (if serves s then finish (intake s) else s)

/-- WAIT_EXPIRED (R100): the head of a domain's part of the wait store has waited for PARK_LIFETIME. -/
def execWaitExpired (express : Bool) (domain : Nat) (s : State) : Host.Outcome State Fault Refusal :=
  checked (okDomain domain)
    (let key := domKey express domain
     match (s.dom key).waiting with
     | [] => s
     | d :: rest =>
       if now s < d.taken + parkNs s then s
       else
         let s := s.setDom key { s.dom key with waiting := rest }
         let s := discardDesc s d 0x54
         finish (drainWait (waitUsed s) s))

/-- QUEUE_EXPIRED (R285): the head of a Sluice output queue has stood there for PARK_LIFETIME. -/
def execQueueExpired (port prio : Nat) (s : State) : Host.Outcome State Fault Refusal :=
  checked (okPort port && okQueue prio)
    (let k := 8 * port + prio
     match soq s k with
     | [] => s
     | d :: _ =>
       if now s < d.headSince + parkNs s then s
       else finish (discardDesc (popSoq s k) d 0x53))

/-- A source raised at the first item after each read of the counter that counts it (R492). -/
def raiseFirst (s : State) (id source code data : Nat) : State :=
  if s.events.seen.contains id then s
  else raiseDev { s with events := { s.events with seen := id :: s.events.seen } } source code data

/-- The promotion a context waits for has become late for it (R105, R506). -/
def markLate (s : State) (x : Ctx) : State :=
  match x.parkedOn with
  | some (.key table key) =>
    { s with stk := { s.stk with promotions := s.stk.promotions.map (fun p =>
        if p.table == table && p.key == key then { p with late := true } else p) } }
  | _ => s

/-- The lines being read again for which a failed packet's threads wait have become late for it (R311, R506). -/
def markLateReads (s : State) (c : Nat) : State :=
  let waiting := s.threads.filter (fun t => t.2.ctxId == some c)
  let late := (s.dram.retrying.map (fun l => (waiting.filter (fun t => waitsFor l.1 l.2 t.2)).map (fun t => (l.1, l.2, tidPan t.1)))).flatten
  s.setDram { s.dram with lateReads := s.dram.lateReads ++ late }

/-- LIFETIME_EXPIRY (R102, R105): the packet fails once with LIFETIME. -/
def execLifetimeExpiry (ctx : Nat) (s : State) : Host.Outcome State Fault Refusal :=
  checked (okCtx ctx)
    (match s.ctx? ctx with
     | none => s
     | some x =>
       if (x.state == .ending && !x.waitEgress) || decide (now s < x.lifeEnd) then s
       else
         let s := markLateReads (markLate s x) ctx
         let s := raiseFirst s (cid 5 x.desc.tenant 0x222) 0x0E1 1 0
         finish (failCtx s ctx 0x22 false 6))

/-- UNWIND_COMPLETE (R112): the packet returns to READY at the head of its level. -/
def execUnwindComplete (ctx : Nat) (s : State) : Host.Outcome State Fault Refusal :=
  checked (okCtx ctx)
    (match s.ctx? ctx with
     | none => s
     | some x =>
       if x.state == .unwind then
         let s := s.setMeridian { s.meridian with unwindDue := AMap.del s.meridian.unwindDue ctx }
         let x := { x with state := .ready }
         finish (readyCtx (s.setCtx ctx x) ctx x true)
       else s)

/-- COMMIT (R114): the oldest packet of a domain that is DONE, or whose run has ended. -/
def execCommit (express : Bool) (domain : Nat) (s : State) : Host.Outcome State Fault Refusal :=
  checked (okDomain domain)
    (match (s.dom (domKey express domain)).flight with
     | [] => s
     | c :: _ =>
       match s.ctx? c with
       | none => s
       | some x =>
         if (x.state == .done || x.state == .ending) && x.failed.isNone then finish (commit s c) else s)

/-- Where a Pan holds a version of a program (R104, R408). -/
def loadedAt (s : State) (pan : Nat) (id : Nat) (p : Prog) : LoadedProgram :=
  let current := (AMap.find s.legend.programs id).any (fun q => q.version == p.version)
  AMap.at (s.pan pan).programs (if current then id else id + 65536 * p.version) ⟨0, 0⟩

/-- Whether the tasks of a Pan run guarded whatever their programs say (R508). -/
def panGuarded (s : State) (pan : Nat) : Bool := decide (now s < AMap.at s.contain.guardedUntil pan 0)

/-- What a run of a packet's task starts with (R127, R181, R183). -/
def packetRun (s : State) (c : Nat) (x : Ctx) (p : Prog) : RunSpec :=
  let pan := ctxPan c
  let at_ := loadedAt s pan x.desc.program p
  { task := .packet c, program := x.desc.program, base := at_.base, size := at_.size, binding := p.binding,
    tenant := x.desc.tenant, prio := x.prio, level := 2, guard := p.guard || p.guardSelected || panGuarded s pan,
    l2 := p.cpen % 8, l1 := p.cpen / 8 % 8, env := (AMap.at (s.pan pan).envs p.env (0, [])).2, entry := p.entry,
    arg := 0x00100200, w2 := 0, chanMap := p.chanMap }

/-- What an activation of a persistent task starts with (R181, R183, R193). -/
def taskRun (s : State) (pan slot : Nat) (k : PTask) (p : Prog) : RunSpec :=
  let id := fld k.desc 0 16
  let at_ := loadedAt s pan id p
  { task := .persistent pan slot, program := id, base := at_.base, size := at_.size, binding := p.binding,
    tenant := taskTenant k, prio := taskPrio k, level := 2, guard := bit k.desc 21 || p.guardSelected || panGuarded s pan,
    l2 := fld k.desc 22 3, l1 := fld k.desc 25 3, env := (AMap.at (s.pan pan).envs (fld k.desc 44 8) (0, [])).2,
    entry := fld k.desc 96 32, arg := BitVec.ofNat 64 (fld k.desc 128 64),
    w2 := BitVec.ofNat 64 (k.flags &&& wakeMask k), chanMap := BitVec.ofNat 128 (fld k.desc 192 128) }

/-- The bytes of a frame as received, without FCS (R127, R275). -/
def frameBytes (s : State) (d : Desc) : List Byte :=
  ((d.cells.map (fun h => match AMap.find s.cote.cells h with | none => [] | some c => c.data)).flatten).take (d.len - 4)

/-- A dispatch decision in the trace (R209): the wait in units of 8 engine cycles of 0.5 ns. -/
def traceDispatch (s : State) (t : Nat) (e : ReadyEntry) (prio tenant program ctx : Nat) : State :=
  traceAdd s (tidPan t)
    { epoch := s.power.epoch, ns := now s, kind := 0, cause := 0, prio := prio, base := prio, tid := t, context := ctx,
      tenant := tenant, program := program, wait := min 65535 ((now s - e.since) / 4), handle := handleOf s e.task }

/-- A thread takes an entry of the ready list: its run or activation starts (R102, R183, R189, R193). -/
def takeEntry (s : State) (t : Nat) (e : ReadyEntry) : State :=
  let pan := tidPan t
  let s := panCount (readyDrop s pan e.task) pan 8
  match e.task with
  | .packet c =>
    match s.ctx? c with
    | none => s
    | some x =>
      (match ctxProg s x with
      | none => s
      | some p =>
        let spec := speculative s c
        let window := Memory.setBytes [] 512 (frameBytes s x.desc)
        let s := s.setCtx c { x with state := if spec then .runSpec else .runNonspec, window := window, dirty := [],
                                     pktLen := x.desc.len - 4, serialRun := runsSerial s x }
        let s := if runsSerial s x then devCount s 2 3 pan x.desc.tenant 1 else s
        let s := if x.replays > 0 then devCount s 2 2 pan x.desc.tenant 1 else s
        startRun (traceDispatch s t e x.prio x.desc.tenant x.desc.program c) t (packetRun s c x p))
  | .persistent p slot =>
    match s.task? p slot with
    | none => s
    | some k =>
      (match AMap.find s.legend.programs (fld k.desc 0 16) with
      | none => s
      | some q =>
        let run := taskRun s p slot k q
        let s := traceDispatch s t e (taskPrio k) (taskTenant k) (fld k.desc 0 16) 0
        startRun (s.setTask p slot { k with state := .running, flags := k.flags - (k.flags &&& wakeMask k), waiters := [] }) t run)
  | _ => s

/-- Whether an entry may start now: a serialized run waits until it is non-speculative (R113); Legend starts no new
activation once STANDBY or OFF is ordered (R481). -/
def entryStarts (s : State) (e : ReadyEntry) : Bool :=
  match e.task with
  | .packet c => match s.ctx? c with | none => true | some x => !(runsSerial s x && speculative s c)
  | _ => !standbyHolds s

/-- The oldest eligible entry of the highest non-empty level for a core kind (R187, R189). -/
def firstEntry (s : State) (pan : Nat) (cc : Bool) : Option ReadyEntry :=
  (List.range 15).findSome? (fun l => (AMap.at (s.pan pan).ready (l + 1) []).find? (fun e => e.cc == cc && entryStarts s e))

/-- Whether dispatch may give an entry to a thread (R189). -/
def dispatchable (s : State) (t : Nat) : Bool :=
  okTid t && (pool s t).contains t && !AMap.has (s.pan (tidPan t)).ccPending (tidCore t) &&
    (onCc t || decide ((pool s t).length > fld (s.pan (tidPan t)).sched 20 3))

/-- The threads of a Pan that dispatch considers before a thread: lower ones of its core kind (R189). -/
def earlierThreads (t : Nat) : List Nat :=
  (List.range 256).filterMap (fun i =>
    let u := 256 * tidPan t + i
    if u < t && onCc u == onCc t then some u else none)

/-- TASK_DISPATCH (R189): a free thread takes an entry, when no free thread of its kind comes before it. -/
def execTaskDispatch (tid : Nat) (s : State) : Host.Outcome State Fault Refusal :=
  checked (okTid tid)
    (let pan := tidPan tid
     if !serves s || !panAwake s pan || !panServes s pan || !dispatchable s tid || (earlierThreads tid).any (dispatchable s) then s
     else match firstEntry s pan (onCc tid) with
       | none => s
       | some e => finish (takeEntry s tid e))

/-- The lowest PE of the watch Pan whose thread 0 is idle (R117). -/
def urgentThread (s : State) : Option Nat :=
  ((List.range 30).map (fun c => 256 * watchPan s + 8 * c)).find? (fun t => (s.thread t).task == .none)

/-- EXPRESS_DISPATCH (R117): the first entry of level 0 whose program is built for a PE (R187). -/
def execExpressDispatch (s : State) : Host.Outcome State Fault Refusal :=
  .next
    (let pan := watchPan s
     if !serves s || !panAwake s pan || !panServes s pan then s
     else match (AMap.at (s.pan pan).ready 0 []).find? (fun e => !e.cc), urgentThread s with
       | some e, some t => finish (takeEntry s t e)
       | _, _ => s)

/-- PAN_WAKE (R27): the wake cost has passed. -/
def execPanWake (pan : Nat) (s : State) : Host.Outcome State Fault Refusal :=
  checked (okPan pan)
    (match (s.pan pan).power with
     | .waking since cost =>
       if now s < since + cost then s else s.setPan pan { s.pan pan with power := .awake, idleSince := now s }
     | _ => s)

/-- Whether a thread keeps its Pan from being idle: it runs a task that is not the supervisor or Legend (R479). -/
def busyThread (x : Thread) : Bool :=
  match x.task with
  | .none => false
  | .supervisor _ => false
  | .legend => false
  | _ => true

/-- Whether a Pan is idle (R197, R479). -/
def panIdle (s : State) (pan : Nat) : Bool :=
  let p := s.pan pan
  p.ready.all (fun l => l.2.isEmpty) && !s.threads.any (fun t => tidPan t.1 == pan && busyThread t.2) &&
    !p.delays.any (fun d => decide (d.expiry ≤ p.tick + 1))

/-- The sleep an idle Pan takes in the state in force, and the idle time before it (R24, R479). -/
def gateOf (s : State) (pan : Nat) : Option (PanPower × Ns) :=
  let deep := match s.power.state with | .doze => 1 | .nap => 2 | _ => 0
  let limit := if pan == watchPan s && expressEn s then min deep (watchSleep s) else deep
  let after := if deep == 2 then 50000 else 2000
  match limit with
  | 0 => none
  | 1 => some (.clockGated, after)
  | _ => some (.powerGated, after)

/-- PAN_GATE (R479): Pan 0 is never gated. -/
def execPanGate (pan : Nat) (s : State) : Host.Outcome State Fault Refusal :=
  checked (okPan pan)
    (let p := s.pan pan
     match gateOf s pan with
     | none => s
     | some (g, after) =>
       if pan != 0 && (p.power == .awake || p.power == .clockGated) && panIdle s pan && decide (p.idleSince + after ≤ now s)
       then s.setPan pan { p with power := g } else s)

/-- Whether the first entry of a Pan's delay list is due (R197). -/
def delayDue (p : Pan) : Bool := p.delays.head?.any (fun d => decide (d.expiry ≤ p.tick))

/-- Threads whose expiry has been reached released in the list's order, as far as the first period timer that is due, which
is an event of its own (R197); the fuel is the number of entries. -/
def releaseDelays : Nat → State → Nat → State
  | 0, s, _ => s
  | n + 1, s, pan =>
    let p := s.pan pan
    match p.delays with
    | [] => s
    | e :: rest =>
      match e.who with
      | .period _ => s
      | .thread t => if e.expiry ≤ p.tick then releaseDelays n (wake (s.setPan pan { p with delays := rest }) t 0 0) pan else s

/-- DELAY_EXPIRY (R195, R197): a tick boundary of a Pan; what was due at the one before has been released. -/
def execDelayExpiry (pan : Nat) (s : State) : Host.Outcome State Fault Refusal :=
  checked (okPan pan)
    (let p := s.pan pan
     if !trafficUp s || delayDue p || decide (now s < p.tickAt + p.tickNs) then s
     else
       let s := s.setPan pan { p with tick := p.tick + 1, tickAt := p.tickAt + p.tickNs, tickNs := fld p.sched 0 20 }
       finish (releaseDelays p.delays.length s pan))

/-- PERIOD_EXPIRY (R196, R197): a period timer in its turn on the delay list sets flag 31, or counts an overrun, and runs
on; a gated Pan wakes for it. Then the threads behind it are released. -/
def execPeriodExpiry (pan slot : Nat) (s : State) : Host.Outcome State Fault Refusal :=
  checked (okPan pan && decide (slot < 1024))
    (match (s.pan pan).delays, s.task? pan slot with
     | e :: rest, some k =>
       if e.who != .period slot || decide ((s.pan pan).tick < e.expiry) then s
       else
         let s := s.setPan pan { s.pan pan with delays := insertDelay { e with expiry := e.expiry + fld k.desc 352 32 } rest }
         let s := if Nat.testBit k.flags 31 then panCount s pan 3 else setFlags (wakePan s pan) pan slot (2 ^ 31)
         finish (releaseDelays (s.pan pan).delays.length s pan)
     | _, _ => s)

/-- STARVED (R208): an entry has waited beyond STARVE_US, counted at most once. -/
def execStarved (pan level pos : Nat) (s : State) : Host.Outcome State Fault Refusal :=
  checked (okPan pan && decide (level < 16))
    (let p := s.pan pan
     let us := fld p.sched 24 16
     let l := AMap.at p.ready level []
     match l[pos]? with
     | none => s
     | some e =>
       if us == 0 || e.starved || decide (now s ≤ e.since + us * 1000) then s
       else
         let s := s.setPan pan { p with ready := AMap.put p.ready level (l.set pos { e with starved := true }) }
         finish (raiseDev (panCount s pan 9) (0x102 + 16 * pan) 1 0))

end Sys2Proof.Machine
end

