-- ==== Sys2Proof/Machine/Ports.lean ====
section
/-! DEFINITION. The port complex: flow control, links, optics, the laser interlock, and the commands of area 0x02 but
those of MACsec (R33–R46, R56–R67). -/

namespace Sys2Proof.Machine

/-- The run clock in picoseconds. -/
def nowPs (s : State) : Ps := now s * 1000

/-- Pause quanta of 512 bit times of a logical port, in picoseconds (R41). -/
def quantaPs (s : State) (l time : Nat) : Ps := time * 5120000 / lportRate s l

/-- The address of MAC control frames (R41). -/
def pauseAddress : Nat := 0x0180C2000001

/-- Whether a MAC control frame is one that the MAC accepts (R41). -/
def controlOk (p : LPort) (dest : BitVec 48) (len : Nat) : Bool :=
  (dest.toNat == pauseAddress || dest.toNat == fld p.map 64 48) && len == 64

/-- An obeyed pause time for one priority, decoded `age` picoseconds after the frame's last bit (R42). The answer says
whether a zero met no running pause. -/
def LPort.pause (p : LPort) (key : Nat) (t end_ : Ps) (time span : Nat) : LPort × Bool :=
  let running := match AMap.find p.pauses key with
    | none => none
    | some x => if t < x.expiry then some x else none
  if time == 0 then
    match running with
    | none => (p, true)
    | some _ => ({ p with pauses := AMap.del p.pauses key }, false)
  else
    let expiry := end_ + span
    if expiry ≤ t then ({ p with pauses := AMap.del p.pauses key }, false)
    else ({ p with pauses := AMap.put p.pauses key ⟨expiry, (running.map (·.stopped)).getD false⟩ }, false)

/-- A received PAUSE frame (R41, R42). -/
def pauseFrame (s : State) (l : Nat) (dest : BitVec 48) (len time age : Nat) : State :=
  let p := s.lport l
  if !controlOk p dest len then countLport s l 17 1
  else if fcMode p != 1 then countLport s l 11 1
  else
    let r := p.pause 8 (nowPs s) (nowPs s - age) time (quantaPs s l time)
    let s := countLport (s.setLport l r.1) l 10 1
    if r.2 then countLport s l 15 1 else s

/-- One enabled PCP of a received PFC frame (R42). -/
def pfcPcp (l age : Nat) (times : BitVec 128) (s : State) (pcp : Nat) : State :=
  let p := s.lport l
  if !bit p.cfg (8 + pcp) then countLport s l 14 1
  else
    let time := fld times (16 * (7 - pcp)) 16
    let r := p.pause pcp (nowPs s) (nowPs s - age) time (quantaPs s l time)
    let s := s.setLport l r.1
    if r.2 then countLport s l 15 1 else s

/-- A received PFC frame (R41, R42): its times, PCP 0 first, in the 16 bytes after the class-enable vector. -/
def pfcFrame (s : State) (l : Nat) (dest : BitVec 48) (len : Nat) (enable : BitVec 8) (times : BitVec 128) (age : Nat) : State :=
  let p := s.lport l
  if !controlOk p dest len then countLport s l 17 1
  else if fcMode p != 2 then countLport s l 13 1
  else ((List.range 8).filter (fun c => bit enable c)).foldl (pfcPcp l age times) (countLport s l 12 1)

/-- PAUSE_RECEIVED (R42); during a traffic-core action it is discarded like every frame (R509). -/
def execPauseReceived (lport : Nat) (dest : BitVec 48) (len time age : Nat) (s : State) : Host.Outcome State Fault Refusal :=
  checked (okLport lport)
    (if !(s.lport lport).linkUp then s
     else finish (if s.contain.core.isSome then countPort s lport 0x59 else pauseFrame s lport dest len (time % 65536) age))

/-- PFC_RECEIVED (R42, R509). -/
def execPfcReceived (lport : Nat) (dest : BitVec 48) (len : Nat) (enable : BitVec 8) (times : BitVec 128) (age : Nat) (s : State) :
    Host.Outcome State Fault Refusal :=
  checked (okLport lport)
    (if !(s.lport lport).linkUp then s
     else finish (if s.contain.core.isSome then countPort s lport 0x59 else pfcFrame s lport dest len enable times age))

/-- PAUSE_EXPIRY (R42): a pause ends at its time, whether or not it ever stopped a queue. -/
def execPauseExpiry (lport pcp : Nat) (s : State) : Host.Outcome State Fault Refusal :=
  checked (okLport lport && okPcp pcp)
    (let p := s.lport lport
     match AMap.find p.pauses pcp with
     | none => s
     | some x => if nowPs s < x.expiry then s else s.setLport lport { p with pauses := AMap.del p.pauses pcp })

/-- XOFF_REPEAT (R44): half of PAUSE_TX_TIME after its last frame, an XOFF that still holds is due again. -/
def execXoffRepeat (lport pcp : Nat) (s : State) : Host.Outcome State Fault Refusal :=
  checked (okLport lport && okPcp pcp)
    (let p := s.lport lport
     match AMap.find p.xoffRepeat pcp with
     | none => s
     | some t =>
       if nowPs s < t || !maskHas p.xoff pcp then s
       else s.setLport lport { p with xoffPending := maskSet p.xoffPending pcp, xoffRepeat := AMap.del p.xoffRepeat pcp })

/-- Everything that flow control holds for a port cleared (R35, R45). -/
def LPort.clearFlow (p : LPort) : LPort :=
  { p with pauses := [], xoff := 0, xoffPending := 0, xonPending := 0, xoffRepeat := [] }

/-- A logical port's link goes down (R35, R45, R56, R61): event, flow-control state cleared, queues emptied. -/
def takeLinkDown (reason : Nat) (s : State) (l : Nat) : State :=
  let p := s.lport l
  let was := p.linkUp
  let p := { p.clearFlow with linkUp := false, aligned := false, linkChanged := p.linkChanged || was }
  let s := drainQueues reason (s.setLport l p) l
  if was then raiseDev s (0x020 + l) 2 0 else s

/-- The first classifier bank of the replica that serves a logical port, and the number of its banks (R246). -/
def replicaBanks (s : State) (l : Nat) : List Nat :=
  let per := 1 + fld s.gaz.cfg 0 3
  (List.range per).map (fun i => l / 8 * per + i)

/-- Banks that may not sleep are awake (R271). -/
def wakeBanks (s : State) (bs : List Nat) : State :=
  bs.foldl (fun s b =>
    let k := AMap.at s.gaz.banks b .reset
    if k.asleep then { s with gaz := { s.gaz with banks := AMap.put s.gaz.banks b { k with asleep := false, lastSearch := now s } } } else s) s

/-- A fibre lane: 4 × physical port + lane. -/
def State.lane (s : State) (i : Nat) : Lane := AMap.at s.ports.lanes i .reset
/-- Replace a fibre lane. -/
def State.setLane (s : State) (i : Nat) (x : Lane) : State := { s with ports := { s.ports with lanes := AMap.put s.ports.lanes i x } }

/-- The logical port that uses a lane of a physical port (R34). -/
def laneLport (s : State) (port lane : Nat) : Nat :=
  4 * port + (match portMode s port with
    | 0 => 0
    | 1 => lane / 2
    | _ => lane)

/-- The lanes of a logical port: none of one that its port's mode does not have (R34). -/
def lanesOf (s : State) (l : Nat) : List Nat :=
  ((List.range 4).filter (fun i => laneLport s (l / 4) i == l)).map (4 * (l / 4) + ·)

/-- LASER_ON of a logical port: the lasers of all its lanes are lit (R60). -/
def laserOn (s : State) (l : Nat) : Bool := lportExists s l && (lanesOf s l).all (fun i => (s.lane i).lit)

/-- Some lasers set lit or dark. -/
def setLasers (s : State) (lanes : List Nat) (lit : Bool) : State :=
  lanes.foldl (fun s i => s.setLane i { s.lane i with lit := lit }) s

/-- XOFF asserted for every PCP of PFC_TX_EN of a logical port whose link is up (R509 step 1). -/
def holdPort (s : State) (l : Nat) : State :=
  let p := s.lport l
  if !p.linkUp then s
  else s.setLport l ((List.range 8).foldl (fun p c => if sendsPfc p c then p.assertXoff c else p) p)

/-- LINK_UP (R45, R61, R484, R509): alignment has held for 100 ms; the port lights its lasers and its PLL is locked. -/
def execLinkUp (lport : Nat) (s : State) : Host.Outcome State Fault Refusal :=
  checked (okLport lport)
    (let p := s.lport lport
     if p.linkUp || !lportExists s lport || !adminUp p || !laserOn s lport || !trafficUp s || !s.power.pllLocked then s
     else
       let p := { p with linkUp := true, aligned := true, linkChanged := true }
       let s := raiseDev (wakeBanks (s.setLport lport p) (replicaBanks s lport)) (0x020 + lport) 1 0
       let s := (List.range 8).foldl (fun s q => syncXoff s (8 * lport + q)) s
       finish (if s.contain.core.isSome then holdPort s lport else s))

/-- LINK_DOWN (R61). -/
def execLinkDown (lport : Nat) (s : State) : Host.Outcome State Fault Refusal :=
  checked (okLport lport) (if (s.lport lport).linkUp then finish (takeLinkDown 0x31 s lport) else s)

/-- An optical engine. -/
def State.engine (s : State) (k : Nat) : Engine := AMap.at s.ports.engines k .reset
/-- Replace an optical engine. -/
def State.setEngine (s : State) (k : Nat) (e : Engine) : State := { s with ports := { s.ports with engines := AMap.put s.ports.engines k e } }

/-- Whether the lasers of a logical port must be off, whatever its settings (R63, R65, R66, R481, R510). -/
def mustBeDark (s : State) (l : Nat) : Bool :=
  s.ports.laserEnN || decide (now s < s.ports.darkUntil) || (s.engine (l / 8)).dark || !trafficUp s || standbyHolds s ||
    s.contain.hold || s.trust.zeroizing.isSome

/-- The lasers of a logical port off, and its link down with them (R56, R61). -/
def turnDark (s : State) (l : Nat) : State :=
  let s := setLasers s ((lanesOf s l).filter (fun i => (s.lane i).lit)) false
  if (s.lport l).linkUp then takeLinkDown 0x31 s l else s

/-- Lasers of a logical port set as they may be: dark where they must be, else lit by ADMIN_UP; lasers that a mode change
has left lit stay lit (R35, R66). -/
def light (s : State) (l : Nat) : State :=
  if mustBeDark s l then turnDark s l
  else if lportExists s l && adminUp (s.lport l) then setLasers s ((lanesOf s l).filter (fun i => !(s.lane i).lit)) true
  else s

/-- The logical ports of an optical engine. -/
def engineLports (k : Nat) : List Nat := (List.range 8).map (fun i => 8 * k + i)

/-- OPTICS_THRESH of a physical port. -/
def threshOf (s : State) (port : Nat) : BitVec 64 := AMap.at s.ports.thresh port (opticsThreshReset port)

/-- An optics alarm noted in the status of some logical ports (R60). -/
def noteAlarm (s : State) (ls : List Nat) : State :=
  (ls.filter (lportExists s)).foldl (fun s l => s.setLport l { s.lport l with opticsAlarmSeen := true }) s

/-- A condition with a set and a clear threshold (R62): its new state and the code of its event, if it changes. -/
def condition (was sets clears : Bool) (code : Nat) : Bool × Option Nat :=
  if !was && sets then (true, some code) else if was && clears then (false, some (code + 1)) else (was, none)

/-- Events of some conditions, the alarms noted where one sets. -/
def raiseConditions (s : State) (source data : Nat) (ls : List Nat) (cs : List (Bool × Option Nat)) : State :=
  cs.foldl (fun s c =>
    match c.2 with
    | none => s
    | some code =>
      let s := raiseDev s source code data
      if c.1 then noteAlarm s ls else s) s

/-- One lane evaluated (R62). -/
def evaluateLane (engine : Nat) (s : State) (r : LaneReading) : State :=
  if r.port / 2 != engine || r.lane > 3 then s
  else
    let t := threshOf s r.port
    let i := 4 * r.port + r.lane
    let x := s.lane i
    let low := condition x.rxLow (decide (r.power ≤ signedOf 8 (fld t 16 8))) (decide (r.power ≥ signedOf 8 (fld t 24 8))) 1
    let high := condition x.rxHigh (decide (r.power ≥ signedOf 8 (fld t 32 8))) (decide (r.power ≤ signedOf 8 (fld t 40 8))) 3
    let los := condition x.los (decide (r.power ≤ -120)) (decide (r.power ≥ -110)) 5
    let bias := condition x.biasOut (decide (r.bias ≥ 200) || decide (r.bias ≤ -200)) (decide (r.bias ≤ 150) && decide (r.bias ≥ -150)) 7
    let s := s.setLane i { rxPower := r.power, bias := r.bias, rxLow := low.1, rxHigh := high.1, los := los.1, biasOut := bias.1, lit := x.lit }
    raiseConditions s (0x0A0 + 2 * engine) (r.port * 2 ^ 312 + r.lane * 2 ^ 304) [laneLport s r.port r.lane] [low, high, los, bias]

/-- The FEC conditions of a logical port over one window (R62); ratios are in units of 10^-12. -/
def evaluateFec (engine : Nat) (s : State) (r : FecReading) : State :=
  if r.lport / 8 != engine || !lportExists s r.lport then s
  else
    let t := threshOf s (r.lport / 4)
    let p := s.lport r.lport
    let deg := condition p.fecDegraded (decide (r.ber ≥ fld t 0 4 * 10 ^ (12 - fld t 4 4))) (decide (r.ber ≤ fld t 8 4 * 10 ^ (12 - fld t 12 4))) 3
    let unc := condition p.fecUncorr (decide (r.uncorr ≥ 1)) (r.uncorr == 0) 5
    let s := s.setLport r.lport { p with aligned := r.aligned, fecDegraded := deg.1, fecUncorr := unc.1, fecUncorrSeen := p.fecUncorrSeen || decide (r.uncorr ≥ 1) }
    let s := countLport (countLport s r.lport 26 r.corrected) r.lport 27 r.uncorr
    raiseConditions s (0x020 + r.lport) 0 [r.lport] [deg, unc]

/-- The temperature conditions of an engine (R62, R63): at 85 °C its lasers go off and both its ports down. -/
def evaluateEngine (s : State) (k : Nat) (temp : Int) : State :=
  let t := threshOf s (2 * k)
  let e := s.engine k
  let warm := condition e.warm (decide (temp ≥ (fld t 48 7 : Nat))) (decide (temp ≤ (fld t 55 7 : Nat))) 1
  let hot := condition e.hot (decide (temp ≥ 80)) (decide (temp ≤ 77)) 3
  let scorched := decide (temp ≥ 85) && !e.dark
  let s := s.setEngine k { temp := temp, warm := warm.1, hot := hot.1, dark := e.dark || scorched }
  let s := raiseConditions s (0x0A1 + 2 * k) 0 (engineLports k) [warm, hot]
  if scorched then (engineLports k).foldl light (noteAlarm (raiseDev s (0x0A1 + 2 * k) 5 0) (engineLports k)) else s

/-- OPTICS_EVALUATION (R62–R64). -/
def execOpticsEvaluation (engine : Nat) (temp : Int) (lanes : List LaneReading) (fec : List FecReading) (s : State) :
    Host.Outcome State Fault Refusal :=
  checked (okEngine engine)
    (if !trafficUp s then s
     else finish (evaluateEngine (fec.foldl (evaluateFec engine) (lanes.foldl (evaluateLane engine) s)) engine temp))

/-- LASER_EN_N_HIGH (R65): every laser goes dark and every logical port down. -/
def execLaserEnNHigh (s : State) : Host.Outcome State Fault Refusal :=
  .next (if s.ports.laserEnN then s
    else
      let s := { s with ports := { s.ports with laserEnN := true } }
      let s := if powered s then raiseDev s 0x0B0 1 0 else s
      finish ((List.range 64).foldl light s))

/-- LASER_EN_N_LOW (R66): the lasers stay dark for 100 ms. -/
def execLaserEnNLow (s : State) : Host.Outcome State Fault Refusal :=
  .next (if !s.ports.laserEnN then s
    else
      let s := { s with ports := { s.ports with laserEnN := false, darkUntil := now s + 100000000 } }
      finish (if powered s then raiseDev s 0x0B0 2 0 else s))

/-- LASER_LIGHT (R66). -/
def execLaserLight (s : State) : Host.Outcome State Fault Refusal :=
  .next ((List.range 64).foldl light s)

/-- The logical port that an operator command names exists in its port's mode, or the command finds no object (R34). -/
def withLport (s : State) (l : Nat) (go : State × Ending) : State × Ending :=
  if lportExists s l then go else endsCode s 0x0107

/-- The logical ports of a mode of a physical port. -/
def modeLports (n mode : Nat) : List Nat := (List.range (subPorts mode)).map (fun m => 4 * n + m)

/-- A mode change (R35): the old ports go down and their queues empty with PORT_RECONFIG; the new ones begin alignment.
No laser changes: a lit lane stays lit, so that each old port's frame on the fibre ends at its boundary, and a dark one
stays dark. SHAPE_RATE of a queue is not tested against the new rate (assumption 85). -/
def changeMode (s : State) (n mode : Nat) : State :=
  let s := (modeLports n (portMode s n)).foldl (takeLinkDown 0x30) s
  s.setLport (4 * n) { s.lport (4 * n) with cfg := setFld (s.lport (4 * n)).cfg 0 2 mode }

/-- Ranges of PORT (R34, R41, R57); sub-ports other than 0 hold no MODE. -/
def portBad (l : Nat) (v : BitVec 64) : List (Bool × Status) :=
  reservedBad v [(38, 2), (56, 8)] 8 ++
  [(fld v 0 2 == 3 || (l % 4 != 0 && fld v 0 2 != 0), badField 0x0300 8 0), (fld v 4 2 == 3, badField 0x0300 8 4),
   (fld v 6 2 == 3, badField 0x0300 8 6), (decide (fld v 24 14 < 1518) || decide (fld v 24 14 > 9216), badField 0x0300 8 24)]

/-- The first secure channel on a physical port (R36): every sub-port's lanes change with the mode. Which of several is
"the first" is the model's choice: the one created first (assumption 85). -/
def firstChannel (s : State) (n : Nat) : Option SecChan := s.ports.chans.find? (fun c => c.lport / 4 == n)

/-- PORT_WRITE (R34–R36, R56, R57, R67). The refusal names the channel by the low 32 bits of its SCI, and a record that
changes the mode and clears ADMIN_UP leaves the lanes lit (assumption 85). A change of FC_MODE, PFC_RX_EN or PFC_TX_EN leaves running pauses and asserted
XOFF as they are (assumption 85). -/
def execPortWrite (c : CmdRef) (lport : Nat) (record : BitVec 64) (s : State) : Host.Outcome State Fault Refusal :=
  .next (finish (runCommand s c 0x0200 (fun _ s => withLport s lport (
    let n := lport / 4
    let changes := lport % 4 == 0 && fld record 0 2 != portMode s n
    let blocker := if changes then firstChannel s n else none
    unlessBad s (portBad lport record ++ [(blocker.isSome, failWith 0x0500 3 ((blocker.map (·.sci)).getD 0 % 2 ^ 32))])
      (let s := if changes then changeMode s n (fld record 0 2) else s
       let s := s.setLport lport { s.lport lport with cfg := record }
       let s := if adminUp (s.lport lport) then light s lport
         else drainQueues 0x31 (if changes then s else turnDark s lport) lport
       (s, .done (plain (if bit record 2 && s.ports.laserEnN then 4 else 0) true) []))))))

/-- PORT_READ (R57). -/
def execPortRead (c : CmdRef) (lport : Nat) (s : State) : Host.Outcome State Fault Refusal :=
  .next (runCommand s c 0x0201 (fun _ s => withLport s lport (okRead s (beBytes 8 (s.lport lport).cfg.toNat))))

/-- PORT_MAP_WRITE (R58). -/
def execPortMapWrite (c : CmdRef) (lport : Nat) (record : BitVec 320) (s : State) : Host.Outcome State Fault Refusal :=
  .next (runCommand s c 0x0202 (fun _ s => withLport s lport (
    unlessBad s (reservedBad record [(20, 4), (48, 16), (112, 16)] 8 ++
      [(decide (fld record 0 16 < 0x0600), badField 0x0300 8 0), (fld record 64 48 == 0 || bit record 104, badField 0x0300 8 64)])
      (okDone (s.setLport lport { s.lport lport with map := record })))))

/-- PORT_MAP_READ (R58). -/
def execPortMapRead (c : CmdRef) (lport : Nat) (s : State) : Host.Outcome State Fault Refusal :=
  .next (runCommand s c 0x0203 (fun _ s => withLport s lport (okRead s (beBytes 40 (s.lport lport).map.toNat))))

/-- Whether the strict queues of a port are its queues 0 to k (R54). -/
def strictPrefix : List Bool → Bool
  | [] => true
  | true :: rest => strictPrefix rest
  | false :: rest => !rest.any id

/-- Shaper tokens of a queue now, in units of 10^-4 bit (R55); a shaper starts full (assumption 13). -/
def shaperTokens (s : State) (p : LPort) (q : Nat) (e : EQueue) : Nat :=
  let cap := fld e.cfg 32 16 * 8192 * 10000
  match AMap.find p.tokens q with
  | none => cap
  | some (n, t) => min cap (n + fld e.cfg 16 16 * (nowPs s - t))

/-- A queue's shaper after its record has changed (R55): the tokens gathered at the old rate stay, up to the new burst;
an unshaped queue has none to keep, and starts full (assumption 13). -/
def retuneShaper (s : State) (l q : Nat) (old : EQueue) : State :=
  let p := s.lport l
  let cap := fld (s.queue l q).cfg 32 16 * 8192 * 10000
  let tokens := if fld old.cfg 16 16 == 0 then AMap.del p.tokens q
    else AMap.put p.tokens q (min cap (shaperTokens s p q old), nowPs s)
  s.setLport l { p with tokens := tokens }

/-- QUEUE_WRITE (R54, R55, R59). -/
def execQueueWrite (c : CmdRef) (lport queue : Nat) (record : BitVec 64) (s : State) : Host.Outcome State Fault Refusal :=
  .next (runCommand s c 0x0204 (fun _ s => withLport s lport (
    if queue ≥ 8 then ends s (badField 0x0300 0 0)
    else
      let strict (q : Nat) : Bool := if q == queue then bit record 0 else bit (s.queue lport q).cfg 0
      unlessBad s (reservedBad record [(1, 7), (56, 8)] 8 ++
        [(decide (fld record 16 16 > lportRate s lport), badField 0x0300 8 16),
         (decide (fld record 32 16 < 16) || decide (fld record 32 16 > 4096), badField 0x0300 8 32),
         (!bit record 0 && fld record 8 8 == 0, badField 0x0301 8 8),
         (!strict 0 || !strictPrefix ((List.range 8).map strict), badField 0x0301 8 0)])
        (okDone (retuneShaper (s.setQueue lport queue { s.queue lport queue with cfg := record }) lport queue (s.queue lport queue))))))

/-- QUEUE_READ (R59). -/
def execQueueRead (c : CmdRef) (lport queue : Nat) (s : State) : Host.Outcome State Fault Refusal :=
  .next (runCommand s c 0x0205 (fun _ s => withLport s lport (
    if queue ≥ 8 then ends s (badField 0x0300 0 0) else okRead s (beBytes 8 (s.queue lport queue).cfg.toNat))))

/-- PCPs for which a received pause runs (R60); a pause of the whole port pauses every one. -/
def pausedBy (s : State) (p : LPort) : Nat :=
  p.pauses.foldl (fun m x => if nowPs s < x.2.expiry then (if x.1 == 8 then 0xFF else maskSet m x.1) else m) 0

/-- PORT_STATUS (R60). -/
def portStatus (s : State) (l : Nat) : Nat :=
  let p := s.lport l
  let los := (List.range 4).foldl (fun m i => if (s.lane (4 * (l / 4) + i)).los then maskSet m i else m) 0
  placeFields [(0, b2n p.linkUp), (1, b2n p.aligned), (2, b2n p.fecDegraded), (3, b2n (laserOn s l)), (4, b2n s.ports.laserEnN),
    (5, pausedBy s p), (13, p.xoff), (21, los), (32, b2n p.linkChanged), (33, b2n p.fecUncorrSeen), (34, b2n p.opticsAlarmSeen)]

/-- PORT_STATUS_READ (R60): the W1C bits that the mask names are cleared after the read. -/
def execPortStatusRead (c : CmdRef) (lport : Nat) (clear : BitVec 64) (s : State) : Host.Outcome State Fault Refusal :=
  .next (runCommand s c 0x0206 (fun _ s => withLport s lport (
    let p := s.lport lport
    let p' := { p with linkChanged := p.linkChanged && !bit clear 32, fecUncorrSeen := p.fecUncorrSeen && !bit clear 33,
                       opticsAlarmSeen := p.opticsAlarmSeen && !bit clear 34 }
    okData (s.setLport lport p') (beBytes 8 (portStatus s lport)))))

/-- A signed number as `k` bytes, two's complement. -/
def signedBytes (k : Nat) (v : Int) : List Byte := beBytes k (v % (2 ^ (8 * k) : Int)).toNat

/-- OPTICS_READ (R62): the measurements of a physical port and its engine (layout of the model, assumption 26). -/
def execOpticsRead (c : CmdRef) (port : Nat) (s : State) : Host.Outcome State Fault Refusal :=
  .next (runCommand s c 0x0207 (fun _ s =>
    if port ≥ 16 then ends s (badField 0x0300 0 32)
    else
      let e := s.engine (port / 2)
      okRead s (signedBytes 2 e.temp ++ beBytes 1 (b2n e.warm + 2 * b2n e.hot + 4 * b2n e.dark) ++ [0] ++
        ((List.range 4).map (fun i =>
          let x := s.lane (4 * port + i)
          signedBytes 2 x.rxPower ++ signedBytes 2 x.bias)).flatten ++
        beBytes 8 (threshOf s port).toNat)))

/-- Ranges of OPTICS_THRESH of a physical port (R64); ratios are compared in units of 10^-12. -/
def threshBad (port : Nat) (v : BitVec 64) : List (Bool × Status) :=
  let ratio (lo : Nat) : Nat := fld v lo 4 * 10 ^ (12 - fld v (lo + 4) 4)
  let sg (lo : Nat) : Int := signedOf 8 (fld v lo 8)
  let even := port % 2 == 0
  let ranged (lo : Nat) : Bool := decide (fld v lo 4 < 1) || decide (fld v lo 4 > 9)
  let expo (lo : Nat) : Bool := decide (fld v lo 4 < 4) || decide (fld v lo 4 > 8)
  reservedBad v [(62, 2)] 8 ++
  [(ranged 0, badField 0x0300 8 0), (expo 4, badField 0x0300 8 4), (decide (ratio 0 > 10 ^ 8), badField 0x0300 8 0),
   (ranged 8, badField 0x0300 8 8), (expo 12, badField 0x0300 8 12), (decide (ratio 8 ≥ ratio 0), badField 0x0300 8 8),
   (decide (sg 16 < -120) || decide (sg 16 > -40), badField 0x0300 8 16), (decide (sg 24 ≤ sg 16) || decide (sg 24 > -40), badField 0x0300 8 24),
   (decide (sg 32 < 0) || decide (sg 32 > 50), badField 0x0300 8 32), (decide (sg 40 ≥ sg 32) || decide (sg 40 < 0), badField 0x0300 8 40),
   (if even then decide (fld v 48 7 < 60) || decide (fld v 48 7 > 75) else fld v 48 7 != 0, badField 0x0300 8 48),
   (if even then decide (fld v 55 7 ≥ fld v 48 7) || decide (fld v 55 7 < 55) else fld v 55 7 != 0, badField 0x0300 8 55)]

/-- OPTICS_THRESH_WRITE (R64). -/
def execOpticsThreshWrite (c : CmdRef) (port : Nat) (record : BitVec 64) (s : State) : Host.Outcome State Fault Refusal :=
  .next (runCommand s c 0x0208 (fun _ s =>
    if port ≥ 16 then ends s (badField 0x0300 0 32)
    else unlessBad s (threshBad port record) (okDone { s with ports := { s.ports with thresh := AMap.put s.ports.thresh port record } })))

/-- OPTICS_ENABLE (R63): an engine held dark lights again once it is below 75 °C. -/
def execOpticsEnable (c : CmdRef) (engine : Nat) (s : State) : Host.Outcome State Fault Refusal :=
  .next (runCommand s c 0x0209 (fun _ s =>
    if engine ≥ 8 then ends s (badField 0x0300 0 32)
    else
      let e := s.engine engine
      if e.dark && decide (e.temp ≥ 75) then ends s (failWith 0x0503 3 engine)
      else okDone ((engineLports engine).foldl light (s.setEngine engine { e with dark := false }))))

/-- EtherTypes that the parser recognises (R71). -/
def knownEtherTypes (p : LPort) : List Nat :=
  [0x8100, 0x88A8, 0x0800, 0x86DD, 0x0806, 0x8847, 0x8848, 0x88E5, fld p.map 0 16]

/-- CMD_INBAND_WRITE (R387); the port's bucket keeps its tokens. -/
def execCmdInbandWrite (c : CmdRef) (lport : Nat) (record : BitVec 64) (s : State) : Host.Outcome State Fault Refusal :=
  .next (runCommand s c 0x020A (fun _ s => withLport s lport (
    let etype := fld record 16 16
    unlessBad s (reservedBad record [(4, 12), (46, 18)] 8 ++
      [(decide (etype < 0x0600) || (knownEtherTypes (s.lport lport)).contains etype,
          badField 0x0300 8 16),
       (fld record 32 14 == 0 || decide (fld record 32 14 > 10000), badField 0x0300 8 32)])
      (let b := retune (AMap.find s.sluice.cmdBuckets lport) (fld (s.lport lport).inband 32 14) 1024 1024 (now s)
       okDone ((s.setSluice { s.sluice with cmdBuckets := AMap.put s.sluice.cmdBuckets lport b }).setLport lport
        { s.lport lport with inband := record })))))

end Sys2Proof.Machine
end

