-- ==== Sys2Proof/Machine/Macsec.lean ====
section
/-! DEFINITION. MACsec and the egress scheduler: secure channels and associations, validation of received frames,
what a logical port transmits at a frame boundary (R44, R47–R55, R290, R292). -/

namespace Sys2Proof.Machine

/-- Whether a secure channel is the one that a command names: SCI, logical port and direction. -/
def SecChan.named (c : SecChan) (sci lport : Nat) (transmit : Bool) : Bool :=
  c.sci == sci && c.lport == lport && c.transmit == transmit

/-- The secure channel that a command names. -/
def chanNamed (s : State) (sci lport : Nat) (transmit : Bool) : Option SecChan :=
  s.ports.chans.find? (fun c => c.named sci lport transmit)

/-- Replace a secure channel. -/
def setChan (s : State) (c : SecChan) : State :=
  { s with ports := { s.ports with chans := s.ports.chans.map (fun x => if x.named c.sci c.lport c.transmit then c else x) } }

/-- The first PN that a channel's cipher suite does not have (R47). -/
def SecChan.pnEnd (c : SecChan) : Nat := if c.xpn then 2 ^ 64 else 2 ^ 32

/-- The default PN threshold (R51). -/
def pnDefault (xpn : Bool) : Nat := if xpn then 0xC000000000000000 else 0xC0000000

/-- Whether a port sends its SCI with ES set: the SCI is its address and port 1 (R47). -/
def ownSci (s : State) (l sci : Nat) : Bool := sci == fld (s.lport l).map 64 48 * 65536 + 1

/-- Bytes of the SecTAG that a channel sends (R47, R52). -/
def secTagBytes (s : State) (c : SecChan) : Nat :=
  if c.sciMode == 0 || (c.sciMode == 2 && !ownSci s c.lport c.sci) then 16 else 8

/-- The transmit channel of a frame: its tenant's on the logical port, else the operator's (assumption 28). -/
def txChan (s : State) (l tenant : Nat) : Option SecChan :=
  let mine (o : Nat) : Option SecChan := s.ports.chans.find? (fun c => c.transmit && c.lport == l && c.owner == o)
  match mine tenant with
  | some c => some c
  | none => mine operatorId

/-- An event of a channel (R492): DATA is its SCI and an AN. -/
def chanEvent (s : State) (c : SecChan) (an code : Nat) : State :=
  raise s (0x060 + c.lport) c.owner code (dataBytes 9 (c.sci * 256 + an))

/-- Whether a transmit SA can send (R51). -/
def SecChan.canSend (c : SecChan) (an : Nat) : Bool :=
  match AMap.find c.sas an with
  | none => false
  | some a => a.enabled && decide (a.pn < c.pnEnd)

/-- The channel with a SA that can send in use, at a frame boundary: the SA in use, else the next one; else the first
exhaustion without a next SA is reported (R51). The answer says whether it can send. R51 moves to the next SA only at an
exhaustion: where the SA in use has been deleted, frames drop until one is installed under its AN (assumption 85). -/
def rollChan (s : State) (c : SecChan) : State × SecChan × Bool :=
  if c.canSend c.an then (s, c, true)
  else
    let n := (c.an + 1) % 4
    let old := AMap.find c.sas c.an
    let gone := old.any (fun a => decide (a.pn ≥ c.pnEnd))
    let retire : AMap SecAssoc := match old with
      | none => c.sas
      | some a => AMap.put c.sas c.an { a with retired := true }
    if gone && c.canSend n then
      let c' := { c with an := n, sas := retire }
      (chanEvent (setChan s c') c' c.an 2, c', true)
    else if gone && !(old.any (·.retired)) then
      let c' := { c with sas := retire }
      (chanEvent (setChan s c') c' c.an 3, c', false)
    else (s, c, false)

/-- The PN of one frame used on the SA in use; its threshold reported once (R51). -/
def usePn (s : State) (c : SecChan) : State × Nat :=
  match AMap.find c.sas c.an with
  | none => (s, 0)
  | some a =>
    let reached := decide (a.pn + 1 ≥ c.pnThresh) && !a.thresholdRaised
    let a' := { a with pn := a.pn + 1, thresholdRaised := a.thresholdRaised || reached }
    let c' := { c with sas := AMap.put c.sas c.an a', frames := c.frames + 1 }
    let s := setChan s c'
    (if reached then chanEvent s c' c.an 1 else s, a.pn)

/-! ### The egress scheduler -/

/-- Bytes of a frame on the fibre, without MACsec: padded to 60, and its FCS (R5, R148). -/
def EgressFrame.wire (f : EgressFrame) : Nat := max f.len 60 + 4

/-- Whether a queue is stopped by a running pause (R42, R43). -/
def queuePaused (s : State) (p : LPort) (e : EQueue) : Bool :=
  let mask := fld e.cfg 48 8
  p.pauses.any (fun x => x.2.stopped && decide (nowPs s < x.2.expiry) && (if x.1 == 8 then mask != 0 else maskHas mask x.1))

/-- Shaper tokens that bytes on the fibre take. -/
def tokensFor (bytes : Nat) : Nat := bytes * 80000

/-- Whether a queue is eligible (R53): its head frame stands ready, it is not paused, and its shaper has the tokens. -/
def queueEligible (s : State) (l q : Nat) : Bool :=
  let p := s.lport l
  let e := s.queue l q
  match e.frames with
  | [] => false
  | f :: _ => f.staged && !queuePaused s p e && (fld e.cfg 16 16 == 0 || decide (tokensFor f.wire ≤ shaperTokens s p q e))

/-- Weighted queues in the order of the round, after the queue served last. -/
def roundOrder (s : State) (l turn : Nat) : List Nat :=
  let w := (List.range 8).filter (fun q => !bit (s.queue l q).cfg 0)
  w.filter (fun q => decide (turn < 8) && decide (turn < q)) ++ w.filter (fun q => !(decide (turn < 8) && decide (turn < q)))

/-- Bytes of a queue's head frame on the fibre. -/
def headWire (s : State) (l q : Nat) : Nat := match (s.queue l q).frames with | [] => 0 | f :: _ => f.wire

/-- Deficit round-robin (R53): each eligible queue in its turn receives its credit, until one covers its head frame. -/
def drrVisit (s : State) (l : Nat) : List Nat → AMap Nat → Option (Nat × AMap Nat)
  | [], _ => none
  | q :: rest, credit =>
    if queueEligible s l q then
      let c := AMap.at credit q 0 + 1024 * fld (s.queue l q).cfg 8 8
      if headWire s l q ≤ c then some (q, AMap.put credit q c) else drrVisit s l rest (AMap.put credit q c)
    else drrVisit s l rest credit

/-- The queue that the weighted queues' round chooses, with the credits then: the queue in turn while its credit covers
its head frame, else the next ones; ten rounds cover the longest frame. -/
def drrChoose (s : State) (l : Nat) : Option (Nat × AMap Nat) :=
  let p := s.lport l
  if p.turn < 8 && !bit (s.queue l p.turn).cfg 0 && queueEligible s l p.turn &&
      decide (headWire s l p.turn ≤ AMap.at p.credit p.turn 0) then some (p.turn, p.credit)
  else drrVisit s l (List.replicate 10 (roundOrder s l p.turn)).flatten p.credit

/-- The queue to transmit next, with the weighted credits then (R53 steps 2 and 3). -/
def chooseQueue (s : State) (l : Nat) : Option (Nat × AMap Nat) :=
  match (List.range 8).find? (fun q => bit (s.queue l q).cfg 0 && queueEligible s l q) with
  | some q => some (q, (s.lport l).credit)
  | none => drrChoose s l

/-- The head frame leaves its queue: credit and tokens are taken for its bytes on the fibre without SecTAG and ICV (R53,
R55; assumption 85). -/
def takeHead (s : State) (l q : Nat) (credit : AMap Nat) : State :=
  let p := s.lport l
  let e := s.queue l q
  let n := headWire s l q
  let strict := bit e.cfg 0
  let left := if strict then AMap.at credit q 0 else AMap.at credit q 0 - n
  let credit' := AMap.put credit q (if e.frames.length ≤ 1 then 0 else left)
  let tokens' := if fld e.cfg 16 16 == 0 then p.tokens
    else AMap.put p.tokens q (shaperTokens s p q e - tokensFor n, nowPs s)
  (s.setQueue l q { e with frames := e.frames.drop 1 }).setLport l
    { p with credit := credit', turn := if strict then p.turn else q, tokens := tokens' }

/-- The bytes of an egress frame: those of its segments, padded to the least length of a frame (R286, R37). -/
def egressBytes (s : State) (f : EgressFrame) : List Byte :=
  let b := (f.segs.map (fun x => (((AMap.find s.cote.cells x.cell).map (·.data)).getD []).drop x.first |>.take x.len)).flatten
  b ++ List.replicate (60 - b.length) 0

/-- The nonce of a frame (IEEE 802.1AE): SCI and PN, or under XPN the SSCI and PN with the salt. -/
def secNonce (c : SecChan) (a : SecAssoc) (pn : Nat) : BitVec 96 :=
  if c.xpn then BitVec.ofNat 96 (a.ssci.toNat * 2 ^ 64 + pn) ^^^ a.salt else BitVec.ofNat 96 (c.sci * 2 ^ 32 + pn)

/-- A SecTAG as IEEE 802.1AE lays it out (R47, R52; assumption 85): TCI and AN, SL, PN, and the SCI where it is sent. -/
def secTag (c : SecChan) (an pn user : Nat) (long own : Bool) : List Byte :=
  let tci := an + (if c.integrityOnly then 0 else 0x0C) + (if long then 0x20 else if own then 0x40 else 0)
  [0x88, 0xE5, BitVec.ofNat 8 tci, BitVec.ofNat 8 (if user < 48 then user else 0)] ++ beBytes 4 pn ++
    (if long then beBytes 8 c.sci else [])

/-- A frame protected by an SA (R47; assumptions 4 and 85): its SecTAG, its user data, in the clear up to the
confidentiality offset or whole for integrity only, and its ICV. -/
def protect (s : State) (c : SecChan) (a : SecAssoc) (an pn : Nat) (b : List Byte) : List Byte :=
  let user := b.drop 12
  let own := ownSci s c.lport c.sci && c.sciMode != 0
  let head := b.take 12 ++ secTag c an pn user.length (secTagBytes s c == 16) own
  let nonce := secNonce c a pn
  if c.integrityOnly then head ++ user ++ beBytes 16 (Config.gcmTag a.key nonce (head ++ user) []).toNat
  else
    let clear := user.take c.offset
    let plain := user.drop c.offset
    head ++ clear ++ gcmText a.key nonce plain ++ beBytes 16 (Config.gcmTag a.key nonce (head ++ clear) plain).toNat

/-- A frame with the FCS that the MAC computes for it (R39). -/
def withFcs (b : List Byte) : List Byte := b ++ fcsOf b

/-- The frame goes on the fibre, protected where its channel says so; else it is dropped and the scheduler chooses
again (R51–R53); the fuel is the number of frames queued. -/
def transmitNext : Nat → State → Nat → State
  | 0, s, _ => s
  | n + 1, s, l =>
    match chooseQueue s l with
    | none => s
    | some (q, credit) =>
      match (s.queue l q).frames with
      | [] => s
      | f :: _ =>
        let s := takeHead s l q credit
        match txChan s l f.tenant with
        | none => s.setLport l { s.lport l with fibre := .frame q f (withFcs (egressBytes s f)) }
        | some c =>
          let r := rollChan s c
          if !r.2.2 then transmitNext n (dropFrame 0x32 r.1 f) l
          else if f.wire + secTagBytes s c + 16 > maxFrame (s.lport l) then transmitNext n (dropFrame 0x33 r.1 f) l
          else
            let u := usePn r.1 r.2.1
            let an := r.2.1.an
            let wire := match AMap.find r.2.1.sas an with
              | none => []
              | some a => withFcs (protect s r.2.1 a an u.2 (egressBytes s f))
            u.1.setLport l { u.1.lport l with fibre := .protectedFrame q f c.sci an u.2 wire }

/-- Running pauses stop their queues from this frame boundary on (R42 step 2). -/
def stopPauses (s : State) (l : Nat) : State :=
  let p := s.lport l
  s.setLport l { p with pauses := p.pauses.map (fun x => (x.1, { x.2 with stopped := x.2.stopped || decide (nowPs s < x.2.expiry) })) }

/-- The MAC control frame that is due, if one is (R41, R44). -/
def dueControl (p : LPort) : Option MacCtl :=
  let on := (List.range 8).foldl (fun m c => if maskHas p.xoffPending c && sendsPfc p c then maskSet m c else m) 0
  let off := (List.range 8).foldl (fun m c => if maskHas p.xonPending c && sendsPfc p c then maskSet m c else m) 0
  match fcMode p with
  | 1 =>
    if p.xoffPending != 0 then some ⟨false, p.xoff, 0, pauseTxTime p⟩
    else if p.xonPending != 0 && p.xoff == 0 then some ⟨false, 0, p.xonPending, 0⟩ else none
  | 2 => if on != 0 || off != 0 then some ⟨true, on, off, pauseTxTime p⟩ else none
  | _ => none

/-- A MAC control frame without its FCS (R37, R41, R44): PAUSE or PFC to the reserved address, of 64 bytes with it. -/
def controlBytes (p : LPort) (c : MacCtl) : List Byte :=
  let time (i : Nat) : Nat := if maskHas c.asserted i then c.time else 0
  let b := beBytes 6 pauseAddress ++ beBytes 6 (fld p.map 64 48) ++ [0x88, 0x08] ++
    (if c.pfc then beBytes 2 0x0101 ++ beBytes 2 (c.asserted ||| c.cleared) ++ ((List.range 8).map (fun i => beBytes 2 (time i))).flatten
     else beBytes 2 1 ++ beBytes 2 (if c.asserted == 0 then 0 else c.time))
  b ++ List.replicate (60 - b.length) 0

/-- The control frame goes on the fibre; an asserted XOFF is repeated after half of PAUSE_TX_TIME (R44), never where that
is 0 (assumption 85). -/
def sendControl (s : State) (l : Nat) (c : MacCtl) : State :=
  let p := s.lport l
  let half := quantaPs s l (pauseTxTime p) / 2
  let rep := (List.range 8).foldl (fun m i =>
    if maskHas c.asserted i && decide (half > 0) then AMap.put m i (nowPs s + half) else m) p.xoffRepeat
  let s := s.setLport l { p with fibre := .control c (withFcs (controlBytes p c)), xoffPending := 0, xonPending := 0, xoffRepeat := rep }
  countLport s l (if c.pfc then 19 else 18) 1

/-- Whether some laser that a logical port's frame may be on is lit: of a port that a mode change has removed, any of its
physical port's (R35). -/
def fibreLit (s : State) (l : Nat) : Bool :=
  (if lportExists s l then lanesOf s l else (List.range 4).map (4 * (l / 4) + ·)).any (fun i => (s.lane i).lit)

/-- The frame on the fibre has ended: counted, its cells released; one whose lasers went dark is lost (R56, R290). -/
def endFibre (s : State) (l : Nat) : State :=
  let p := s.lport l
  let s := s.setLport l { p with fibre := .idle }
  let sent (s : State) (n : Nat) : State := countLport (countLport s l 2 1) l 3 n
  let gone (s : State) (f : EgressFrame) (n : Nat) : State :=
    if fibreLit s l then sent (releaseCells s (f.segs.map (·.cell))) n else dropFrame 0x31 s f
  match p.fibre with
  | .idle => s
  | .control _ wire => sent s wire.length
  | .frame _ f wire => gone s f wire.length
  | .protectedFrame _ f _ _ _ wire => gone s f wire.length

/-- Frames that a logical port's queues hold. -/
def framesQueued (s : State) (l : Nat) : Nat := (List.range 8).foldl (fun n q => n + (s.queue l q).frames.length) 0

/-- A frame boundary (R53): the frame ends, pauses take hold, and a control frame or a queue's frame follows. -/
def boundary (s : State) (l : Nat) : State :=
  let s := stopPauses (endFibre s l) l
  if !portOpen s l then s
  else match dueControl (s.lport l) with
    | some c => sendControl s l c
    | none => transmitNext (framesQueued s l) s l

/-- FRAME_BOUNDARY (R44, R51–R55). -/
def execFrameBoundary (lport : Nat) (s : State) : Host.Outcome State Fault Refusal :=
  checked (okLport lport) (if trafficUp s then finish (boundary s lport) else s)

/-- Whether a far cell's DRAM holds a poisoned line (R311): lines of the far buffer, 4 to a cell. -/
def farPoisoned (s : State) (h : Nat) : Bool :=
  decide (h ≥ 2 ^ 27) && (AMap.at s.dram.poison deviceId []).any (fun n => n / 4 == farLine h / 4)

/-- FAR_STAGING_READ (R292): the head frame of a far queue read whole into the port's 16 KiB of staging; one with a
poisoned line is dropped (R311). -/
def execFarStagingRead (lport queue : Nat) (s : State) : Host.Outcome State Fault Refusal :=
  checked (okLport lport && okQueue queue)
    (let e := s.queue lport queue
     let used := (List.range 8).foldl (fun n q =>
       ((s.queue lport q).frames.filter (fun f => f.staged && f.segs.any (fun x => decide (x.cell ≥ 2 ^ 27)))).foldl (fun n f => n + f.len) n) 0
     match e.frames with
     | [] => s
     | f :: rest =>
       if f.staged || decide (used + f.len > 16384) || !trafficUp s then s
       else if f.segs.any (fun x => farPoisoned s x.cell) then
         let s := s.setLport lport { s.lport lport with
           credit := if rest.isEmpty then AMap.put (s.lport lport).credit queue 0 else (s.lport lport).credit }
         finish (dropFrame 0x21 (s.setQueue lport queue { e with frames := rest }) f)
       else finish (clientRequest (s.setQueue lport queue { e with frames := { f with staged := true } :: rest }) 19 deviceId f.len))

/-! ### Received frames -/

/-- What MACsec makes of a received frame: its stored bytes, whether it passed unverified, the counters of R500 that
count it, and whether it is discarded. -/
structure SecOut where
  bytes : List Byte
  unverified : Bool
  counters : List Nat
  discard : Bool
  state : State
  deriving DecidableEq, Repr

/-- The receive channel of a SecTAG (R47): its SCI, or the source's own, or the port's only one. -/
def rxChan (s : State) (l : Nat) (b : List Byte) : Option SecChan :=
  let mine := s.ports.chans.filter (fun c => !c.transmit && c.lport == l)
  let tci := byteAt b 14
  if maskHas tci 5 then mine.find? (fun c => c.sci == beAt b 20 8)
  else if maskHas tci 6 then mine.find? (fun c => c.sci == beAt b 6 6 * 65536 + 1)
  else match mine with
    | [c] => some c
    | _ => none

/-- The PN of a received frame: its 32 bits, extended by the SA's lowest acceptable PN under XPN (IEEE 802.1AE). -/
def rxPn (c : SecChan) (a : SecAssoc) (low : Nat) : Nat :=
  if !c.xpn then low
  else
    let lowest := if c.replay then a.pn - c.window else a.pn
    let up := lowest / 2 ^ 32
    (if maskHas lowest 31 && !maskHas low 31 then up + 1 else up) * 2 ^ 32 + low

/-- The user data of a protected frame after validation, and whether its ICV is right (R47, R49; assumption 4). -/
def openSec (c : SecChan) (a : SecAssoc) (pn : Nat) (b : List Byte) : List Byte × Bool :=
  let tci := byteAt b 14
  let start := if maskHas tci 5 then 28 else 20
  let short := byteAt b 15 % 64
  let n := if short == 0 then b.length - start - 16 else short
  let user := (b.drop start).take n
  let icv := beNat ((b.drop (start + n)).take 16)
  let nonce := secNonce c a pn
  if maskHas tci 3 then
    let clear := user.take c.offset
    let text := gcmText a.key nonce (user.drop c.offset)
    (clear ++ text, (Config.gcmTag a.key nonce (b.take start ++ clear) text).toNat == icv)
  else (user, (Config.gcmTag a.key nonce (b.take start ++ user) []).toNat == icv)

/-- A received frame without its FCS under MACsec (R49). An SA that is installed and not enabled counts as none
(assumption 85). -/
def validateSec (s : State) (l : Nat) (b : List Byte) : SecOut :=
  let p := s.lport l
  let mode := fld p.cfg 6 2
  let pass : SecOut := ⟨b, false, [], false, s⟩
  if mode == 0 then pass
  else if be16At b 12 != 0x88E5 then
    (if mode == 2 && bit p.cfg 3 then ⟨b, false, [23], true, s⟩ else pass)
  else
    let fails (k : Nat) : SecOut := if mode == 2 then ⟨b, false, [k], true, s⟩ else ⟨b, true, [k, 21], false, s⟩
    match rxChan s l b with
    | none => fails 22
    | some c =>
      let an := byteAt b 14 % 4
      match AMap.find c.sas an with
      | none => fails 22
      | some a =>
        if !a.enabled then fails 22
        else
          let pn := rxPn c a (beAt b 16 4)
          let r := openSec c a pn b
          if !r.2 then fails 24
          else if c.replay && decide (pn < a.pn - c.window) then fails 25
          else
            let c' := { c with sas := AMap.put c.sas an { a with pn := max a.pn (pn + 1) }, frames := c.frames + 1 }
            ⟨b.take 12 ++ r.1, false, [20], false, setChan s c'⟩

/-! ### Commands -/

/-- The SCI of a channel as the detail of a failure (assumption 26). -/
def sciDetail (code sci : Nat) : Status := failWith code 3 (sci % 2 ^ 32)

/-- The channel that a command names, for its owner only (R50). -/
def withChan (s : State) (k : Call) (sci lport : Nat) (transmit : Bool) (go : SecChan → State × Ending) : State × Ending :=
  match chanNamed s sci lport transmit with
  | none => endsCode s 0x0107
  | some c => if c.owner == k.owner then go c else ends s (plain 0x0201 false)

/-- The channel that `MACSEC_SC_CREATE` makes (R47, R51). -/
def newChan (x : ScSpec) (owner : Nat) : SecChan :=
  { sci := x.sci, lport := x.lport, transmit := x.transmit, owner := owner, xpn := x.xpn, offset := x.offset,
    integrityOnly := x.integrityOnly, sciMode := x.sciMode, replay := x.replay, window := x.window,
    pnThresh := if x.pnThresh == 0 then pnDefault x.xpn else x.pnThresh, an := 0, sas := [], frames := 0 }

/-- Whether an existing channel is as a creation asks for it: its settings, whatever its SAs. -/
def SecChan.sameAs (a b : SecChan) : Bool :=
  { a with an := 0, sas := [], frames := 0, pnThresh := b.pnThresh } == b

/-- MACSEC_SC_CREATE (R47, R48, R50). -/
def execMacsecScCreate (c : CmdRef) (x : ScSpec) (s : State) : Host.Outcome State Fault Refusal :=
  .next (runCommand s c 0x020B (fun k s => withLport s x.lport (
    let n := newChan x k.owner
    unlessBad s
      [(decide (x.sci ≥ 2 ^ 64), badOpen 0x0300 0x020B 0), (!([0, 30, 50].contains x.offset), badOpen 0x0300 0x020B 1),
       (decide (x.sciMode > 2), badOpen 0x0300 0x020B 2), (decide (x.window ≥ 2 ^ 30), badOpen 0x0300 0x020B 3),
       (decide (n.pnThresh ≥ n.pnEnd), badOpen 0x0300 0x020B 4)]
      (match chanNamed s x.sci x.lport x.transmit with
       | some o =>
         if o.owner != k.owner then ends s (plain 0x0201 false)
         else if o.sameAs n then ends s (plain 2 false) else ends s (sciDetail 0x0302 x.sci)
       | none =>
         let used := (s.ports.chans.filter (fun o => o.lport / 4 == x.lport / 4 && o.transmit == x.transmit)).length
         if used ≥ (if x.transmit then 16 else 64) then ends s (noRoom 0x0401 (if x.transmit then 1 else 2) (x.lport / 4))
         else okDone { s with ports := { s.ports with chans := s.ports.chans ++ [n] } }))))

/-- MACSEC_SC_DELETE (R50): its SAs go with it. -/
def execMacsecScDelete (c : CmdRef) (sci lport : Nat) (transmit : Bool) (s : State) : Host.Outcome State Fault Refusal :=
  .next (runCommand s c 0x020C (fun k s =>
    match chanNamed s sci lport transmit with
    | none => ends s (plain 3 false)
    | some o =>
      if o.owner != k.owner then ends s (plain 0x0201 false)
      else okDone { s with ports := { s.ports with chans := s.ports.chans.filter (fun y => !y.named sci lport transmit) } }))

/-- MACSEC_SA_INSTALL (R50, R356): the SAK is an entry of the owner's key table. -/
def execMacsecSaInstall (c : CmdRef) (lport : Nat) (transmit : Bool) (x : SaSpec) (s : State) : Host.Outcome State Fault Refusal :=
  .next (runCommand s c 0x020D (fun k s => withChan s k x.sci lport transmit (fun o =>
    unlessBad s
      [(decide (x.an > 3), badOpen 0x0300 0x020D 0), (x.pn == 0 || decide (x.pn ≥ o.pnEnd), badOpen 0x0300 0x020D 1)]
      (match keyEntry s k.owner x.keyIndex with
       | none => endsCode s 0x0107
       | some key =>
         if AMap.has o.sas x.an then ends s (sciDetail 0x0302 x.sci)
         else
           let a : SecAssoc := { key := key.extractLsb' 256 256, salt := x.salt, ssci := x.ssci, pn := x.pn, enabled := x.enable,
                                 thresholdRaised := false, retired := false }
           okDone (setChan s { o with an := if AMap.has o.sas o.an then o.an else x.an, sas := AMap.put o.sas x.an a })))))

/-- MACSEC_SA_DELETE (R50): its key is erased. -/
def execMacsecSaDelete (c : CmdRef) (sci lport : Nat) (transmit : Bool) (an : Nat) (s : State) : Host.Outcome State Fault Refusal :=
  .next (runCommand s c 0x020E (fun k s => withChan s k sci lport transmit (fun o =>
    if an > 3 then ends s (badOpen 0x0300 0x020E 0)
    else if AMap.has o.sas an then okDone (setChan s { o with sas := AMap.del o.sas an }) else ends s (plain 3 false))))

/-- What the operator and the owner see of a channel: its existence, counters and PN state (R50; assumption 26). -/
def chanPublic (c : SecChan) : List Byte :=
  beBytes 8 c.sci ++ beBytes 1 c.lport ++ beBytes 1 (b2n c.transmit) ++ beBytes 1 c.an ++ beBytes 8 c.frames ++
    (c.sas.map (fun a => beBytes 1 a.1 ++ beBytes 8 a.2.pn)).flatten

/-- A channel's configuration, for its owner (R50; assumption 26). -/
def chanConfig (c : SecChan) : List Byte :=
  beBytes 1 (b2n c.xpn + 2 * b2n c.integrityOnly + 4 * b2n c.replay) ++ beBytes 1 c.offset ++ beBytes 1 c.sciMode ++
    beBytes 4 c.window ++ beBytes 8 c.pnThresh

/-- MACSEC_READ (R50). -/
def execMacsecRead (c : CmdRef) (sci lport : Nat) (transmit : Bool) (s : State) : Host.Outcome State Fault Refusal :=
  .next (runCommand s c 0x020F (fun k s =>
    match chanNamed s sci lport transmit with
    | none => endsCode s 0x0107
    | some o =>
      if o.owner == k.owner then okRead s (chanPublic o ++ chanConfig o)
      else if k.isOp then okRead s (chanPublic o) else ends s (plain 0x0201 false)))

/-- MACSEC_PN_THRESH (R51); a threshold of 0 or beyond the suite's PNs is refused (assumption 85). -/
def execMacsecPnThresh (c : CmdRef) (sci lport : Nat) (transmit : Bool) (thresh : Nat) (s : State) : Host.Outcome State Fault Refusal :=
  .next (runCommand s c 0x0210 (fun k s => withChan s k sci lport transmit (fun o =>
    if thresh == 0 || decide (thresh ≥ o.pnEnd) then ends s (badOpen 0x0300 0x0210 0)
    else okDone (setChan s { o with pnThresh := thresh,
                                    sas := o.sas.map (fun a => (a.1, { a.2 with thresholdRaised := false })) }))))

end Sys2Proof.Machine
end

