-- ==== Sys2Proof/Machine/Receive.lean ====
section
/-! DEFINITION. A received frame: the MAC's checks, its cells, the parse, the classification, the slow path and the
Sluice output queue (R19, R21, R38–R41, R49, R68–R93, R275, R282–R285, R388). -/

namespace Sys2Proof.Machine

/-! ### Cells -/

/-- Ingress priority of a frame from its first bytes on the fibre (R40). -/
def ingressPriority (p : LPort) (b : List Byte) : Nat :=
  let t := be16At b 12
  if t == 0x8100 || t == 0x88A8 || t == fld p.map 0 16 then fld p.map (24 + 3 * (byteAt b 14 / 32)) 3
  else
    let dscp := if t == 0x0800 then some (byteAt b 15 / 4)
      else if t == 0x86DD then some (byteAt b 14 % 16 * 4 + byteAt b 15 / 64) else none
    match dscp with
    | some d => if bit p.map 19 then fld p.map (128 + 3 * d) 3 else fld p.map 16 3
    | none => fld p.map 16 3

/-- Counter `CACHE_EMPTY` of a pool (R283; assumption 19). -/
def cacheEmptyId (pool : Nat) : Nat := cid 8 pool 0

/-- Cells taken for the pieces of a frame, one after another (R282, R283); when one fails those before it return and
the frame is counted (R284), also in its group's and its pool's drop counts (R293; assumption 19). -/
def takeCells (l gi : Nat) : List (List Byte) → List Nat → State → State × Option (List Nat)
  | [], taken, s => (s, some taken.reverse)
  | d :: rest, taken, s =>
    let pool := igPool (s.cote.group gi)
    let pfc := sendsPfc (s.lport l) (poolPcp (s.cote.pool pool))
    let o := s.cote.allocIngress gi pfc d
    let s := syncPool (syncXoff { s with cote := o.cote } gi) pool
    let s := if o.cacheEmpty then countFirst s (cacheEmptyId pool) 0x302 deviceId 1 (dataBytes 2 pool) else s
    match o.handle with
    | some h => takeCells l gi rest (h :: taken) (devCount s 4 0 pool 0x1000 1)
    | none =>
      let s := releaseCells s taken.reverse
      let s := count (count s (cid 8 (0x100 + gi) 0) 1) (poolDropId pool) 1
      if o.headroomOver then (raiseDev (countPort s l 0x50) 0x300 1 0, none) else (countPort s l 0x51, none)

/-! ### The slow path and the command frames -/

/-- `SLOW_REASON` of a reason (R95). -/
def slowReason (s : State) (r : Nat) : BitVec 128 := AMap.at s.sluice.reasons r (slowReasonReset r)
/-- `SLOW_TENANT` of a tenant (R96). -/
def slowTenant (s : State) (t : Nat) : BitVec 64 := AMap.at s.sluice.tenants t slowTenantReset

/-- A token of the reason's device bucket and, for a tenant's frame, one of its tenant bucket; both or none (R92). -/
def takeSlowTokens (s : State) (reason : Nat) (tenant : Option Nat) : Option State :=
  let r := slowReason s reason
  let dev := bucketLevel (AMap.find s.sluice.reasonBuckets reason) (fld r 0 16) (fld r 16 17) (now s)
  let devOk := fld r 0 16 != 0 && decide (dev ≥ 1000000)
  let put (s : State) : State :=
    s.setSluice { s.sluice with reasonBuckets := AMap.put s.sluice.reasonBuckets reason ⟨dev - 1000000, now s⟩ }
  match tenant with
  | none => if devOk then some (put s) else none
  | some t =>
    let w := slowTenant s t
    let own := bucketLevel (AMap.find s.sluice.tenantBuckets t) (fld w 0 14) (fld w 16 17) (now s)
    if devOk && fld w 0 14 != 0 && decide (own ≥ 1000000) then
      let s := put s
      some (s.setSluice { s.sluice with tenantBuckets := AMap.put s.sluice.tenantBuckets t ⟨own - 1000000, now s⟩ })
    else none

/-- A discard on the slow path counted: per tenant once the scope search has named one, else per port (R94). -/
def countSlow (s : State) (named : Bool) (tenant lport code source : Nat) : State :=
  countFirst s (if named then cid 5 tenant (0x800 + code) else cid 3 (lport / 4) (0x800 + code)) source deviceId 1 0

/-- The tenant whose bucket a slow-path frame uses: none for the operator's frames and those of no tenant (R92). -/
def bucketTenant (named : Bool) (tenant : Nat) : Option Nat :=
  if named && decide (tenant < 512) then some tenant else none

/-- Priority and domain of a slow-path frame (R93). -/
def slowPlace (s : State) (reason : Nat) (p : PRec) : SlowPlace :=
  let r := slowReason s reason
  let h := flowHash p 1 true 0 0
  ⟨fld r 33 3, selectDomain 1 (fld r 40 20) (fld r 60 5) 0 h, h⟩

/-- A frame of the slow path: its owner's program, then the buckets, then its queue (R91–R94). -/
def toSlowPath (s : State) (d : Desc) (p : PRec) (named : Bool) (c : ClsOut) (reason : Nat) : State :=
  match AMap.find s.sluice.slowPrograms c.tenant with
  | none => releaseCells (countSlow s named c.tenant d.lport 0x57 0x0CB) d.cells
  | some program =>
    match takeSlowTokens s reason (bucketTenant named c.tenant) with
    | none => releaseCells (countSlow s named c.tenant d.lport (0x60 + reason) (0x0C0 + reason)) d.cells
    | some s =>
      let w := slowPlace s reason p
      let c := { c with reason := reason, priority := w.priority, domain := w.domain, dsel := 9, program := program,
                        hash := w.hash }
      let s := devCount s 1 2 (d.lport / 4) c.tenant 1
      enterSoq s { d with cls := c.record, tenant := c.tenant, named := named, priority := w.priority, domain := w.domain,
                          program := program, reason := reason }

/-- Whether a frame is an in-band command frame of its port (R387, R388). -/
def isCommandFrame (s : State) (l : Nat) (b : List Byte) (p : PRec) : Bool :=
  bit (s.lport l).inband 0 && be16At b 12 != 0x88E5 && p.etype == fld (s.lport l).inband 16 16

/-- A command frame diverted before classification (R388). -/
def divertCommand (s : State) (d : Desc) (b : List Byte) : State :=
  let rate := fld (s.lport d.lport).inband 32 14
  let level := bucketLevel (AMap.find s.sluice.cmdBuckets d.lport) rate 1024 (now s)
  if level < 1000000 then
    releaseCells (countFirst s (cid 3 (d.lport / 4) 0x858) 0x0CC deviceId 1 0) d.cells
  else
    let s := s.setSluice { s.sluice with cmdBuckets := AMap.put s.sluice.cmdBuckets d.lport ⟨level - 1000000, now s⟩ }
    let domain := 0xFFF00 + crc32c ((b.drop 6).take 6) % 256
    enterSoq s { d with tenant := operatorId, priority := 6, domain := domain, command := true,
                        cls := ({ priority := 6, domain := domain } : ClsOut).record }

/-! ### The classifier -/

/-- What a search of the classifier partition answers (R250). -/
inductive ClsHit where
  | miss
  | hit (r : Rule)
  | error
  deriving DecidableEq, Repr

/-- The winner of some rules (R77, R82). -/
def bestOf : List Rule → Option Rule
  | [] => none
  | r :: rest => match bestOf rest with
    | none => some r
    | some t => some (betterRule r t)

/-- What a search of the classifier partition asks: the replica, the kind of rules, the owner, the tag and the key. -/
structure ClsQuery where
  replica : Nat
  scope : Bool
  owner : Nat
  tag : Nat
  key : Nat
  deriving DecidableEq, Repr

/-- What a search's examination leaves: its answer, the candidates still allowed, the false hits on the way. -/
structure Examined where
  answer : ClsHit
  budget : Nat
  falses : Nat
  deriving DecidableEq, Repr

/-- The answer of a rule whose image verifies (R250): the image's result is its action. -/
def verified (q : ClsQuery) (r : Rule) : Option Rule :=
  match r.imageIn q.replica q.scope with
  | none => none
  | some i => if i.verifies q.owner 0 q.tag q.key then some { r with action := BitVec.ofNat 128 i.result } else none

/-- The matches of a search examined in their order, while further candidates are left (R247, R250). -/
def examineRows (q : ClsQuery) : Nat → Nat → List Rule → Examined
  | budget, falses, cands =>
    match bestOf cands with
    | none => ⟨.miss, budget, falses⟩
    | some r =>
      match verified q r with
      | some v => ⟨.hit v, budget, falses⟩
      | none =>
        let rest := cands.filter (fun x => x.order != r.order)
        match budget with
        | 0 => ⟨if rest.isEmpty then .miss else .error, 0, falses + 1⟩
        | b + 1 => if rest.isEmpty then ⟨.miss, b + 1, falses + 1⟩ else examineRows q b (falses + 1) rest

/-- The rows that match in the banks to which a search is sent (R245, R250). -/
def rowsHit (s : State) (q : ClsQuery) (rules : List Rule) : List Rule :=
  rules.filter (fun r => !r.dead && bankSelected s (bankOfCls s q.replica q.scope r) q.tag &&
    entryHits (r.rowsIn q.replica q.scope (if q.scope then 1 else profileUnits s r.profile)) 0 q.tag q.key)

/-- A search of the classifier: the banks it is sent to are searched, a sleeping one wakes; its matches are examined (R27,
R245, R247, R250, R271). -/
def searchCls (s : State) (q : ClsQuery) (banks : List Nat) (rules : List Rule) (tenant budget : Nat) : State × Examined :=
  let e := examineRows q budget 0 (rowsHit s q rules)
  let s := (banks.filter (fun b => bankSelected s b q.tag)).foldl (searchBank tenant) s
  let s := devCount s 3 0 (banks.headD 0) tenant 1
  (if e.falses == 0 then s else devCount s 3 1 (banks.headD 0) tenant e.falses, e)

/-- A winning rule counts its hit and the frame's bytes (R89). -/
def creditRule (s : State) (r : Rule) (len : Nat) : State :=
  count (count s (ruleCid r.tenant r.order 0) 1) (ruleCid r.tenant r.order 1) len

/-- The extractors of a profile. -/
def profileKeys (s : State) (profile : Nat) : List (BitVec 32) := AMap.at s.sluice.profiles profile []

/-- A mirror copy bound to its session as it stands at the scope search (R88). -/
def bindMirror (s : State) (p : PRec) (tenant : Nat) (a : BitVec 128) : State × List Copy :=
  if !actMirror a then (s, [])
  else
    let r := AMap.at s.sluice.sessions (actSession a) mirrorReset
    let w := slowPlace s 9 p
    if fld r 12 2 == 0 then (countTenant s tenant 0x71, []) else (s, [.mirror r (actSession a) w])

/-- A COPY_CC copy, which takes its slow-path tokens here (R87, R93). -/
def bindCopy (s : State) (d : Desc) (p : PRec) (tenant : Nat) (a : BitVec 128) : State × List Copy :=
  if !(actCopy a && actForward a) then (s, [])
  else if !AMap.has s.sluice.slowPrograms tenant then (countSlow s true tenant d.lport 0x57 0x0CB, [])
  else match takeSlowTokens s 9 (bucketTenant true tenant) with
    | none => (countSlow s true tenant d.lport 0x69 0x0C9, [])
    | some s =>
      let w := slowPlace s 9 p
      (devCount s 1 2 (d.lport / 4) tenant 1, [.slow (actCopyClass a) w])

/-- A frame forwarded by a rule (R83–R86). -/
def forwardFrame (s : State) (d : Desc) (p : PRec) (c : ClsOut) (a : BitVec 128) (key keyLen : Nat) (copies : List Copy) : State :=
  let mode := actDsel a % 8
  let h := flowHash p mode (maskHas (actDsel a) 3) key keyLen
  let demoted := actPriority a == 0 && (!expressEn s || s.meridian.suspended)
  let s := if demoted then countFirst s (cid 5 c.tenant 0x870) 0x0CD deviceId 1 0 else s
  let prio := if demoted then 1 else actPriority a
  let domain := selectDomain mode (actBase a) (actSpan a) d.lport h
  let c := { c with priority := prio, demoted := demoted, dsel := actDsel a, domain := domain, program := actProgram a, hash := h }
  enterSoq s { d with cls := c.record, tenant := c.tenant, named := true, priority := prio, domain := domain,
                      program := actProgram a, copies := copies }

/-- What a matching rule's action does with a frame (R83, R84). -/
def applyAction (s : State) (d : Desc) (p : PRec) (c : ClsOut) (r : Rule) (key keyLen : Nat) : State :=
  let a := r.action
  let c := { c with actions := fld a 0 4, ruleId := r.id, user := fld a 96 32,
                    session := if actMirror a then actSession a else 0, copyClass := if actCopy a then actCopyClass a else 0 }
  if actDrop a then countTenant (releaseCells s d.cells) c.tenant 0x56
  else
    let m := bindMirror s p c.tenant a
    if actForward a then
      let k := bindCopy m.1 d p c.tenant a
      forwardFrame k.1 d p c a key keyLen (k.2 ++ m.2)
    else toSlowPath m.1 { d with copies := m.2 } p true c 9

/-- The rule search of a frame that its scope search gave to a tenant (R78, R79, R247). -/
def ruleSearch (s : State) (x : ParseIn) (p : PRec) (d : Desc) (tenant set budget : Nat) : State :=
  let profile := bitsOf (AMap.at s.sluice.sets set profileSetReset).toNat (4 * parseClass p) 4
  let custom := profileKeys s profile
  let key := ruleKey x p tenant profile custom
  let k := d.lport / 8
  let c : ClsOut := { tenant := tenant, profile := profile }
  let q : ClsQuery := { replica := k, scope := false, owner := tenant, tag := crc32c (beBytes 2 (key % 65536)) % 63, key := key }
  let f := searchCls s q (banksOfWidth s k (profileUnits s profile)) (rulesOfWidth s (profileUnits s profile)) tenant budget
  let s := f.1
  match f.2.answer with
  | .miss => toSlowPath s d p true c 8
  | .error => toSlowPath s d p true c 10
  | .hit r =>
    let s := creditRule s r d.len
    applyAction s d p c r key (keyBytes profile custom.length)

/-- The searches of one frame (R76–R84, R247): scope, then the rules of its tenant. A frame that the scope search ends, one
of no scope or one that its scope rule drops, issues no rule search (assumption 86). -/
def classify (s : State) (x : ParseIn) (p : PRec) (d : Desc) : State :=
  let k := d.lport / 8
  let q : ClsQuery := { replica := k, scope := true, owner := operatorId, tag := 63, key := scopeKey x.inPort p }
  let f := searchCls (devCount s 1 1 (d.lport / 4) 0x1000 1) q [k * (1 + ruleBanks s)] s.sluice.scopeRules 0x1000 3
  let s := f.1
  match f.2.answer with
  | .miss => toSlowPath s d p false {} 7
  | .error => toSlowPath s d p false {} 10
  | .hit r =>
    let tenant := fld r.action 0 12
    let s := creditRule s r d.len
    if bit r.action 16 then countTenant (releaseCells s d.cells) tenant 0x55
    else if p.reason != 0 then toSlowPath s d p true { tenant := tenant } p.reason
    else ruleSearch s x p d tenant (fld r.action 12 4) f.2.budget

/-! ### The MAC -/

/-- What the MAC finds wrong with a frame, in the order of R38: the counter of R500. -/
def macDiscard (p : LPort) (b fcs : List Byte) (fecOk aligned : Bool) : Option Nat :=
  let len := b.length + fcs.length
  if fcs != fcsOf b then some 4
  else if len < 64 then some 5
  else if len > maxFrame p then some 6
  else if !fecOk then some 7
  else if !aligned then some 8
  else none

/-- A frame that the MAC discards (R38, R501): counted per logical port and per physical port. -/
def discardAtMac (s : State) (l index : Nat) : State := countPort (countLport s l index 1) l (0x40 + (index - 4))

/-- A MAC control frame (R41). -/
def macControl (s : State) (l : Nat) (b : List Byte) : State :=
  let dest := BitVec.ofNat 48 (beAt b 0 6)
  let len := b.length + 4
  match be16At b 14 with
  | 1 => pauseFrame s l dest len (be16At b 16) 0
  | 0x0101 => pfcFrame s l dest len (BitVec.ofNat 8 (byteAt b 17)) (BitVec.ofNat 128 (beAt b 18 16)) 0
  | _ => if controlOk (s.lport l) dest len then countLport s l 16 1 else countLport s l 17 1

/-- A frame that the MAC and MACsec accept, parsed and classified (R68–R90, R388). -/
def deliverFrame (s : State) (l : Nat) (b : List Byte) (unverified : Bool) (pri : Nat) (guaranteed : Bool) (cells : List Nat) : State :=
  let p := s.lport l
  let x : ParseIn :=
    { bytes := b, tpidAlt := fld p.map 0 16, vxlan := fld s.sluice.cfg 0 16, geneve := fld s.sluice.cfg 16 16,
      roce := fld s.sluice.cfg 32 16, inPort := l, inPri := pri, frameLen := b.length + 4, unverified := unverified }
  let r := parseFrame x
  let d : Desc :=
    { lport := l, len := b.length + 4, cells := cells, guaranteed := guaranteed, parse := parseRecord x r, cls := 0,
      tenant := operatorId, named := false, priority := 7, domain := 0, program := 0, reason := 0, copies := [], command := false,
      headSince := now s, taken := now s, time := now s }
  let s := devCount s 1 0 (l / 4) 0x1000 1
  if isCommandFrame s l b r then divertCommand s d b else classify s x r d

/-- A frame received on a logical port (R38–R41, R49, R282–R284). One with an uncorrectable codeword sets
FEC_UNCORR_SEEN, and PCS_ALIGNED follows its alignment (R60, R61). A MAC control frame outside the lengths of R38 counts
there, at index 5 or 6; PAUSE_RECEIVED and PFC_RECEIVED count it at 17 (assumption 85). -/
def receiveFrame (s : State) (l : Nat) (b fcs : List Byte) (fecOk aligned : Bool) : State :=
  let s := s.setLport l { s.lport l with aligned := aligned, fecUncorrSeen := (s.lport l).fecUncorrSeen || !fecOk }
  let p := s.lport l
  let s := countLport (countLport s l 0 1) l 1 (b.length + fcs.length)
  let bad := macDiscard p b fcs fecOk aligned
  if bad.isNone && be16At b 12 == 0x8808 then macControl s l b
  else
    let v : SecOut := if bad.isNone then validateSec s l b else ⟨b, false, [], false, s⟩
    let s := v.counters.foldl (fun s i => countLport s l i 1) v.state
    let pri := ingressPriority p b
    let gi := 8 * l + pri
    let guaranteed := poolGuaranteed (s.cote.pool (igPool (s.cote.group gi)))
    match takeCells l gi (cellPieces v.bytes.length v.bytes) [] s with
    | (s, none) => s
    | (s, some cells) =>
      match bad with
      | some i => discardAtMac (releaseCells s cells) l i
      | none => if v.discard then discardAtMac (releaseCells s cells) l 9 else deliverFrame s l v.bytes v.unverified pri guaranteed cells

/-- A frame that arrives during a traffic-core action is discarded at the MAC as CONTAIN_DISCARD (R504, R509). -/
def discardInAction (s : State) (l bytes : Nat) (fecOk aligned : Bool) : State :=
  let s := s.setLport l { s.lport l with aligned := aligned, fecUncorrSeen := (s.lport l).fecUncorrSeen || !fecOk }
  countPort (countLport (countLport s l 0 1) l 1 bytes) l 0x59

/-- FRAME_RECEIVE (R38, R509): a frame on a logical port whose link is up, and the FCS that follows it. -/
def execFrameReceive (lport : Nat) (frame fcs : List Byte) (fecOk aligned : Bool) (s : State) : Host.Outcome State Fault Refusal :=
  checked (okLport lport)
    (if !(s.lport lport).linkUp || !trafficUp s then s
     else if s.contain.core.isSome then finish (discardInAction s lport (frame.length + fcs.length) fecOk aligned)
     else finish (receiveFrame s lport frame fcs fecOk aligned))

/-- RING_REFILL (R279): a read of 512 handles of the free ring reaches the cache. -/
def execRingRefill (pool : Nat) (s : State) : Host.Outcome State Fault Refusal :=
  checked (okPool pool)
    (let p := s.cote.pool pool
     if p.reads == 0 || !trafficUp s then s
     else
       let n := min 512 p.ring
       let p' : Pool := (({ p with reads := p.reads - 1, ring := p.ring - n, cache := p.cache + n } : Pool).spill).refill
       let s := devCount { s with cote := { s.cote with pools := AMap.put s.cote.pools pool p' } } 4 2 pool 0x1000 1
       let s := clientRequest s 18 deviceId (4 * n)
       finish (syncPool s pool))

end Sys2Proof.Machine
end

