-- ==== Sys2Proof/Machine/Buffers.lean ====
section
/-! DEFINITION. The commands of area 0x06, Cote's records (R276–R281, R287, R293), and what of the DRAM is allocated (R296). -/

namespace Sys2Proof.Machine

/-- The first far pool with cells. -/
def farPool (s : State) : Option Nat :=
  (List.range 64).find? (fun p => poolFar (s.cote.pool p) && poolCells (s.cote.pool p) != 0)

/-- COTE_WRITE (R276, R293, R296). -/
def execCoteWrite (c : CmdRef) (record : BitVec 64) (s : State) : Host.Outcome State Fault Refusal :=
  .next (runCommand s c 0x0600 (fun _ s =>
    let far := fld record 0 6
    let pool := if far == farGib s then none else farPool s
    unlessBad s (reservedBad record [(6, 2), (24, 40)] 0 ++
      [(decide (far > 32), badField 0x0300 0 0), (fld record 8 16 == 0, badField 0x0300 0 8),
       (pool.isSome, failWith 0x0500 3 (pool.getD 0)), (decide (far > farGib s) && retirePending s, plain 0x0405 false),
       (decide (far > farGib s) && decide (dramGranted s far none > capacityOfSlots (slotsHeld s)), plain 0x0403 false)])
      (let s := zeroFill s deviceId ((farGib s - far) * 2 ^ 30)
       okDone (nextMove { s with cote := { s.cote with cfg := record } }))))

/-- Cells of every pool of one buffer, one pool's record replaced (R277). -/
def cellsOfBuffer (s : State) (far : Bool) (p : Nat) (v : BitVec 64) : Nat :=
  (List.range 64).foldl (fun n q =>
    let w := if q == p then v else (s.cote.pool q).cfg
    if bit w 1 == far then n + fld w 8 25 else n) 0

/-- Cote with a pool's ring, cache and headroom stores built anew for its record (R277, R281, R481); the cache rests at 512
handles (assumption 29). -/
def buildPool (k : Cote) (p : Nat) (v : BitVec 64) : Cote :=
  let o := k.pool p
  let groups : AMap IGroup := k.groups.map (fun g => (g.1, if igPool g.2 == p then { g.2 with store := 0 } else g.2))
  let k := { k with groups := groups, pools := AMap.put k.pools p { o with cfg := v, cache := 0, ring := fld v 8 25 - o.used, reads := 0 } }
  let k := k.fillStores p
  let o := k.pool p
  { k with pools := AMap.put k.pools p { o with cache := min o.ring 512, ring := o.ring - min o.ring 512 } }

/-- Tests of a POOL record (R277, R278, R280, R287). -/
def poolBad (s : State) (p : Nat) (v : BitVec 64) : List (Bool × Status) :=
  let far := bit v 1
  let changes := v != (s.cote.pool p).cfg
  let groups := (List.range 512).filter (fun g => igPool (s.cote.group g) == p)
  let room := if far then farGib s * 2 ^ 22 else 655360
  reservedBad v [(5, 3), (33, 31)] 8 ++
  [(decide (fld v 8 25 > 16777216), badField 0x0300 8 8),
   (changes && (s.cote.pool p).used != 0, failWith 0x0500 3 p),
   (decide (cellsOfBuffer s far p v > room), badField 0x0300 8 8),
   (far && (!groups.isEmpty || (List.range 64).any (fun l => fld (s.queue l 0).buf 0 6 == p)), badField 0x0301 8 1),
   (!bit v 0 && groups.any (fun g => igHeadroom (s.cote.group g) != 0), badField 0x0301 8 0)]

/-- POOL_WRITE (R277–R281). -/
def execPoolWrite (c : CmdRef) (pool : Nat) (record : BitVec 64) (s : State) : Host.Outcome State Fault Refusal :=
  .next (finish (runCommand s c 0x0601 (fun _ s =>
    if pool ≥ 64 then ends s (badField 0x0300 0 32)
    else unlessBad s (poolBad s pool record)
      (okDone (if record == (s.cote.pool pool).cfg then s
        else { s with cote := buildPool s.cote pool record })))))

/-- Tests of an IG_BUF record of a group (R280, R281). -/
def igBad (s : State) (g : Nat) (v : BitVec 64) : List (Bool × Status) :=
  let o := s.cote.group g
  let p := fld v 0 6
  let k := s.cote.pool p
  let held := s.cote.heldBack p - (if igPool o == p then igMin o + igHeadroom o else 0) + fld v 8 16 + 16 * fld v 56 8
  let total := (List.range 512).foldl (fun n i => n + (if i == g then 16 * fld v 56 8 else igHeadroom (s.cote.group i))) 0
  reservedBad v [(6, 2)] 8 ++
  [(fld v 24 16 == 0, badField 0x0300 8 24), (decide (fld v 40 16 ≥ fld v 24 16), badField 0x0301 8 40),
   (poolFar k, badField 0x0300 8 0), (fld v 56 8 != 0 && !poolGuaranteed k, badField 0x0301 8 56),
   (decide (held > poolCells k), badField 0x0300 8 8), (decide (total > 262144), noRoom 0x0401 0x32 g)]

/-- A group given its record: its headroom handles go back to the old pool's ring and come from the new one; what the new
pool lacks follows as its cells are freed (R279, R281; assumption 92). -/
def setGroup (s : State) (g : Nat) (v : BitVec 64) : State :=
  let k := s.cote
  let o := k.group g
  let n : IGroup := { o with cfg := v, store := 0 }
  let old := k.pool (igPool o)
  let k := { k with pools := AMap.put k.pools (igPool o) { old with ring := old.ring + o.store }, groups := AMap.put k.groups g n }
  let k := (k.fillStores (igPool o)).fillStores (igPool n)
  let k := { k with pools := AMap.put k.pools (igPool o) (k.pool (igPool o)).refill }
  { s with cote := { k with pools := AMap.put k.pools (igPool n) (k.pool (igPool n)).refill } }

/-- IG_BUF_WRITE (R280, R281): it applies to the next cell allocated. -/
def execIgBufWrite (c : CmdRef) (lport prio : Nat) (record : BitVec 64) (s : State) : Host.Outcome State Fault Refusal :=
  .next (finish (runCommand s c 0x0602 (fun _ s =>
    if lport ≥ 64 || prio ≥ 8 then ends s (badField 0x0300 0 32)
    else
      let g := 8 * lport + prio
      unlessBad s (igBad s g record) (okDone (syncXoff (setGroup s g record) g)))))

/-- EQ_BUF_WRITE (R287). -/
def execEqBufWrite (c : CmdRef) (lport queue : Nat) (record : BitVec 64) (s : State) : Host.Outcome State Fault Refusal :=
  .next (finish (runCommand s c 0x0603 (fun _ s =>
    if lport ≥ 64 || queue ≥ 8 then ends s (badField 0x0300 0 32)
    else unlessBad s (reservedBad record [(6, 2), (36, 28)] 8 ++
      [(fld record 8 24 == 0, badField 0x0300 8 8),
       (queue == 0 && poolFar (s.cote.pool (fld record 0 6)), badField 0x0300 8 0)])
      (okDone (s.setQueue lport queue { s.queue lport queue with buf := record })))))

/-- Value of a counter in 8 bytes. -/
def counterBytes (s : State) (id : Nat) : List Byte := beBytes 8 (counted s id)

/-- The drop counts charged to an owner (R284, R288, R290, R501). -/
def ownerDrops (s : State) (owner : Nat) : List Byte :=
  ([completionIndex 0 1 0x13, completionIndex 0 1 0x14, 0x800 + 0x13, 0x800 + 0x14, 0x800 + 0x52, 0x800 + 0x53, 0x800 + 0x72].map
    (fun i => counterBytes s (cid 5 owner i))).flatten

/-- Occupancy, high-water mark and drop counts of a pool (1), an ingress group (2) or an egress queue (3), or the record
`COTE` (0) (R293; the layout is the model's, assumption 26). -/
def bufferData (s : State) (kind index : Nat) : List Byte :=
  match kind with
  | 0 => beBytes 8 s.cote.cfg.toNat
  | 1 =>
    let p := s.cote.pool index
    beBytes 8 p.cfg.toNat ++ beBytes 4 p.used ++ beBytes 4 p.sharedUsed ++ beBytes 4 p.high ++ beBytes 4 p.cache ++
      beBytes 4 p.ring ++ counterBytes s (cacheEmptyId index) ++ counterBytes s (poolDropId index)
  | 2 =>
    let g := s.cote.group index
    beBytes 8 g.cfg.toNat ++ beBytes 4 g.reserved ++ beBytes 4 g.shared ++ beBytes 4 g.headroom ++ beBytes 4 g.high ++
      beBytes 1 (b2n g.xoff) ++ counterBytes s (cid 8 (0x100 + index) 0)
  | _ =>
    let e := s.queue (index / 8) (index % 8)
    beBytes 8 e.buf.toNat ++ beBytes 4 (queueCells e) ++ beBytes 4 e.high ++ counterBytes s (cid 8 (0x400 + index) 0)

/-- BUFFER_READ (R293): a tenant reads the drop counts charged to it. -/
def execBufferRead (c : CmdRef) (kind index : Nat) (s : State) : Host.Outcome State Fault Refusal :=
  .next (runCommand s c 0x0604 (fun k s =>
    if !k.isOp then okRead s (ownerDrops s k.owner)
    else if kind > 3 then ends s (badField 0x0300 0 32)
    else if index ≥ (if kind == 0 then 1 else if kind == 1 then 64 else 512) then ends s (badField 0x0300 0 0)
    else okRead s (bufferData s kind index)))

end Sys2Proof.Machine
end

