-- ==== Sys2Proof/Machine/Rules.lean ====
section
/-! DEFINITION. The commands of area 0x03: scope rules, rules, profiles, mirror sessions, slow-path records (R72,
R77–R96, R246). -/

namespace Sys2Proof.Machine

/-- A FIELD failure in a rule record (R385): the record has 32 + 2W bytes; the field ends at byte `last`. -/
def badRule (code width last lo : Nat) : Status := badField code 0 (8 * (32 + 2 * width - 1 - last) + lo)

/-- Whether a rule of a scope or of an owner has an id. -/
def Rule.isOf (r : Rule) (owner id : Nat) : Bool := r.id == id && r.tenant == owner

/-- A rule as its record gives it. -/
def ruleFrom (x : RuleRec) (order : Nat) : Rule :=
  { id := x.id, tenant := x.tenant, profile := x.profile, prio := x.prio, action := x.action, value := x.value,
    mask := x.mask, order := order, bad := [], images := [], shadowLost := false, dead := false }

/-- Whether a rule is what a record asks for (R405). -/
def Rule.asRecord (r : Rule) (x : RuleRec) : Bool :=
  r.tenant == x.tenant && r.profile == x.profile && r.prio == x.prio && r.action == x.action && r.value == x.value && r.mask == x.mask

/-- What a rule record of either kind must hold (R77, R82). -/
def recordBad (k : Call) (x : RuleRec) : List (Bool × Status) :=
  let w := x.width
  [(decide (x.id ≥ 0xFFFFFFFF), badRule 0x0300 w 3 0), (x.tenant != k.owner, badRule 0x0201 w 5 0),
   (decide (x.prio > 65535), badRule 0x0300 w 9 0),
   (decide (x.value ≥ 2 ^ (8 * w)), badRule 0x0300 w (31 + w) 0), (decide (x.mask ≥ 2 ^ (8 * w)), badRule 0x0300 w (31 + 2 * w) 0)]

/-- Reserved bits of an action word, at their place in the record (R10, R83). -/
def actionReserved (w : Nat) (a : BitVec 128) (fields : List (Nat × Nat)) : List (Bool × Status) :=
  fields.map (fun f => (fld a f.1 f.2 != 0, badRule 0x0100 w 31 f.1))

/-- SCOPE_RULE_ADD (R77, R246). -/
def execScopeRuleAdd (c : CmdRef) (x : RuleRec) (s : State) : Host.Outcome State Fault Refusal :=
  .next (runCommand s c 0x0300 (fun k s =>
    let tenant := fld x.action 0 12
    if x.width != 10 then endsCode s 0x0100
    else unlessBad s (recordBad k x ++ actionReserved 10 x.action [(17, 15), (32, 96)] ++
      [(x.profile != 0, badRule 0x0300 10 6 0), (decide (tenant > 511) && tenant != operatorId, badRule 0x0300 10 31 0), namesBusy s tenant])
      (match s.sluice.scopeRules.find? (fun r => r.id == x.id) with
       | some r => if r.asRecord x then ends s (plain 2 false) else ends s (failWith 0x0302 3 x.id)
       | none =>
         if s.sluice.scopeRules.length ≥ 4096 then ends s (failWith 0x0402 3 0xFFFFFFFF)
         else
           let r := ruleFrom x s.sluice.order
           okDone (setClsPresence false (s.setSluice { s.sluice with scopeRules := s.sluice.scopeRules ++ [r], order := s.sluice.order + 1 })))))

/-- SCOPE_RULE_DELETE (R77). -/
def execScopeRuleDelete (c : CmdRef) (id : Nat) (s : State) : Host.Outcome State Fault Refusal :=
  .next (runCommand s c 0x0301 (fun _ s =>
    if s.sluice.scopeRules.any (fun r => r.id == id) then
      okDone (s.setSluice { s.sluice with scopeRules := s.sluice.scopeRules.filter (fun r => r.id != id) })
    else ends s (plain 3 false)))

/-- Whether an owner's quota grants express use; the operator always has it (R86, R350). -/
def expressGranted (s : State) (owner : Nat) : Bool :=
  owner == operatorId || (match AMap.find s.trust.slots owner with
    | none => false
    | some x => maskHas (quotaField x.quota 3 1) 0)

/-- A profile that a rule or a set may name: fixed, or built (R79, R81). -/
def profileBuilt (s : State) (p : Nat) : Bool := decide (p < 8) || AMap.has s.sluice.profiles p

/-- What the action of a rule must hold (R83–R86, R88). -/
def actionBad (s : State) (owner w : Nat) (a : BitVec 128) : List (Bool × Status) :=
  let at_ (code lo : Nat) : Status := badRule code w 31 lo
  let fwd := actForward a
  let mode := actDsel a % 8
  let prog := AMap.find s.legend.programs (actProgram a)
  let session := AMap.at s.sluice.sessions (actSession a) mirrorReset
  let unused (c : Bool) (lo n : Nat) : Bool × Status := (!c && fld a lo n != 0, at_ 0x0301 lo)
  actionReserved w a [(4, 4), (27, 1), (57, 7), (76, 20)] ++
  [(!actCombo (fld a 0 4), at_ 0x0301 0), unused fwd 8 16, unused fwd 24 3, unused fwd 28 4, unused fwd 32 20,
   unused fwd 52 5, unused (actMirror a) 64 8, unused (actCopy a) 72 4, unused (fwd || actCopy a) 96 32,
   (decide (mode > 4), at_ 0x0300 28), (maskHas (actDsel a) 3 && mode != 1 && mode != 2, at_ 0x0301 28),
   (decide (actSpan a > 20), at_ 0x0300 52), (!rangeOk (actBase a) (actSpan a), at_ 0x0301 32),
   (fwd && prog.isNone, failWith 0x0107 3 (actProgram a)),
   (fwd && (prog.map (·.owner)) != some owner, failWith 0x0201 3 (actProgram a)),
   (fwd && actPriority a == 0 && !expressGranted s owner, noRoom 0x0400 0x15 owner),
   (actMirror a && fld session 0 12 != owner, failWith 0x0201 3 (actSession a))]

/-- The prefix of a rule: the owner and the profile, compared whole (R78). -/
def prefixBad (owner : Nat) (x : RuleRec) : List (Bool × Status) :=
  [(fld (BitVec.ofNat 16 x.mask) 0 16 != 0xFFFF, badRule 0x0300 x.width (31 + 2 * x.width) 0),
   (x.value % 4096 != owner, badRule 0x0201 x.width (31 + x.width) 0),
   (x.value / 4096 % 16 != x.profile, badRule 0x0300 x.width (31 + x.width) 12)]

/-- A rule installed within the owner's quota and the partition (R82, R246). -/
def installRule (s : State) (owner : Nat) (x : RuleRec) : State × Ending :=
  let r := ruleFrom x s.sluice.order
  let next := s.setSluice { s.sluice with rules := s.sluice.rules ++ [r], order := s.sluice.order + 1 }
  if tcamUnits next owner > ownerQuota s owner 8 4 then
    ends s (noRoom 0x0400 0x10 owner)
  else if rulesTake next > ruleBanks s then ends s (failWith 0x0402 3 0xFFFFFFFF)
  else okDone (setClsPresence false next)

/-- RULE_ADD (R78, R82–R86). -/
def execRuleAdd (c : CmdRef) (x : RuleRec) (s : State) : Host.Outcome State Fault Refusal :=
  .next (runCommand s c 0x0302 (fun k s =>
    if x.profile > 15 || !profileBuilt s x.profile then ends s (badRule 0x0300 x.width 6 0)
    else if x.width != 10 * profileUnits s x.profile then endsCode s 0x0100
    else unlessBad s (recordBad k x ++ actionBad s k.owner x.width x.action ++ prefixBad k.owner x)
      (match s.sluice.rules.find? (fun r => r.isOf k.owner x.id) with
       | some r => if r.asRecord x then ends s (plain 2 false) else ends s (failWith 0x0302 3 x.id)
       | none => installRule s k.owner x)))

/-- RULE_DELETE (R82). -/
def execRuleDelete (c : CmdRef) (id : Nat) (s : State) : Host.Outcome State Fault Refusal :=
  .next (runCommand s c 0x0303 (fun k s =>
    if s.sluice.rules.any (fun r => r.isOf k.owner id) then
      okDone (setClsPresence false (s.setSluice { s.sluice with rules := s.sluice.rules.filter (fun r => !r.isOf k.owner id) }))
    else ends s (plain 3 false)))

/-- A rule's counters and, for its owner, its contents (R89; assumption 26). -/
def ruleData (s : State) (r : Rule) (whole : Bool) (units : Nat) : List Byte :=
  let w := 10 * units
  beBytes 4 r.id ++ beBytes 8 (counted s (ruleCid r.tenant r.order 0)) ++ beBytes 8 (counted s (ruleCid r.tenant r.order 1)) ++
    beBytes 1 units ++
    (if whole then beBytes 2 r.tenant ++ beBytes 1 r.profile ++ beBytes 2 r.prio ++ beBytes 16 r.action.toNat ++
      beBytes w r.value ++ beBytes w r.mask else [])

/-- RULE_READ (R89): the selector's index names the owner, or 0x1FFF the scope rules; a tenant reads its own rules only
(assumption 26). -/
def execRuleRead (c : CmdRef) (id owner : Nat) (s : State) : Host.Outcome State Fault Refusal :=
  .next (runCommand s c 0x0304 (fun k s =>
    if owner != k.owner && !k.isOp then endsCode s 0x0201
    else if owner == 0x1FFF then
      (match s.sluice.scopeRules.find? (fun r => r.id == id) with
        | none => endsCode s 0x0107
        | some r => okRead s (ruleData s r true 1))
    else if slotBusy s owner then ends s (namesBusy s owner).2
    else match s.sluice.rules.find? (fun r => r.isOf owner id) with
      | none => endsCode s 0x0107
      | some r => okRead s (ruleData s r (owner == k.owner) (profileUnits s r.profile))))

/-- What each extractor must hold (R81). -/
def extractorBad (e : BitVec 32) (i : Nat) : List (Bool × Status) :=
  reservedBad e [(12, 4)] (8 + 4 * i) ++ [(decide (fld e 0 4 > 8), badField 0x0300 (8 + 4 * i) 0)]

/-- Whether a profile is in use by a set or a rule (R81). -/
def profileUsed (s : State) (p : Nat) : Bool :=
  s.sluice.rules.any (fun r => r.profile == p) || s.sluice.sets.any (fun v => (List.range 8).any (fun c => fld v.2 (4 * c) 4 == p))

/-- PROFILE_WRITE (R81). -/
def execProfileWrite (c : CmdRef) (profile : Nat) (extractors : List (BitVec 32)) (s : State) : Host.Outcome State Fault Refusal :=
  .next (runCommand s c 0x0305 (fun _ s =>
    if profile < 8 || profile > 15 then ends s (badField 0x0300 0 32)
    else if extractors.isEmpty || decide (extractors.length > 19) then ends s (badField 0x0300 8 0)
    else unlessBad s ((extractors.zipIdx.map (fun e => extractorBad e.1 e.2)).flatten ++
      [(profileUsed s profile && AMap.find s.sluice.profiles profile != some extractors, failWith 0x0500 3 profile)])
      (okDone (s.setSluice { s.sluice with profiles := AMap.put s.sluice.profiles profile extractors }))))

/-- PROFILE_SET_WRITE (R79). -/
def execProfileSetWrite (c : CmdRef) (set : Nat) (record : BitVec 32) (s : State) : Host.Outcome State Fault Refusal :=
  .next (runCommand s c 0x0306 (fun _ s =>
    if set > 15 then ends s (badField 0x0300 0 0)
    else unlessBad s ((List.range 8).map (fun i => (!profileBuilt s (fld record (4 * i) 4), badField 0x0300 8 (4 * i))))
      (okDone (s.setSluice { s.sluice with sets := AMap.put s.sluice.sets set record }))))

/-- A mirror session. -/
def mirrorOf (s : State) (id : Nat) : BitVec 64 := AMap.at s.sluice.sessions id mirrorReset

/-- Whether a rule names a mirror session (R88). -/
def sessionNamed (s : State) (id : Nat) : Bool := s.sluice.rules.any (fun r => actMirror r.action && actSession r.action == id)

/-- MIRROR_SESSION_WRITE (R88). -/
def execMirrorSessionWrite (c : CmdRef) (id : Nat) (record : BitVec 64) (s : State) : Host.Outcome State Fault Refusal :=
  .next (runCommand s c 0x0307 (fun k s =>
    let was := mirrorOf s id
    let put (v : BitVec 64) : State := s.setSluice { s.sluice with sessions := AMap.put s.sluice.sessions id v }
    let owner := fld record 0 12
    if id > 255 then ends s (badField 0x0300 0 0)
    else unlessBad s (reservedBad record [(23, 1), (46, 18)] 8 ++
      [(decide (owner > 511) && owner != operatorId, badField 0x0300 8 0),
       (decide (fld record 32 14 < 64) || decide (fld record 32 14 > 9216), badField 0x0300 8 32), namesBusy s owner])
      (if owner != fld was 0 12 then
        (if !k.isOp then endsCode s 0x0201
         else if sessionNamed s id then ends s (failWith 0x0500 3 id)
         else okDone (put (setFld mirrorReset 0 12 owner)))
      else if owner != k.owner then endsCode s 0x0201
      else if !k.isOp && fld record 12 2 == 1 then ends s (badField 0x0300 8 12)
      else if fld record 12 2 == 2 && !s.ident.flash then endsCode s 0x0406
      else okDone (put record))))

/-- SLOW_REASON_WRITE (R95). -/
def execSlowReasonWrite (c : CmdRef) (reason : Nat) (record : BitVec 128) (s : State) : Host.Outcome State Fault Refusal :=
  .next (runCommand s c 0x0308 (fun _ s =>
    let old := slowReason s reason
    let b := retune (AMap.find s.sluice.reasonBuckets reason) (fld old 0 16) (fld old 16 17) (fld record 16 17) (now s)
    if reason == 0 || reason > 10 then ends s (badField 0x0300 0 0)
    else unlessBad s (reservedBad record [(36, 4), (65, 63)] 8 ++
      [(decide (fld record 0 16 > 50000), badField 0x0300 8 0), (fld record 16 17 == 0 || decide (fld record 16 17 > 65536), badField 0x0300 8 16),
       (fld record 33 3 == 0, badField 0x0300 8 33), (decide (fld record 60 5 > 20), badField 0x0300 8 60),
       (!rangeOk (fld record 40 20) (fld record 60 5), badField 0x0301 8 40)])
      (okDone (s.setSluice { s.sluice with
        reasons := AMap.put s.sluice.reasons reason record, reasonBuckets := AMap.put s.sluice.reasonBuckets reason b }))))

/-- SLOW_TENANT_WRITE (R96). -/
def execSlowTenantWrite (c : CmdRef) (tenant : Nat) (record : BitVec 64) (s : State) : Host.Outcome State Fault Refusal :=
  .next (runCommand s c 0x0309 (fun _ s =>
    let old := slowTenant s tenant
    let b := retune (AMap.find s.sluice.tenantBuckets tenant) (fld old 0 14) (fld old 16 17) (fld record 16 17) (now s)
    if tenant > 511 then ends s (badField 0x0300 0 0)
    else unlessBad s (reservedBad record [(14, 2), (33, 31)] 8 ++
      [(decide (fld record 0 14 > 10000), badField 0x0300 8 0), (fld record 16 17 == 0 || decide (fld record 16 17 > 65536), badField 0x0300 8 16),
       namesBusy s tenant])
      (okDone (s.setSluice { s.sluice with
        tenants := AMap.put s.sluice.tenants tenant record, tenantBuckets := AMap.put s.sluice.tenantBuckets tenant b }))))

/-- SLUICE_WRITE (R72). -/
def execSluiceWrite (c : CmdRef) (record : BitVec 64) (s : State) : Host.Outcome State Fault Refusal :=
  .next (runCommand s c 0x030A (fun _ s =>
    let v := fld record 0 16
    let g := fld record 16 16
    let r := fld record 32 16
    unlessBad s (reservedBad record [(48, 16)] 0 ++
      [(v != 0 && v == g, badField 0x0301 0 16), ((v != 0 && v == r) || (g != 0 && g == r), badField 0x0301 0 32)])
      (okDone (s.setSluice { s.sluice with cfg := record }))))

/-- What CLASSIFIER_READ returns (R408; kinds and layout are the model's, assumption 26): 0 a profile, 1 a set, 2 a
session, 3 a reason, 4 a tenant's bucket, 5 units in use, 6 the record `SLUICE`. -/
def classifierData (s : State) (k : Call) (kind index : Nat) : Option (List Byte) :=
  match kind with
  | 0 => some (((profileKeys s index).map (fun e => beBytes 4 e.toNat)).flatten)
  | 1 => some (beBytes 4 (AMap.at s.sluice.sets index profileSetReset).toNat)
  | 2 =>
    let r := mirrorOf s index
    if fld r 0 12 == k.owner then some (beBytes 8 r.toNat)
    else if k.isOp then some (beBytes 2 (fld r 0 12) ++ beBytes 1 (b2n (fld r 12 2 != 0))) else none
  | 3 => if k.isOp then some (beBytes 16 (slowReason s index).toNat) else none
  | 4 => if k.isOp || index == k.owner then some (beBytes 8 (slowTenant s index).toNat) else none
  | 5 => if k.isOp || index == k.owner then some (beBytes 4 (tcamUnits s index)) else none
  | _ => if k.isOp then some (beBytes 8 s.sluice.cfg.toNat) else none

/-- Objects of a kind of CLASSIFIER_READ. -/
def classifierCount : Nat → Nat
  | 0 => 16
  | 1 => 16
  | 2 => 256
  | 3 => 11
  | 6 => 1
  | _ => 4096

/-- CLASSIFIER_READ (R88, R96, R408). -/
def execClassifierRead (c : CmdRef) (kind index : Nat) (s : State) : Host.Outcome State Fault Refusal :=
  .next (runCommand s c 0x030B (fun k s =>
    if kind > 6 then ends s (badField 0x0300 0 32)
    else if index ≥ classifierCount kind then ends s (badField 0x0300 0 0)
    else if (kind == 4 || kind == 5) && slotBusy s index then ends s (namesBusy s index).2
    else match classifierData s k kind index with
      | some d => okRead s d
      | none => endsCode s 0x0201))

end Sys2Proof.Machine
end

