-- ==== Sys2Proof/Machine/Dram.lean ====
section
/-! DEFINITION. The DRAM subsystem: service, refresh, errors, training, area 0x07 (R294–R321). -/

namespace Sys2Proof.Machine

/-! ### Errors of a line -/

/-- A corrected line counted once in 24 h (R310); the 512th in the window retires the rank (R313). -/
def correctedLine (s : State) (r owner line : Nat) : State :=
  let x := rankAt s r
  let w := windowLines s x
  if w.any (fun e => e.1 == owner && e.2.1 == line) then s
  else
    let w := w ++ [(owner, line, poweredTime s)]
    let s := setRank s r { x with corrected := w }
    if w.length ≥ 512 then condemn s r 2 else s

/-- A line poisoned (R311): of an owner's allocation, or of a table's records. -/
def poisonLine (s : State) (owner line : Nat) : State :=
  if owner ≥ tableOwner then
    match AMap.find s.gaz.tables (owner - tableOwner) with
    | none => s
    | some t => if t.poison.contains line then s else s.setTable (owner - tableOwner) { t with poison := line :: t.poison }
  else
    let l := AMap.at s.dram.poison owner []
    if l.contains line then s else s.setDram { s.dram with poison := AMap.put s.dram.poison owner (line :: l) }

/-- A line whose every retry failed (R311): poisoned, counted, its rank retired (R313). -/
def uncorrectable (s : State) (r owner line : Nat) : State :=
  let s := poisonLine s owner line
  condemn (setRank s r { rankAt s r with ueCount := min 255 ((rankAt s r).ueCount + 1) }) r 1

/-! ### Service (R303, R304, R317–R319) -/

/-- Symbols of 16 bits of a line's codeword (R309): its 64 bytes and 8 check bytes. -/
def lineSymbols : Nat := 36
/-- Check symbols among them. -/
def checkSymbols : Nat := 4

/-- What the code makes of a codeword with a number of wrong symbols (R309). -/
inductive Ecc where
  | good
  | corrected
  | detected
  deriving DecidableEq, Repr

/-- The code corrects up to 2 wrong symbols and detects 3 or 4; more are taken as detected, which it does with a
probability above 1 − 10^−9 (R309; assumption 94). -/
def eccOf (wrong : Nat) : Ecc :=
  if wrong == 0 then .good else if 2 * wrong ≤ checkSymbols then .corrected else .detected

/-- Urgency of a request (R303). -/
def urgencyOf (s : State) (q : DramReq) : Nat := urgencyAt s q.port q.bytes q.arrival q.express

/-- Lines of 64 bytes of a request (R304, R311). -/
def linesOf (off n : Nat) : List Nat := (List.range (if n == 0 then 0 else (off + n - 1) / 64 - off / 64 + 1)).map (off / 64 + ·)

/-- Whether an older request of the port for a line of this one waits (R304). -/
def lineBlocked (reqs : List DramReq) (q : DramReq) : Bool :=
  reqs.any (fun o => o.port == q.port && o.owner == q.owner && decide (o.arrival < q.arrival) &&
    (linesOf o.offset o.bytes).any (fun l => (linesOf q.offset q.bytes).contains l))

/-- Whether an entry of the passed-over list is a request's. -/
def PassedOver.isOf (p : PassedOver) (bank : Nat) (q : DramReq) : Bool :=
  p.bank == bank && p.port == q.port && p.owner == q.owner && p.offset == q.offset && p.arrival == q.arrival

/-- How often row hits have passed over a request at its bank (R304). -/
def passedTimes (k : Stack) (bank : Nat) (q : DramReq) : Nat :=
  ((k.passed.find? (fun p => p.isOf bank q)).map (·.times)).getD 0

/-- The older of two requests. -/
def olderReq (a b : DramReq) : DramReq := if b.arrival < a.arrival then b else a
/-- The oldest of some requests. -/
def oldestReq : List DramReq → Option DramReq
  | [] => none
  | q :: rest => some (match oldestReq rest with
    | none => q
    | some o => olderReq q o)

/-- The requests of a bank that may be served: of the highest urgency, none with an older one for its line (R304). -/
def bestReqs (s : State) (reqs : List DramReq) : List DramReq :=
  let free := reqs.filter (fun q => !lineBlocked reqs q)
  let top := free.foldl (fun n q => max n (urgencyOf s q)) 0
  free.filter (fun q => urgencyOf s q == top)

/-- The request that a bank serves next (R304): one that row hits have passed over 16 times, else a row hit, else the
oldest. -/
def chooseReq (s : State) (k : Stack) (bank : Nat) (reqs : List DramReq) : Option DramReq :=
  let best := bestReqs s reqs
  match oldestReq (best.filter (fun q => decide (passedTimes k bank q ≥ 16))) with
  | some q => some q
  | none =>
    match oldestReq (best.filter (fun q => AMap.find k.openRow bank == some q.row)) with
    | some hit => some hit
    | none => oldestReq best

/-- A row hit served: each older request of its urgency has been passed over once more; a served request is forgotten
(R304). -/
def notePassed (s : State) (k : Stack) (bank : Nat) (reqs : List DramReq) (q : DramReq) : Stack :=
  let older := if AMap.find k.openRow bank == some q.row then (bestReqs s reqs).filter (fun o => decide (o.arrival < q.arrival)) else []
  let kept := k.passed.filter (fun p => !p.isOf bank q && !older.any (p.isOf bank))
  { k with passed := kept ++ older.map (fun o => ⟨bank, o.port, o.owner, o.offset, o.arrival, passedTimes k bank o + 1⟩) }

/-- One line of a write: a whole line clears its poison, a part of a poisoned line is discarded (R311). -/
def writeLine (owner off : Nat) (data : List Byte) (s : State) (line : Nat) : State :=
  let lo := max off (64 * line)
  let hi := min (off + data.length) (64 * line + 64)
  let bytes := (data.drop (lo - off)).take (hi - lo)
  let p := AMap.at s.dram.poison owner []
  if p.contains line && hi - lo < 64 then poisonDrop s owner lo
  else
    let s := s.setDram { s.dram with poison := AMap.put s.dram.poison owner (p.filter (· != line)) }
    writeBytes s (.dram owner lo) bytes

/-- One line of a write to a table's storage: a whole line is poisoned no more, a part of a poisoned line is discarded (R311). -/
def writeTableLine (owner off n : Nat) (s : State) (line : Nat) : State :=
  let lo := max off (64 * line)
  let hi := min (off + n) (64 * line + 64)
  match AMap.find s.gaz.tables (owner - tableOwner) with
  | none => s
  | some t =>
    if !t.poison.contains line then s
    else if hi - lo < 64 then poisonDrop s owner lo
    else s.setTable (owner - tableOwner) { t with poison := t.poison.filter (· != line) }

/-- Bytes that an owner's allocation holds: the far buffer for the device (R276, R296). -/
def allocOf (s : State) (owner : Nat) : Nat := if owner == deviceId then farGib s * 2 ^ 30 else AMap.at s.dram.alloc owner 0

/-- Bytes that the storage of an owner or of a table holds, beyond which a request is refused (R297). -/
def storageOf (s : State) (owner : Nat) : Nat :=
  if owner < tableOwner then allocOf s owner
  else match AMap.find s.gaz.tables (owner - tableOwner) with
    | none => 0
    | some t => tableDram t

/-- A request served: its port's counters and profile, its row, its data (R297, R302–R304, R311); one beyond its owner's
allocation is refused, which its port counts. -/
def serveReq (s : State) (stack bank : Nat) (q : DramReq) (corrected : Bool) : State :=
  if q.offset + q.bytes > storageOf s q.owner then count s (portCountId q.port 5) 1
  else
    let s := servePort s q.port q.owner q.bytes q.arrival (decide (q.arrival < (stackAt s stack).woke)) q.express
    let s := setStack s stack { stackAt s stack with openRow := AMap.put (stackAt s stack).openRow bank q.row }
    if q.write && q.owner ≥ tableOwner then (linesOf q.offset q.bytes).foldl (writeTableLine q.owner q.offset q.bytes) s
    else if q.write then (linesOf q.offset (q.data.take q.bytes).length).foldl (writeLine q.owner q.offset (q.data.take q.bytes)) s
    else if corrected then correctedLine s (rankOf s q.owner q.offset) q.owner (q.offset / 64)
    else s

/-- The copy pointer of a migration at this moment (R314): it never goes back (assumption 94). -/
def advanceCopy (s : State) : State :=
  match s.dram.move with
  | none => s
  | some m => s.setDram { s.dram with move := some { m with copied := max m.copied (Config.copied (now s - m.since)) } }

/-- The entry of a request in a list of requests of its stack. -/
def DramReq.seenAt (q : DramReq) (bank : Nat) : PassedOver := ⟨bank, q.port, q.owner, q.offset, q.arrival, 0⟩

/-- LATE_WAKE counted for the requests at a bank that arrived after the entry command, each once (R319). -/
def noteLate (s : State) (stack bank : Nat) (reqs : List DramReq) : State :=
  let k := stackAt s stack
  let late := (reqs.filter (fun q => k.lateFor q.arrival && !k.lateSeen.contains (q.seenAt bank))).map (·.seenAt bank)
  countLate (setStack s stack { k with lateSeen := k.lateSeen ++ late }) stack late.length

/-- Requests at a stack that does not serve (R317–R319): one that arrived before the entry command aborts the entry; else the
exit starts, except in STANDBY. -/
def wakeStack (s : State) (stack bank : Nat) (reqs : List DramReq) : State :=
  if s.power.state == .standby then s
  else
    let s := noteLate s stack bank reqs
    setStack s stack { (stackAt s stack).exitFrom (now s) with lastRequest := now s }

/-- DRAM_REQUEST (R304, R309, R310, R317–R319): the requests that wait at a bank, and how many data and check symbols of the
line that the served one reads are wrong; detected data is read again. -/
def execDramRequest (stack bank : Nat) (reqs : List DramReq) (wrongData wrongCheck : Nat) (s : State) : Host.Outcome State Fault Refusal :=
  checked (okStack stack && reqs.all (fun q => decide (q.port < 24)))
    (let k := stackAt s stack
     let serve (s : State) : State :=
       let s := advanceCopy (setStack s stack { stackAt s stack with lastRequest := now s, refresh := .active })
       match chooseReq s k bank reqs with
       | none => s
       | some q =>
         let s := setStack s stack (notePassed s (stackAt s stack) bank reqs q)
         serveReq s stack bank q (eccOf (wrongData + wrongCheck) == .corrected)
     if !s.dram.trained || reqs.isEmpty then s
     else match k.refresh with
       | .active => finish (serve s)
       | .entering since =>
         if s.power.state != .standby && (decide (now s < since + 300) || reqs.any (fun q => decide (q.arrival < since + 300)))
         then finish (serve s) else finish (wakeStack s stack bank reqs)
       | .exiting _ => finish (wakeStack s stack bank reqs))

/-- Interval of a bank's refreshes in ns: half as long while its stack is above 85 °C (R300). -/
def refreshInterval (s : State) (stack : Nat) : Ns :=
  if (AMap.at s.power.temps (8 + stack) 25).toNat > 85 then 1950 else 3900

/-- REFRESH (R300): the controller may refresh a bank, with requests queued there or none. Without one the refresh is
issued, pulled in by up to 8 intervals; with one it is postponed, and forced once it is 8 intervals late. -/
def execRefresh (stack bank : Nat) (queued : Bool) (s : State) : Host.Outcome State Fault Refusal :=
  checked (okStack stack)
    (let k := stackAt s stack
     let i := refreshInterval s stack
     let due := AMap.at k.refreshAt bank (k.refreshBase + i)
     let done (s : State) : State := setStack s stack { k with refreshAt := AMap.put k.refreshAt bank (due + i) }
     if !s.dram.trained || k.refresh != .active then s
     else if !queued then (if due > now s + 8 * i then s else done s)
     else if now s ≥ due + 8 * i then finish (count (done s) (stackCountId stack 1) 1)
     else s)

/-- CALIBRATION (R299): a pseudo-channel, 32 × stack + channel, every 100 ms. -/
def execCalibration (channel : Nat) (s : State) : Host.Outcome State Fault Refusal :=
  checked (okStack (channel / 32))
    (if !s.dram.trained || decide (now s < AMap.at s.dram.calibrated channel 0 + 100000000) then s
     else s.setDram { s.dram with calibrated := AMap.put s.dram.calibrated channel (now s) })

/-- When a refresh that falls due every `i` ns is due next, once those pending have been issued (R318). -/
def caughtUp (t i due : Ns) : Ns := if due > t then due else due + ((t - due) / i + 1) * i

/-- A stack that starts its entry at a moment: the refreshes that are pending are issued (R318). -/
def Stack.enter (k : Stack) (t i : Ns) : Stack :=
  { k with refresh := .entering t, refreshAt := k.refreshAt.map (fun b => (b.1, caughtUp t i b.2)),
           refreshBase := caughtUp t i (k.refreshBase + i) - i, lateSeen := [] }

/-- SELF_REFRESH_ENTRY (R317, R318): a stack idle in NAP. -/
def execSelfRefreshEntry (stack : Nat) (s : State) : Host.Outcome State Fault Refusal :=
  checked (okStack stack)
    (let k := stackAt s stack
     let idle := fld s.dram.cfg 0 14
     if k.refresh != .active || s.power.state != .nap || idle == 0 || decide (now s < k.lastRequest + 1000 * idle) then s
     else setStack s stack (k.enter (now s) (refreshInterval s stack)))

/-- A stack that serves again after self-refresh: no refresh of a bank is postponed then (R300, R318). -/
def Stack.awake (k : Stack) (t : Ns) : Stack :=
  { k with refresh := .active, refreshAt := [], refreshBase := t, woke := t, lastRequest := t, lateSeen := [] }

/-- SELF_REFRESH_EXIT (R300, R318): 1.5 µs after the exit started. -/
def execSelfRefreshExit (stack : Nat) (s : State) : Host.Outcome State Fault Refusal :=
  checked (okStack stack)
    (let k := stackAt s stack
     match k.refresh with
     | .exiting since =>
       if now s < since + 1500 then s
       else setStack s stack (k.awake (now s))
     | _ => s)

/-! ### Errors -/

/-- The searches that read a line of a table's storage: a retry of the read extends their deadline (R268). -/
def extendSearches (s : State) (table line : Nat) : State :=
  let t := s.table table
  let us := fld s.gaz.cfg 4 10
  let cap := fld s.gaz.cfg 16 10
  { s with gaz := { s.gaz with searches := s.gaz.searches.map (fun q =>
      if q.table == table && searchReads t q.key line && decide (now s < q.deadline) then
        { q with deadline := max q.deadline (min (now s + 1000 * us) (q.issued + 1000 * cap)) } else q) } }

/-- The searches in flight that read a line of a table's storage end POISON: every retry of the read has failed (R267, R311). -/
def poisonSearches (s : State) (table line : Nat) : State :=
  let t := s.table table
  let hit (q : Search) : Bool := q.table == table && searchReads t q.key line && !q.timedOut && !q.aborted
  let n := (s.gaz.searches.filter hit).length
  let s := { s with gaz := { s.gaz with searches := s.gaz.searches.map (fun q =>
    if hit q then { q with result := resultWord 6 false false q.tableNo 0 0, data := q.data.map (fun _ => 0) } else q) } }
  (List.range n).foldl (fun s _ => tableCount s table 8) s

/-- Packets whose threads wait for a line: their lifetime is extended as for a promotion's retry (R116, R311). -/
def extendWaiters (s : State) (owner line : Nat) : State :=
  (s.threads.filter (fun t => waitsFor owner line t.2)).foldl (fun s t =>
    match t.2.ctxId with
    | none => s
    | some c => match s.ctx? c with
      | none => s
      | some x => if now s < x.lifeEnd then s.setCtx c { x with lifeEnd := max x.lifeEnd (min (now s + 1000000) (x.taken + capNs s)) } else s) s

/-- A line's retries have ended (R311, R506): each requester that failed meanwhile counts one late completion, at its port
and in LATE_DRAM. -/
def endRetries (s : State) (owner line : Nat) : State :=
  let late := s.dram.lateReads.filter (fun e => e.1 == owner && e.2.1 == line)
  let s := s.setDram { s.dram with
    retrying := s.dram.retrying.filter (· != (owner, line)),
    lateReads := s.dram.lateReads.filter (fun e => !(e.1 == owner && e.2.1 == line)) }
  late.foldl (fun s e => count (count s (portCountId e.2.2 1) 1) (lateId (0x10 + e.2.2)) 1) s

/-- The commands in flight that work on a table: a retry of a read of its storage extends their deadlines (R401). -/
def commandsOn (s : State) (table : Nat) : List Nat :=
  let t := s.table table
  t.batch.map (·.acc) ++ t.rebuildAccs ++ (t.rehash.bind (·.acc)).toList ++
    (s.meridian.writes.filter (fun w => w.key.2 == table)).filterMap (·.acc)

/-- A retry of a read of a table's storage: the searches and the commands that wait for it have more time (R268, R401). -/
def extendTable (s : State) (table line : Nat) : State :=
  (commandsOn s table).foldl (extendDeadline 2) (extendSearches s table line)

/-- DRAM_READ_RETRY (R309, R311): the n-th retry of an uncorrectable line, with the wrong symbols that it reads. -/
def execDramReadRetry (rank owner line tries wrong : Nat) (s : State) : Host.Outcome State Fault Refusal :=
  checked (decide (rank < 18))
    (if !s.dram.trained then s
     else
       let s := extendWaiters (if owner ≥ tableOwner then extendTable s (owner - tableOwner) line else s) owner line
       if eccOf wrong != .detected then finish (count (endRetries s owner line) (stackCountId (rank / 3) 2) 1)
       else if tries ≥ 3 then
         let s := if owner ≥ tableOwner then poisonSearches s (owner - tableOwner) line else s
         finish (uncorrectable (endRetries s owner line) rank owner line)
       else finish (s.setDram { s.dram with retrying := (owner, line) :: s.dram.retrying.filter (· != (owner, line)) }))

/-- Lines of 64 bytes of a rank of 12 GiB (R294). -/
def rankLines : Nat := 12 * 2 ^ 24

/-- Whether the patrol scrub reads a rank: one in service or a spare (R312). -/
def scrubs (s : State) (r : Nat) : Bool := (rankAt s r).state != .retired && (rankAt s r).state != .failed

/-- Lines that a pass of the patrol scrub reads (R312). -/
def scrubLines (s : State) : Nat := rankLines * ((List.range 18).filter (scrubs s)).length

/-- The rank that the pass reads at a position, and the line in it: a rank that is read no more is passed by. -/
def scrubAt (s : State) (n : Nat) : Option (Nat × Nat) :=
  if scrubs s (n / rankLines) && decide (n / rankLines < 18) then some (n / rankLines, n % rankLines)
  else ((List.range 18).find? (fun r => decide (n / rankLines < r) && scrubs s r)).map (fun r => (r, 0))

/-- When the next line of the pass is read: the reads of a pass are spread over SCRUB_H (R312, R320; assumption 94). -/
def scrubDue (s : State) : Ns :=
  let n := s.dram.scrubbed
  let read := rankLines * ((List.range (n / rankLines)).filter (scrubs s)).length + n % rankLines
  s.dram.scrubSince + read * (3600000000000 * fld s.dram.cfg 16 8) / max 1 (scrubLines s)

/-- The line of its rank that holds a line of an owner's memory (R295, R297). -/
def lineInRank (s : State) (owner line : Nat) : Nat :=
  let off := 64 * line
  let unit := Config.extentOf owner (off / 2 ^ 21) * 8192 + off % 2 ^ 21 / 256
  4 * (unit / (slotRanks s).length) + line % 4

/-- Whether a line is the next of the pass (R312): of a rank in service the line that the owner's memory has there, if the owner
has it allocated; what a spare or an unallocated extent holds is no owner's. -/
def scrubNext (s : State) (rank owner line : Nat) : Bool :=
  match scrubAt s s.dram.scrubbed with
  | none => false
  | some (r, n) =>
    r == rank && ((rankAt s r).state == .spare || decide (storageOf s owner < 64 * line + 64) ||
      (rankOf s owner (64 * line) == r && lineInRank s owner line == n))

/-- One line of the pass read by port 23; the last one begins the next pass (R301, R312). -/
def countScrub (s : State) (rank owner : Nat) : State :=
  let s := servePort (arrive s (rank / 3)) 23 owner 64 (now s) false false
  let n := match scrubAt s s.dram.scrubbed with | none => 0 | some (r, k) => r * rankLines + k + 1
  if (scrubAt s n).isSome then s.setDram { s.dram with scrubbed := n }
  else s.setDram { s.dram with scrubbed := 0, scrubSince := s.dram.scrubSince + 3600000000000 * fld s.dram.cfg 16 8 }

/-- PATROL_SCRUB (R309–R313, R316): port 23 reads the next line of its pass when that is due, every line once; `wrong` says how
many symbols of the line are wrong at the read, and then at the last retry of an uncorrectable line. -/
def execPatrolScrub (rank owner line : Nat) (wrong : List Nat) (s : State) : Host.Outcome State Fault Refusal :=
  checked (decide (rank < 18))
    (let x := rankAt s rank
     if !s.dram.trained || !scrubNext s rank owner line || decide (now s < scrubDue s) then s
     else
       let s := countScrub s rank owner
       match eccOf (wrong.getD 0 0) with
       | .good => finish s
       | .corrected => finish (correctedLine s rank owner line)
       | .detected =>
         if eccOf (wrong.getD 1 0) != .detected then finish (count s (stackCountId (rank / 3) 2) 1)
         else
           let s := if x.state == .spare then s else poisonLine s owner line
           finish (condemn (setRank s rank { rankAt s rank with ueCount := min 255 ((rankAt s rank).ueCount + 1) }) rank 1))

/-- MIGRATION_END (R314): the slot is mapped to the spare and the old rank retired. -/
def execMigrationEnd (s : State) : Host.Outcome State Fault Refusal :=
  .next (match s.dram.move with
    | some ⟨r, some t, _, _⟩ =>
      let slot := (rankAt s r).slot
      let s := changeRank s t { rankAt s t with state := .inService, slot := slot }
      let s := changeRank s r { rankAt s r with state := .retired, slot := 31 }
      let s := raiseDev (s.setDram { s.dram with move := none }) 0x3A0 2 0
      finish (nextMove (setCredited s (slotsHeld s)))
    | _ => s)

/-- RESHAPE_END (R315): the remaining slots hold everything; the peak stays one slot lower. -/
def execReshapeEnd (s : State) : Host.Outcome State Fault Refusal :=
  .next (match s.dram.move with
    | some ⟨r, none, _, _⟩ =>
      let s := changeRank s r { rankAt s r with state := .retired, slot := 31 }
      let s := raiseDev (s.setDram { s.dram with move := none }) 0x3A0 2 0
      finish (nextMove (setCredited s (slotsHeld s)))
    | _ => s)

/-- RETIRE_PENDING_REMINDER (R315): every 60 s; the reshape starts once the allocations fit. -/
def execRetirePendingReminder (rank : Nat) (s : State) : Host.Outcome State Fault Refusal :=
  checked (decide (rank < 18))
    (if (rankAt s rank).state != .retirePending then s
     else if s.dram.move.isNone && fitsOneFewer s then finish (nextMove s)
     else if now s < (rankAt s rank).pendingAt + 60000000000 then s
     else finish (raiseDev (setRank s rank { rankAt s rank with pendingAt := now s }) (0x342 + 4 * rank) 1 0))

/-! ### Training (R298) -/

/-- The move in progress ends without its copy: its source or its target has failed training, and no content is left to copy
(R298, R314, R315). -/
def endMove (s : State) : State := raiseDev (s.setDram { s.dram with move := none }) 0x3A0 2 0

/-- A move in progress at a training (R298; assumption 94): a source that fails leaves its slot to the move's target; a target
that fails leaves the source to the next move. -/
def moveAtTraining (failed : List Nat) (s : State) : State :=
  match s.dram.move with
  | none => s
  | some m =>
    let x := rankAt s m.source
    if failed.contains m.source then
      let s := endMove (changeRank s m.source { x with state := .failed, slot := 31, cause := 3 })
      match m.target with
      | none => s
      | some t =>
        if failed.contains t then changeRank s t { rankAt s t with state := .failed, cause := 3 }
        else changeRank s t { rankAt s t with state := .inService, slot := x.slot }
    else match m.target with
      | none => s
      | some t =>
        if !failed.contains t then s
        else
          let s := changeRank s t { rankAt s t with state := .failed, cause := 3 }
          queueRank (endMove (changeRank s m.source { x with state := .inService })) m.source x.cause

/-- A rank that fails training: the lowest spare that trains takes its slot (R298). -/
def failTraining (failed : List Nat) (s : State) (r : Nat) : State :=
  let x := rankAt s r
  if x.state == .retired || x.state == .failed then s
  else
    let spare := (List.range 18).find? (fun t => (rankAt s t).state == .spare && !failed.contains t && t != r)
    let s := changeRank s r { x with state := .failed, slot := 31, cause := 3 }
    if x.slot > 15 then s
    else match spare with
      | none => s
      | some t => changeRank s t { rankAt s t with state := .inService, slot := x.slot }

/-- DRAM_TRAINED (R298): the stacks are trained; content does not survive OFF. -/
def execDramTrained (failed repaired : List Nat) (s : State) : Host.Outcome State Fault Refusal :=
  checked ((failed ++ repaired).all (fun r => decide (r < 18)))
    (if s.power.dramReady || !(s.power.phase == .booting || s.power.phase == .commandReady || s.power.phase == .recovery) then s
     else
       let s := repaired.foldl (fun s r => raiseDev s (0x340 + 4 * r) 1 0) s
       let s := failed.foldl (failTraining failed) (moveAtTraining failed s)
       let none_ := (slotRanks s).isEmpty
       let s := s.setDram { s.dram with
         trained := !none_, noRank := none_,
         stackMap := (List.range 6).map (fun k => (k, { Stack.reset with woke := now s, refreshBase := now s, lastRequest := now s })) }
       let s := { s with power := { s.power with dramReady := true } }
       finish (nextMove (setCredited s (slotsHeld s - b2n s.dram.move.isSome))))

/-! ### Commands -/

/-- DRAM_WRITE (R320). -/
def execDramWrite (c : CmdRef) (record : BitVec 64) (s : State) : Host.Outcome State Fault Refusal :=
  .next (runCommand s c 0x0700 (fun _ s =>
    let idle := fld record 0 14
    unlessBad s (reservedBad record [(14, 2), (24, 40)] 0 ++
      [(idle != 0 && (decide (idle < 5) || decide (idle > 10000)), badField 0x0300 0 0),
       (fld record 16 8 == 0 || decide (fld record 16 8 > 168), badField 0x0300 0 16)])
      (okDone (s.setDram { s.dram with cfg := record }))))

/-- The ports with one record replaced. -/
def portsWith (s : State) (p : Nat) (v : BitVec 64) : List (Nat × BitVec 64) :=
  (allPorts s).map (fun x => if x.1 == p then (p, v) else x)

/-- DRAM_PORT_WRITE (R302, R306, R308). -/
def execDramPortWrite (c : CmdRef) (port : Nat) (record : BitVec 64) (s : State) : Host.Outcome State Fault Refusal :=
  .next (runCommand s c 0x0701 (fun _ s =>
    let old := dramPort s port
    let new := setFld record 42 1 (b2n (portDemoted old))
    let changes := portGbw old != portGbw new || portTarget old != portTarget new
    let test := if portDemoted old || !changes then none else admission (peakNow s) (portsWith s port new)
    if port ≥ 24 then ends s (badField 0x0300 0 0)
    else unlessBad s (reservedBad record [(3, 1), (17, 3), (43, 21)] 8 ++
      [(decide (portGbw record > 7200), badField 0x0300 8 4),
       (decide (portTarget record < 500) || decide (portTarget record > 1000000), badField 0x0300 8 20)])
      (match test with
       | some (n, p) => ends s (failWith 0x0404 4 (n * 65536 + p))
       | none =>
         okDone (readmitClasses (if portDemoted old then s.setDram { s.dram with awaiting := AMap.put s.dram.awaiting port new }
           else setDramPort s port new)))))

/-- The status record `DRAM_RANK` (R321). -/
def rankStatus (s : State) (r : Nat) : Nat :=
  let x := rankAt s r
  let temp := (AMap.at s.power.temps (8 + r / 3) 25).toNat
  let asleep := match (stackAt s (r / 3)).refresh with | .active => false | .exiting _ => true | .entering t => decide (now s ≥ t + 400)
  placeFields [(0, x.state.code), (3, x.slot), (8, x.cause), (10, min 1023 (windowLines s x).length), (20, x.ueCount),
    (28, min 127 temp), (35, b2n asleep)]

/-- DRAM_READ (R296, R302, R321; kinds and layout are the model's, assumption 26): 0 the record `DRAM`, 1 a rank, 2 a
port with its counters, 3 an owner's allocation. -/
def execDramRead (c : CmdRef) (kind index : Nat) (s : State) : Host.Outcome State Fault Refusal :=
  .next (runCommand s c 0x0702 (fun _ s =>
    if kind > 3 then ends s (badField 0x0300 0 32)
    else if index ≥ (match kind with | 0 => 1 | 1 => 18 | 2 => 24 | _ => 4096) then ends s (badField 0x0300 0 0)
    else match kind with
      | 0 => okRead s (beBytes 8 s.dram.cfg.toNat)
      | 1 => okRead s (beBytes 8 (rankStatus s index))
      | 2 => okRead s (beBytes 8 (dramPort s index).toNat ++ ((List.range 6).map (fun i => beBytes 8 (counted s (portCountId index i)))).flatten)
      | _ => okRead s (beBytes 8 (allocOf s index) ++ beBytes 8 (sumTables tableDram (tablesOf s index)))))

end Sys2Proof.Machine
end

