-- ==== Sys2Proof/Machine/Programs.lean ====
section
/-! DEFINITION. Programs, environment records, persistent tasks and message queues: the commands of area 0x04 and
GUARD_SELECT (R93, R126, R175, R180–R184, R200, R240, R272, R408). -/

namespace Sys2Proof.Machine

/-- What is wrong with a channel map's entry on a Pan (R198, R200): reserved bits, a sibling out of range, a queue that is
not there or belongs to another owner; `at_` gives the detail of a bit of the map. -/
def chanEntryBad (s : State) (owner pan e : Nat) (at_ : Nat → Nat → Status) (lo : Nat) : List (Bool × Status) :=
  let queue := bitsOf e 2 10
  let isQueue := e % 4 == 2 || e % 4 == 3
  let q := msgqOf s pan queue
  [(bitsOf e 12 4 != 0, at_ 0x0100 (lo + 12)), (e % 4 == 1 && bitsOf e 5 7 != 0, at_ 0x0300 (lo + 2)),
   (isQueue && q.isNone, failWith 0x0107 3 queue), (isQueue && q.any (fun x => x.owner != owner), failWith 0x0201 3 queue)]

/-- What is wrong with a channel map on a Pan. -/
def chanMapBad (s : State) (owner pan : Nat) (m : BitVec 128) (at_ : Nat → Nat → Status) (lo : Nat) : List (Bool × Status) :=
  ((List.range 8).map (fun i => chanEntryBad s owner pan (fld m (16 * i) 16) at_ (lo + 16 * i))).flatten

/-- Whether a channel map names a queue (R200). -/
def bindsQueue (m : BitVec 128) (queue : Nat) : Bool :=
  (List.range 8).any (fun i => let e := fld m (16 * i) 16
    (e % 4 == 2 || e % 4 == 3) && bitsOf e 2 10 == queue)

/-- Whether an environment record of a Pan belongs to another owner (R181, R182). -/
def envForeign (s : State) (owner pan env : Nat) : Bool :=
  (AMap.find (s.pan pan).envs env).any (fun x => x.1 != owner)

/-- Pans that a mask names. -/
def pansOf (mask : Nat) : List Nat := (List.range 16).filter (maskHas mask)

/-- Whether a table's searches are SRAM-pinned (R272). -/
def pinned (t : Table) : Bool := decide (t.kind < 2) || (inSram t && !(t.kind == 3 && coldEn t))

/-- What is wrong with a binding list (R240, R272). -/
def bindingBad (s : State) (owner : Nat) (x : ProgSpec) : List (Bool × Status) :=
  (x.binding.map (fun b =>
    let t := AMap.find s.gaz.tables b.2
    [(t.isNone, failWith 0x0107 3 b.2), (t.any (fun t => t.owner != owner), failWith 0x0201 3 b.2),
     (decide (b.1 > 255), badOpen 0x0300 0x0400 0),
     ((x.binding.filter (fun q => q.2 == b.2 || q.1 == b.1)).length != 1, badOpen 0x0301 0x0400 0),
     (x.express && !x.allowDram && t.any (fun t => !pinned t), badOpen 0x0301 0x0400 1)])).flatten

/-- Bytes that a program may have: the PE instruction store, or the Pan SRAM that holds no CC store (R126). -/
def programRoom (cc : Bool) : Nat := if cc then 0x3B0000 else 0x10000

/-- What is wrong with a program as its load command gives it (R181, R198, R200, R240, R272). -/
def programBad (s : State) (owner : Nat) (x : ProgSpec) : List (Bool × Status) :=
  [(decide (x.id > 0xFFFF), badField 0x0300 0 32), (x.pans == 0 || decide (x.pans > 0xFFFF), badOpen 0x0300 0x0400 2),
   (x.image.isEmpty || x.image.length % 4 != 0 || decide (x.image.length > programRoom x.cc), badOpen 0x0300 0x0400 3),
   (x.entry % 4 != 0 || decide (x.entry ≥ x.image.length), badOpen 0x0300 0x0400 4),
   (decide (x.env > 255), badOpen 0x0300 0x0400 5), (decide (x.cpen > 63), badOpen 0x0300 0x0400 6)] ++
  (pansOf x.pans).map (fun p => (envForeign s owner p x.env, failWith 0x0201 3 x.env)) ++
  bindingBad s owner x ++
  ((pansOf x.pans).map (fun p =>
    chanMapBad s owner p x.chanMap (fun code lo => badOpen code 0x0400 (16 + lo)) 0)).flatten

/-- A version of a program as Legend keeps it. -/
def progFrom (owner version : Nat) (x : ProgSpec) : Prog :=
  { owner := owner, digest := x.digest, image := x.image, cc := x.cc, pans := x.pans, binding := x.binding, entry := x.entry,
    env := x.env, chanMap := x.chanMap, guard := x.guard, guardSelected := false, cpen := x.cpen, express := x.express,
    allowDram := x.allowDram, version := version }

/-- Where a version of a program lies in a Pan (R126; assumption 32): aligned to a word, inside its memory. -/
def baseOf (pan id : Nat) (p : Prog) : Nat :=
  let slots := (programRoom p.cc - p.image.length) / 4 + 1
  (if p.cc then 0x01000000 else 0) + 4 * (Config.programBase pan (id + 65536 * p.version) % slots)

/-- Legend loads a version of a program into a Pan under a key (R126, R240): a CC's program stands in Pan SRAM. -/
def loadInto (id key : Nat) (p : Prog) (s : State) (pan : Nat) : State :=
  let x := s.pan pan
  let base := baseOf pan id p
  s.setPan pan { x with
    programs := AMap.put x.programs key ⟨base, p.image.length⟩,
    sram := if p.cc then Memory.setBytes x.sram (base - 0x01000000) p.image else x.sram }

/-- Whether a context is bound to a version of a program (R22, R104). -/
def versionBound (s : State) (id version : Nat) : Bool :=
  s.meridian.ctxs.any (fun c => c.2.desc.program == id && !c.2.desc.command && c.2.bound && c.2.progVersion == version)

/-- Versions that no context is bound to any more are given up (R22). -/
def dropVersions (s : State) (id : Nat) : State :=
  let gone := (s.legend.superseded.map (·.1)).filter (fun k => k % 65536 == id && !versionBound s id (k / 65536))
  { s with
    legend := { s.legend with superseded := s.legend.superseded.filter (fun x => !gone.contains x.1) },
    pans := s.pans.map (fun p => (p.1, { p.2 with programs := p.2.programs.filter (fun x => decide (x.1 < 65536) || !gone.contains x.1) })) }

/-- A Pan's program kept under another key. -/
def Pan.rekey (p : Pan) (id key : Nat) : Pan :=
  match AMap.find p.programs id with
  | none => p
  | some l => { p with programs := AMap.put (AMap.del p.programs id) key l }

/-- A program replaced (R22): packets already dispatched keep the version they are bound to. -/
def supersede (s : State) (id : Nat) (old : Prog) : State :=
  let key := id + 65536 * old.version
  let s := { s with
    legend := { s.legend with superseded := AMap.put s.legend.superseded key old },
    pans := s.pans.map (fun p => (p.1, p.2.rekey id key)) }
  dropVersions s id

/-- A program enters Legend's store and its Pans. -/
def installProgram (s : State) (id : Nat) (p : Prog) : State :=
  let s := { s with legend := { s.legend with programs := AMap.put s.legend.programs id p } }
  let s := if p.express then wakeBanks s ((p.binding.map (fun b => (s.table b.2).banks)).flatten) else s
  (pansOf p.pans).foldl (loadInto id id p) s

/-- PROGRAM_LOAD (R22, R240, R272, R408). -/
def execProgramLoad (c : CmdRef) (x : ProgSpec) (s : State) : Host.Outcome State Fault Refusal :=
  .next (runCommand s c 0x0400 (fun k s =>
    match AMap.find s.legend.programs x.id with
    | none => unlessBad s (programBad s k.owner x) (okDone (installProgram s x.id (progFrom k.owner 0 x)))
    | some old =>
      if old.owner != k.owner then endsCode s 0x0201
      else if old.digest == x.digest then ends s (plain 2 false)
      else unlessBad s (programBad s k.owner x)
        (okDone (installProgram (supersede s x.id old) x.id (progFrom k.owner (old.version + 1) x)))))

/-- Whether a rule, a persistent task or a context uses a program (R408). -/
def programUsed (s : State) (id : Nat) : Bool :=
  s.sluice.rules.any (fun r => actForward r.action && actProgram r.action == id) ||
  s.pans.any (fun p => p.2.tasks.any (fun t => fld t.2.desc 0 16 == id)) ||
  s.meridian.ctxs.any (fun c => c.2.desc.program == id && !c.2.desc.command)

/-- A program leaves Legend's store, its Pans, and the slow paths set to it (R93, R408). -/
def removeProgram (s : State) (id : Nat) : State :=
  let s := dropVersions s id
  { s with
    legend := { s.legend with programs := AMap.del s.legend.programs id },
    pans := s.pans.map (fun p => (p.1, { p.2 with programs := AMap.del p.2.programs id })),
    sluice := { s.sluice with slowPrograms := s.sluice.slowPrograms.filter (fun x => x.2 != id) } }

/-- PROGRAM_UNLOAD (R408). -/
def execProgramUnload (c : CmdRef) (id : Nat) (s : State) : Host.Outcome State Fault Refusal :=
  .next (runCommand s c 0x0401 (fun k s =>
    match AMap.find s.legend.programs id with
    | none => ends s (plain 3 false)
    | some p =>
      if p.owner != k.owner then endsCode s 0x0201
      else if programUsed s id then ends s (failWith 0x0500 3 id)
      else okDone (removeProgram s id)))

/-- A program of the caller; another owner's is not shown (R30, R408). -/
def withProgram (s : State) (k : Call) (id : Nat) (go : Prog → State × Ending) : State × Ending :=
  match AMap.find s.legend.programs id with
  | none => endsCode s 0x0107
  | some p => if p.owner != k.owner then endsCode s 0x0201 else go p

/-- What PROGRAM_READ returns (assumption 26). -/
def programData (p : Prog) : List Byte :=
  packBytes [(48, p.digest.toNat), (4, p.image.length), (2, p.pans), (1, b2n p.cc), (1, p.env), (4, p.entry),
    (16, p.chanMap.toNat), (1, p.cpen), (1, b2n p.guard + 2 * b2n p.guardSelected + 4 * b2n p.express + 8 * b2n p.allowDram),
    (2, p.binding.length)] ++ packBytes ((p.binding.map (fun b => [(1, b.1), (4, b.2)])).flatten)

/-- PROGRAM_READ (R408). -/
def execProgramRead (c : CmdRef) (id : Nat) (s : State) : Host.Outcome State Fault Refusal :=
  .next (runCommand s c 0x0402 (fun k s => withProgram s k id (fun p => okRead s (programData p))))

/-- SLOW_PATH_SET (R93). -/
def execSlowPathSet (c : CmdRef) (program : Nat) (s : State) : Host.Outcome State Fault Refusal :=
  .next (runCommand s c 0x0403 (fun k s => withProgram s k program (fun _ =>
    okDone (s.setSluice { s.sluice with slowPrograms := AMap.put s.sluice.slowPrograms k.owner program }))))

/-- GUARD_SELECT (R175): guarded mode for a program's later runs. -/
def execGuardSelect (c : CmdRef) (program : Nat) (on : Bool) (s : State) : Host.Outcome State Fault Refusal :=
  .next (runCommand s c 0x0C03 (fun k s => withProgram s k program (fun p =>
    okDone { s with legend := { s.legend with programs := AMap.put s.legend.programs program { p with guardSelected := on } } })))

/-- Reserved bits of an environment record's word (R135, R182). -/
def envReserved (i : Nat) : List (Nat × Nat) :=
  if i < 4 then [(50, 14)] else if i % 2 == 0 then [(2, 10), (38, 26)] else [(0, 12), (38, 26)]

/-- What is wrong with the words of an environment record (R10, R135). -/
def envBad (words : List Word) : List (Bool × Status) :=
  (words.zipIdx.map (fun w =>
    reservedBad w.1 (envReserved w.2) (8 + 8 * w.2) ++
    [(decide (w.2 < 4) && decide (fld w.1 23 23 > 0x400000), badField 0x0300 (8 + 8 * w.2) 23)])).flatten

/-- Whether a task that names an environment record of a Pan is running (R182). -/
def envRunning (s : State) (pan env : Nat) : Bool :=
  (s.pan pan).tasks.any (fun t => t.2.state == .running && fld t.2.desc 44 8 == env) ||
  s.meridian.ctxs.any (fun c => ctxPan c.1 == pan && (c.2.state == .runSpec || c.2.state == .runNonspec) &&
    (ctxProg s c.2).any (fun p => p.env == env))

/-- ENV_WRITE (R182). -/
def execEnvWrite (c : CmdRef) (pan record : Nat) (words : List Word) (s : State) : Host.Outcome State Fault Refusal :=
  .next (runCommand s c 0x0404 (fun k s =>
    if words.length != 12 then ends s (failWith 0x0100 0 0)
    else unlessBad s ([(decide (pan > 15), badField 0x0300 0 32), (decide (record > 255), badField 0x0300 0 0),
        (envForeign s k.owner pan record, failWith 0x0201 3 record)] ++ envBad words ++
        [(envRunning s pan record, failWith 0x0500 3 record)])
      (okDone (s.setPan pan { s.pan pan with envs := AMap.put (s.pan pan).envs record (k.owner, words) }))))

/-- A persistent task by its owner and the key its creation named (R408). -/
def taskByKey (s : State) (owner key : Nat) : Option (Nat × Nat × PTask) :=
  s.pans.findSome? (fun p => (p.2.tasks.find? (fun t => t.2.owner == owner && t.2.ownerKey == key)).map (fun t => (p.1, t.1, t.2)))

/-- A descriptor as Legend writes it: PERSISTENT and TENANT are its own (R181). -/
def taskDesc (owner : Nat) (d : BitVec 384) : BitVec 384 := setFld (setFld d 20 1 1) 32 12 owner

/-- What is wrong with a creation's descriptor (R181, R198, R200). -/
def descBad (s : State) (owner pan : Nat) (d : BitVec 384) : List (Bool × Status) :=
  let prog := AMap.find s.legend.programs (fld d 0 16)
  reservedBad d [(28, 4), (52, 12), (85, 11)] 8 ++
  [(decide (pan > 15), badField 0x0300 0 0),
   (prog.isNone, failWith 0x0107 3 (fld d 0 16)), (prog.any (fun p => p.owner != owner), failWith 0x0201 3 (fld d 0 16)),
   (prog.any (fun p => !maskHas p.pans pan), badField 0x0300 8 0), (decide (fld d 16 4 < 8), badField 0x0300 8 16),
   (fld d 64 16 != 0, badField 0x0300 8 64), (fld d 80 5 != 0, badField 0x0300 8 80),
   (fld d 96 2 != 0 || prog.any (fun p => decide (fld d 96 32 ≥ p.image.length)), badField 0x0300 8 96),
   (envForeign s owner pan (fld d 44 8), failWith 0x0201 3 (fld d 44 8))] ++
  chanMapBad s owner pan (BitVec.ofNat 128 (fld d 192 128)) (fun code lo => badField code 8 lo) 192

/-- The limits of persistent tasks in a Pan (R180, R350). -/
def taskLimits (s : State) (owner pan : Nat) : List (Bool × Status) :=
  let ts := (s.pan pan).tasks
  [(decide ((ts.filter (fun t => t.2.owner == owner)).length ≥ ownerQuota s owner 58 2), noRoom 0x0400 0x21 owner),
   (decide (ts.length ≥ 1024), noRoom 0x0401 0x21 pan)]

/-- A task created in the lowest free slot (R180, R192, R196; assumption 12). -/
def createTask (s : State) (owner key pan : Nat) (d : BitVec 384) : State × Nat :=
  let p := s.pan pan
  let slot := freshHandle 0 p.tasks
  let gen := AMap.at p.gens slot 0
  let t : PTask := { gen := gen, owner := owner, ownerKey := key, desc := d, state := .idle, flags := 0, pendingAct := false,
                     deleting := false, waiters := [] }
  (s.setPan pan (startTimer { p with tasks := AMap.put p.tasks slot t } slot t), taskHandle pan slot gen)

/-- TASK_CREATE (R180, R181, R408). -/
def execTaskCreate (c : CmdRef) (ownerKey pan : Nat) (desc : BitVec 384) (s : State) : Host.Outcome State Fault Refusal :=
  .next (runCommand s c 0x0405 (fun k s =>
    let d := taskDesc k.owner desc
    match taskByKey s k.owner ownerKey with
    | some (p, slot, t) =>
      if p == pan && t.desc == d then (s, .done (plain 2 false) (beBytes 4 (taskHandle p slot t.gen)))
      else ends s (failWith 0x0302 3 (taskHandle p slot t.gen))
    | none =>
      unlessBad s (descBad s k.owner pan desc ++ taskLimits s k.owner pan)
        (let r := createTask s k.owner ownerKey pan d
         okData r.1 (beBytes 4 r.2))))

/-- A persistent task of the caller that a handle names (R192, R408). -/
def withTask (s : State) (k : Call) (handle absent : Nat) (go : Nat → Nat → PTask → State × Ending) : State × Ending :=
  match taskByHandle s handle with
  | none => if absent == 3 then ends s (plain 3 false) else ends s (failWith absent 3 handle)
  | some (pan, slot, t) => if t.owner != k.owner then ends s (failWith 0x0201 3 handle) else go pan slot t

/-- TASK_DELETE (R184): at once, or when the activation ends. -/
def execTaskDelete (c : CmdRef) (handle : Nat) (s : State) : Host.Outcome State Fault Refusal :=
  .next (runCommand s c 0x0406 (fun k s => withTask s k handle 3 (fun pan slot t =>
    if t.state == .running || t.state == .faulted then okDone (s.setTask pan slot { t with deleting := true })
    else okDone (dropTask (readyDrop s pan (.persistent pan slot)) pan slot t))))

/-- TASK_ACTIVATE (R184). -/
def execTaskActivate (c : CmdRef) (handle : Nat) (s : State) : Host.Outcome State Fault Refusal :=
  .next (runCommand s c 0x0407 (fun k s => withTask s k handle 0x0107 (fun pan slot t =>
    match t.state with
    | .idle => okDone (activate s pan slot t)
    | .ready => okDone s
    | .running => okDone (s.setTask pan slot { t with pendingAct := true })
    | _ => ends s (failWith 0x0503 3 handle))))

/-- TASK_ENABLE (R184): an enabled task whose flags match starts at once. -/
def execTaskEnable (c : CmdRef) (handle : Nat) (s : State) : Host.Outcome State Fault Refusal :=
  .next (runCommand s c 0x0408 (fun k s => withTask s k handle 0x0107 (fun pan slot t =>
    if t.state == .disabled then
      (if t.flags &&& wakeMask t != 0 then okDone (activate s pan slot t)
       else okDone (s.setTask pan slot { t with state := .idle }))
    else okDone s)))

/-- Code of a task's state as TASK_READ gives it (assumption 26). -/
def taskStateCode : TaskState → Nat
  | .idle => 0
  | .ready => 1
  | .running => 2
  | .faulted => 3
  | .disabled => 4

/-- TASK_READ (R408). -/
def execTaskRead (c : CmdRef) (handle : Nat) (s : State) : Host.Outcome State Fault Refusal :=
  .next (runCommand s c 0x040B (fun k s => withTask s k handle 0x0107 (fun pan slot t =>
    okRead s (packBytes [(1, taskStateCode t.state), (1, effPrio s (.persistent pan slot) (taskPrio t)), (1, b2n t.pendingAct),
      (1, b2n t.deleting), (4, t.flags), (4, t.ownerKey), (48, t.desc.toNat)]))))

/-- Entries of the queues of a Pan, or of an owner's there (R200, R350). -/
def msgqEntries (l : AMap MsgQ) : Nat := l.foldl (fun n q => n + q.2.depth) 0

/-- MSGQ_CREATE (R200). -/
def execMsgqCreate (c : CmdRef) (pan queue depth : Nat) (s : State) : Host.Outcome State Fault Refusal :=
  .next (runCommand s c 0x0409 (fun k s =>
    unlessBad s [(decide (pan > 15), badField 0x0300 0 32), (decide (queue > 1023), badField 0x0300 0 0),
        (decide (depth < 4) || decide (depth > 256), badOpen 0x0300 0x0409 0)]
      (match msgqOf s pan queue with
       | some q =>
         if q.owner != k.owner then ends s (failWith 0x0201 3 queue)
         else if q.depth == depth then ends s (plain 2 false) else ends s (failWith 0x0302 3 queue)
       | none =>
         let all := (s.pan pan).msgqs
         unlessBad s
           [(decide (msgqEntries (all.filter (fun q => q.2.owner == k.owner)) + depth > ownerQuota s k.owner 60 2), noRoom 0x0400 0x22 k.owner),
            (decide (msgqEntries all + depth > 16384), noRoom 0x0401 0x22 pan)]
           (okDone (setMsgq s pan queue { owner := k.owner, depth := depth, entries := [], held := [] })))))

/-- Whether a task binds a queue of a Pan (R200): a persistent task there, a program loaded there, or a version that a
context is bound to. -/
def queueBound (s : State) (pan queue : Nat) : Bool :=
  (s.pan pan).tasks.any (fun t => bindsQueue (BitVec.ofNat 128 (fld t.2.desc 192 128)) queue) ||
  s.legend.programs.any (fun p => maskHas p.2.pans pan && bindsQueue p.2.chanMap queue) ||
  s.legend.superseded.any (fun p => maskHas p.2.pans pan && bindsQueue p.2.chanMap queue && versionBound s (p.1 % 65536) p.2.version)

/-- MSGQ_DELETE (R200). -/
def execMsgqDelete (c : CmdRef) (pan queue : Nat) (s : State) : Host.Outcome State Fault Refusal :=
  .next (runCommand s c 0x040A (fun k s =>
    unlessBad s [(decide (pan > 15), badField 0x0300 0 32), (decide (queue > 1023), badField 0x0300 0 0)]
      (match msgqOf s pan queue with
       | none => ends s (plain 3 false)
       | some q =>
         if q.owner != k.owner then ends s (failWith 0x0201 3 queue)
         else if queueBound s pan queue then ends s (failWith 0x0500 3 queue)
         else okDone (s.setPan pan { s.pan pan with msgqs := AMap.del (s.pan pan).msgqs queue }))))

end Sys2Proof.Machine
end

