-- ==== Sys2Proof/Machine/HostPort.lean ====
section
/-! DEFINITION. The PCIe host port: rings, registers, MSI-X, resets (R412–R426). -/

namespace Sys2Proof.Machine

/-- Whether the management domain runs, and with it the host ports (R413, R427, R476). -/
def mgmtRuns (s : State) : Bool :=
  s.power.phase == .booting || s.power.phase == .commandReady || s.power.phase == .trafficReady || s.power.phase == .recovery

/-- Revision ID: the stepping's letter position and digit (R414); `bcdDevice` of the USB device carries it (R428). -/
def revisionId (i : Ident) : Nat := 16 * (i.stepLetter % 16) + i.stepDigit % 16

/-- Identifiers of a function: vendor, device, revision, class code (R414). -/
def functionIds (i : Ident) (fn : Nat) : Nat × Nat × Nat × Nat :=
  (0x1F7D, if fn % 1024 == 0 then 0x6D00 else 0x6D01, revisionId i, 0x028000)

/-- The SR-IOV capability of a PF: TotalVFs, InitialVFs, First VF Offset, VF Stride (R414). -/
def sriovFields : Nat × Nat × Nat × Nat := (512, 512, 1, 1)

/-- Function number of VF k, from 1 (R414, R415). -/
def vfNumber (k : Nat) : Nat := sriovFields.2.2.1 + (k - 1) * sriovFields.2.2.2

/-- Bytes of BAR0: of a PF, and of one VF in the SR-IOV capability, where 512 of them take 8 MiB (R416). -/
def barBytes (fn : Nat) : Nat := if fn % 1024 == 0 then 65536 else 16384

/-- `FUNC_STATUS` of a function; LIVE is 0 on an inert VF (R415, R416). -/
def funcStatus (s : State) (fn : Nat) : Nat :=
  let l := s.link (fn / 1024)
  placeFields [(0, b2n (fnLive s fn)), (1, fn / 1024), (3, s.host.strap), (5, l.rate), (8, l.width)]

/-- Fields of a ring control record (R417). -/
def ringLog (c : BitVec 32) : Nat := fld c 0 4
/-- EN of a ring control record. -/
def ringEn (c : BitVec 32) : Bool := bit c 4
/-- STOPPED of a ring control record. -/
def ringStopped (c : BitVec 32) : Bool := bit c 5
/-- Entries of a ring. -/
def HRing.size (r : HRing) : Nat := 2 ^ ringLog r.ctl
/-- Whether a ring runs. -/
def HRing.runs (r : HRing) : Bool := ringEn r.ctl && !ringStopped r.ctl
/-- Entries from the head to the tail. -/
def HRing.count (r : HRing) : Nat := (r.tail + r.size - r.head) % r.size
/-- The index `n` entries further. -/
def HRing.next (r : HRing) (i n : Nat) : Nat := (i + n) % r.size
/-- A ring that an error has stopped (R422). -/
def HRing.stop (r : HRing) : HRing := { r with ctl := setFld r.ctl 5 1 1 }
/-- Whether the completion ring takes an entry: its entries written and not consumed leave one free (R421). -/
def HFunc.cplRoom (f : HFunc) : Bool := f.cpl.runs && decide (f.cpl.count + 1 < f.cpl.size)

/-- Whether the host finds a function, live or inert: of a link of the strap mode, a VF only while its PF's VF Enable is set
(R413, R415; assumption 98). -/
def fnFound (s : State) (fn : Nat) : Bool :=
  decide (fn / 1024 < strapLinks s.host.strap) && (fn % 1024 == 0 || (s.link (fn / 1024)).vfEnable)

/-- Whether the host reaches a live function (R415). -/
def fnReached (s : State) (fn : Nat) : Bool := fnLive s fn && fnFound s fn

/-- Whether a function's DMA runs (R426, R474): from command-ready on, live, its link up and not in L2, bus master, not in
D3hot. -/
def dmaRuns (s : State) (fn : Nat) : Bool :=
  let f := s.func fn
  let l := s.link (fn / 1024)
  legendUp s && fnReached s fn && l.up && !l.l2 && f.busMaster && !f.d3hot

/-- Non-posted requests outstanding on a link: at least one for each packet that is being read (R412). -/
def linkReads (s : State) (link : Nat) : Nat :=
  s.host.funcs.foldl (fun n f => if f.1 / 1024 == link then n + f.2.reads.length else n) 0

/-- DMA of the host port passes DRAM client port 21 (R412). -/
def hostDma (s : State) (bytes : Nat) : State := if s.power.state == .standby then s else clientRequest s 21 deviceId bytes

/-- MSI-X entries of a function (R423). -/
def vectorsOf (s : State) (fn : Nat) : Nat := if fn % 1024 == 0 then pfVectors s.host.strap (fn / 1024) else 3

/-- Signal an entry that the function holds. -/
def signalEntry (s : State) (fn v : Nat) : State := if v < vectorsOf s fn then signalMsix s fn v else s

/-- The completion message (R424): it clears ARM. -/
def completionMessage (s : State) (fn : Nat) : State :=
  let f := s.func fn
  signalEntry (s.setFunc fn { f with arm := false }) fn (fld f.cpl.ctl 16 9)

/-- A completion entry written (R418, R424); the caller has seen that the ring takes it. -/
def writeCpl (s : State) (fn kind first n len error : Nat) (bytes : List Byte) : State :=
  let f := s.func fn
  let at_ := f.cpl.next f.cpl.tail 1
  let entry : CplEntry := { phase := f.phase, kind := kind, cmdHead := f.cmd.head, rbufFirst := first, rbufCount := n,
                            len := len, error := error, bytes := bytes,
                            addrs := (List.range n).map (fun i => AMap.at f.bufs (first + i) 0) }
  let s := s.setFunc fn { f with written := entry :: f.written, cpl := { f.cpl with tail := at_ },
                                 phase := if at_ == 0 then !f.phase else f.phase }
  if f.arm then completionMessage s fn else s

/-- The 16 bytes of a completion entry as one number (R418). -/
def cplBits (e : CplEntry) : Nat :=
  placeFields [(0, b2n e.phase), (1, e.kind), (16, e.cmdHead), (32, e.rbufFirst), (44, e.rbufCount), (64, e.len), (96, e.error)]

/-- An entry of KIND 1 (R422): written, or, where the running completion ring is full or DMA has stopped, owed until it can be. -/
def errorEntry (s : State) (fn error : Nat) : State :=
  let f := s.func fn
  if !f.cpl.runs then s
  else if dmaRuns s fn && f.cplRoom && f.owed.isEmpty then writeCpl s fn 1 0 0 0 error []
  else s.setFunc fn { f with owed := f.owed ++ [error] }

/-- Entries of KIND 1 that were owed, written as far as the completion ring takes them (R422, R426). -/
def payOwed : Nat → State → Nat → State
  | 0, s, _ => s
  | n + 1, s, fn =>
    let f := s.func fn
    match f.owed with
    | [] => s
    | e :: rest =>
      if dmaRuns s fn && f.cplRoom then payOwed n (writeCpl (s.setFunc fn { f with owed := rest }) fn 1 0 0 0 e []) fn else s

/-- What a ring error leaves beside the stopped ring (R422): an entry of KIND 1 when the completion ring runs, the count and the
event; `ring` 0 command, 1 reply buffer, 2 completion. -/
def ringError (s : State) (fn ring error : Nat) : State :=
  let s := errorEntry s fn error
  let f := (s.func fn).bump 5
  let f := if ring == 0 then { f with cmd := f.cmd.stop, posted := [], reads := [] }
    else if ring == 1 then { f with rbuf := f.rbuf.stop }
    else { f with cpl := f.cpl.stop }
  raiseDev (s.setFunc fn f) (0x440 + fn / 1024) 1 (dataBytes 4 (fn * 65536 + ring * 256 + error))

/-- The head passes a descriptor once its packet has been read (R419); in a ring that was stopped meanwhile it stays 0 (R417). -/
def HFunc.passed (f : HFunc) (r : PktRead) (rest : List PktRead) : HFunc :=
  { f with reads := rest, cmd := if r.stopping then f.cmd else { f.cmd with head := f.cmd.next f.cmd.head 1 } }

/-- The descriptor at the head of the reads ended with an error (R419, R422). -/
def endRead (s : State) (fn : Nat) (r : PktRead) (rest : List PktRead) : State :=
  let f := s.func fn
  if r.error == 3 then ringError s fn 0 3
  else
    let f := f.passed r rest
    errorEntry (s.setFunc fn (if r.error == 4 then f.bump 4 else f)) fn r.error

/-- ADDR of a command descriptor (R418). -/
def descAddr (d : BitVec 128) : Nat := fld d 0 64
/-- LEN of a command descriptor (R418). -/
def descLen (d : BitVec 128) : Nat := fld d 64 17

/-- Whether a command descriptor is taken: LEN in its range, and the reserved field above it 0 (R10, R418). -/
def descOk (d : BitVec 128) : Bool := decide (48 ≤ descLen d) && decide (descLen d ≤ 65552) && fld d 81 47 == 0

/-- A posted descriptor taken for reading (R418, R419); one that is refused ends with ERROR 6 (assumption 87). -/
def takeDesc (f : HFunc) (desc : Option (BitVec 128)) (rest : List (Option (BitVec 128))) : HFunc :=
  let index := f.cmd.next f.cmd.head f.reads.length
  let r : PktRead := match desc with
    | none => { index := index, addr := 0, len := 0, stopping := false, partly := false, error := 3 }
    | some d => { index := index, addr := descAddr d, len := descLen d, stopping := false, partly := false, error := if descOk d then 0 else 6 }
  { f with posted := rest, reads := f.reads ++ [r] }

/-- The command ring goes on: ended reads pass in ring order, at most 8 packets are read at once (R419). -/
def pumpRing : Nat → State → Nat → State
  | 0, s, _ => s
  | n + 1, s, fn =>
    let f := s.func fn
    let ended : Option (PktRead × List PktRead) := match f.reads with
      | r :: rest => if r.error != 0 && (f.cmd.runs || r.stopping) then some (r, rest) else none
      | [] => none
    if !dmaRuns s fn then s
    else
      match ended with
      | some (r, rest) => pumpRing n (endRead s fn r rest) fn
      | none =>
        if !f.cmd.runs || f.reads.length ≥ 8 || linkReads s (fn / 1024) ≥ 256 then s
        else match f.posted with
          | [] => s
          | d :: rest => pumpRing n (s.setFunc fn (takeDesc f d rest)) fn

/-- Enough rounds for every posted descriptor. -/
def pump (s : State) (fn : Nat) : State := pumpRing (2 * ((s.func fn).posted.length + (s.func fn).reads.length) + 2) s fn

/-- A register write reaches a live function only (R415). -/
def onFunction (s : State) (fn : Nat) (go : State) : Host.Outcome State Fault Refusal :=
  checked (okFn fn) (if mgmtRuns s && fnReached s fn then settle go else s)

/-- A register that an inert VF has too: FUNC_STATS and MSI-X (R415, R416). -/
def onFound (s : State) (fn : Nat) (go : State) : Host.Outcome State Fault Refusal :=
  checked (okFn fn) (if mgmtRuns s && fnFound s fn then settle go else s)

/-- CMD_TAIL_DOORBELL (R418, R419, R422): the tail, and each descriptor that it adds; a descriptor that is not given fails to be
read. -/
def execCmdTailDoorbell (fn index : Nat) (descs : List (BitVec 128)) (readFails : Bool) (s : State) : Host.Outcome State Fault Refusal :=
  let f := s.func fn
  let index := index % 4096
  onFunction s fn (
    if !f.cmd.runs then s
    else if index ≥ f.cmd.size then ringError s fn 0 1
    else
      let n := (index + f.cmd.size - f.cmd.tail) % f.cmd.size
      let new := (List.range n).map (fun i => if readFails && i + 1 == n then none else descs[i]?)
      pump (s.setFunc fn { f with cmd := { f.cmd with tail := index }, posted := f.posted ++ new }) fn)

/-- PACKET_READ_COMPLETE (R419): the read at the head of the ring ends; a packet read whole is offered to acceptance. -/
def execPacketReadComplete (fn : Nat) (ok : Bool) (packet : List Byte) (s : State) : Host.Outcome State Fault Refusal :=
  checked (okFn fn) (
    let f := s.func fn
    match f.reads with
    | [] => s
    | r :: rest =>
      if !dmaRuns s fn || !(f.cmd.runs || r.stopping) || r.error != 0 || r.partly || (ok && packet.length != r.len) then s
      else if !ok then settle (pump (s.setFunc fn { f with reads := { r with error := 4 } :: rest }) fn)
      else
        let s := hostDma (s.setFunc fn (f.passed r rest)) packet.length
        settle (pump (offer (requestSeen s (.pcie fn)) (.pcie fn) packet false) fn))

/-- Whether a reply-buffer descriptor is taken: its reserved field is 0 (R10, R418). -/
def bufOk (d : BitVec 64) : Bool := fld d 0 12 == 0

/-- Reply buffers posted from the ring's tail on: their addresses (R418). -/
def HFunc.postBufs (f : HFunc) (descs : List (BitVec 64)) : AMap Nat :=
  descs.zipIdx.foldl (fun m d => AMap.put m (f.rbuf.next f.rbuf.tail d.2) (fld d.1 12 52 * 4096)) f.bufs

/-- RBUF_TAIL_DOORBELL (R418, R420, R422): reply buffers posted, with the descriptors read; one that is refused stops the ring as
a failed descriptor read does (assumption 87). -/
def execRbufTailDoorbell (fn index : Nat) (descs : Option (List (BitVec 64))) (s : State) : Host.Outcome State Fault Refusal :=
  let f := s.func fn
  let index := index % 4096
  onFunction s fn (
    if !f.rbuf.runs then s
    else if index ≥ f.rbuf.size then ringError s fn 1 2
    else if !descs.any (fun d => d.all bufOk) then ringError s fn 1 3
    else
      let n := (index + f.rbuf.size - f.rbuf.tail) % f.rbuf.size
      s.setFunc fn { f with rbuf := { f.rbuf with tail := index }, bufs := f.postBufs ((descs.getD []).take n) })

/-- CPL_HEAD_DOORBELL (R424). -/
def execCplHeadDoorbell (fn index : Nat) (arm : Bool) (s : State) : Host.Outcome State Fault Refusal :=
  let f := s.func fn
  let index := index % 4096
  onFunction s fn (
    if !f.cpl.runs || index ≥ f.cpl.size then s
    else
      let cpl : HRing := { f.cpl with head := index }
      let s := payOwed f.owed.length (s.setFunc fn { f with cpl := cpl, arm := arm }) fn
      pump (if arm && cpl.count != 0 then completionMessage s fn else s) fn)

/-- A ring control record as written (R417): LOG2_SIZE and BUF_4K stand while EN is 1; EN starts a ring of 2^6 to 2^12
entries, and 0 stops it with head and tail 0. -/
def HRing.control (r : HRing) (ring : Nat) (v : BitVec 32) : HRing :=
  let keep := ringEn r.ctl
  let log := if keep then ringLog r.ctl else fld v 0 4
  let buf := if ring != 1 then 0 else if keep then fld r.ctl 8 5 else fld v 8 5
  let vec := if ring == 2 then fld v 16 9 else 0
  let en := bit v 4 && 6 ≤ log && log ≤ 12
  let ctl := BitVec.ofNat 32 (placeFields [(0, log), (4, b2n en), (5, b2n (en && ringStopped r.ctl)), (8, buf), (16, vec)])
  if en && keep then { r with ctl := ctl } else { r with ctl := ctl, head := 0, tail := 0 }

/-- RING_CONTROL_WRITE (R417): ring 0 command, 1 reply buffer, 2 completion. EN 0 stops a command ring at the next entry boundary:
the packets whose reads are under way are finished, no further one is read. -/
def execRingControlWrite (fn ring : Nat) (value : BitVec 32) (s : State) : Host.Outcome State Fault Refusal :=
  if !(ring < 3) then .fault .noSuchUnit
  else
    let f := s.func fn
    onFunction s fn (
      match ring with
      | 0 =>
        let r := f.cmd.control 0 value
        let f := { f with cmd := r }
        let left := (f.reads.filter (fun r => r.error == 0)).map (fun r => { r with stopping := true })
        s.setFunc fn (if ringEn r.ctl then f else { f with posted := [], reads := left })
      | 1 => s.setFunc fn { f with rbuf := f.rbuf.control 1 value }
      | _ =>
        let r := f.cpl.control 2 value
        s.setFunc fn { f with cpl := r, owed := if ringEn r.ctl then f.owed else [], phase := f.phase || !ringEn r.ctl || !ringEn f.cpl.ctl, arm := f.arm && ringEn r.ctl })

/-- FUNC_STATS_READ (R416): the value read, and cleared. -/
def execFuncStatsRead (fn index : Nat) (s : State) : Host.Outcome State Fault Refusal :=
  if !(index < 8) then .fault .noSuchUnit
  else
    let f := s.func fn
    let v := if mgmtRuns s && fnFound s fn then AMap.at f.stats index 0 else 0
    let s := { s with host := { s.host with statRead := v } }
    onFound s fn (s.setFunc fn { f with stats := AMap.put f.stats index 0 })

/-- Pending MSI-X entries that are not masked are sent while MSI-X is enabled (R423). -/
def deliverPending (s : State) (fn : Nat) : State :=
  let f := s.func fn
  let go := if f.msixEnable then f.msixPending.filter (fun v => !bit (msixEntry f v) 96) else []
  s.setFunc fn { f with msixPending := f.msixPending.filter (fun v => !go.contains v), msixSent := go ++ f.msixSent }

/-- MSIX_UNMASK (R423): the entry is unmasked, MSI-X is enabled or disabled, and what is pending is delivered. -/
def execMsixUnmask (fn entry : Nat) (enable : Bool) (s : State) : Host.Outcome State Fault Refusal :=
  let f := s.func fn
  onFound s fn (
    if entry ≥ vectorsOf s fn then s
    else deliverPending (s.setFunc fn { f with
      msixEnable := enable, msixTable := AMap.put f.msixTable entry (setFld (msixEntry f entry) 96 1 0) }) fn)

/-- A ring's base written: bits [5:0] read 0, and a running ring keeps its base (R416). -/
def HRing.setBase (r : HRing) (v : BitVec 64) : HRing :=
  if ringEn r.ctl then r else { r with base := setFld v 0 6 0 }

/-- A BAR0 register with no behaviour of its own (R416): the ring bases, and the MSI-X table. -/
def writeRegister (s : State) (fn offset width : Nat) (value : BitVec 64) : State :=
  let f := s.func fn
  let v := (offset - 0x2000) / 16
  if offset ≥ barBytes fn || (!fnLive s fn && decide (offset < 0x2000)) then s
  else if width == 64 && offset == 0x0008 then s.setFunc fn { f with cmd := f.cmd.setBase value }
  else if width == 64 && offset == 0x0020 then s.setFunc fn { f with rbuf := f.rbuf.setBase value }
  else if width == 64 && offset == 0x0030 then s.setFunc fn { f with cpl := f.cpl.setBase value }
  else if (width == 32 || width == 64) && offset ≥ 0x2000 && v < vectorsOf s fn && offset % (width / 8) == 0 then
    let e := setFld (msixEntry f v) (8 * (offset % 16)) width value.toNat
    deliverPending (s.setFunc fn { f with msixTable := AMap.put f.msixTable v e }) fn
  else s

/-- Pending bits of 64 MSI-X entries from an entry on, as the PBA gives them (R416). -/
def pbaWord (f : HFunc) (first : Nat) : Nat :=
  placeFields ((f.msixPending.filter (fun v => decide (first ≤ v) && decide (v < first + 64))).map (fun v => (v - first, 1)))

/-- Value that a read of a BAR0 register finds (R416): a whole aligned word of the register's width, and 0 anywhere else, from a
write-only register, or from a ring register of an inert VF (R415). `FUNC_STATS` is read by its own row, which clears it. -/
def registerRead (s : State) (fn offset width : Nat) : Nat :=
  let f := s.func fn
  let pba := if fn % 1024 == 0 then 0x4000 else 0x3000
  if !(mgmtRuns s && fnFound s fn) || offset % (width / 8) != 0 || offset ≥ barBytes fn then 0
  else if !fnLive s fn && decide (4 ≤ offset) && decide (offset < 0x0040) then 0
  else if 0x2000 ≤ offset && offset < 0x2000 + 16 * vectorsOf s fn && (width == 32 || width == 64) then
    fld (msixEntry f ((offset - 0x2000) / 16)) (8 * (offset % 16)) width
  else if width == 64 && pba ≤ offset && offset < pba + 8 * ceilDiv (vectorsOf s fn) 64 then pbaWord f (8 * (offset - pba))
  else match width, offset with
    | 32, 0x0000 => funcStatus s fn
    | 32, 0x0010 => f.cmd.ctl.toNat
    | 32, 0x0018 => f.cmd.head
    | 32, 0x0028 => f.rbuf.ctl.toNat
    | 32, 0x0038 => f.cpl.ctl.toNat
    | 64, 0x0008 => f.cmd.base.toNat
    | 64, 0x0020 => f.rbuf.base.toNat
    | 64, 0x0030 => f.cpl.base.toNat
    | 64, 0x0040 => AMap.at f.stats 0 0
    | 64, 0x0048 => AMap.at f.stats 1 0
    | 64, 0x0050 => AMap.at f.stats 2 0
    | 64, 0x0058 => AMap.at f.stats 3 0
    | 64, 0x0060 => AMap.at f.stats 4 0
    | 64, 0x0068 => AMap.at f.stats 5 0
    | _, _ => 0

/-- A configuration register of the host's side that the host port's rules name, by the offsets that this model gives
them above BAR0's 64 KiB (assumption 33): VF Enable, PME_En, PME_Status, the link's power state, max payload and max read request
size, ECRC and the AER status (R412, R425, R426). -/
def writeConfig (s : State) (fn offset : Nat) (value : BitVec 64) : State :=
  let f := s.func fn
  let l := s.link (fn / 1024)
  let s := match offset with
    | 0x10000 => if fn % 1024 == 0 then s.setLink (fn / 1024) { l with vfEnable := bit value 0 } else s
    | 0x10001 => s.setFunc fn { f with pmeEnable := bit value 0, pmes := f.pmes + b2n (bit value 0 && !f.pmeEnable && f.pmeStatus) }
    | 0x10002 => s.setFunc fn { f with pmeStatus := f.pmeStatus && !bit value 0 }
    | 0x10003 => if fn % 1024 == 0 then s.setLink (fn / 1024) { l with l2 := bit value 0, l1 := fld value 1 2 } else s
    | 0x10004 => if fn % 1024 == 0 && [128, 256, 512].contains value.toNat then s.setLink (fn / 1024) { l with maxPayload := value.toNat } else s
    | 0x10005 =>
      if fn % 1024 == 0 && [128, 256, 512, 1024, 2048, 4096].contains value.toNat then s.setLink (fn / 1024) { l with maxRead := value.toNat }
      else s
    | 0x10006 => if fn % 1024 == 0 then s.setLink (fn / 1024) { l with ecrc := fld value 0 2 } else s
    | 0x10007 => if fn % 1024 == 0 then s.setLink (fn / 1024) { l with aer := l.aer - (l.aer &&& value.toNat) } else s
    | _ => s
  { s with host := { s.host with wakeN := wakeWanted s.host } }

/-- REGISTER_WRITE (R416). -/
def execRegisterWrite (fn offset width : Nat) (value : BitVec 64) (s : State) : Host.Outcome State Fault Refusal :=
  onFound s fn (if offset < 0x10000 then writeRegister s fn offset width value else writeConfig s fn offset value)

/-- Reply buffers that a packet takes (R420); none when BUF_4K is outside 1–17. -/
def buffersFor (f : HFunc) (len : Nat) : Option Nat :=
  let b := fld f.rbuf.ctl 8 5
  if 1 ≤ b && b ≤ 17 then some (ceilDiv len (4096 * b)) else none

/-- The buffers before the wrap that a packet would cross are skipped (R420). -/
def skipWrap (s : State) (fn n : Nat) : State :=
  let f := s.func fn
  let left := f.rbuf.size - f.rbuf.head
  if left < n && left ≤ f.rbuf.count && f.cplRoom then
    writeCpl (s.setFunc fn { f with rbuf := { f.rbuf with head := 0 } }) fn 0 f.rbuf.head left 0 0 []
  else s

/-- OUTGOING_PACKET (R420–R422): the oldest waiting packet is written where its buffers and the completion ring allow. -/
def execOutgoingPacket (fn : Nat) (writeFails : Bool) (s : State) : Host.Outcome State Fault Refusal :=
  onFunction s fn (
    match (s.func fn).out with
    | [] => s
    | p :: rest =>
      let f := s.func fn
      match buffersFor f p.bytes.length with
      | none => s
      | some n =>
        if !dmaRuns s fn || !f.rbuf.runs || !f.cplRoom || !f.owed.isEmpty then s
        else
          let s := skipWrap s fn n
          let f := s.func fn
          if decide (f.rbuf.size - f.rbuf.head < n) || decide (f.rbuf.count < n) || !f.cplRoom then s
          else if writeFails then ringError s fn 2 5
          else
            let s := hostDma s p.bytes.length
            let f := s.func fn
            let s := s.setFunc fn (({ f with out := rest, rbuf := { f.rbuf with head := f.rbuf.next f.rbuf.head n } } : HFunc).bump 1)
            let s := { s with host := { s.host with wakeN := wakeWanted s.host } }
            writeCpl s fn 0 f.rbuf.head n p.bytes.length 0 p.bytes)

/-- RBUF_STARVED (R421): packets that have waited 100 ms are discarded. -/
def execRbufStarved (fn : Nat) (s : State) : Host.Outcome State Fault Refusal :=
  checked (okFn fn) (
    let f := s.func fn
    let late := f.out.filter (fun p => decide (p.since + 100000000 ≤ now s))
    if late.isEmpty then s
    else
      let f := late.foldl (fun f _ => f.bump 3) { f with out := f.out.filter (fun p => !decide (p.since + 100000000 ≤ now s)) }
      let s := s.setFunc fn f
      { s with host := { s.host with wakeN := wakeWanted s.host } })

/-- A function after a function reset (R425): its waiting packets are discarded and counted; what has gone out is the
host's. -/
def resetFunc (f : HFunc) : HFunc :=
  { HFunc.reset with
    discard := true, stats := if f.out.isEmpty then [] else [(2, f.out.length)],
    msixSent := f.msixSent, written := f.written, pmes := f.pmes }

/-- Functions reset (R425). -/
def resetFuncs (s : State) (which : Nat → Bool) : State :=
  let funcs : AMap HFunc := s.host.funcs.map (fun x => if which x.1 then (x.1, resetFunc x.2) else x)
  let s := { s with host := { s.host with funcs := funcs } }
  { s with host := { s.host with wakeN := wakeWanted s.host } }

/-- A VF reset by itself; a VF that has no state yet also discards until a request arrives (R425). -/
def resetVf (s : State) (fn : Nat) : State := resetFuncs (s.setFunc fn (s.func fn)) (· == fn)

/-- Whether the strap mode provides a link (R413). -/
def linkUsed (s : State) (h : Nat) : Bool := decide (h < strapLinks s.host.strap)

/-- Widest width of a link in a strap mode (R413). -/
def linkWidth (strap h : Nat) : Nat :=
  match strap with
  | 0 => 8
  | 1 => 4
  | 2 => if h == 0 then 4 else 2
  | _ => 2

/-- A link trains: at 16, 32 or 64 GT/s, and at its width or a narrower one (R412; assumption 3). -/
def trainLink (s : State) (h : Nat) : State :=
  let (a, s) := fresh s
  let (b, s) := fresh s
  let wide := linkWidth s.host.strap h
  let widths := [1, 2, 4, 8].filter (fun w => decide (w ≤ wide))
  s.setLink h { s.link h with
    config := true, up := true, rate := 4 + a.toNat % 3, width := widths.getD (b.toNat % widths.length) 1, l2 := false, l1 := 0 }

/-- Every function of a link is reset, the link with them (R425). -/
def resetLink (s : State) (h : Nat) : State :=
  let s := resetFuncs (s.setFunc (1024 * h) (s.func (1024 * h))) (fun fn => fn / 1024 == h)
  s.setLink h { HLink.reset with perst := (s.link h).perst }

/-- LINK_RESET (R425): cause 0 PERST_N low, 1 link down, 2 hot reset, 3 link disable. A link whose PERST_N is high trains
again. -/
def execLinkReset (link cause : Nat) (s : State) : Host.Outcome State Fault Refusal :=
  checked (okLink link && decide (cause < 4)) (
    let s := if cause == 0 then s.setLink link { s.link link with perst := true } else s
    if !linkUsed s link || !mgmtRuns s then s
    else
      let s := resetLink s link
      if (s.link link).perst then s else trainLink s link)

/-- PERST_N_RELEASE (R425): configuration requests are answered from 20 ms on. -/
def execPerstNRelease (link : Nat) (s : State) : Host.Outcome State Fault Refusal :=
  checked (okLink link) (
    if !(s.link link).perst then s
    else
      let s := s.setLink link { s.link link with perst := false }
      if linkUsed s link && mgmtRuns s then trainLink s link else s)

/-- PF_FLR (R425): PF and VFs of the link; VF Enable clears. -/
def execPfFlr (link : Nat) (s : State) : Host.Outcome State Fault Refusal :=
  checked (okLink link) (
    if !linkUsed s link || !mgmtRuns s then s
    else
      let s := resetFuncs (s.setFunc (1024 * link) (s.func (1024 * link))) (fun fn => fn / 1024 == link)
      s.setLink link { s.link link with vfEnable := false })

/-- VF_FLR (R425). -/
def execVfFlr (link vf : Nat) (s : State) : Host.Outcome State Fault Refusal :=
  checked (okLink link && decide (1 ≤ vf) && decide (vf ≤ 512))
    (if !linkUsed s link || !mgmtRuns s then s else resetVf s (1024 * link + vf))

/-- BUS_MASTER_DISABLE (R426): Bus Master Enable cleared, or D3hot entered: packets read in part are read again whole. -/
def execBusMasterDisable (fn : Nat) (d3hot : Bool) (s : State) : Host.Outcome State Fault Refusal :=
  checked (okFn fn) (
    if !linkUsed s (fn / 1024) || !mgmtRuns s then s
    else
      let f := s.func fn
      let f : HFunc := { f with reads := f.reads.map (fun r => { r with partly := r.error == 0 }) }
      s.setFunc fn (if d3hot then ({ f with d3hot := true } : HFunc).notePme else { f with busMaster := false }))

/-- DMA_RESUME (R426): Bus Master Enable set, the function in D0. -/
def execDmaResume (fn : Nat) (s : State) : Host.Outcome State Fault Refusal :=
  checked (okFn fn) (
    if !linkUsed s (fn / 1024) || !mgmtRuns s then s
    else
      let f := s.func fn
      let s := s.setFunc fn { f with
        busMaster := true, d3hot := false, reads := f.reads.map (fun r => { r with partly := false }) }
      settle (pump (payOwed f.owed.length s fn) fn))

end Sys2Proof.Machine
end

