-- ==== Sys2Proof/Machine/Keys.lean ====
section
/-! DEFINITION. The key hierarchy of Benchmark and the certificate chain of slot 0 (R353, R354): each derived key is HKDF-SHA-384
of its origin under its label. -/

namespace Sys2Proof.Machine

/-- Characters of a text, as ASCII. -/
def ascii (t : String) : List Byte := t.toList.map (fun ch => BitVec.ofNat 8 ch.toNat)

/-- The vault key that a count of blown VAULT_GEN fuses gives (R354). -/
def vaultKeyOf (gen : Nat) : BitVec 256 := (Config.hkdf Config.deviceSecret (ascii "vault" ++ beBytes 1 gen)).setWidth 256

/-- The vault key in force: a device zeroize moves it on (R354, R355). -/
def vaultKey (t : Trust) : BitVec 256 := vaultKeyOf t.vaultGen

/-- Whether the VK in force opens a vault entry: none of an earlier fuse count (R355). -/
def VaultEntry.opens (t : Trust) (v : VaultEntry) : Bool := v.gen == t.vaultGen

/-- What the device identity key is made of (R353, R354). -/
def identityKey : BitVec 512 := Config.hkdf Config.deviceSecret (ascii "identity")

/-- Digests of the running BOOT and BMK (R353). -/
def bootDigests (t : Trust) : List (BitVec 384) := (t.runningImages.take 2).map (·.digest)

/-- What the alias key is made of: a change of BOOT or BMK changes it (R353, R354). -/
def aliasKey (t : Trust) : BitVec 512 :=
  Config.hkdf Config.deviceSecret (ascii "alias" ++ ((bootDigests t).map (fun d => beBytes 48 d.toNat)).flatten)

/-- The owner flash key (OFK) of a sealing key (R354). -/
def flashKey (osk : BitVec 256) : BitVec 512 := Config.hkdf osk (ascii "flash")

/-- The owner seal key of a sealing key (R354). -/
def sealKeyOf (osk : BitVec 256) : BitVec 256 := (Config.hkdf osk (ascii "seal")).setWidth 256

/-- The owner wrap key (OWK) of a sealing key (R354). -/
def wrapKey (osk : BitVec 256) : BitVec 256 := (Config.hkdf osk (ascii "wrap")).setWidth 256

/-- The device flash key (DFK) (R354). -/
def deviceFlashKey (t : Trust) : BitVec 512 := Config.hkdf (vaultKey t) (ascii "device-flash")

/-- The ordering code's text (R1). -/
def orderingText (flash : Bool) : String := if flash then "EYN-M512-32L" else "EYN-M512-00L"

/-- The serial as 16 hexadecimal digits (R353), in upper case as the USB port gives it (R428). -/
def serialDigits (i : Ident) : List Byte :=
  (List.range 16).map (fun k => BitVec.ofNat 8 (Nat.digitChar (bitsOf i.serial.toNat (4 * (15 - k)) 4)).toUpper.toNat)

/-- The end of validity of the identity certificate, which the alias certificate copies (R353). -/
def notAfter : List Byte := ascii "99991231235959Z"

/-- The subject of the identity certificate: its serialNumber and its CN (R353). -/
def certSubject (i : Ident) : List Byte := serialDigits i ++ ascii "Myolne " ++ ascii (orderingText i.flash)

/-- The four certificates of slot 0 (R353): the Tolovofa Root CA, the Eosoyn Device CA, the device identity, and the alias, which
the identity key signs at each boot. -/
def certificates (i : Ident) (t : Trust) : List (List Byte) :=
  [Config.certificate 0 none [], Config.certificate 1 none [],
   Config.certificate 2 none (certSubject i ++ notAfter ++ beBytes 96 (Config.p384Public identityKey).toNat),
   Config.certificate 3 (some identityKey) (beBytes 96 (Config.p384Public (aliasKey t)).toNat ++ notAfter)]

/-- The certificate chain of slot 0, as DSP0274 has it: its length, the root's hash, the certificates (assumption 42); slots 1–7
are not provisioned (R353). -/
def certChain (s : State) : List Byte :=
  let certs := certificates s.ident s.trust
  let body := beBytes 48 (Config.hash384 (certs.headD [])).toNat ++ certs.flatten
  leBytes 2 (body.length + 4) ++ leBytes 2 0 ++ body

end Sys2Proof.Machine
end

