-- ==== Sys2Proof/Machine/Usb.lean ====
section
/-! DEFINITION. The USB recovery port (R427–R433). -/

namespace Sys2Proof.Machine

/-- The device descriptor's fields: bcdUSB, bDeviceClass, bMaxPacketSize0, idVendor, idProduct, bcdDevice (R428). -/
def usbDeviceFields (i : Ident) : List Nat := [0x0200, 0, 64, 0x1F7D, 0x6D10, revisionId i]

/-- The configuration descriptor's fields: bNumInterfaces, bmAttributes, bMaxPower (R428). -/
def usbConfigFields : List Nat := [2, 0xC0, 0]

/-- Class, subclass, protocol and endpoints of an interface (R428). -/
def usbInterfaceFields (i : Nat) : List Nat := [0xFF, 0x01, i + 1, 0]

/-- The device's strings: iManufacturer, iProduct, iSerialNumber (R428). -/
def usbStrings (i : Ident) : List (List Byte) :=
  [ascii "Tolovofa Devices", ascii "Myolne " ++ ascii (orderingText i.flash), serialDigits i]

/-- A packet that waits for a full queue enters it when it fits (R430); one that has waited 100 ms is discarded (R421). -/
def UIface.fill : Nat → UIface → UIface
  | 0, u => u
  | n + 1, u =>
    match u.waiting with
    | [] => u
    | p :: rest =>
      if outBytes u.out + p.bytes.length ≤ 2 ^ 18 then UIface.fill n { u with out := u.out ++ [p], waiting := rest } else u

/-- The interface at this moment: packets that have waited too long are gone and counted, and those behind them enter the queue
where they fit (R421, R430). -/
def UIface.at_ (u : UIface) (t : Ns) : UIface :=
  let waiting := u.waiting.filter (fun p => decide (t < p.since + 100000000))
  UIface.fill waiting.length { u with waiting := waiting, starved := u.starved + (u.waiting.length - waiting.length) }

/-- Answer of a vendor request: its data stage. -/
def usbAnswer (s : State) (bs : List Byte) : State := { s with host := { s.host with usbAnswer := some bs } }

/-- A vendor request answered with STALL (R429). -/
def usbStall (s : State) : State := { s with host := { s.host with usbAnswer := none } }

/-- A further transfer: the transfer before it has ended, its status stage with it (R430, R432). -/
def nextTransfer (s : State) : State :=
  { s with host := { s.host with usb := s.host.usb.map (fun x => (x.1, ({ x.2 with whole := none } : UIface).at_ (now s))) } }

/-- A vendor request reaches the port while it is connected; wIndex[7:0] names the interface, and `ok` says whether the
request keeps its rules (R427, R429). -/
def usbRequest (s : State) (wIndex : BitVec 16) (ok : Bool) (go : State → Nat → State) : Host.Outcome State Fault Refusal :=
  .next (
    if !s.host.usbConnected then s
    else
      let s := nextTransfer s
      let i := fld wIndex 0 8
      if i < 2 && ok then settle (go s i) else usbStall s)

/-- The assembly given up. -/
def UIface.dropAsm (u : UIface) : UIface := { u with asm := [], nextChunk := 0, assembling := false }

/-- A request packet is whole (R430): it is offered to acceptance. -/
def usbWhole (s : State) (i : Nat) (bytes : List Byte) : State :=
  let s := s.setUsb i (s.usbIf i).dropAsm
  let h := readHeader bytes
  let acc := s.legend.nextAcc
  let s := offer (requestSeen s (.usb i)) (.usb i) bytes false
  if s.legend.nextAcc == acc then s
  else s.setUsb i { s.usbIf i with whole := some ⟨acc, h.session, h.seq⟩ }

/-- A chunk of a request packet (R430). -/
def usbChunk (s : State) (i chunk : Nat) (last : Bool) (data : List Byte) : State :=
  let u := s.usbIf i
  if chunk != u.nextChunk || (!last && data.length != 4096) then usbStall (s.setUsb i u.dropAsm)
  else
    let s := usbAnswer s []
    if last then usbWhole s i (u.asm ++ data)
    else s.setUsb i { u with asm := u.asm ++ data, nextChunk := chunk + 1, assembling := true }

/-- CMD_WRITE (R429, R430). -/
def execCmdWrite (wValue wIndex : BitVec 16) (data : List Byte) (s : State) : Host.Outcome State Fault Refusal :=
  usbRequest s wIndex
    (fld wValue 5 10 == 0 && decide (fld wValue 0 5 ≤ 16) && fld wIndex 8 8 == 0 && decide (1 ≤ data.length) && decide (data.length ≤ 4096))
    (fun s i => usbChunk s i (fld wValue 0 5) (bit wValue 15) data)

/-- REPLY_READ (R429, R430): the next bytes of the head outgoing packet. -/
def execReplyRead (wValue wIndex : BitVec 16) (len : Nat) (s : State) : Host.Outcome State Fault Refusal :=
  usbRequest s wIndex (wValue == 0 && fld wIndex 8 8 == 0 && decide (1 ≤ len) && decide (len ≤ 4096)) (fun s i =>
    let u := s.usbIf i
    match u.out with
    | [] => usbAnswer s []
    | p :: rest =>
      let bs := (p.bytes.drop u.outPos).take len
      let u := if u.outPos + bs.length ≥ p.bytes.length then UIface.fill u.waiting.length { u with out := rest, outPos := 0 }
        else { u with outPos := u.outPos + bs.length }
      usbAnswer (s.setUsb i u) bs)

/-- The 16 bytes of STATUS (R431). -/
def usbStatusBytes (u : UIface) : List Byte :=
  leBytes 4 (match u.out with | [] => 0 | p :: _ => p.bytes.length) ++ leBytes 4 (outBytes u.out) ++
    leBytes 1 (b2n u.orphan.isSome + 2 * b2n u.orphanPending.isSome + 4 * b2n u.assembling) ++ leBytes 3 0 ++
    leBytes 4 (match u.orphan with | none => 0 | some p => p.seq)

/-- STATUS (R431). -/
def execUsbStatus (wValue wIndex : BitVec 16) (len : Nat) (s : State) : Host.Outcome State Fault Refusal :=
  usbRequest s wIndex (wValue == 0 && fld wIndex 8 8 == 0 && len == 16) (fun s i => usbAnswer s (usbStatusBytes (s.usbIf i)))

/-- The orphan reply that a request names by the low bits of its sequence (R433). -/
def orphanNamed (u : UIface) (wValue : BitVec 16) : Option OutPkt :=
  match u.orphan with
  | none => none
  | some p => if p.seq % 65536 == wValue.toNat then some p else none

/-- ORPHAN_READ (R429, R433). -/
def execOrphanRead (wValue wIndex : BitVec 16) (len : Nat) (s : State) : Host.Outcome State Fault Refusal :=
  usbRequest s wIndex (decide (fld wIndex 8 8 ≤ 16) && decide (1 ≤ len) && decide (len ≤ 4096)) (fun s i =>
    match orphanNamed (s.usbIf i) wValue with
    | none => usbStall s
    | some p => usbAnswer s ((p.bytes.drop (4096 * fld wIndex 8 8)).take len))

/-- ORPHAN_CLEAR (R429, R433). -/
def execOrphanClear (wValue wIndex : BitVec 16) (len : Nat) (s : State) : Host.Outcome State Fault Refusal :=
  usbRequest s wIndex (fld wIndex 8 8 == 0 && len == 0) (fun s i =>
    match orphanNamed (s.usbIf i) wValue with
    | none => usbStall s
    | some _ => usbAnswer (s.setUsb i { s.usbIf i with orphan := none }) [])

/-- ABORT (R429). -/
def execAbort (wValue wIndex : BitVec 16) (len : Nat) (s : State) : Host.Outcome State Fault Refusal :=
  usbRequest s wIndex (wValue == 0 && fld wIndex 8 8 == 0 && len == 0) (fun s i =>
    usbAnswer (s.setUsb i (s.usbIf i).dropAsm) [])

/-- The slot of an interface takes the case of a command whose transfer a reset cut off (R432, R433). -/
def takeOrphan (s : State) (i : Nat) (w : Whole) : State :=
  let u := s.usbIf i
  let busy := u.orphan.isSome || u.orphanPending.isSome
  match AMap.find s.legend.flight w.acc with
  | some e =>
    let s := s.setEntry w.acc { e with orphan := true }
    if busy then s else s.setUsb i { u with orphanPending := some w.acc }
  | none =>
    match (u.out ++ u.waiting).find? (fun p => p.isFinal && p.session == w.session && p.seq == w.seq) with
    | none => s
    | some p =>
      if busy then raiseDev (s.setUsb i { u with orphanLost := u.orphanLost + 1 }) 0x444 1 0
      else s.setUsb i { u with orphan := some p }

/-- A bus reset or a disconnect, on one interface (R432). -/
def resetUsb (s : State) (i : Nat) : State :=
  let s := match (s.usbIf i).whole with | none => s | some w => takeOrphan s i w
  s.setUsb i { (s.usbIf i).dropAsm with whole := none, out := [], outPos := 0, waiting := [], discard := true }

/-- USB_BUS_RESET (R432). -/
def execUsbBusReset (s : State) : Host.Outcome State Fault Refusal :=
  .next (if !s.host.usbConnected then s else settle (resetUsb (resetUsb s 0) 1))

/-- The D+ pull-up follows USB_VBUS and the management domain (R427); a disconnect acts as a bus reset. -/
def syncUsb (s : State) : State :=
  let on := s.host.usbVbus && mgmtRuns s
  let s := if s.host.usbConnected && !on then resetUsb (resetUsb s 0) 1 else s
  { s with host := { s.host with usbConnected := on } }

/-- USB_VBUS_CHANGE (R427): above 4.0 V the port connects, below 3.5 V it disconnects. -/
def execUsbVbusChange (millivolts : Nat) (s : State) : Host.Outcome State Fault Refusal :=
  let on := if millivolts > 4000 then true else if millivolts < 3500 then false else s.host.usbVbus
  .next (settle (syncUsb { s with host := { s.host with usbVbus := on } }))

end Sys2Proof.Machine
end

