-- ==== Sys2Proof/Machine/Counters.lean ====
section
/-! DEFINITION. The commands of areas 0x0A and 0x0C that route events, read them, steer and read counters, and read the
diagnostic records; the expiries of holdoffs and snapshots (R120, R178, R179, R208, R209, R407, R490–R502). -/

namespace Sys2Proof.Machine

/-- HOLDOFF_EXPIRY (R490): it acts once the holdoff of the pair has ended. -/
def execHoldoffExpiry (source owner : Nat) (s : State) : Host.Outcome State Fault Refusal :=
  checked (okSource source) (if powered s then settle (endHoldoff s source owner) else s)

/-- What is wrong with an `EVENT_ROUTE` record (R493). -/
def routeBad (s : State) (v : BitVec 64) : List (Bool × Status) :=
  reservedBad v [(21, 11), (48, 16)] 8 ++
  [(decide (fld v 3 2 ≥ strapLinks s.host.strap), badField 0x0300 8 3),
   (decide (fld v 5 9 ≥ pfVectors s.host.strap (fld v 3 2)), badField 0x0300 8 5)]

/-- EVENT_ROUTE_WRITE (R493, R494): object 0 is a source's EVENT_ROUTE, object 1 the tenant's OWNER_ROUTE. -/
def execEventRouteWrite (c : CmdRef) (object index : Nat) (record : BitVec 64) (s : State) : Host.Outcome State Fault Refusal :=
  .next (runCommand s c 0x0A00 (fun k s =>
    if object > 1 then ends s (badField 0x0300 0 32)
    else if (object == 0) != k.isOp then endsCode s 0x0201
    else if object == 0 then
      unlessBad s ((decide (index > 2047), badField 0x0300 0 0) :: routeBad s record)
        (okDone { s with events := { s.events with routes := AMap.put s.events.routes index record } })
    else
      unlessBad s [(index != 0, badField 0x0300 0 0), (fld record 32 32 != 0, failWith 0x0100 0 0)]
        (okDone { s with events := { s.events with
          ownerRoutes := AMap.put s.events.ownerRoutes k.owner (BitVec.ofNat 32 record.toNat) } })))

/-- Whether a record's TIME comes before another's (R495). -/
def EventRec.before (a b : EventRec) : Bool :=
  decide (a.time.epoch < b.time.epoch) || (a.time.epoch == b.time.epoch && decide (a.time.ns < b.time.ns))

/-- A record placed in order of TIME, behind those of the same TIME. -/
def insertRec (r : EventRec) : List EventRec → List EventRec
  | [] => [r]
  | x :: rest => if r.before x then r :: x :: rest else x :: insertRec r rest

/-- EVENT_READ (R495): records in order of TIME, at most as many as asked for and as a reply holds; they leave the queue. -/
def execEventRead (c : CmdRef) (max : Nat) (s : State) : Host.Outcome State Fault Refusal :=
  .next (runCommand s c 0x0A01 (fun k s =>
    let q := AMap.at s.events.queues k.owner ⟨[], false⟩
    let recs := q.recs.foldl (fun l r => insertRec r l) []
    let n := min max (replyMax / 64)
    okRead { s with events := { s.events with queues := AMap.put s.events.queues k.owner { q with recs := recs.drop n } } }
      ((recs.take n).map eventBytes).flatten))

/-- Sources that a unit counts and instances that it has (R498). -/
def perfUnit : Nat → Nat × Nat
  | 1 => (3, 16)
  | 2 => (7, 16)
  | 3 => (4, 64)
  | 4 => (3, 64)
  | 5 => (5, 24)
  | 6 => (3, 1)
  | _ => (0, 0)

/-- What is wrong with a `DEV_PERF_SEL` record (R498): UNIT 0 counts nothing, whatever the rest of the record holds. -/
def devSelectBad (v : BitVec 64) : List (Bool × Status) :=
  let u := perfUnit (fld v 0 4)
  let counts := fld v 0 4 != 0
  reservedBad v [(37, 27)] 8 ++
  [(decide (fld v 0 4 > 6), badField 0x0300 8 0), (counts && decide (fld v 4 8 ≥ u.1), badField 0x0300 8 4),
   (counts && fld v 12 12 != 0xFFF && decide (fld v 12 12 ≥ u.2), badField 0x0300 8 12)]

/-- The select record of a core counter and who wrote it (R208). -/
def coreSelect (s : State) (index : Nat) : BitVec 32 × Nat := AMap.at (s.pan (index / 128)).perfSel (index % 128) (0, operatorId)

/-- What is wrong with a core counter's select record (R30, R208): a tenant counts its own threads only, and takes no
counter that another owner steers. -/
def coreSelectBad (s : State) (k : Call) (index : Nat) (record : BitVec 64) : List (Bool × Status) :=
  let old := coreSelect s index
  [(decide (index > 2047), badField 0x0300 0 0), (fld record 32 32 != 0, failWith 0x0100 0 0)] ++
  reservedBad record [(22, 10)] 8 ++
  [(decide (fld record 0 5 > 19), badField 0x0300 8 0),
   (!k.isOp && (!bit record 9 || fld record 10 12 != k.owner), plain 0x0201 false),
   (!k.isOp && old.2 != k.owner && fld old.1 0 5 != 0, plain 0x0201 false)]

/-- COUNTER_SELECT_WRITE (R208, R497, R498): object 0 a core counter, by 128 × Pan + 4 × core + counter, object 1 a device
counter (assumption 34). A change sets the counter and WRAPS to 0. -/
def execCounterSelectWrite (c : CmdRef) (object index : Nat) (record : BitVec 64) (s : State) : Host.Outcome State Fault Refusal :=
  .next (runCommand s c 0x0A02 (fun k s =>
    if object > 1 then ends s (badField 0x0300 0 32)
    else if object == 0 then
      unlessBad s (coreSelectBad s k index record)
        (let p := s.pan (index / 128)
         let v : BitVec 32 := BitVec.ofNat 32 record.toNat
         let same := (coreSelect s index).1 == v
         okDone (s.setPan (index / 128) { p with
           perfSel := AMap.put p.perfSel (index % 128) (v, k.owner),
           perf := if same then p.perf else AMap.del p.perf (index % 128) }))
    else if !k.isOp then endsCode s 0x0201
    else
      unlessBad s ((decide (index > 31), badField 0x0300 0 0) :: devSelectBad record)
        (let same := AMap.at s.events.devSelect index 0 == record
         okDone { s with events := { s.events with
           devSelect := AMap.put s.events.devSelect index record,
           devPerf := if same then s.events.devPerf else AMap.del s.events.devPerf index } })))

/-- One counter of a snapshot (R502). -/
structure CounterEntry where
  id : Nat
  sat : Bool
  perf : Bool
  wraps : Nat
  value : Nat
  own : Bool                      -- the reader's own, which a tenant may clear

/-- Completion codes whose counters every owner keeps: KIND, OUTCOME and REASON (R501, R504). -/
def completionCodes : List Nat :=
  [0] ++ [0x10, 0x11, 0x12, 0x13, 0x14].map (completionIndex 0 1) ++
  [0x20, 0x21, 0x22, 0x23, 0x24, 0x25, 0x26, 0x27, 0x28].map (completionIndex 0 2) ++
  [0x21, 0x30, 0x31, 0x32, 0x33].map (completionIndex 1 1)

/-- Pre-context reasons (R504): those of the MAC, those after it, and the slow path's. -/
def preContextCodes : List Nat :=
  (List.range 6).map (0x40 + ·) ++ (List.range 10).map (0x50 + ·) ++ (List.range 10).map (0x61 + ·)

/-- Count-only reasons (R504). -/
def countOnlyCodes : List Nat := [0x70, 0x71, 0x72, 0x73, 0x74]

/-- Indices that the manual fixes for an instance of a block (R500, R501); they are listed whether or not they have
counted. -/
def fixedIndices (block : Nat) : List Nat :=
  match block with
  | 2 => List.range 28
  | 3 => preContextCodes.map (0x800 + ·)
  | 5 => completionCodes ++ [0xC00] ++ (preContextCodes ++ countOnlyCodes).map (0x800 + ·)
  | _ => []

/-- Every instance of a block whose indices are fixed (R501, R502). -/
def fixedInstances (s : State) (block : Nat) : List Nat :=
  match block with
  | 2 => (List.range 64).filter (lportExists s)
  | 3 => List.range 16
  | 5 => (s.trust.slots.filter (fun x => x.2.state != .free)).map (·.1) ++ [deviceId]
  | _ => []

/-- Statistics counters by id: those that have counted, with the fixed ones added, and those of the rules installed
(R89, R499–R501). -/
def statsOf (s : State) : AMap Stat :=
  let m := [2, 3, 5].foldl (fun m b =>
    (fixedInstances s b).foldl (fun m i =>
      (fixedIndices b).foldl (fun m j => if AMap.has m (cid b i j) then m else AMap.put m (cid b i j) ⟨0, false⟩) m) m)
    s.events.stats
  let m := (List.range 2048).foldl (fun m j => if AMap.has m (cid 10 0 j) then m else AMap.put m (cid 10 0 j) ⟨0, false⟩) m
  let live := ((s.sluice.scopeRules ++ s.sluice.rules).map (fun r => [ruleCid r.tenant r.order 0, ruleCid r.tenant r.order 1])).flatten
  m.filter (fun x => decide (x.1 < 2 ^ 48)) ++ live.map (fun i => (i, AMap.at s.events.stats i ⟨0, false⟩))

/-- Block, instance and index of a counter id (R502). -/
def idBlock (id : Nat) : Nat := if id < 2 ^ 32 then id / 2 ^ 24 else if id < 2 ^ 48 then 6 else 5
/-- Instance of a counter id; of a table's counter, the table id; of a rule's, its owner. -/
def idInst (id : Nat) : Nat :=
  if id < 2 ^ 32 then id / 2 ^ 12 % 2 ^ 12 else if id < 2 ^ 48 then id / 2 ^ 12 % 2 ^ 16 else id / 2 ^ 32 % 2 ^ 12

/-- Whether a statistics counter belongs to an object of an owner (R502): its rules, tables and capture rings. -/
def ownsCounter (s : State) (owner id : Nat) : Bool :=
  let i := idInst id
  if id ≥ 2 ^ 48 then i == owner
  else if idBlock id == 6 then (AMap.find s.gaz.tables i).any (fun t => t.owner == owner)
  else if idBlock id == 9 then decide (id % 4096 < 0x100) && (AMap.find s.stk.rings i).any (fun x => fld x.cfg 0 12 == owner)
  else false

/-- The statistics counters that a reader may see (R30, R491, R502). -/
def statEntries (s : State) (k : Call) : List CounterEntry :=
  ((statsOf s).filter (fun x => k.isOp || ownsCounter s k.owner x.1 || (idBlock x.1 == 5 && idInst x.1 == k.owner))).map
    (fun x => ⟨x.1, x.2.sat, false, 0, x.2.value, k.isOp || ownsCounter s k.owner x.1⟩)

/-- The core performance counters that a reader may see: of a tenant, those whose select record it wrote (R502). -/
def coreEntries (s : State) (k : Call) : List CounterEntry :=
  (s.pans.map (fun p =>
    (p.2.perfSel.filter (fun x => k.isOp || x.2.2 == k.owner)).map (fun x =>
      let v := AMap.at p.2.perf x.1 (0, 0)
      (⟨cid 4 p.1 (0x100 + x.1), false, true, v.2, v.1, true⟩ : CounterEntry)))).flatten

/-- The device performance counters that a reader may see: of a tenant, the selections that name it (R498). -/
def devEntries (s : State) (k : Call) : List CounterEntry :=
  (s.events.devSelect.filter (fun x => k.isOp || (bit x.2 24 && fld x.2 25 12 == k.owner))).map (fun x =>
    let v := AMap.at s.events.devPerf x.1 ⟨0, 0⟩
    ⟨cid 1 0 (0x300 + x.1), false, true, v.wraps, v.value, k.isOp⟩)

/-- A counter placed in order of its id. -/
def insertEntry (e : CounterEntry) : List CounterEntry → List CounterEntry
  | [] => [e]
  | x :: rest => if wireId e.id < wireId x.id then e :: x :: rest else x :: insertEntry e rest

/-- INSTANCE that names every instance (R502). -/
def everyInst : Nat := 0xFFFFFFFF

/-- The counters that a snapshot latches, in order of their ids (R502). -/
def latched (s : State) (k : Call) (scope inst : Nat) : List CounterEntry :=
  let all := statEntries s k ++ coreEntries s k ++ devEntries s k
  let one := !(inst == everyInst || scope == 1 || scope == 10 || scope == 0xFF)
  (all.filter (fun e => scope == 0xFF || (idBlock e.id == scope && (!one || idInst e.id == inst)))).foldl
    (fun l e => insertEntry e l) []

/-- Whether an instance of a scope exists (R502). -/
def instExists (s : State) (scope inst : Nat) : Bool :=
  inst == everyInst ||
  match scope with
  | 2 => lportExists s inst
  | 3 => decide (inst < 16)
  | 4 => decide (inst < 16)
  | 5 => decide (inst < 512) || inst == operatorId || inst == deviceId
  | 6 => AMap.has s.gaz.tables inst
  | 7 => decide (inst < 24) || (decide (0x100 ≤ inst) && decide (inst < 0x106))
  | 8 => decide (inst < 64) || (decide (0x100 ≤ inst) && decide (inst < 0x300)) || (decide (0x400 ≤ inst) && decide (inst < 0x600))
  | 9 => decide (inst < 256)
  | _ => inst == 0

/-- Whether a tenant may name an instance of a scope (R502). -/
def instSeen (s : State) (owner scope inst : Nat) : Bool :=
  inst == everyInst ||
  match scope with
  | 5 => inst == owner
  | 6 => (AMap.find s.gaz.tables inst).any (fun t => t.owner == owner)
  | 9 => (AMap.find s.stk.rings inst).any (fun x => fld x.cfg 0 12 == owner)
  | 1 => true
  | 4 => true
  | 10 => true
  | 0xFF => true
  | _ => false

/-- The 16 bytes of an entry (R502). -/
def entryOfCounter (e : CounterEntry) : List Byte :=
  beBytes 4 (wireId e.id) ++ beBytes 1 (b2n e.sat + 2 * b2n e.perf) ++ beBytes 1 0 ++ beBytes 2 e.wraps ++ beBytes 8 e.value

/-- The later of two timestamps. -/
def laterStamp (a b : Stamp) : Stamp :=
  if a.epoch < b.epoch || (a.epoch == b.epoch && a.ns < b.ns) then b else a

/-- A timestamp's 12 bytes (R13). -/
def stampBytes (t : Stamp) : List Byte := beBytes 4 t.epoch ++ beBytes 8 t.ns

/-- The bytes of a counter snapshot (R502): BASE is the last clear of a counter that it holds, or the last start. -/
def snapBytes (s : State) (es : List CounterEntry) : List Byte :=
  let base := es.foldl (fun b e => laterStamp b (AMap.at s.events.cleared e.id s.events.base)) s.events.base
  stampBytes (stamp s) ++ stampBytes base ++ beBytes 4 es.length ++ beBytes 4 0 ++ (es.map entryOfCounter).flatten

/-- Counters cleared, with SAT and WRAPS (R502). -/
def clearCounters (s : State) (es : List CounterEntry) : State :=
  let ids := es.map (·.id)
  let keep {α : Type} (m : AMap α) (f : Nat → Nat) : AMap α := m.filter (fun x => !ids.contains (f x.1))
  { s with
    pans := s.pans.map (fun p => (p.1, { p.2 with perf := keep p.2.perf (fun i => cid 4 p.1 (0x100 + i)) })),
    events := { s.events with
      stats := keep s.events.stats id, devPerf := keep s.events.devPerf (fun i => cid 1 0 (0x300 + i)),
      cleared := ids.foldl (fun m i => AMap.put m i (stamp s)) s.events.cleared } }

/-- Chosen performance counters that a snapshot latches are sampled into their owners' telemetry (R496; assumption 35). -/
def sampleCounters (s : State) (es : List CounterEntry) : State :=
  s.events.telemetrySelect.foldl (fun s o =>
    (es.filter (fun e => e.perf && o.2.contains e.id)).foldl (fun s e =>
      telemetryWrite s o.1 3 0xFFFF (beNat (entryOfCounter e) * 2 ^ 160)) s) s

/-- Snapshots of a session. -/
def snapsOf (s : State) (session : Nat) : Nat := (s.legend.snaps.filter (fun x => x.2.session == session)).length

/-- A snapshot taken (R407): its id and length are the reply's data; the bytes are taken together with a change. -/
def takeSnap (s : State) (k : Call) (bytes : List Byte) (go : State → State) (read : Bool) : State × Ending :=
  if snapsOf s k.entry.session ≥ 16 || s.legend.snaps.length ≥ 1024 then ends s (noRoom 0x0401 0x62 k.owner)
  else
    let id := s.legend.nextSnap
    let snap : Snap := { session := k.entry.session, bytes := bytes, lastRead := now s }
    let s := go { s with legend := { s.legend with snaps := AMap.put s.legend.snaps id snap, nextSnap := id + 1 } }
    (s, .done (plain 0 (!read)) (beBytes 4 id ++ beBytes 4 bytes.length))

/-- SNAPSHOT (R407, R502). -/
def execSnapshot (c : CmdRef) (scope : Nat) (flags : BitVec 8) (inst : Nat) (s : State) : Host.Outcome State Fault Refusal :=
  .next (runCommand s c 0x0A03 (fun k s =>
    let clear := bit flags 0
    let known := (1 ≤ scope && scope ≤ 10) || scope == 0xFF
    if known && instExists s scope inst && !k.isOp && !instSeen s k.owner scope inst then ends s (failWith 0x0201 3 inst)
    else if fld flags 1 7 != 0 then ends s (badField 0x0100 0 49)
    else if !known then ends s (badField 0x0300 0 56)
    else if !instExists s scope inst then ends s (failWith 0x0107 3 inst)
    else
      let es := latched s k scope inst
      if clear && es.any (fun e => !e.own) then endsCode s 0x0201
      else takeSnap s k (snapBytes s es) (fun s =>
        let s := sampleCounters s es
        let s := { s with events := { s.events with seen := s.events.seen.filter (fun i => !es.any (fun e => e.id == i)) } }
        if clear then clearCounters s es else s) true))

/-- SNAPSHOT_READ (R407). -/
def execSnapshotRead (c : CmdRef) (id offset : Nat) (s : State) : Host.Outcome State Fault Refusal :=
  .next (runCommand s c 0x0A04 (fun k s =>
    match AMap.find s.legend.snaps id with
    | none => endsCode s 0x0107
    | some x =>
      if x.session != k.entry.session then endsCode s 0x0107
      else okRead { s with legend := { s.legend with snaps := AMap.put s.legend.snaps id { x with lastRead := now s } } }
        ((x.bytes.drop offset).take 65280)))

/-- SNAPSHOT_RELEASE (R405, R407). -/
def execSnapshotRelease (c : CmdRef) (id : Nat) (s : State) : Host.Outcome State Fault Refusal :=
  .next (runCommand s c 0x0A05 (fun k s =>
    if (AMap.find s.legend.snaps id).any (fun x => x.session == k.entry.session) then
      okDone { s with legend := { s.legend with snaps := AMap.del s.legend.snaps id } }
    else ends s (plain 3 false)))

/-- SNAPSHOT_EXPIRY (R407): 60 s after the last read. -/
def execSnapshotExpiry (id : Nat) (s : State) : Host.Outcome State Fault Refusal :=
  .next (match AMap.find s.legend.snaps id with
    | none => s
    | some x =>
      if now s < x.lastRead + 60000000000 then s
      else { s with legend := { s.legend with snaps := AMap.del s.legend.snaps id } })

/-- TELEMETRY_SELECT (R496): a value below 3 chooses a completion outcome, another the performance counter with that id
(assumption 35); a tenant chooses only counters that it may see. -/
def execTelemetrySelect (c : CmdRef) (chosen : List Nat) (s : State) : Host.Outcome State Fault Refusal :=
  .next (runCommand s c 0x0A06 (fun k s =>
    let perf := (coreEntries s k ++ devEntries s k).map (·.id)
    unlessBad s
      [(!s.ident.flash, plain 0x0406 false),
       (chosen.any (fun v => decide (3 ≤ v) && !perf.contains v), badOpen 0x0300 0x0A06 0)]
      (okDone { s with events := { s.events with telemetrySelect := AMap.put s.events.telemetrySelect k.owner chosen } })))

/-- `DOMAIN_STATUS` (R120). -/
def domainStatus (d : Domain) : Nat :=
  placeFields [(0, d.next), (16, d.oldest), (32, d.flight.length), (39, b2n d.parking), (40, d.waiting.length)]

/-- DOMAIN_STATUS_READ (R120). -/
def execDomainStatusRead (c : CmdRef) (express : Bool) (domain : Nat) (s : State) : Host.Outcome State Fault Refusal :=
  .next (runCommand s c 0x0C00 (fun _ s =>
    if domain ≥ 2 ^ 20 then ends s (badOpen 0x0300 0x0C00 0)
    else okRead s (beBytes 8 (domainStatus (s.dom (domKey express domain))))))

/-- The 48 bytes of a distance report (R178). -/
def distBytes (r : DistReport) : List Byte :=
  beBytes 48 (placeFields [(0, r.kind), (4, r.reg), (9, r.discipline), (12, r.csr), (24, r.required), (32, r.separation),
    (40, r.waitMax), (64, r.consumer), (96, r.producer), (128, r.tid), (144, r.program), (160, r.context), (176, r.tenant),
    (192, r.repeats), (256, r.ns), (320, r.epoch)])

/-- Reports and losses of each tenant, for the operator (R179). -/
def distCounts (p : Pan) : List Byte :=
  let tenants := (p.reports.map (·.tenant) ++ p.lostReports.map (·.1)).filter (fun t => t != operatorId && t != deviceId)
  (tenants.eraseDups.map (fun t =>
    packBytes [(2, t), (2, 0), (4, (p.reports.filter (fun r => r.tenant == t)).length), (4, AMap.at p.lostReports t 0)])).flatten

/-- DIST_REPORT_SNAPSHOT (R179): a reader takes and clears the reports that it may receive; the operator those of its own
and the device's programs, and the counts of each tenant's (assumption 36). -/
def execDistReportSnapshot (c : CmdRef) (pan : Nat) (s : State) : Host.Outcome State Fault Refusal :=
  .next (runCommand s c 0x0C01 (fun k s =>
    if pan > 15 then ends s (badOpen 0x0300 0x0C01 0)
    else
      let p := s.pan pan
      let mine (r : DistReport) : Bool := r.tenant == k.owner || (k.isOp && r.tenant == deviceId)
      let bytes := ((p.reports.filter mine).map distBytes).flatten ++ (if k.isOp then distCounts p else [])
      takeSnap s k bytes (fun s =>
        let s := s.setPan pan { p with reports := p.reports.filter (fun r => !mine r), lostReports := if k.isOp then [] else p.lostReports }
        { s with events := { s.events with seen := s.events.seen.filter (· != cid 4 pan 0) } }) false))

/-- The 32 bytes of a trace record (R209). -/
def traceBytes (r : TraceRec) : List Byte :=
  beBytes 32 (placeFields [(0, r.ns), (64, r.epoch), (96, r.kind), (100, r.cause), (104, r.prio), (108, r.base), (112, r.tid),
    (128, r.context), (144, r.tenant), (160, r.program), (176, r.wait), (192, r.handle)])

/-- TRACE_SNAPSHOT (R209): the buffer is read and cleared. -/
def execTraceSnapshot (c : CmdRef) (pan : Nat) (s : State) : Host.Outcome State Fault Refusal :=
  .next (runCommand s c 0x0C02 (fun k s =>
    if pan > 15 then ends s (badOpen 0x0300 0x0C02 0)
    else
      let p := s.pan pan
      takeSnap s k (p.trace.map traceBytes).flatten (fun s => s.setPan pan { p with trace := [] }) false))

end Sys2Proof.Machine
end

