-- ==== Sys2Proof/Machine/Firmware.lean ====
section
/-! DEFINITION. Firmware images: slots, verification, compatibility, the tested-set manifest, the selection of the set that
runs, and the commands of area 0x0B (R373–R381). -/

namespace Sys2Proof.Machine

/-- Bytes of a slot of an image kind, and the boot-flash offsets of its slots A and B (R373). -/
def slotMap (kind : Nat) : Nat × Nat × Nat :=
  match kind with
  | 1 => (4 * 2 ^ 20, 0x00000000, 0x00400000)
  | 2 => (8 * 2 ^ 20, 0x00800000, 0x01000000)
  | 3 => (64 * 2 ^ 20, 0x01800000, 0x05800000)
  | 4 => (32 * 2 ^ 20, 0x09800000, 0x0B800000)
  | 5 => (16 * 2 ^ 20, 0x0D800000, 0x0E800000)
  | 6 => (48 * 2 ^ 20, 0x0F800000, 0x12800000)
  | _ => (0, 0, 0)

/-- The other regions of the boot flash, offset and bytes: the two manifest copies, the device records, the vault, the journal, and
what is reserved (R373). -/
def bootRegions : List (Nat × Nat) :=
  [(0x15800000, 2 * 2 ^ 20), (0x15A00000, 4 * 2 ^ 20), (0x15E00000, 8 * 2 ^ 20), (0x16600000, 16 * 2 ^ 20), (0x17600000, 138 * 2 ^ 20)]

/-- The map of the boot flash, offset and bytes in rising order: the A and B slots of each kind, then the regions (R373). -/
def bootFlashMap : List (Nat × Nat) :=
  ([1, 2, 3, 4, 5, 6].map (fun k => let m := slotMap k
    [(m.2.1, m.1), (m.2.2, m.1)])).flatten ++ bootRegions

/-- The part of the boot flash in which an offset lies, and the offset in it (R373). -/
def bootFlashPart (offset : Nat) : Option (Nat × Nat) :=
  (bootFlashMap.zipIdx.find? (fun p => decide (p.1.1 ≤ offset) && decide (offset < p.1.1 + p.1.2))).map (fun p => (p.2, offset - p.1.1))

/-- Bytes of a slot that have been written; another byte of the flash reads 0xFF (assumption 37). -/
def slotBytes (m : List (Nat × Byte)) (off n : Nat) : List Byte := (List.range n).map (fun i => AMap.at m (off + i) 0xFF)

/-- The stamps in a header (R374, R375). -/
def readStamps (h : List Byte) (first n : Nat) : List (Nat × Nat × Nat) :=
  (List.range n).map (fun i => let o := 64 + 4 * (first + i)
    (beAt h o 2, beAt h (o + 2) 1, beAt h (o + 3) 1))

/-- The fields of an image header (R374). -/
def readImage (h : List Byte) : Image :=
  { kind := beAt h 6 1, signer := beAt h 7 1, svn := beAt h 8 4, build := beAt h 12 4,
    provides := readStamps h 0 (beAt h 20 1), requires := readStamps h (beAt h 20 1) (beAt h 21 1),
    digest := Config.hash384 (h.take 256) }

/-- Whether a header's format, kind, lengths and reserved bytes are right (R374). -/
def headerOk (kind : Nat) (h : List Byte) : Bool :=
  let n := beAt h 20 1 + beAt h 21 1
  beAt h 0 4 == 0x4559494D && beAt h 4 2 == 1 && beAt h 6 1 == kind && decide (beAt h 16 4 + 512 ≤ (slotMap kind).1) &&
    decide (beAt h 20 1 ≤ 16) && decide (beAt h 21 1 ≤ 16) && beAt h 22 42 == 0 &&
    (((h.drop (64 + 4 * n)).take (128 - 4 * n)).all (· == 0)) && beAt h 240 16 == 0 && beAt h 352 160 == 0

/-- What a slot holds. -/
def fwSlot (t : Trust) (kind slot : Nat) : FwSlot := AMap.at t.slotsFw (2 * kind + slot) (.bytes [])

/-- The image of a slot, whether or not it verifies. -/
def slotImage (t : Trust) (kind slot : Nat) : Image :=
  match fwSlot t kind slot with
  | .shipped i => i
  | .bytes m => readImage (slotBytes m 0 512)

/-- Whether an image may run under the fuses: its key is not revoked, its SVN at least the minimum (R374, R380, R381). -/
def fusesAllow (t : Trust) (kind : Nat) (i : Image) : Bool :=
  decide (i.signer < 4) && !maskHas t.revoked i.signer && decide (AMap.at t.minSvn kind 0 ≤ i.svn)

/-- Whether the image of a slot verifies (R374). -/
def verifies (t : Trust) (kind slot : Nat) : Bool :=
  let i := slotImage t kind slot
  fusesAllow t kind i &&
  match fwSlot t kind slot with
  | .shipped _ => true
  | .bytes m =>
    let h := slotBytes m 0 512
    headerOk kind h && Config.hash384 (slotBytes m 512 (beAt h 16 4)) == BitVec.ofNat 384 (beAt h 192 48) &&
      Config.sigOk i.signer i.digest ((h.drop 256).take 96)

/-- The images of a set of slots, in kind order. -/
def setImages (t : Trust) (slots : List Nat) : List (Nat × Image) :=
  imageKinds.map (fun k => (k, slotImage t k (slots.getD (k - 1) 0)))

/-- Whether every image of a set verifies. -/
def setVerifies (t : Trust) (slots : List Nat) : Bool := imageKinds.all (fun k => verifies t k (slots.getD (k - 1) 0))

/-- The stamps that a set provides, with the kind that provides each; the ROM, kind 0, provides the silicon's (R375). -/
def providers (i : Ident) (set : List (Nat × Image)) : List (Nat × Nat × Nat × Nat) :=
  (0, 1, i.stepLetter, i.stepDigit) :: (set.map (fun x => x.2.provides.map (fun p => (x.1, p)))).flatten

/-- The first interface at which a set is incompatible: its id, its consumer and its provider (R375, R379); consumers in
kind order, each one's required stamps in header order. -/
def firstMisfit (i : Ident) (set : List (Nat × Image)) : Option (Nat × Nat × Nat) :=
  let have_ := providers i set
  (set.map (fun x => x.2.requires.map (fun r => (x.1, r)))).flatten.findSome? (fun r =>
    match have_.filter (fun p => p.2.1 == r.2.1) with
    | [] => some (r.2.1, r.1, 0)
    | [p] => if p.2.2.1 == r.2.2.1 && decide (r.2.2.2 ≤ p.2.2.2) then none else some (r.2.1, r.1, p.1)
    | _ :: p :: _ => some (r.2.1, r.1, p.1))

/-- Two providers of one interface, whoever requires it (R375): the id and the second provider. -/
def twoProviders (i : Ident) (set : List (Nat × Image)) : Option (Nat × Nat × Nat) :=
  let have_ := providers i set
  have_.findSome? (fun p => match have_.filter (fun q => q.2.1 == p.2.1) with
    | _ :: q :: _ => some (p.2.1, 0, q.1)
    | _ => none)

/-- Whether a set of images is compatible, and where it is not (R375). -/
def misfit (i : Ident) (set : List (Nat × Image)) : Option (Nat × Nat × Nat) :=
  match firstMisfit i set with
  | some m => some m
  | none => twoProviders i set

/-- Whether a set's digests equal an entry of the manifest (R376). -/
def setTested (t : Trust) (set : List (Nat × Image)) : Bool := t.manifest.contains (set.map (fun x => x.2.digest))

/-- Whether a set can run: every image verifies, and they are compatible (R377). -/
def setUsable (i : Ident) (t : Trust) (slots : List Nat) : Bool :=
  setVerifies t slots && (misfit i (setImages t slots)).isNone

/-- A set runs (R377). -/
def runSet (t : Trust) (slots : List Nat) : Trust :=
  { t with running := slots, runningImages := (setImages t slots).map (·.2), bmkRuns := true }

/-- USB recovery (R377): BMK runs when a slot of it verifies, else BOOT serves. -/
def recoverSet (t : Trust) : Trust :=
  { t with running := [], runningImages := [], bmkRuns := verifies t 2 0 || verifies t 2 1 }

/-- The selection of the set to run (R377); true when the module goes into USB recovery. -/
def selectSet (i : Ident) (t : Trust) : Trust × Bool :=
  let t := { t with policy := t.policyNext, provisional := false, fallback := false, debugUnlocked := false }
  let t : Trust := { t with bootEvents := [], challenge := none }
  if t.bootSel == 1 then (recoverSet t, true)
  else
    let cand := if t.bootSel == 2 then t.lastTested else t.active
    let cand := imageKinds.map (fun k =>
      let s := cand.getD (k - 1) 0
      if verifies t k s then s else 1 - s)
    if setUsable i t cand && setTested t (setImages t cand) then ({ runSet t cand with lastTested := cand }, false)
    else if setUsable i t cand && t.policy then ({ runSet t cand with provisional := true, bootEvents := [1] }, false)
    else
      let t := { t with bootEvents := [2] }
      if setUsable i t t.lastTested then ({ runSet t t.lastTested with fallback := true }, false)
      else (recoverSet t, true)

/-- Whether a slot holds an image of the running set or of the last tested set (R379). -/
def slotHeld (t : Trust) (kind slot : Nat) : Bool :=
  t.running[kind - 1]? == some slot || t.lastTested[kind - 1]? == some slot

/-- Replace the state of Benchmark. -/
def State.setTrust (s : State) (t : Trust) : State := { s with trust := t }

/-- A slot with bytes programmed. -/
def program (t : Trust) (kind slot offset : Nat) (data : List Byte) : Trust :=
  let m := match fwSlot t kind slot with
    | .shipped _ => []
    | .bytes m => m
  let m := data.zipIdx.foldl (fun m b => AMap.put m (offset + b.2) b.1) m
  { t with slotsFw := AMap.put t.slotsFw (2 * kind + slot) (.bytes m) }

/-- FW_WRITE (R379): in session 0, BOOT takes BOOT and BMK images only (R377). -/
def execFwWrite (c : CmdRef) (kind slot offset : Nat) (data : List Byte) (s : State) : Host.Outcome State Fault Refusal :=
  .next (runCommand s c 0x0B00 (fun k s =>
    unlessBad s
      [(decide (kind < 1) || decide (kind > 6), badOpen 0x0300 0x0B00 0), (decide (slot > 1), badOpen 0x0300 0x0B00 1),
       (decide (offset + data.length > (slotMap kind).1), badOpen 0x0300 0x0B00 2),
       (k.entry.session == 0 && decide (kind > 2), plain 0x0201 false), (slotHeld s.trust kind slot, plain 0x0501 false)]
      (okDone (s.setTrust (program s.trust kind slot offset data)))))

/-- What FW_VERIFY returns (R379; assumption 26). -/
def verifyData (t : Trust) (kind slot : Nat) : List Byte :=
  let i := slotImage t kind slot
  packBytes [(1, b2n (verifies t kind slot)), (1, i.kind), (2, 0), (4, i.svn), (4, i.build), (48, i.digest.toNat),
    (1, i.provides.length), (1, i.requires.length)] ++
  packBytes (((i.provides ++ i.requires).map (fun p => [(2, p.1), (1, p.2.1), (1, p.2.2)])).flatten)

/-- FW_VERIFY (R379): in session 0, of BOOT and BMK images only (R377). -/
def execFwVerify (c : CmdRef) (kind slot : Nat) (s : State) : Host.Outcome State Fault Refusal :=
  .next (runCommand s c 0x0B01 (fun k s =>
    unlessBad s
      [(decide (kind < 1) || decide (kind > 6), badOpen 0x0300 0x0B01 0), (decide (slot > 1), badOpen 0x0300 0x0B01 1),
       (k.entry.session == 0 && decide (kind > 2), plain 0x0201 false)]
      (okRead s (verifyData s.trust kind slot))))

/-- FW_ACTIVATE (R379): OK_UNTESTED says that the set is untested, with DETAIL 1 when STRICT will refuse it. -/
def execFwActivate (c : CmdRef) (slots : List Nat) (s : State) : Host.Outcome State Fault Refusal :=
  .next (runCommand s c 0x0B02 (fun _ s =>
    let t := s.trust
    let set := setImages t slots
    if slots.length != 6 then ends s (failWith 0x0100 0 0)
    else if slots.any (fun x => decide (x > 1)) then ends s (badOpen 0x0300 0x0B02 0)
    else if !setVerifies t slots then endsCode s 0x0304
    else match misfit s.ident set with
      | some m => ends s (failWith 0x0305 5 (m.1 * 65536 + m.2.1 * 256 + m.2.2))
      | none =>
        let s := s.setTrust { t with active := slots }
        if setTested t set then okDone s
        else ends s { plain 5 true with detail := b2n (!t.policyNext) }))

/-- FW_POLICY (R378): from the next boot. -/
def execFwPolicy (c : CmdRef) (permissive : Bool) (s : State) : Host.Outcome State Fault Refusal :=
  .next (runCommand s c 0x0B03 (fun _ s => okDone (s.setTrust { s.trust with policyNext := permissive })))

/-- The bytes of a manifest that its signature covers (R376). -/
def manifestBytes (sequence : Nat) (sets : List (List (BitVec 384))) : List Byte :=
  beBytes 4 0x45595453 ++ beBytes 2 1 ++ beBytes 2 sets.length ++ beBytes 4 sequence ++ List.replicate 52 0 ++
    (sets.map (fun x => (x.map (fun d => beBytes 48 d.toNat)).flatten)).flatten

/-- The running set judged against a manifest just installed (R376). -/
def reEvaluate (t : Trust) : Trust :=
  if t.manifest.contains (t.runningImages.map (·.digest)) then { t with provisional := false, lastTested := t.running } else t

/-- FW_MANIFEST (R376). -/
def execFwManifest (c : CmdRef) (sequence : Nat) (sets : List (List (BitVec 384))) (signature : List Byte) (s : State) :
    Host.Outcome State Fault Refusal :=
  .next (runCommand s c 0x0B04 (fun _ s =>
    let digest := Config.hash384 (manifestBytes sequence sets)
    unlessBad s
      [(sets.isEmpty || decide (sets.length > 1024) || sets.any (fun x => x.length != 6), failWith 0x0100 0 0),
       (!Config.sigOk 4 digest signature, plain 0x0304 false),
       (decide (sequence ≤ s.trust.manifestSeq), plain 0x0306 false)]
      (okDone (s.setTrust (reEvaluate { s.trust with manifestSeq := sequence, manifestDigest := digest, manifest := sets })))))

/-- FW_COMMIT_SVN (R380): a refusal names the kind whose SVN is beyond 63, or 0 for the set (assumption 105). -/
def execFwCommitSvn (c : CmdRef) (s : State) : Host.Outcome State Fault Refusal :=
  .next (runCommand s c 0x0B05 (fun _ s =>
    let t := s.trust
    if t.provisional || t.fallback || t.runningImages.isEmpty || t.runningImages.any (fun i => decide (i.svn > 63)) then
      ends s (failWith 0x0503 3 (((t.runningImages.find? (fun i => decide (i.svn > 63))).map (·.kind)).getD 0))
    else
      let fuses := t.runningImages.zipIdx.foldl (fun m i =>
        AMap.put m (i.2 + 1) (max (AMap.at m (i.2 + 1) 0) i.1.svn)) t.minSvn
      okDone (s.setTrust { t with minSvn := fuses })))

/-- Whether a key signed an image of the running set or of the last tested set (R381). -/
def signerUsed (t : Trust) (signer : Nat) : Bool :=
  t.runningImages.any (fun i => i.signer == signer) || (setImages t t.lastTested).any (fun i => i.2.signer == signer)

/-- FW_REVOKE (R381). -/
def execFwRevoke (c : CmdRef) (signer : Nat) (signature : List Byte) (s : State) : Host.Outcome State Fault Refusal :=
  .next (runCommand s c 0x0B06 (fun _ s =>
    unlessBad s
      [(decide (signer > 3), badOpen 0x0300 0x0B06 0),
       (!Config.sigOk 6 (Config.hash384 (beBytes 1 signer)) signature, plain 0x0304 false),
       (signerUsed s.trust signer, failWith 0x0500 3 signer)]
      (okDone (s.setTrust { s.trust with revoked := maskSet s.trust.revoked signer }))))

/-- What FW_STATUS returns (R408; assumption 26): the selections, policy and flags, the manifest's SEQUENCE, and each slot. -/
def fwStatusData (t : Trust) : List Byte :=
  let slot (l : List Nat) : List (Nat × Nat) := imageKinds.map (fun k => (1, l.getD (k - 1) 0xFF))
  packBytes (slot t.running ++ slot t.active ++ slot t.lastTested ++
    [(1, b2n t.policy), (1, b2n t.policyNext), (1, b2n t.provisional + 2 * b2n t.fallback), (1, t.revoked), (4, t.manifestSeq)]) ++
  (imageKinds.map (fun k => verifyData t k 0 ++ verifyData t k 1)).flatten

/-- FW_STATUS (R408). -/
def execFwStatus (c : CmdRef) (s : State) : Host.Outcome State Fault Refusal :=
  .next (runCommand s c 0x0B07 (fun _ s => okRead s (fwStatusData s.trust)))

end Sys2Proof.Machine
end

