-- ==== Sys2Proof/Machine/Owners.lean ====
section
/-! DEFINITION. Owners: the tenant slots and their quotas, key tables, sealed blobs, the owner zeroize and the debug
unlock: area 0x09 and the debug commands (R348–R350, R355, R356, R359–R361, R364, R369–R372). -/

namespace Sys2Proof.Machine

/-- An owner's slot. -/
def State.slot (s : State) (o : Nat) : Slot := AMap.at s.trust.slots o .free
/-- Replace an owner's slot. -/
def State.setSlot (s : State) (o : Nat) (x : Slot) : State :=
  s.setTrust { s.trust with slots := AMap.put s.trust.slots o x }

/-! ### Sessions -/

/-- A session ends (R359, R407): its snapshots are released; the commands it has in flight run to their status, for the owner
it had (R404). -/
def endSession (s : State) (id : Nat) : State :=
  let left (e : Entry) : Entry :=
    if e.session == id && e.heir.isNone then
      { e with heir := some ⟨((s.session id).map (·.owner)).getD none, if maskHas e.flags 2 then chainStatus s e else none⟩ }
    else e
  { s with legend := { s.legend with
      flight := s.legend.flight.map (fun f => (f.1, left f.2)),
      sessions := AMap.del s.legend.sessions id, snaps := s.legend.snaps.filter (fun x => x.2.session != id) } }

/-- Every session of an owner, opened or still in its handshake. -/
def ownerSessions (s : State) (o : Nat) : List Nat := (s.legend.sessions.filter (fun x => x.2.owner == some o)).map (·.1)

/-! ### Quota records -/

/-- Fields of a quota record: first byte, bytes, largest value, default (R350). -/
def quotaTable (flash : Bool) : List (Nat × Nat × Nat × Nat) :=
  [(4, 4, 64512, 64512), (8, 4, 262144, 0), (12, 4, 50331648, 0), (16, 4, 536870912, 0), (20, 4, 65536, 1024),
   (24, 8, 2 ^ 64 - 1, 0), (32, 8, 2 ^ 64 - 1, 0), (40, 4, 134873088, 65536), (44, 8, 256 * 10 ^ 9, 0), (52, 4, 32768, 0),
   (56, 2, 1024, if flash then 64 else 0), (58, 2, 1024, 64), (60, 2, 16384, 1024)]

/-- Lowest bit of a field of a quota record (R385). -/
def quotaBit (byte width : Nat) : Nat := 8 * (128 - byte - width)

/-- A field of a quota record replaced. -/
def setQuota (r : BitVec 1024) (byte width v : Nat) : BitVec 1024 := setFld r (quotaBit byte width) (8 * width) v

/-- The record with every field whose bytes are all ones at its default (R350). -/
def withDefaults (flash : Bool) (r : BitVec 1024) : BitVec 1024 :=
  (quotaTable flash).foldl (fun r q =>
    if quotaField r q.1 q.2.1 == 2 ^ (8 * q.2.1) - 1 then setQuota r q.1 q.2.1 q.2.2.2 else r) r

/-- The record as Legend keeps it: EXPECT stands in the slot. -/
def keptQuota (flash : Bool) (r : BitVec 1024) : BitVec 1024 := setQuota (withDefaults flash r) 64 48 0

/-- The quotas of the operator's own record before a `QUOTA_WRITE` names it: the defaults (R350; assumption 38). -/
def operatorQuota (flash : Bool) : BitVec 1024 :=
  let r := setQuota (setQuota (0 : BitVec 1024) 0 2 operatorId) 2 1 0xFF
  (quotaTable flash).foldl (fun r q => setQuota r q.1 q.2.1 q.2.2.2) r

/-- What is wrong with a quota record, apart from its slot (R10, R350). -/
def quotaBad (s : State) (r : BitVec 1024) : List (Bool × Status) :=
  let d := withDefaults s.ident.flash r
  let home := quotaField r 2 1
  [(quotaField r 3 1 / 2 != 0, badField 0x0100 0 (quotaBit 3 1 + 1)), (quotaField r 62 2 != 0, badField 0x0100 0 (quotaBit 62 2)),
   (quotaField r 112 16 != 0, badField 0x0100 0 (quotaBit 112 16)),
   (decide (home > 3) && home != 0xFF, badField 0x0300 0 (quotaBit 2 1))] ++
  (quotaTable s.ident.flash).map (fun q => (decide (quotaField d q.1 q.2.1 > q.2.2.1), badField 0x0300 0 (quotaBit q.1 q.2.1))) ++
  [(quotaField d 24 8 % 2 ^ 21 != 0, badField 0x0300 0 (quotaBit 24 8)), (quotaField d 32 8 % 2 ^ 21 != 0, badField 0x0300 0 (quotaBit 32 8)),
   (!s.ident.flash && (quotaField d 44 8 != 0 || quotaField d 52 4 != 0 || quotaField d 56 2 != 0), plain 0x0406 false)]

/-- Whether the DRAM that a record grants fits (R296, R350): a DRAM_BYTES above what the owner holds grows its allocation; it or a
raised TABLE_DRAM_BYTES must fit the capacity beside what all owners have been granted or hold. -/
def dramFits (s : State) (o : Nat) (r : BitVec 1024) : List (Bool × Status) :=
  let r := withDefaults s.ident.flash r
  let old (byte : Nat) : Nat := if (s.slot o).state == .free then 0 else quotaField (s.slot o).quota byte 8
  let grows := decide (quotaField r 24 8 > AMap.at s.dram.alloc o 0)
  let raised := grows || decide (quotaField r 24 8 > old 24) || decide (quotaField r 32 8 > old 32)
  [(grows && retirePending s, plain 0x0405 false),
   (raised && decide (dramGranted s (farGib s) (some o) + grantOf s o (quotaField r 24 8) (quotaField r 32 8) > capacityOfSlots (slotsHeld s)),
    plain 0x0403 false)]

/-- An owner's allocation set (R296); the extents that a smaller one frees are filled with zeros by port 23 (R297; assumption
39). -/
def setAlloc (s : State) (o bytes : Nat) : State :=
  let s := zeroFill s o (AMap.at s.dram.alloc o 0 - bytes)
  let d := s.dram
  s.setDram { d with
    alloc := if bytes == 0 then AMap.del d.alloc o else AMap.put d.alloc o bytes,
    content := AMap.put d.content o ((AMap.at d.content o []).filter (fun c => decide (c.1 < bytes))),
    poison := AMap.put d.poison o ((AMap.at d.poison o []).filter (fun l => decide (64 * l < bytes))) }

/-- A quota record takes effect (R296, R350, R415): a change of home link acts on the old VF as a VF FLR; an allocation grows to
DRAM_BYTES, and a smaller DRAM_BYTES takes nothing from it. -/
def applyQuota (s : State) (o : Nat) (r : BitVec 1024) : State :=
  let x := s.slot o
  let home := quotaField x.quota 2 1
  let q := keptQuota s.ident.flash r
  let s := if x.state != .free && home < 4 && home != quotaField q 2 1 && mgmtRuns s then resetVf s (1024 * home + o + 1) else s
  let s := s.setSlot o { s.slot o with quota := q }
  setAlloc s o (max (quotaField q 24 8) (AMap.at s.dram.alloc o 0))

/-- TENANT_CREATE (R349, R350, R405). -/
def execTenantCreate (c : CmdRef) (record : BitVec 1024) (s : State) : Host.Outcome State Fault Refusal :=
  .next (runCommand s c 0x0900 (fun _ s =>
    let o := quotaField record 0 2
    let x := s.slot o
    let expect := BitVec.ofNat 384 (quotaField record 64 48)
    unlessBad s ((decide (o > 511), badField 0x0300 0 (quotaBit 0 2)) :: quotaBad s record)
      (match x.state with
       | .free => unlessBad s (dramFits s o record)
           (okDone (applyQuota (s.setSlot o { Slot.free with state := .created, expect := expect }) o record))
       | .zeroizing => ends s (failWith 0x0203 3 o)
       | _ => if x.quota == keptQuota s.ident.flash record && x.expect == expect then ends s (plain 2 false)
              else ends s (failWith 0x0302 3 o))))

/-- What is wrong with the slot that a `QUOTA_WRITE` names (R349, R350). -/
def quotaSlotBad (r : BitVec 1024) : List (Bool × Status) :=
  let o := quotaField r 0 2
  let isOp := o == operatorId
  [(decide (o > 511) && !isOp, badField 0x0300 0 (quotaBit 0 2)), (isOp && quotaField r 2 1 != 0xFF, badField 0x0300 0 (quotaBit 2 1)),
   (quotaField r 64 48 != 0, badField 0x0300 0 (quotaBit 64 48))]

/-- QUOTA_WRITE (R296, R350, R415). -/
def execQuotaWrite (c : CmdRef) (record : BitVec 1024) (s : State) : Host.Outcome State Fault Refusal :=
  .next (runCommand s c 0x0903 (fun _ s =>
    let o := quotaField record 0 2
    unlessBad s (quotaSlotBad record ++ quotaBad s record)
      (match (s.slot o).state with
       | .free => ends s (failWith 0x0107 3 o)
       | .zeroizing => ends s (failWith 0x0203 3 o)
       | _ => unlessBad s (dramFits s o record) (okDone (applyQuota s o record)))))

/-- Codes of the states of a slot (assumption 26). -/
def slotCode : SlotState → Nat
  | .free => 0
  | .created => 1
  | .claimed => 2
  | .zeroizing => 3

/-- The largest of some numbers. -/
def maxOf (l : List Nat) : Nat := l.foldl max 0

/-- Current use of each quota of an owner, in the order of the record (R350; assumption 26). -/
def quotaUse (s : State) (o : Nat) : List (Nat × Nat) :=
  [(4, ctxsHeld s o), (4, tcamUnits s o), (4, sumTables tableSram (tablesOf s o)), (4, sumTables tableFlows (tablesOf s o)),
   (4, (AMap.at s.trust.keys o []).length), (8, AMap.at s.dram.alloc o 0), (8, sumTables tableDram (tablesOf s o)),
   (4, egressCellsOf s o), (8, coldHeld s o), (4, ringSizes s 256 (some o)),
   (2, ceilDiv (64 * (AMap.at s.stk.telemetry o ⟨[], 0⟩).recs.length) (2 ^ 20)),
   (2, maxOf (s.pans.map (fun p => (p.2.tasks.filter (fun t => t.2.owner == o)).length))),
   (2, maxOf (s.pans.map (fun p => msgqEntries (p.2.msgqs.filter (fun q => q.2.owner == o)))))]

/-- TENANT_READ (R349, R350, R408). -/
def execTenantRead (c : CmdRef) (tenant : Nat) (s : State) : Host.Outcome State Fault Refusal :=
  .next (runCommand s c 0x0904 (fun k s =>
    if tenant > 511 && tenant != operatorId then ends s (badOpen 0x0300 0x0904 0)
    else if !k.isOp && tenant != k.owner then ends s (failWith 0x0201 3 tenant)
    else
      let x := s.slot tenant
      unlessBad s [namesBusy s tenant] <| okRead s (beBytes 1 (slotCode x.state) ++ beBytes 128 (setQuota x.quota 64 48 x.expect.toNat).toNat ++ packBytes (quotaUse s tenant))))

/-! ### Key tables and sealing -/

/-- KEY_INSTALL (R356). -/
def execKeyInstall (c : CmdRef) (index : Nat) (key : BitVec 512) (s : State) : Host.Outcome State Fault Refusal :=
  .next (runCommand s c 0x0905 (fun k s =>
    unlessBad s
      [(decide (index > 65535), badOpen 0x0300 0x0905 0),
       (decide (index ≥ ownerQuota s k.owner 20 4), noRoom 0x0400 0x50 k.owner)]
      (okDone (s.setTrust { s.trust with keys := AMap.put s.trust.keys k.owner (AMap.put (AMap.at s.trust.keys k.owner []) index key) }))))

/-- KEY_DELETE (R356, R405). -/
def execKeyDelete (c : CmdRef) (index : Nat) (s : State) : Host.Outcome State Fault Refusal :=
  .next (runCommand s c 0x0906 (fun k s =>
    let l := AMap.at s.trust.keys k.owner []
    if index > 65535 then ends s (badOpen 0x0300 0x0906 0)
    else if AMap.has l index then okDone (s.setTrust { s.trust with keys := AMap.put s.trust.keys k.owner (AMap.del l index) })
    else ends s (plain 3 false)))

/-- Whether Benchmark refuses the sealing operations of an owner (R361). -/
def sealingOff (s : State) (o : Nat) : Bool :=
  s.power.saturated || s.trust.vaultExhausted || (o < 512 && s.trust.debugUnlocked)

/-- The owner seal key (R354). -/
def sealKey (s : State) (o : Nat) : BitVec 256 := sealKeyOf (AMap.at s.trust.osk o 0)

/-- Bytes 0–63 of a sealed blob (R360). -/
def blobHead (owner flags : Nat) (time : Stamp) (svns : List Nat) (nonce : BitVec 96) (len : Nat) : List Byte :=
  beBytes 4 0x5345414C ++ beBytes 2 1 ++ beBytes 2 owner ++ beBytes 1 flags ++ beBytes 3 0 ++ stampBytes time ++
    (svns.map (beBytes 4)).flatten ++ beBytes 12 nonce.toNat ++ beBytes 4 len

/-- SVNs of the running images in kind order (R360). -/
def runningSvns (s : State) : List Nat := s.trust.runningImages.map (·.svn)

/-- SEAL (R360, R361). -/
def execSeal (c : CmdRef) (flags : Nat) (minSvn : List Nat) (data : List Byte) (s : State) : Host.Outcome State Fault Refusal :=
  .next (runCommand s c 0x0907 (fun k s =>
    unlessBad s
      [(decide (flags > 3), badOpen 0x0100 0x0907 0), (minSvn.length != 6, failWith 0x0100 0 0),
       (decide (data.length > 65280), badOpen 0x0300 0x0907 1), (sealingOff s k.owner, plain 0x0204 false)]
      (let nonce : BitVec 96 := (Config.secret s.free).setWidth 96
       let svns := if maskHas flags 1 then minSvn else runningSvns s
       let hd := blobHead k.owner flags (stamp s) svns nonce data.length
       let key := sealKey s k.owner
       okData { s with free := s.free + 1 }
         (hd ++ gcmText key nonce data ++ beBytes 16 (Config.gcmTag key nonce hd data).toNat))))

/-- A blob opened for an owner (R360, R361): its plaintext, or why it does not open. -/
def openBlob (s : State) (o : Nat) (b : List Byte) : Status ⊕ List Byte :=
  let n := beAt b 60 4
  let hd := b.take 64
  let nonce := BitVec.ofNat 96 (beAt b 48 12)
  let key := sealKey s o
  let text := gcmText key nonce ((b.drop 64).take n)
  let flags := beAt b 8 1
  let svns := (List.range 6).map (fun i => beAt b (24 + 4 * i) 4)
  if b.length < 80 || b.length != 80 + n || beAt b 0 4 != 0x5345414C || beAt b 4 2 != 1 || flags > 3 || beAt b 9 3 != 0 then
    .inl (failWith 0x0100 0 0)
  else if sealingOff s o then .inl (plain 0x0204 false)
  else if beAt b 6 2 != o || beNat (b.drop (64 + n)) != (Config.gcmTag key nonce hd text).toNat then .inl (plain 0x0206 false)
  else if (maskHas flags 0 && s.trust.provisional) ||
      (maskHas flags 1 && (List.zip (runningSvns s) svns).any (fun p => decide (p.1 < p.2))) then .inl (plain 0x0205 false)
  else .inr text

/-- UNSEAL (R360): the SEALED time and the plaintext. -/
def execUnseal (c : CmdRef) (blob : List Byte) (s : State) : Host.Outcome State Fault Refusal :=
  .next (runCommand s c 0x0908 (fun k s =>
    match openBlob s k.owner blob with
    | .inl w => ends s w
    | .inr text => okRead s ((blob.drop 12).take 12 ++ text)))

/-- The 68-byte items of a key list: index, reserved bytes, key (R360). -/
def keyItems : Nat → List Byte → List (Nat × Nat × BitVec 512)
  | 0, _ => []
  | n + 1, b => (beAt b 0 2, beAt b 2 2, BitVec.ofNat 512 (beAt b 4 64)) :: keyItems n (b.drop 68)

/-- UNSEAL_KEYS (R356, R360). -/
def execUnsealKeys (c : CmdRef) (blob : List Byte) (s : State) : Host.Outcome State Fault Refusal :=
  .next (runCommand s c 0x0909 (fun k s =>
    match openBlob s k.owner blob with
    | .inl w => ends s w
    | .inr text =>
      let items := keyItems (text.length / 68) text
      unlessBad s
        [(text.length % 68 != 0 || items.any (fun x => x.2.1 != 0), failWith 0x0100 0 0),
         (items.any (fun x => decide (x.1 ≥ ownerQuota s k.owner 20 4)), noRoom 0x0400 0x50 k.owner)]
        (okDone (s.setTrust { s.trust with
          keys := AMap.put s.trust.keys k.owner (items.foldl (fun m x => AMap.put m x.1 x.2.2) (AMap.at s.trust.keys k.owner [])) }))))

/-! ### The owner zeroize -/

/-- Contexts failed for a reason, whatever they wait for; the domains they stood in are driven on. -/
def failContexts (s : State) (reason : Nat) (which : Nat → Ctx → Bool) : State :=
  let cs := (s.meridian.ctxs.filter (fun c => which c.1 c.2)).map (·.1)
  let s := cs.foldl (fun s c => failCtx s c reason false 5) s
  driveDue (s.meridian.due.length + 256) s

/-- A persistent task stopped and deleted (R369). -/
def killTask (pan : Nat) (s : State) (slot : Nat) : State :=
  let s := readyDrop (stopThreads s (.persistent pan slot) false 5) pan (.persistent pan slot)
  match s.task? pan slot with
  | none => s
  | some t =>
    let s := dropTask s pan slot t
    s.setPan pan { s.pan pan with held := (s.pan pan).held.filter (fun h => h.task != .persistent pan slot) }

/-- Everything of an owner that a zeroize deletes on a Pan (R369 step 5): its tasks and queues; its environment records go
with them (assumption 40). -/
def clearPan (o : Nat) (s : State) (pan : Nat) : State :=
  let tasks := ((s.pan pan).tasks.filter (fun t => t.2.owner == o)).map (·.1)
  let s := tasks.foldl (killTask pan) s
  let p := s.pan pan
  s.setPan pan { p with msgqs := p.msgqs.filter (fun q => q.2.owner != o), envs := p.envs.filter (fun e => e.2.1 != o) }

/-- Whether a read of the flash tier concerns nothing of an owner (R332, R369). -/
def ladderOfOther (k : Stk) (o : Nat) (l : Nat × List Byte × Nat) : Bool :=
  l.1 != telePlace o && !k.rings.any (fun x => ringPlace x.1 == l.1 && fld x.2.cfg 0 12 == o) &&
    !k.cold.any (fun r => r.table == l.1 && r.owner == o)

/-- The keys of an owner are erased, and with them what they protect (R369 steps 2 and 3). -/
def eraseKeys (s : State) (o : Nat) : State :=
  let threads : AMap Thread := s.threads.map (fun x => if x.2.tenant == o then (x.1, { x.2 with cp0 := { x.2.cp0 with key := none } }) else x)
  let t := s.trust
  { s with
    threads := threads,
    trust := { t with osk := AMap.del t.osk o, omk := AMap.del t.omk o, vault := AMap.del t.vault o, keys := AMap.del t.keys o },
    stk := { s.stk with
      ladders := s.stk.ladders.filter (ladderOfOther s.stk o),
      cold := s.stk.cold.filter (fun r => r.owner != o), telemetry := AMap.del s.stk.telemetry o,
      rings := s.stk.rings.filter (fun x => fld x.2.cfg 0 12 != o) } }

/-- An owner's rules, programs, tasks, queues, tables, rings and channels are deleted (R369 step 5). -/
def deleteObjects (s : State) (o : Nat) : State :=
  let s := { s with
    sluice := { s.sluice with rules := s.sluice.rules.filter (fun r => r.tenant != o),
                              scopeRules := if o == operatorId then [] else s.sluice.scopeRules },
    ports := { s.ports with chans := s.ports.chans.filter (fun c => c.owner != o) },
    events := { s.events with queues := AMap.del s.events.queues o } }
  let s := setClsPresence false s
  let s := ((s.legend.programs.filter (fun p => p.2.owner == o)).map (·.1)).foldl removeProgram s
  let s := (List.range 16).foldl (clearPan o) s
  ((tablesOf s o).map (·.1)).foldl removeTable s

/-- The commands of an owner in flight, one excepted: each ends with ZEROIZING (R370). -/
def endOwnerCommands (s : State) (o but : Nat) : State :=
  endAll s ((s.legend.flight.filter (fun f => f.1 != but && ownerOf s f.2 == some o)).map (·.1)) (plain 0x0203 false)

/-- Steps 1 to 5 of an owner zeroize (R369), for a command that ends with it. -/
def startZeroize (s : State) (o acc : Nat) (deleting : Bool) : State :=
  let s := endOwnerCommands s o acc
  let s := (ownerSessions s o).foldl endSession s
  let s := eraseKeys s o
  let s := failContexts s 0x26 (fun _ x => x.desc.tenant == o)
  let s := deleteObjects s o
  s.setSlot o { s.slot o with state := .zeroizing, waiting := [acc], deleting := deleting }

/-- A command that ends with a zeroize executes: its commit point has passed (R369, R400). -/
def commitEntry (s : State) (acc : Nat) : State :=
  match AMap.find s.legend.flight acc with
  | none => s
  | some e => s.setEntry acc { e with committed := true }

/-- An owner zeroize by command: started, or joined (R369, R370). -/
def zeroizeBy (s : State) (k : Call) (o : Nat) (deleting : Bool) : State × Ending :=
  let x := s.slot o
  let s := commitEntry s k.acc
  if x.state == .zeroizing then (s.setSlot o { x with waiting := x.waiting ++ [k.acc], deleting := x.deleting || deleting }, .later)
  else (startZeroize s o k.acc deleting, .later)

/-- TENANT_DELETE (R349, R369). -/
def execTenantDelete (c : CmdRef) (tenant : Nat) (s : State) : Host.Outcome State Fault Refusal :=
  .next (finish (runCommand s c 0x0901 (fun k s =>
    if tenant > 511 then ends s (badOpen 0x0300 0x0901 0)
    else if (s.slot tenant).state == .free then ends s (plain 3 false)
    else zeroizeBy s k tenant true)))

/-- TENANT_ZEROIZE (R369, R408): an owner for itself. -/
def execTenantZeroize (c : CmdRef) (tenant : Nat) (s : State) : Host.Outcome State Fault Refusal :=
  .next (finish (runCommand s c 0x0902 (fun k s =>
    if tenant != k.owner then ends s (failWith 0x0201 3 tenant) else zeroizeBy s k tenant false)))

/-- A fresh owner sealing key and its vault entry (R354, R355, R368). -/
def newVault (s : State) (o : Nat) (key : BitVec 768) : State :=
  let osk := Config.secret s.free
  let t := s.trust
  { s with
    free := s.free + 1,
    trust := { t with osk := AMap.put t.osk o osk, vault := AMap.put t.vault o { gen := t.vaultGen, osk := osk, key := key } } }

/-- A fresh owner memory key (R354). -/
def newOmk (s : State) (o : Nat) : State :=
  let hi := (Config.secret s.free).toNat
  let lo := (Config.secret (s.free + 1)).toNat
  { s with free := s.free + 2, trust := { s.trust with omk := AMap.put s.trust.omk o (BitVec.ofNat 512 (hi * 2 ^ 256 + lo)) } }

/-- The slot after its zeroize (R369): FREE, or CREATED with its quotas; the operator's claim stays, under fresh keys
(R348; assumption 41). -/
def slotAfter (s : State) (o : Nat) : State :=
  let x := s.slot o
  if o == operatorId then
    match x.key with
    | none => s.setSlot o { x with state := .created, waiting := [] }
    | some key => newOmk (newVault (s.setSlot o { x with state := .claimed, waiting := [] }) o key) o
  else if x.deleting then
    let home := quotaField x.quota 2 1
    let s := if home < 4 then resetVf s (1024 * home + o + 1) else s
    (setAlloc s o 0).setTrust { s.trust with slots := AMap.del s.trust.slots o }
  else s.setSlot o { Slot.free with state := .created, quota := x.quota }

/-- Every session of a tenant, opened or still in its handshake. -/
def tenantSessions (s : State) : List Nat :=
  (s.legend.sessions.filter (fun x => match x.2.owner with | none => false | some o => decide (o < 512))).map (·.1)

/-- A debug unlock takes effect (R372): no session of a tenant lives on (R359). -/
def grantUnlock (s : State) : State :=
  let s := (tenantSessions s).foldl endSession s
  raiseDev (s.setTrust { s.trust with debugUnlocked := true }) 0x403 1 0

/-- A command waits for the zeroize in progress of an owner. -/
def awaitZeroize (acc : Nat) (s : State) (o : Nat) : State :=
  let x := s.slot o
  if x.waiting.contains acc then s else s.setSlot o { x with waiting := x.waiting ++ [acc] }

/-- Tenant slots in a state. -/
def tenantsIn (s : State) (x : SlotState) : List Nat :=
  (s.trust.slots.filter (fun t => t.2.state == x && decide (t.1 < 512))).map (·.1)

/-- A debug unlock on its way (R372): every claimed tenant is zeroized first, one that claims while others are zeroized as well;
the unlock takes effect, and the answer is true, once there is none. -/
def unlockStep (s : State) (acc : Nat) : State × Bool :=
  let tenants := tenantsIn s .claimed
  let busy := tenantsIn s .zeroizing
  if tenants.isEmpty && busy.isEmpty then (grantUnlock s, true)
  else (tenants.foldl (fun s o => startZeroize s o acc false) (busy.foldl (awaitZeroize acc) s), false)

/-- A command that waited for a zeroize ends, once it waits for none (R369, R372). -/
def endWaiter (s : State) (acc : Nat) : State :=
  if s.trust.slots.any (fun x => x.2.waiting.contains acc) then s
  else match AMap.find s.legend.flight acc with
    | none => s
    | some e =>
      let r := if e.opcode == 0x0C05 then unlockStep s acc else (s, true)
      if r.2 then endCommand r.1 acc (plain 0 true) [] else r.1

/-- OWNER_ZEROIZE_END (R369 step 6): the owner's DRAM is freed and zero-filled, and the command has its status. -/
def execOwnerZeroizeEnd (owner : Nat) (s : State) : Host.Outcome State Fault Refusal :=
  .next (
    let x := s.slot owner
    if x.state != .zeroizing then s
    else
      let d := s.dram
      let s := s.setDram { d with content := AMap.del d.content owner, poison := AMap.del d.poison owner }
      let s := nextMove (slotAfter s owner)
      finish (x.waiting.foldl endWaiter s))

/-! ### Debug unlock -/

/-- The 64 bytes of a challenge: serial, epoch, nonce, scope (R372). -/
def challengeBytes (s : State) (c : Challenge) : List Byte :=
  beBytes 8 s.ident.serial.toNat ++ beBytes 4 c.epoch ++ beBytes 32 c.nonce.toNat ++ beBytes 20 c.scope

/-- DEBUG_CHALLENGE (R372). -/
def execDebugChallenge (c : CmdRef) (scope : Nat) (s : State) : Host.Outcome State Fault Refusal :=
  .next (runCommand s c 0x0C04 (fun _ s =>
    if scope ≥ 2 ^ 160 then ends s (badOpen 0x0300 0x0C04 0)
    else
      let x : Challenge := { epoch := s.power.epoch, nonce := Config.secret s.free, scope := scope }
      okData { s with free := s.free + 1, trust := { s.trust with challenge := some x } } (challengeBytes s x)))

/-- Whether a credential answers the challenge outstanding (R372). -/
def credentialOk (s : State) (credential : List Byte) : Bool :=
  match s.trust.challenge with
  | none => false
  | some x => x.epoch == s.power.epoch && Config.sigOk 5 (Config.hash384 (challengeBytes s x)) credential

/-- DEBUG_UNLOCK (R372): every claimed tenant is zeroized first. -/
def execDebugUnlock (c : CmdRef) (credential : List Byte) (s : State) : Host.Outcome State Fault Refusal :=
  .next (finish (runCommand s c 0x0C05 (fun k s =>
    if !credentialOk s credential then
      ends (raiseDev (s.setTrust { s.trust with debugRefused := s.trust.debugRefused + 1 }) 0x405 1 0) (plain 0x0207 false)
    else
      let s := s.setTrust { s.trust with challenge := none }
      let r := unlockStep (commitEntry s k.acc) k.acc
      if r.2 then okDone r.1 else (r.1, .later))))

end Sys2Proof.Machine
end

