-- ==== Sys2Proof/Machine/Sessions.lean ====
section
/-! DEFINITION. SPDM, the claims and the session commands of area 0x00 (R348, R351, R353, R357–R359, R363–R365,
R392–R395, R404, R408). -/

namespace Sys2Proof.Machine

/-! ### SPDM answers -/

/-- The 4-byte head of an SPDM response of version 1.2: its code and its two parameters (DSP0274, which R357 names;
assumption 42). -/
def spdmHead (code p1 p2 : Nat) : List Byte := [0x12, BitVec.ofNat 8 code, BitVec.ofNat 8 p1, BitVec.ofNat 8 p2]

/-- An SPDM ERROR response (assumption 42). -/
def spdmError (code : Nat) : List Byte := spdmHead 0x7F code 0

/-- SPDM error codes (assumption 42). -/
def errInvalidRequest : Nat := 0x01
/-- Busy: R393. -/
def errBusy : Nat := 0x03
/-- UnexpectedRequest: a message that does not belong in this session. -/
def errUnexpected : Nat := 0x04
/-- DecryptError: a FINISH that does not verify. -/
def errDecrypt : Nat := 0x06
/-- UnsupportedRequest: R357. -/
def errUnsupported : Nat := 0x07
/-- SessionLimitExceeded: R359. -/
def errSessionLimit : Nat := 0x0A

/-- A signature with the alias key, which signs every response; each one is fresh (R353). -/
def signed (s : State) (message : List Byte) : State × List Byte :=
  ({ s with free := s.free + 1 }, (List.range 96).map (Config.signedByte (aliasKey s.trust) s.free message))

/-- A response with its signature behind it, over what the requester sent and the response (R353). -/
def signedOver (s : State) (sent b : List Byte) : State × List Byte :=
  let g := signed s (sent ++ b)
  (g.1, b ++ g.2)

/-- The command ends with an SPDM response as its data, signed over what the requester sent as well. -/
def answersOver (s : State) (sent b : List Byte) : State × Ending :=
  let r := signedOver s sent b
  okData r.1 r.2

/-- The command ends with an SPDM response as its data. -/
def answers (s : State) (b : List Byte) : State × Ending := answersOver s [] b

/-- A command packet that carries one SPDM message (R358, R408). The last sequence number may carry only KEY_UPDATE
and END_SESSION (R393). -/
def spdmRow (c : CmdRef) (atEnd : Bool) (body : Call → State → State × Ending) (s : State) : Host.Outcome State Fault Refusal :=
  .next (runCommand s c 0x0000 (fun k s =>
    if !atEnd && k.entry.session != 0 && k.entry.seq == 0xFFFFFFFF then ends s (failWith 0x0100 1 (0xFFFF * 65536 + 128)) else body k s))

/-- A random 32-byte number of Benchmark. -/
def drbg (s : State) : State × BitVec 256 := ({ s with free := s.free + 1 }, Config.secret s.free)

/-- Numbers of given sizes in bytes, little-endian as DSP0274 has them (assumption 42). -/
def packLe (l : List (Nat × Nat)) : List Byte := (l.map (fun p => leBytes p.1 p.2)).flatten

/-- GET_VERSION (R357): version 1.2 alone. -/
def execGetVersion (c : CmdRef) (s : State) : Host.Outcome State Fault Refusal :=
  spdmRow c false (fun _ s => answers s ([0x10, 0x04, 0, 0] ++ packLe [(1, 0), (1, 1), (2, 0x1200)])) s

/-- The capabilities that the table of R357 gives the responder, at their places in DSP0274 (assumption 42): CERT, CHAL, MEAS with
signature, MEAS_FRESH, ENCRYPT, MAC, MUT_AUTH, KEY_EX, HBEAT, KEY_UPD, HANDSHAKE_IN_THE_CLEAR, ALIAS_CERT. -/
def capabilityFlags : Nat := placeFields ([1, 2, 4, 5, 6, 7, 8, 9, 13, 14, 15, 18].map (fun i => (i, 1)))

/-- GET_CAPABILITIES (R357): a message fits one command packet (R383). -/
def execGetCapabilities (c : CmdRef) (s : State) : Host.Outcome State Fault Refusal :=
  spdmRow c false (fun _ s => answers s (spdmHead 0x61 0 0 ++ [0, Config.ctExponent] ++
    packLe [(2, 0), (4, capabilityFlags), (4, 65504), (4, 65504)])) s

/-- The algorithm structures of an offer: type and the algorithms named, from their place in the message (assumption 42). -/
def algStructs : Nat → List Byte → List (Nat × Nat)
  | 0, _ => []
  | n + 1, b => (leNat (b.take 1), leNat ((b.drop 2).take 2)) :: algStructs n (b.drop (4 + 4 * (leNat ((b.drop 1).take 1) % 16)))

/-- The bit of an offer that the Myolne supports, or nothing where it is not offered. -/
def chosen (offered i : Nat) : Nat := if maskHas offered i then 2 ^ i else 0

/-- The algorithm of a structure's type that the Myolne supports (R357): DHE secp384r1, AEAD AES-256-GCM, a requester's ECDSA
P-384, the SPDM key schedule (assumption 42). -/
def structBit (type : Nat) : Nat :=
  match type with
  | 2 => 4
  | 3 => 1
  | 4 => 7
  | _ => 0

/-- The ALGORITHMS response to an offer (R357): of what it offers, ECDSA P-384, SHA-384, the DMTF measurements as raw bit streams
(R363), and the algorithm of each structure (assumption 42). -/
def algorithms (offer : List Byte) : List Byte :=
  let at_ (o n : Nat) : Nat := leNat ((offer.drop o).take n)
  let structs := algStructs (at_ 2 1) (offer.drop (32 + 4 * (at_ 28 1 + at_ 29 1)))
  let answer := (structs.filter (fun x => decide (2 ≤ x.1) && decide (x.1 ≤ 5))).map (fun x =>
    packLe [(1, x.1), (1, 0x20), (2, chosen x.2 (structBit x.1))])
  let dmtf := chosen (at_ 6 1) 0
  spdmHead 0x63 answer.length 0 ++ packLe ([(2, 36 + 4 * answer.length), (1, dmtf), (1, 0), (4, dmtf), (4, chosen (at_ 8 4) 7),
    (4, chosen (at_ 12 4) 1), (12, 0), (1, 0), (1, 0), (2, 0)]) ++ answer.flatten

/-- NEGOTIATE_ALGORITHMS (R357): session 0 keeps no state (R392). -/
def execNegotiateAlgorithms (c : CmdRef) (s : State) : Host.Outcome State Fault Refusal :=
  spdmRow c false (fun k s => answers s (algorithms k.entry.payload)) s

/-- GET_DIGESTS (R353, R357): slot 0 alone is provisioned. -/
def execGetDigests (c : CmdRef) (s : State) : Host.Outcome State Fault Refusal :=
  spdmRow c false (fun _ s => answers s (spdmHead 0x01 0 1 ++ beBytes 48 (Config.hash384 (certChain s)).toNat)) s

/-- GET_CERTIFICATE (R353): a portion of the chain and the bytes that remain behind it. -/
def execGetCertificate (c : CmdRef) (slot offset len : Nat) (s : State) : Host.Outcome State Fault Refusal :=
  spdmRow c false (fun _ s =>
    let chain := certChain s
    if slot != 0 || offset > chain.length then answers s (spdmError errInvalidRequest)
    else
      let part := (chain.drop offset).take len
      answers s (spdmHead 0x02 0 0 ++ packLe [(2, part.length), (2, chain.length - offset - part.length)] ++ part)) s

/-- CHALLENGE (R357): answered under the alias key over the requester's nonce. -/
def execChallenge (c : CmdRef) (slot : Nat) (nonce : BitVec 256) (s : State) : Host.Outcome State Fault Refusal :=
  spdmRow c false (fun _ s =>
    if slot != 0 then answers s (spdmError errInvalidRequest)
    else
      let r := drbg s
      answersOver r.1 (beBytes 32 nonce.toNat)
        (spdmHead 0x03 0 1 ++ beBytes 48 (Config.hash384 (certChain s)).toNat ++ beBytes 32 r.2.toNat ++ leBytes 2 0)) s

/-! ### Measurements -/

/-- The set status record (R364). -/
def setStatus (s : State) : Nat :=
  let t := s.trust
  placeFields [(0, b2n t.policy), (1, b2n t.provisional), (2, b2n t.fallback), (3, b2n t.debugUnlocked),
    (4, b2n (AMap.at t.tamperArmed 0 false)), (5, b2n (AMap.at t.tamperArmed 1 false)), (6, b2n s.power.saturated),
    (7, b2n t.vaultExhausted), (8, t.vaultGen), (13, t.bootSel)]

/-- The ordering code, 16 bytes of ASCII padded with zeros (R1, R363). -/
def orderingCode (s : State) : List Byte :=
  let b := ascii (orderingText s.ident.flash)
  b ++ List.replicate (16 - b.length) 0

/-- The stepping, 2 bytes of ASCII (R2, R363). -/
def steppingCode (s : State) : List Byte := packBytes [(1, 64 + s.ident.stepLetter), (1, 48 + s.ident.stepDigit)]

/-- The time statement (R365). -/
def timeStatement (s : State) : List Byte := beBytes 4 3 ++ stampBytes (stamp s) ++ List.replicate 16 0

/-- Measurement 11, of the owner of a session (R363). -/
def ownerRecord (s : State) (o : Nat) : List Byte :=
  let x := s.slot o
  let hash := match x.key with | none => 0 | some k => (Config.hash384 (beBytes 96 k.toNat)).toNat
  beBytes 2 o ++ beBytes 1 (slotCode x.state) ++ beBytes 48 hash ++ stampBytes x.claimTime

/-- A measurement block; none where the index has none for the session (R363). -/
def measurement (s : State) (owner : Option Nat) (index : Nat) : Option (List Byte) :=
  let t := s.trust
  match index with
  | 7 => some (beBytes 48 t.manifestDigest.toNat ++ beBytes 4 t.manifestSeq)
  | 8 => some (beBytes 8 (setStatus s))
  | 9 => some (orderingCode s ++ beBytes 8 s.ident.serial.toNat ++ steppingCode s ++ beBytes 4 s.power.epoch)
  | 10 => some (timeStatement s)
  | 11 => owner.map (ownerRecord s)
  | 12 => some (beBytes 48 (Config.romDigest).toNat ++ (imageKinds.map (fun k => beBytes 4 (AMap.at t.minSvn k 0))).flatten ++
      beBytes 1 t.revoked ++ beBytes 1 t.vaultGen)
  | i =>
    if 1 ≤ i && i ≤ 6 then
      match t.runningImages[i - 1]? with
      | none => some (List.replicate 57 0)
      | some m => some (beBytes 48 m.digest.toNat ++ beBytes 4 m.svn ++ beBytes 4 m.build ++ beBytes 1 (t.running.getD (i - 1) 0))
    else none

/-- A measurement in the DMTF format as a raw bit stream (R363): index, specification and size before it, then its value type,
of which bit 7 says raw, and its value's size (assumption 42). -/
def measurementBlock (index : Nat) (b : List Byte) : List Byte :=
  packLe [(1, index), (1, 1), (2, b.length + 3), (1, 128 + Config.valueType index % 128), (2, b.length)] ++ b

/-- What an index asks for: the number of blocks there are, and the blocks: 0 none, 0xFF all, else one (assumption 42). -/
def measurementsFor (s : State) (owner : Option Nat) (index : Nat) : Option (Nat × List (List Byte)) :=
  let all := (List.range 13).filterMap (fun i => (measurement s owner i).map (measurementBlock i))
  if index == 0 then some (all.length, [])
  else if index == 0xFF then some (0, all)
  else (measurement s owner index).map (fun b => (0, [measurementBlock index b]))

/-- A MEASUREMENTS response but for its signature: the number of blocks, their length, the blocks, a nonce (assumption 42). -/
def measurementsAnswer (m : Nat × List (List Byte)) (nonce : BitVec 256) : List Byte :=
  spdmHead 0x60 m.1 0 ++ packLe [(1, m.2.length), (3, m.2.flatten.length)] ++ m.2.flatten ++ beBytes 32 nonce.toNat ++ leBytes 2 0

/-- GET_MEASUREMENTS (R363): signed over the requester's nonce. -/
def execGetMeasurements (c : CmdRef) (index : Nat) (nonce : BitVec 256) (s : State) : Host.Outcome State Fault Refusal :=
  spdmRow c false (fun k s =>
    match measurementsFor s (ownerOf s k.entry) index with
    | none => answers s (spdmError errInvalidRequest)
    | some m =>
      let r := drbg s
      answersOver r.1 (beBytes 32 nonce.toNat) (measurementsAnswer m r.2)) s

/-! ### Opening and ending a session -/

/-- The claimed owners whose bound key is this one: the operator first, then the tenants by number. -/
def keyOwners (s : State) (key : BitVec 768) : List Nat :=
  let has (o : Nat) : Bool := (s.slot o).state == .claimed && (s.slot o).key == some key
  (if has operatorId then [operatorId] else []) ++ ((s.trust.slots.map (·.1)).filter (fun o => decide (o < 512) && has o))

/-- The owner that a KEY_EXCHANGE names by its key: of several, the first that the transport admits (assumption 43). -/
def namedOwner (s : State) (via : Via) (key : Option (BitVec 768)) : Option Nat :=
  match key with
  | none => none
  | some key =>
    let os := keyOwners s key
    match os.find? (fun o => admits via (some o)) with
    | some o => some o
    | none => os.head?

/-- Whether a further session would break a limit (R359). -/
def sessionsFull (s : State) (owner : Option Nat) : Bool :=
  decide (s.legend.sessions.length ≥ 2048) ||
    match owner with
    | none => false
    | some o => decide ((ownerSessions s o).length ≥ (if o == operatorId then 64 else 8))

/-- The Myolne's half of a session id: the next number that no live session has; never 0 (assumption 43). -/
def freeHalf (s : State) : Nat :=
  let used := s.legend.sessions.map (fun x => x.1 % 65536)
  ((List.range 2049).map (fun i => (s.legend.sessionNum + i) % 65535 + 1)).find? (fun h => !used.contains h) |>.getD 1

/-- Fresh application keys and IVs of both directions (R358; assumption 4); sequences start at 1 (R393). -/
def freshKeys (s : State) (x : Session) : State × Session :=
  let n := s.free
  ({ s with free := n + 4 },
   { x with reqKey := Config.secret n, rspKey := Config.secret (n + 1), reqIv := (Config.secret (n + 2)).setWidth 96,
            rspIv := (Config.secret (n + 3)).setWidth 96, high := 0, window := 0, notif := 0, kept := [] })

/-- The hash of a session's transcript (R348, R351; assumption 4). -/
def transcriptHash (x : Session) : BitVec 384 := Config.hash384 (beBytes 32 (Config.secret x.transcript).toNat)

/-- Whether an owner key's signature over the transcript hash of a session verifies. -/
def keySigned (key : BitVec 768) (x : Session) (signature : List Byte) : Bool :=
  Config.sigOk (7 + key.toNat) (transcriptHash x) signature

/-- A KEY_EXCHANGE response but for its signature (R357): the heartbeat period of 60 s, the Myolne's half of the session id,
whether the requester must authenticate itself, the slot 0xFF of its provisioned key, a random number and a key share
(assumption 42). -/
def keyExchangeAnswer (half : Nat) (authenticate : Bool) (random : BitVec 256) (share : BitVec 768) : List Byte :=
  spdmHead 0x64 60 0 ++ packLe [(2, half), (1, b2n authenticate), (1, 0xFF)] ++ beBytes 32 random.toNat ++ beBytes 96 share.toNat ++ leBytes 2 0

/-- A fresh key share of secp384r1 (R357; assumption 4). -/
def keyShare (s : State) : State × BitVec 768 :=
  let r := drbg s
  (r.1, Config.p384Public (r.2.setWidth 512))

/-- KEY_EXCHANGE (R357–R359): outside a session; it opens one, mutually authenticated for a claimed owner. -/
def execKeyExchange (c : CmdRef) (x : KeyExchange) (s : State) : Host.Outcome State Fault Refusal :=
  spdmRow c false (fun k s =>
    let owner := namedOwner s k.entry.via x.key
    if k.entry.session != 0 then answers s (spdmError errUnexpected)
    else if sessionsFull s owner then answers s (spdmError errSessionLimit)
    else
      let half := freeHalf s
      let r := drbg s
      let h := keyShare r.1
      let n : Session := { owner := owner, established := false, reqKey := 0, rspKey := 0, reqIv := 0, rspIv := 0, high := 0,
                           window := 0, notif := 0, kept := [], log := [], via := k.entry.via, lastMessage := now s, transcript := s.free }
      let s' := h.1.setSession (x.reqId % 65536 * 65536 + half) n
      let s' := { s' with legend := { s'.legend with sessionNum := s'.legend.sessionNum + 1 } }
      answersOver s' k.entry.payload (keyExchangeAnswer half owner.isSome r.2 h.2)) s

/-- What verifies the responder in FINISH, an HMAC of 48 bytes over the transcript (R357; assumption 42). -/
def verifyBytes (x : Session) : List Byte :=
  beBytes 48 (Config.hash384 (ascii "finish" ++ beBytes 32 (Config.secret x.transcript).toNat)).toNat

/-- FINISH (R357, R358, R392, R393): sent in session 0, it completes the session; where the owner authenticates itself,
a signature that does not verify ends the handshake (assumption 43). -/
def execFinish (c : CmdRef) (session : Nat) (signature : List Byte) (s : State) : Host.Outcome State Fault Refusal :=
  spdmRow c false (fun k s =>
    match s.session session with
    | none => answers s (spdmError errInvalidRequest)
    | some x =>
      let key := match x.owner with | none => none | some o => (s.slot o).key
      if k.entry.session != 0 || x.established then answers s (spdmError errUnexpected)
      else if x.owner.isSome && !(match key with | none => false | some key => keySigned key x signature) then
        answers (endSession s session) (spdmError errDecrypt)
      else
        let f := freshKeys s x
        answers (f.1.setSession session { f.2 with established := true, via := k.entry.via, lastMessage := now s }) (spdmHead 0x65 0 0 ++ verifyBytes x)) s

/-- HEARTBEAT (R357, R359): its acceptance has already moved the session's timeout. -/
def execHeartbeat (c : CmdRef) (s : State) : Host.Outcome State Fault Refusal :=
  spdmRow c false (fun k s =>
    if k.entry.session == 0 then answers s (spdmError errUnexpected) else answers s (spdmHead 0x68 0 0)) s

/-- The command ends now, so that its signed reply goes out under the state of this moment. -/
def endNow (s : State) (k : Call) (b : List Byte) : State :=
  let r := signedOver s [] b
  endCommand r.1 k.acc (plain 0 true) r.2

/-- The session after a key update (R393): fresh keys, sequences from 1; its statuses stay, set apart from the new
sequences. -/
def updateKeys (s : State) (id : Nat) : State :=
  match s.session id with
  | none => s
  | some x =>
    let f := freshKeys s x
    f.1.setSession id { f.2 with log := x.log.map (fun p => (if p.1 < 2 ^ 32 then p.1 + 2 ^ 32 else p.1, p.2)) }

/-- KEY_UPDATE (R393): only UpdateAllKeys, operation 2, and only while nothing else of the session is in flight; the
response goes out under the old keys. -/
def execKeyUpdate (c : CmdRef) (operation : Nat) (s : State) : Host.Outcome State Fault Refusal :=
  spdmRow c true (fun k s =>
    if k.entry.session == 0 then answers s (spdmError errUnexpected)
    else if s.legend.flight.any (fun f => f.1 != k.acc && f.2.session == k.entry.session) then answers s (spdmError errBusy)
    else if operation != 2 then answers s (spdmError errInvalidRequest)
    else (updateKeys (endNow s k (spdmHead 0x69 operation 0)) k.entry.session, .later)) s

/-- END_SESSION (R359): the response is the last packet of the session. -/
def execEndSession (c : CmdRef) (s : State) : Host.Outcome State Fault Refusal :=
  spdmRow c true (fun k s =>
    if k.entry.session == 0 then answers s (spdmError errUnexpected)
    else (endSession (endNow s k (spdmHead 0x6C 0 0)) k.entry.session, .later)) s

/-- UNSUPPORTED_SPDM_REQUEST (R357). -/
def execUnsupportedSpdmRequest (c : CmdRef) (s : State) : Host.Outcome State Fault Refusal :=
  spdmRow c false (fun _ s => answers s (spdmError errUnsupported)) s

/-- SESSION_TIMEOUT (R359): no message for two heartbeat periods. -/
def execSessionTimeout (session : Nat) (s : State) : Host.Outcome State Fault Refusal :=
  .next (match s.session session with
    | none => s
    | some x => if powered s && decide (now s ≥ x.lastMessage + 120000000000) then endSession s session else s)

/-! ### Claims -/

/-- The session becomes a session of an owner (R348, R351). -/
def bindSession (s : State) (id o : Nat) : State :=
  match s.session id with
  | none => s
  | some x => s.setSession id { x with owner := some o }

/-- Whether the operator's slot admits a claim by a key: none has claimed, or the pending transfer names the key (R348). -/
def operatorAdmits (s : State) (key : BitVec 768) : Bool :=
  match (s.slot operatorId).state with
  | .free => true
  | .zeroizing => false
  | _ => s.trust.transfer == some (Config.hash384 (beBytes 96 key.toNat))

/-- The operator's claim takes effect (R348, R354, R355): the first one makes the keys; a transfer keeps them, binds the
next key and ends the old operator's sessions (assumption 44). -/
def claimOperator (s : State) (key : BitVec 768) : State :=
  let x := s.slot operatorId
  if x.state == .free then
    let s := newOmk (newVault s operatorId key) operatorId
    s.setSlot operatorId { Slot.free with state := .claimed, quota := operatorQuota s.ident.flash, key := some key, claimTime := stamp s }
  else
    let s := (ownerSessions s operatorId).foldl endSession s
    let vault := match AMap.find s.trust.vault operatorId with
      | none => s.trust.vault
      | some v => AMap.put s.trust.vault operatorId { v with key := key }
    let s := s.setTrust { s.trust with transfer := none, vault := vault }
    s.setSlot operatorId { x with key := some key, claimTime := stamp s }

/-- Whether a transport carries ownerless sessions that may claim the operator's role (R386): no VF does. -/
def mayClaimDevice : Via → Bool
  | .pcie fn => fn % 1024 == 0
  | _ => true

/-- OPERATOR_CLAIM (R348, R361). -/
def execOperatorClaim (c : CmdRef) (claim : Claim) (s : State) : Host.Outcome State Fault Refusal :=
  .next (runCommand s c 0x0001 (fun k s =>
    match s.session k.entry.session with
    | none => endsCode s 0x0201
    | some x =>
      unlessBad s
        [(!mayClaimDevice k.entry.via, plain 0x0201 false), (sealingOff s operatorId, plain 0x0204 false),
         (!operatorAdmits s claim.key || !keySigned claim.key x claim.signature, plain 0x0202 false)]
        (okDone (bindSession (claimOperator s claim.key) k.entry.session operatorId))))

/-- OPERATOR_TRANSFER (R348). -/
def execOperatorTransfer (c : CmdRef) (keyHash : BitVec 384) (s : State) : Host.Outcome State Fault Refusal :=
  .next (runCommand s c 0x0002 (fun _ s => okDone (s.setTrust { s.trust with transfer := some keyHash })))

/-- Whether a transport may carry the claim of a tenant's slot (R386, R427, R454): that tenant's VF, or in-band; no
transport that carries only operator sessions (assumption 44). -/
def mayClaimTenant (via : Via) (tenant : Nat) : Bool :=
  match via with
  | .pcie fn => fn % 1024 == tenant + 1
  | .inband _ _ _ => true
  | _ => false

/-- TENANT_CLAIM (R351, R361). -/
def execTenantClaim (c : CmdRef) (tenant : Nat) (claim : Claim) (s : State) : Host.Outcome State Fault Refusal :=
  .next (runCommand s c 0x0003 (fun k s =>
    let slot := s.slot tenant
    match s.session k.entry.session with
    | none => endsCode s 0x0201
    | some x =>
      unlessBad s
        [(decide (tenant > 511), badOpen 0x0300 0x0003 0), (!mayClaimTenant k.entry.via tenant, failWith 0x0201 3 tenant),
         (slot.state == .zeroizing, failWith 0x0203 3 tenant), (sealingOff s tenant, plain 0x0204 false),
         (slot.state != .created || (slot.expect != 0 && slot.expect != Config.hash384 (beBytes 96 claim.key.toNat)) ||
            !keySigned claim.key x claim.signature, plain 0x0202 false)]
        (let s := newOmk (newVault s tenant claim.key) tenant
         okDone (bindSession (s.setSlot tenant { slot with state := .claimed, key := some claim.key, claimTime := stamp s })
           k.entry.session tenant))))

/-! ### Session commands -/

/-- SESSION_INFO (R392, R393, R408; assumption 26): the owner, the limits, H and the notification counter, and whether
notifications have stopped. -/
def execSessionInfo (c : CmdRef) (s : State) : Host.Outcome State Fault Refusal :=
  .next (runCommand s c 0x0004 (fun k s =>
    let owner := ownerOf s k.entry
    let x := s.session k.entry.session
    okRead s (packBytes [(2, owner.getD deviceId), (1, b2n (owner == some operatorId) * 64 + b2n (owner != some operatorId) * 8),
      (1, 32), (1, 4), (1, 16), (4, (x.map (·.high)).getD 0), (4, (x.map (·.notif)).getD 0),
      (1, b2n (decide ((x.map (·.notif)).getD 0 ≥ 0xFFFFFFFF)))])))

/-- The latest status kept for a (session, sequence) of an owner: in the live session's log or the orphan log (R394, R404). -/
def keptStatus (s : State) (o session sequence : Nat) : Option Status :=
  let orphans : List (Nat × Nat × Status) := AMap.at s.legend.orphanLogs o []
  let orphan := (orphans.reverse.find? (fun p => p.1 == session && p.2.1 == sequence)).map (·.2.2)
  match s.session session with
  | none => orphan
  | some x =>
    let live := (x.log.reverse.find? (fun p => p.1 % 2 ^ 32 == sequence)).map (·.2)
    if x.owner == some o && live.isSome then live else orphan

/-- RESULT_QUERY (R394, R404). -/
def execResultQuery (c : CmdRef) (session sequence : Nat) (s : State) : Host.Outcome State Fault Refusal :=
  .next (runCommand s c 0x0005 (fun k s =>
    match keptStatus s k.owner session sequence with
    | none => endsCode s 0x0107
    | some w => okRead s (statusBytes w)))

/-- ECHO (R407, R408): the payload comes back, as much of it as a reply holds (assumption 103). -/
def execEcho (c : CmdRef) (s : State) : Host.Outcome State Fault Refusal :=
  .next (runCommand s c 0x0006 (fun k s => okRead s (k.entry.payload.take replyMax)))

/-- Opcodes of each area (R408); the two that only the Myolne sends are none of them (R403). -/
def knownOpcode (opcode : Nat) : Bool :=
  match [7, 11, 17, 12, 12, 14, 5, 3, 11, 10, 7, 8, 6][opcode / 256]? with
  | none => false
  | some n => decide (opcode % 256 < n)

/-- UNKNOWN_OPCODE (R391, R403): an accepted command whose opcode R408 does not list. -/
def execUnknownOpcode (acc : Nat) (s : State) : Host.Outcome State Fault Refusal :=
  .next (match AMap.find s.legend.flight acc with
    | none => s
    | some e => if knownOpcode e.opcode then s else settle (runBody s ⟨acc, false⟩ e false (fun _ s => ends s (plain 0x0102 false))))

/-! ### What time does to commands -/

/-- ACKNOWLEDGMENT (R402): 1 ms after acceptance. -/
def execAcknowledgment (acc : Nat) (s : State) : Host.Outcome State Fault Refusal :=
  .next (match AMap.find s.legend.flight acc with
    | none => s
    | some e =>
      if takesPackets s e.via && e.ack.isNone && decide (now s ≥ e.acceptedAt + 1000000) then settle (acknowledge s acc e) else s)

/-- Whether the predecessor of a CHAINED command has not been accepted (R398). -/
def chainOpen (s : State) (e : Entry) : Bool :=
  chainWaits s e && !s.legend.flight.any (fun f => f.2.session == e.session && f.2.seq + 1 == e.seq)

/-- CHAIN_TIMEOUT (R398): 1 s, or the command's own deadline if that is shorter. -/
def execChainTimeout (acc : Nat) (s : State) : Host.Outcome State Fault Refusal :=
  .next (match AMap.find s.legend.flight acc with
    | none => s
    | some e =>
      if takesPackets s e.via && e.stage == .waiting && chainOpen s e && decide (chainUntil e ≤ now s) then
        settle (endCommand s acc (failWith 0x0106 6 (e.seq - 1)) [])
      else s)

/-- DEADLINE_EXPIRED (R400): before the commit point the command is withdrawn. -/
def execDeadlineExpired (acc : Nat) (s : State) : Host.Outcome State Fault Refusal :=
  .next (match AMap.find s.legend.flight acc with
    | none => s
    | some e =>
      if takesPackets s e.via && pastDeadline s e && !chainOpen s e then
        settle (endCommand (withdraw s acc) acc (plain 0x0105 false) [])
      else s)

/-! ### In-band packets -/

/-- The outer tags of a frame and where its EtherType stands (R71, R387). -/
def outerTags (alt : Nat) (b : List Byte) : Nat → Nat → List (BitVec 32) × Nat
  | 0, pos => ([], pos)
  | n + 1, pos =>
    let t := be16At b pos
    if t == 0x8100 || t == 0x88A8 || t == alt then
      let r := outerTags alt b n (pos + 4)
      (BitVec.ofNat 32 (beAt b pos 4) :: r.1, r.2)
    else ([], pos)

/-- A partial packet or a fragment discarded: counted, and source 0x447 raised at the first after each read (R388, R492). -/
def discardPartial (s : State) : State := countFirst s (discardId (.inband 0 0 []) 9) 0x447 deviceId 1 0

/-- Whether a partial packet has a key (R388). -/
def Partial.is (p : Partial) (l : Nat) (mac : BitVec 48) (tag : Nat) : Bool := p.lport == l && p.mac == mac && p.tag == tag

/-- The partial packets without one key. -/
def dropPartial (s : State) (l : Nat) (mac : BitVec 48) (tag : Nat) : State :=
  { s with legend := { s.legend with partials := s.legend.partials.filter (fun p => !p.is l mac tag) } }

/-- A partial packet after a fragment: whole, it is cut to its length and offered (R387, R390). -/
def growPartial (s : State) (p : Partial) (tags : List (BitVec 32)) (data : List Byte) : State :=
  let s := dropPartial s p.lport p.mac p.tag
  let p := { p with next := p.next + 1, bytes := p.bytes ++ data }
  if p.next ≥ p.count then
    offer s (.inband p.lport p.mac tags) (p.bytes.take (48 + (readHeader p.bytes).length)) false
  else { s with legend := { s.legend with partials := s.legend.partials ++ [p] } }

/-- One fragment reassembled (R388). -/
def takeFragment (s : State) (l : Nat) (b : List Byte) : State :=
  let mac := BitVec.ofNat 48 (beAt b 6 6)
  let o := outerTags (fld (s.lport l).map 0 16) b 2 12
  let body := b.drop (o.2 + 2)
  let tag := be16At body 0
  let index := byteAt body 2
  let count := byteAt body 3
  let data := body.drop 4
  if body.length < 4 then discardPartial s
  else match s.legend.partials.find? (fun p => p.is l mac tag) with
    | some p =>
      if index != p.next || count != p.count then discardPartial (dropPartial s l mac tag)
      else growPartial s p o.1 data
    | none =>
      if count == 0 || count > 64 || index != 0 || s.legend.partials.length ≥ 256 then discardPartial s
      else growPartial s { lport := l, mac := mac, tag := tag, count := count, next := 0, bytes := [], since := now s } o.1 data

/-- INBAND_FRAGMENT (R386–R388): the oldest packet of its domain, a command frame, is taken by Legend; its record says
forwarded, and the operator's count of command frames advances. -/
def execInbandFragment (ctx : Nat) (s : State) : Host.Outcome State Fault Refusal :=
  checked (okCtx ctx) (match s.ctx? ctx with
    | none => s
    | some x =>
      if !x.desc.command || x.state != .ready || (s.dom x.key).flight.head? != some ctx || !legendUp s then s
      else
        let b := frameBytes s x.desc
        let s := countTenant s operatorId 0x74
        let s := endCtx s ctx x 0 0 0
        finish (takeFragment s x.desc.lport b))

/-- REASSEMBLY_TIMEOUT (R388): 2 ms from the first fragment. -/
def execReassemblyTimeout (lport : Nat) (mac : BitVec 48) (tag : Nat) (s : State) : Host.Outcome State Fault Refusal :=
  checked (okLport lport) (match s.legend.partials.find? (fun p => p.is lport mac tag) with
    | none => s
    | some p =>
      if decide (now s ≥ p.since + 2000000) then settle (discardPartial (dropPartial s lport mac tag)) else s)

end Sys2Proof.Machine
end

