-- ==== Sys2Proof/Machine/Survey.lean ====
section
/-! DEFINITION. The Survey Bus: frames, responses, alerts, SEARCH, addresses and rates (R434–R464). -/

namespace Sys2Proof.Machine

/-- Whether the responder takes part in the bus (R437, R476). -/
def svyRuns (s : State) : Bool :=
  s.power.phase != .off && s.power.phase != .starting && s.power.phase != .restarting

/-- Replace the Survey Bus interface. -/
def State.setSurvey (s : State) (v : Survey) : State := { s with survey := v }

/-- A Survey Bus counter advanced. -/
def Survey.bump (v : Survey) (i : Nat) : Survey := { v with counters := AMap.upd v.counters i 0 (· + 1) }

/-- The module's current address; 0x3F for none (R453, R459). -/
def svyAddress (v : Survey) : Nat := v.assigned.getD v.strap

/-- An alert cause is set (R458, R459). -/
def svyCause (s : State) : Nat :=
  b2n (s.survey.queues.any (fun q => !q.2.pkts.isEmpty)) + 2 * b2n s.survey.eventCause + 4 * b2n s.survey.conflict +
    8 * b2n s.survey.newCause

/-- FLAGS of a STATUS (R459). -/
def svyFlags (s : State) : Nat :=
  b2n (legendUp s) + 2 * b2n (s.power.phase == .recovery) + 4 * s.survey.rate

/-- Bytes 0–11 of a STATUS payload (R459). -/
def svyIdentity (s : State) : List Byte :=
  beBytes 8 s.ident.serial.toNat ++ beBytes 1 s.survey.strap ++ beBytes 1 (svyAddress s.survey) ++
    beBytes 1 (svyCause s)

/-- A STATUS payload for a controller (R459). -/
def svyStatus (s : State) (c : Nat) : List Byte :=
  svyIdentity s ++ beBytes 1 (svyFlags s) ++ beBytes 2 (min (s.svyQueue c).pkts.length 0xFFFF)

/-- A response frame: SRC, TYPE, LEN, payload, CRC (R445). -/
def svyResponse (s : State) (type : Nat) (payload : List Byte) : List Byte :=
  let body := beBytes 1 (svyAddress s.survey) ++ beBytes 1 type ++ beBytes 1 payload.length ++ payload
  body ++ beBytes 2 (crc16 body)

/-- A NAK payload (R446). -/
def nakBytes (tag reason next : Nat) : List Byte := beBytes 1 tag ++ beBytes 1 reason ++ beBytes 2 next

/-- The module sends a response, or loses the arbitration on it (R451). -/
def svyRespond (s : State) (conflict : Bool) (type : Nat) (payload : List Byte) : State :=
  if conflict then
    raiseDev (s.setSurvey { (s.survey.bump 5) with conflict := true, sent := ⟨s.survey.sent.votes, [], false⟩ }) 0x445 1 0
  else s.setSurvey { s.survey with sent := ⟨s.survey.sent.votes, svyResponse s type payload, false⟩ }

/-- The alert slot after an exchange: driven while any cause is set (R458). -/
def svyAlert (s : State) : State :=
  s.setSurvey { s.survey with sent := { s.survey.sent with alert := svyCause s != 0 } }

/-- The bus goes back to rate hunt (R444). -/
def svyHunt (s : State) : State :=
  raiseDev (s.setSurvey { (s.survey.bump 6) with locked := false, failures := 0, searching := false }) 0x446 1 0

/-- A frame that failed framing or CRC; 16 in a row return a locked module to hunt (R444). -/
def svyFailed (s : State) (counter : Nat) : State :=
  let v := s.survey.bump counter
  let s := s.setSurvey { v with failures := v.failures + 1 }
  if s.survey.locked && s.survey.failures ≥ 16 then svyHunt s else s

/-- A whole frame with a correct CRC arrives at a rate: a hunting module locks to it (R444); nothing has been sent yet. -/
def svyHear (s : State) (rate : Nat) : State :=
  s.setSurvey { s.survey with locked := true, rate := rate, failures := 0, searching := false, sent := ⟨[], [], false⟩ }

/-- Whether a frame is for this module: an address of its own or the broadcast, from a controller (R447, R452). -/
def svyForMe (s : State) (dst src : BitVec 8) : Bool :=
  decide (src.toNat / 8 = 16) && (dst == 0xFF || (svyAddress s.survey != 0x3F && dst.toNat == svyAddress s.survey))

/-- What every request does before its own effect: the rate, the lock, the addressing, a LEN above 132, which is ignored (R443,
R444, R447, R450). The effect `go` runs when the request is for this module; an alert slot follows where `slot` says so. -/
def svyRequest (s : State) (f : SvyFrame) (dst src : BitVec 8) (slot : Bool) (go : State → State) : State :=
  if !svyRuns s || decide (f.rate > 3) then s
  else if s.survey.locked && s.survey.rate != f.rate then settle (svyFailed s 1)
  else
    let s := svyHear s f.rate
    let s := if svyForMe s dst src && decide (f.len ≤ 132) then go s else s.setSurvey (s.survey.bump 3)
    settle (if slot then svyAlert s else s)

/-- A request addressed to one module that its type does not allow, with a reserved bit set or a LEN wrong for its type: NAK
MALFORMED, with the TAG and the NEXT of a WRITE; a broadcast one is only counted (R446). -/
def svyMalformed (s : State) (dst : BitVec 8) (tag next : Nat) (conflict : Bool) : State :=
  if dst == 0xFF then s.setSurvey (s.survey.bump 4) else svyRespond s conflict 0x83 (nakBytes tag 6 next)

/-- SURVEY_PING (R446, R459): clears causes; an addressed one is answered with STATUS. -/
def pingEffect (len : Nat) (dst src clear : BitVec 8) (conflict : Bool) (s : State) : State :=
  if len != 1 || clear &&& 0xF1 != 0 then svyMalformed s dst 0 0 conflict
  else
    let v := s.survey
    let s := s.setSurvey { v with eventCause := v.eventCause && !bit clear 1, conflict := v.conflict && !bit clear 2,
                                  newCause := v.newCause && !bit clear 3 }
    if dst == 0xFF then s else svyRespond s conflict 0x81 (svyStatus s (src.toNat % 8))

/-- SURVEY_PING (R459). -/
def execSurveyPing (frame : SvyFrame) (dst src clear : BitVec 8) (conflict : Bool) (s : State) : Host.Outcome State Fault Refusal :=
  .next (svyRequest s frame dst src true (pingEffect frame.len dst src clear conflict))

/-- An ACK of a WRITE (R446, R455). -/
def ackBytes (tag next : Nat) (complete : Bool) : List Byte := beBytes 1 tag ++ beBytes 1 (b2n complete) ++ beBytes 2 next

/-- An assembly buffer of the Survey Bus. -/
def State.svyAsm (s : State) (c : Nat) : SvyAsm := AMap.at s.survey.asm c .reset
/-- Replace an assembly buffer. -/
def State.setSvyAsm (s : State) (c : Nat) (a : SvyAsm) : State :=
  s.setSurvey { s.survey with asm := AMap.put s.survey.asm c a }

/-- A fragment appended; the last one offers the packet (R455). -/
def writeAppend (s : State) (c tag index : Nat) (last : Bool) (before data : List Byte) (conflict : Bool) : State :=
  let bytes := before ++ data
  if last then
    let s := s.setSvyAsm c { live := false, tag := tag, next := index + 1, bytes := [], lastWrite := now s, done := some (tag, index) }
    svyRespond (offer s (.survey c) bytes false) conflict 0x82 (ackBytes tag (index + 1) true)
  else
    let s := s.setSvyAsm c { live := true, tag := tag, next := index + 1, bytes := bytes, lastWrite := now s, done := none }
    svyRespond s conflict 0x82 (ackBytes tag (index + 1) false)

/-- SURVEY_WRITE (R446, R454, R455); LEN covers the four bytes before the data. -/
def writeEffect (len : Nat) (dst src tag flags : BitVec 8) (index : BitVec 16) (data : List Byte) (conflict : Bool) (s : State) : State :=
  let c := src.toNat % 8
  let t := tag.toNat
  let i := index.toNat
  let a := s.svyAsm c
  let last := bit flags 0
  if dst == 0xFF || flags &&& 0xFE != 0 || data.isEmpty || len != 4 + data.length then svyMalformed s dst t a.next conflict
  else if !legendUp s then svyRespond s conflict 0x83 (nakBytes t 3 a.next)
  else if (!last && data.length != 128) || decide (i > 512) ||
      (i == a.next && a.live && a.tag == t && decide (a.bytes.length + data.length > 65552)) then
    svyRespond (s.setSvyAsm c { a with live := false, bytes := [], next := 0 }) conflict 0x83 (nakBytes t 2 0)
  else if !a.live && a.done == some (t, i) then svyRespond s conflict 0x82 (ackBytes t (i + 1) true)
  else if i == 0 then writeAppend s c t 0 last [] data conflict
  else if a.live && a.tag == t && i == a.next then writeAppend s c t i last a.bytes data conflict
  else if a.live && a.tag == t && i + 1 == a.next then
    svyRespond (s.setSvyAsm c { a with lastWrite := now s }) conflict 0x82 (ackBytes t a.next false)
  else svyRespond s conflict 0x83 (nakBytes t 1 a.next)

/-- SURVEY_WRITE (R455). -/
def execSurveyWrite (frame : SvyFrame) (dst src tag flags : BitVec 8) (index : BitVec 16) (data : List Byte) (conflict : Bool)
    (s : State) : Host.Outcome State Fault Refusal :=
  .next (svyRequest s frame dst src true (writeEffect frame.len dst src tag flags index data conflict))

/-- Packets that waited for a full queue enter it while they fit, and stand in it from this moment on (R421, R456). -/
def SvyQueue.fill (t : Ns) : Nat → SvyQueue → SvyQueue
  | 0, q => q
  | n + 1, q =>
    match q.waiting with
    | [] => q
    | p :: rest =>
      if svyBytes q + p.bytes.length ≤ 2 ^ 18 then
        SvyQueue.fill t n { q with pkts := q.pkts ++ [(q.nextToken, { p with since := t })], nextToken := tokenAfter q.nextToken, waiting := rest }
      else q

/-- The queue at this moment: packets that have stood in it for 10 s or waited 100 ms for it are gone, the latter counted (R421,
R456). -/
def SvyQueue.at_ (q : SvyQueue) (t : Ns) : SvyQueue :=
  let waiting := q.waiting.filter (fun p => decide (t < p.since + 100000000))
  SvyQueue.fill t waiting.length { q with
    pkts := q.pkts.filter (fun p => decide (t < p.2.since + 10000000000)), waiting := waiting,
    starved := q.starved + (q.waiting.length - waiting.length) }

/-- RELEASE removes the head packet when it names its token (R456 step 1). -/
def SvyQueue.releaseToken (t : Ns) (q : SvyQueue) (token : Nat) : SvyQueue :=
  match q.pkts with
  | [] => q
  | (k, _) :: rest => if k == token then SvyQueue.fill t q.waiting.length { q with pkts := rest } else q

/-- SURVEY_READ (R456). -/
def readEffect (len : Nat) (dst src : BitVec 8) (rel : BitVec 32) (index : BitVec 16) (conflict : Bool) (s : State) : State :=
  if dst == 0xFF || len != 6 then svyMalformed s dst 0 0 conflict
  else
    let c := src.toNat % 8
    let q := ((s.svyQueue c).at_ (now s)).releaseToken (now s) rel.toNat
    let s := s.setSvyQueue c q
    match q.pkts with
    | [] => svyRespond s conflict 0x84 (beBytes 4 0 ++ beBytes 4 0 ++ beBytes 2 index.toNat ++ beBytes 1 0)
    | (token, p) :: _ =>
      let total := p.bytes.length
      let i := index.toNat
      if 128 * i ≥ total then svyRespond s conflict 0x83 (nakBytes 0 2 0)
      else svyRespond s conflict 0x84 (beBytes 4 token ++ beBytes 4 total ++ beBytes 2 i ++
        beBytes 1 (b2n (decide (128 * (i + 1) ≥ total))) ++ (p.bytes.drop (128 * i)).take 128)

/-- SURVEY_READ (R456). -/
def execSurveyRead (frame : SvyFrame) (dst src : BitVec 8) (release : BitVec 32) (index : BitVec 16) (conflict : Bool)
    (s : State) : Host.Outcome State Fault Refusal :=
  .next (svyRequest s frame dst src true (readEffect frame.len dst src release index conflict))

/-- SVY_TERM's termination is connected while the land is tied to VRTN and the always-on domain is powered (R436). -/
def svyTermination (s : State) : Bool := s.survey.term && s.power.phase != .off

/-- Whether the module takes part in a SEARCH (R460). -/
def searchTakes (s : State) (filter n : Nat) (pfx : BitVec 64) : Bool :=
  s.ident.serial.toNat % 2 ^ n == pfx.toNat % 2 ^ n &&
    (filter == 0 || (filter == 1 && svyAddress s.survey == 0x3F) || (filter == 2 && svyCause s != 0))

/-- The vote steps: the module stays while every choice equals its bit; a missing choice ends the SEARCH (R461, R462). -/
def searchSteps (serial : BitVec 64) : Nat → List (Option Bool) → Bool
  | k, [] => decide (k = 64)
  | _, none :: _ => false
  | k, some b :: rest => decide (k < 64) && bit serial k == b && searchSteps serial (k + 1) rest

/-- The votes of the steps that the module takes part in: A for a 0, B for a 1 (R461); none at a sync bit read recessive. -/
def searchVotes (serial : BitVec 64) : Nat → List (Option Bool) → List Bool
  | k, some b :: rest => bit serial k :: (if bit serial k == b && decide (k < 63) then searchVotes serial (k + 1) rest else [])
  | _, _ => []

/-- Whether the module still takes part after these steps, with steps left to come (R461). -/
def searchStays (serial : BitVec 64) : Nat → List (Option Bool) → Bool
  | k, [] => decide (k < 64)
  | _, none :: _ => false
  | k, some b :: rest => bit serial k == b && searchStays serial (k + 1) rest

/-- SURVEY_SEARCH (R460–R462): the module votes while it takes part; the one left answers IDENT. -/
def searchEffect (len : Nat) (dst filter n : BitVec 8) (pfx : BitVec 64) (choices : List (Option Bool)) (conflict : Bool) (s : State) :
    State :=
  if dst != 0xFF || len != 10 then svyMalformed s dst 0 0 conflict
  else if decide (n.toNat > 63) || decide (pfx.toNat ≥ 2 ^ n.toNat) || decide (filter.toNat > 2) then s.setSurvey (s.survey.bump 4)
  else if searchTakes s filter.toNat n.toNat pfx then
    let serial := s.ident.serial
    let k := n.toNat
    let s := s.setSurvey { s.survey with searching := searchStays serial k choices, sent := ⟨searchVotes serial k choices, [], false⟩ }
    if searchSteps serial k choices then svyRespond s conflict 0x85 (svyIdentity s) else s
  else s

/-- SURVEY_SEARCH (R461). -/
def execSurveySearch (frame : SvyFrame) (dst src filter n : BitVec 8) (pfx : BitVec 64) (choices : List (Option Bool))
    (conflict : Bool) (s : State) : Host.Outcome State Fault Refusal :=
  .next (svyRequest s frame dst src false (searchEffect frame.len dst filter n pfx choices conflict))

/-- SURVEY_ASSIGN (R453): the module with the serial takes the address, or clears it with 0x3F. -/
def assignEffect (len : Nat) (dst : BitVec 8) (serial : BitVec 64) (address : BitVec 8) (conflict : Bool) (s : State) : State :=
  if dst != 0xFF || len != 9 then svyMalformed s dst 0 0 conflict
  else if serial != s.ident.serial then s
  else if address.toNat ≥ 0x80 then svyRespond s conflict 0x83 (nakBytes 0 2 0)
  else
    let a := if address == 0x3F then none else some address.toNat
    let s := s.setSurvey { s.survey with assigned := a }
    svyRespond s conflict 0x85 (svyIdentity s)

/-- SURVEY_ASSIGN (R453). -/
def execSurveyAssign (frame : SvyFrame) (dst src : BitVec 8) (serial : BitVec 64) (address : BitVec 8) (conflict : Bool)
    (s : State) : Host.Outcome State Fault Refusal :=
  .next (svyRequest s frame dst src true (assignEffect frame.len dst serial address conflict))

/-- SURVEY_RATE (R443): the new rate is due; any other code is counted. The NAK to an addressed one may lose the bus (R451). -/
def rateEffect (frame : SvyFrame) (dst code : BitVec 8) (s : State) : State :=
  if dst != 0xFF || frame.len != 1 then svyMalformed s dst 0 0 frame.lost
  else if code.toNat > 3 then s.setSurvey (s.survey.bump 4)
  else s.setSurvey { s.survey with pendingRate := some code.toNat }

/-- SURVEY_RATE (R443). -/
def execSurveyRate (frame : SvyFrame) (dst src code : BitVec 8) (s : State) : Host.Outcome State Fault Refusal :=
  .next (svyRequest s frame dst src false (rateEffect frame dst code))

/-- SURVEY_UNKNOWN_TYPE (R446): an addressed one is answered with NAK UNKNOWN_TYPE. -/
def unknownTypeEffect (dst : BitVec 8) (conflict : Bool) (s : State) : State :=
  if dst == 0xFF then s.setSurvey (s.survey.bump 3) else svyRespond s conflict 0x83 (nakBytes 0 5 0)

/-- SURVEY_UNKNOWN_TYPE (R446): a TYPE of R446's requests is no unknown type. -/
def execSurveyUnknownType (frame : SvyFrame) (dst src type : BitVec 8) (conflict : Bool) (s : State) : Host.Outcome State Fault Refusal :=
  .next (if [1, 2, 3, 4, 5, 6].contains type.toNat then s else svyRequest s frame dst src false (unknownTypeEffect dst conflict))

/-- RATE_CHANGE (R443): the rate of the last RATE frame takes effect. -/
def execRateChange (s : State) : Host.Outcome State Fault Refusal :=
  .next (match s.survey.pendingRate with
    | none => s
    | some r => s.setSurvey { s.survey with rate := r, pendingRate := none })

/-- SURVEY_ASSEMBLY_TIMEOUT (R455): an assembly with no WRITE for 1 s is discarded and counted. -/
def execSurveyAssemblyTimeout (ctrl : Nat) (s : State) : Host.Outcome State Fault Refusal :=
  checked (okCtrl ctrl) (
    let a := s.svyAsm ctrl
    if a.live && decide (now s ≥ a.lastWrite + 1000000000) then
      (s.setSvyAsm ctrl .reset).setSurvey ((s.setSvyAsm ctrl .reset).survey.bump 7)
    else s)

/-- REPLY_QUEUE_EXPIRY (R421, R456): packets that have stood 10 s in the queue, or waited 100 ms for it, are discarded. -/
def execReplyQueueExpiry (ctrl : Nat) (s : State) : Host.Outcome State Fault Refusal :=
  checked (okCtrl ctrl) (s.setSvyQueue ctrl ((s.svyQueue ctrl).at_ (now s)))

/-- SURVEY_FRAME_ERROR (R441, R442, R444): 0 a glitch, 1 a framing error or a truncated frame, 2 a CRC failure. -/
def execSurveyFrameError (kind : Nat) (s : State) : Host.Outcome State Fault Refusal :=
  checked (decide (kind < 3)) (
    if !svyRuns s then s
    else if kind == 0 then s.setSurvey (s.survey.bump 0)
    else settle (svyFailed s kind))

/-- SVY_TERM_CHANGE (R436): the termination is connected while SVY_TERM is tied to VRTN and the always-on domain is powered. -/
def execSvyTermChange (tied : Bool) (s : State) : Host.Outcome State Fault Refusal :=
  .next (s.setSurvey { s.survey with term := tied })

end Sys2Proof.Machine
end

