-- ==== Sys2Proof/Machine/Reset.lean ====
section
/-! DEFINITION. What a restart and a loss of power leave: every block at its reset but what the boot flash and the
always-on domain hold, and the start of the management domain (R298, R324, R342, R353, R354, R376, R377, R404, R425,
R444, R453, R476–R478, R512). -/

namespace Sys2Proof.Machine

/-- Replace the state of Intake. -/
def State.setPower (s : State) (p : Power) : State := { s with power := p }
/-- Replace the phase. -/
def setPhase (s : State) (ph : Phase) : State := s.setPower { s.power with phase := ph }
/-- Replace the containment ladder. -/
def State.setContain (s : State) (k : Contain) : State := { s with contain := k }
/-- Replace the control plane. -/
def State.setLegend (s : State) (l : Legend) : State := { s with legend := l }
/-- Replace the port complex. -/
def State.setPorts (s : State) (p : Ports) : State := { s with ports := p }

/-! ### Blocks at their reset -/

/-- The port complex at its reset: what the engines and lanes measure, and the interlock, stay; an engine that an
over-temperature shutdown holds dark waits for its command (R63). -/
def resetPorts (p : Ports) : Ports :=
  let engines : AMap Engine := p.engines.map (fun e => (e.1, { Engine.reset with temp := e.2.temp, dark := e.2.dark }))
  let lanes : AMap Lane := p.lanes.map (fun l => (l.1, { Lane.reset with rxPower := l.2.rxPower, bias := l.2.bias }))
  { Ports.reset with lanes := lanes, engines := engines, laserEnN := p.laserEnN, darkUntil := p.darkUntil }

/-- A capture ring without its record in force: what flash holds of it stays; a staged copy is lost, and the next record
carries GAP (R324, R340, R478). -/
def resetRing (k : Stk) (i : Nat) (x : Ring) : Ring :=
  { x with
    state := .disabled, since := 0, trigNext := false, recs := x.recs.filter (·.flash),
    gapNext := x.gapNext || x.recs.any (fun r => !r.flash) || k.captures.any (fun p => p.ring == i) }

/-- Stockpile at its reset: rings, telemetry, journal and wear stay (R324, R338, R339, R343). -/
def resetStk (k : Stk) : Stk :=
  let rings : AMap Ring := k.rings.map (fun x => (x.1, resetRing k x.1 x.2))
  { k with cfg := stkCfgReset, cold := [], ladders := k.ladders.filter (fun l => decide (0x10000 ≤ l.1)), promotions := [], captures := [], rings := rings, flushing := none }

/-- The DRAM subsystem at its reset: ranks, retirement, allocations and credited slots stay (R295, R296, R313); content is
released and zero-filled; stacks in self-refresh leave it (R297, R298, R318, R477). -/
def resetDram (d : Dram) (off : Bool) (t : Ns) : Dram :=
  { Dram.reset with
    scrubbed := if off then 0 else d.scrubbed, scrubSince := if off then 0 else d.scrubSince,
    ranks := if off then d.ranks.map (fun r => (r.1, { r.2 with pendingAt := 0 })) else d.ranks,
    stackMap := if off then [] else d.stackMap.map (fun k => (k.1, { k.2.exitFrom t with passed := [] })),
    alloc := d.alloc, credited := d.credited, powered := d.powered, move := d.move, queue := d.queue,
    trained := !off && d.trained, noRank := !off && d.noRank }

/-- Legend at its reset: reports stay until they are read (R342); CC_ASSIGN takes effect at a device restart (R409). -/
def resetLegend (l : Legend) (off : Bool) : Legend :=
  let cc := if off then 3 else l.ccAssignNext
  { Legend.reset with
    ccAssign := cc, ccAssignNext := cc, reports := l.reports, nextAcc := l.nextAcc, sessionNum := l.sessionNum }

/-- The Survey Bus interface at its reset: the assigned address goes at power-on only (R453). -/
def resetSurvey (v : Survey) (off : Bool) : Survey :=
  { Survey.reset with
    strap := v.strap, assigned := if off then none else v.assigned, term := v.term, rate := if off then 0 else v.rate }

/-- The host ports at power-on; PERST_N and USB_VBUS are levels from outside. -/
def hostOff (h : HostPorts) : HostPorts :=
  let links : AMap HLink := h.links.map (fun x => (x.1, { HLink.reset with perst := x.2.perst }))
  { HostPorts.reset with links := links, usbVbus := h.usbVbus }

/-- The host ports at a device restart (R425, R433): every link and every function is reset, and the USB port. -/
def hostRestart (s : State) : State :=
  let s := (List.range 4).foldl resetLink s
  let usb : AMap UIface := s.host.usb.map (fun x => (x.1, { UIface.reset with discard := true }))
  { s with host := { s.host with usb := usb, usbConnected := false, usbAnswer := none } }

/-- Benchmark at a restart: key tables go (R356, R478), and the loaded memory keys at OFF (R354). -/
def resetTrust (t : Trust) (off : Bool) : Trust :=
  { t with
    keys := [], osk := if off then [] else t.osk, omk := if off then [] else t.omk, dmk := if off then none else t.dmk,
    challenge := none, debugUnlocked := false }

/-- The containment ladder without the actions in progress: what supersedes them ends them without their end events (R511). -/
def Contain.superseded (k : Contain) : Contain := { k with pans := [], core := none }

/-- The containment ladder: its history survives (R507, R512), the hold lasts until power-on, Pans out of service until any restart
(R507, R510). -/
def resetContain (k : Contain) (off : Bool) : Contain :=
  { k.superseded with outOfService := [], guardedUntil := [], hold := k.hold && !off }

/-- SUPPLY_ALERT_N: an enabled alert holds, or a shutdown runs (R473, R488). -/
def alerts (p : Power) : Bool :=
  p.phase == .flushing || (p.warning && bit p.intake 0) || (p.powerHigh && bit p.intake 1) || (decide (p.vin > 75000) && bit p.intake 2)

/-- Intake's part: what the always-on domain measures stays at a restart (R477); INTAKE, which has no P field, is at its
Reset values, and the alert land and SYNC_OUT follow it (R12, R487, R488). -/
def resetPower (p : Power) : Power :=
  let p := { p with
    pstate := pstateReset, state := .doze, before := .doze, transition := none, pllLocked := p.refclk,
    intake := intakeReset, powerHigh := decide (p.pin > fld intakeReset 4 11), syncOut := false }
  { p with supplyAlert := alerts p }

/-- Owner zeroizes in progress end with the content they were freeing (R297, R369). -/
def endZeroizes (s : State) : State :=
  ((s.trust.slots.filter (fun x => x.2.state == .zeroizing)).map (·.1)).foldl slotAfter s

/-- Every block at its reset but what the boot flash holds, and at a device restart what the always-on domain holds and
the DRAM training (R477, R478, R512). -/
def resetBlocks (s : State) (off : Bool) : State :=
  let s := if off then { s with host := hostOff s.host } else hostRestart s
  let s := { s with
    ports := resetPorts s.ports, sluice := .reset, cote := .reset, meridian := .reset, pans := [], threads := [],
    digests := [], gaz := .reset, dram := resetDram s.dram off (now s), stk := resetStk s.stk,
    legend := resetLegend s.legend off, survey := resetSurvey s.survey off, trust := resetTrust s.trust off,
    contain := resetContain s.contain off, power := resetPower s.power,
    events := { Events.reset with completions := s.events.completions, base := stamp s } }
  endZeroizes s

/-! ### What a restart ends -/

/-- Descriptors that wait in the Sluice output queues and in the wait store are discarded and counted: CONTAIN_DISCARD, the
one reason of R504 for frames that a stop of the traffic core costs (R21, R509; assumption 86). -/
def dropWaiting (s : State) : State :=
  let waiting := (s.sluice.queues.map (·.2)).flatten ++ (s.meridian.domains.map (fun d => d.2.waiting)).flatten
  let s := waiting.foldl (fun s d => discardDesc s d 0x59) s
  let domains : AMap Domain := s.meridian.domains.map (fun d => (d.1, { d.2 with waiting := [] }))
  { s with sluice := { s.sluice with queues := [] }, meridian := { s.meridian with domains := domains } }

/-- Every packet in flight fails for a reason, and every port goes down, its queued frames with it (R21, R56). -/
def endTraffic (s : State) (reason : Nat) : State :=
  let s := failContexts (dropWaiting s) reason (fun _ _ => true)
  settle ((List.range 64).foldl (takeLinkDown 0x31) s)

/-- The status of a command that a device restart ends (R404): stage 0 clears APPLIED, stage 1 sets UNKNOWN. -/
def restartedStatus (e : Entry) : Status := { plain 0x0505 false with unknown := e.stage == .executing, extended := e.extended }

/-- The restart report of the commands in flight (R404). -/
def restartReport (s : State) (cause : Nat) (word : Entry → Status) (toOperator : Bool) : Report :=
  { restart := true, cause := cause, outcome := 0, entry := none, trip := s.trust.zeroizing,
    ended := s.legend.flight.map (fun f =>
      ((if toOperator then operatorId else (ownerOf s f.2).getD operatorId), f.2.session, f.2.seq, word f.2)),
    skip := none, hotSwap := 0, torn := (0, 0), known := 0, readBy := [], later := 0 }

/-- A report kept for its readers, the newest first. -/
def pushReport (s : State) (r : Report) : State := s.setLegend { s.legend with reports := r :: s.legend.reports }

/-! ### The management domain starts -/

/-- Fresh memory keys of every claimed owner and of the device (R354). -/
def drawMemoryKeys (s : State) : State :=
  let owners := (s.trust.slots.filter (fun x => x.2.state == .claimed)).map (·.1)
  let s := owners.foldl newOmk s
  let d := (Config.secret s.free).toNat * 2 ^ 256 + (Config.secret (s.free + 1)).toNat
  { s with free := s.free + 2, trust := { s.trust with dmk := some (BitVec.ofNat 512 d) } }

/-- The owner sealing keys unwrapped from the vault; an entry of an earlier VAULT_GEN cannot be read (R354, R355). -/
def unwrapVault (t : Trust) : Trust :=
  { t with osk := (t.vault.filter (fun v => v.2.opens t)).map (fun v => (v.1, v.2.osk)) }

/-- BOOT and BMK run (R377, R476): the set is selected, links with PERST_N high train, USB connects, and the Survey Bus
responder enters rate hunt (R444). After a device zeroize the device has a fresh memory key (R354, R368). -/
def boot (s : State) : State :=
  let s := if s.trust.dmk.isNone then drawMemoryKeys s else s
  let s := s.setPower { s.power with timeLocked := true }
  let r := selectSet s.ident { s.trust with bootSel := s.power.lands.bootSel.toNat }
  let trip := s.trust.bootEvents.filter (fun k => decide (k % 16 ≥ 3))
  let s := setPhase (s.setTrust { r.1 with bootEvents := r.1.bootEvents ++ trip }) (if r.2 then .recovery else .booting)
  let s := ((List.range 4).filter (fun h => linkUsed s h && !(s.link h).perst)).foldl trainLink s
  syncUsb (svyHunt s)

/-- A device zeroize is over (R368): its trip record is reported, with its event at command-ready. -/
def tripDone (s : State) : State :=
  if s.trust.zeroizing.isNone then s
  else s.setTrust { s.trust with zeroizing := none, bootEvents := s.trust.bootEvents.filter (· != 3) ++ [3] }

/-- BOOT_SEL as a restart samples it (R377, R477): what stands on the lands then is an input from outside, free. -/
def sampleBootSel (s : State) : State :=
  let f := fresh s
  f.2.setPower { f.2.power with lands := { f.2.power.lands with bootSel := f.1.setWidth 2 } }

/-- The management domain starts again after a restart. -/
def reboot (s : State) : State := boot (sampleBootSel s)

/-- A device restart (R404, R425, R477): every packet ends, every command has its status in the restart report, the
blocks are reset, and the management domain starts unless RESET_N is low. -/
def deviceRestart (s : State) (cause : Nat) (word : Entry → Status) (toOperator : Bool) : State :=
  let s := endTraffic s 0x27
  let r := restartReport s cause word toOperator
  let s := tripDone (pushReport (resetBlocks s false) r)
  if s.power.resetN then reboot s else setPhase s .restarting

/-- Whether the module runs so far that a restart has a meaning. -/
def restarts (s : State) : Bool := mgmtRuns s || s.power.phase == .restarting

/-- RESET_N_ASSERT (R473, R477): low for 10 µs starts a device restart; a module that is OFF or flushing only holds. -/
def execResetNAssert (s : State) : Host.Outcome State Fault Refusal :=
  .next (
    let s := s.setPower { s.power with resetN := false }
    if mgmtRuns s then settle (deviceRestart s 1 restartedStatus false) else s)

/-- Warning threshold of a sensor in °C: 0 die, 1 input stage, else a DRAM stack (R475). -/
def warnAt (i : Nat) : Int := if i == 0 then 100 else if i == 1 then 115 else 95

/-- Whether a sensor is at or above its warning threshold. -/
def tooWarm (s : State) : Bool := s.power.temps.any (fun x => decide (x.2 ≥ warnAt x.1))

/-- Whether the sequence may pass the step at which fast clocks start (R366, R473, R475, R476): the sensors have been read since the
power-up began, none is too warm, and no trip is to be acted on first. -/
def mayStart (s : State) : Bool :=
  s.power.refclk && s.power.resetN && s.trust.zeroizing.isNone && !s.power.temps.isEmpty && decide (now s ≥ s.power.testAt) && !tooWarm s

/-- The power-up goes on from its always-on step when nothing holds it (R354, R475, R476). -/
def goOn (s : State) : State :=
  if s.power.phase == .starting && mayStart s then boot (drawMemoryKeys (s.setTrust (unwrapVault s.trust))) else s

/-- RESET_N_RELEASE (R473, R477). -/
def execResetNRelease (s : State) : Host.Outcome State Fault Refusal :=
  .next (
    let s := s.setPower { s.power with resetN := true }
    settle (if s.power.phase == .restarting then reboot s else goOn s))

/-- DEVICE_RESTART (R379, R404, R477, R510): the command itself is among those that the restart ends; it also ends the
hold and clears its count. -/
def execDeviceRestart (c : CmdRef) (s : State) : Host.Outcome State Fault Refusal :=
  .next (
    let r := runCommand s c 0x0105 (fun k s => (commitEntry s k.acc, .later))
    let began := match AMap.find s.legend.flight c.acc, AMap.find r.legend.flight c.acc with
      | some a, some b => a.stage == .waiting && b.stage == .executing
      | _, _ => false
    if !began then r
    else
      let s := if r.contain.hold then settle (raiseDev r 0x505 3 0) else r
      let s := s.setContain { s.contain with hold := false, deviceHistory := [] }
      settle (deviceRestart s 2 restartedStatus false))

/-! ### The journal and command-ready -/

/-- What the journal says of the epoch before (R342): 0 closed or nothing, 1 a complete entry, 2 an incomplete one,
3 an epoch-open marker only. -/
def journalOutcome (j : List JournalItem) : Nat × Option JournalEntry :=
  match j.getLast? with
  | none => (0, none)
  | some (.closed _) => (0, none)
  | some (.entry _ e) => (if journalWhole e then 1 else 2, some e)
  | some (.epochOpen _) => (3, none)

/-- Whether a journal item is an entry. -/
def JournalItem.isEntry : JournalItem → Bool
  | .entry _ _ => true
  | _ => false

/-- The journal keeps its last 16 entries and their markers (R339). -/
def keepJournal : Nat → List JournalItem → List JournalItem
  | 0, j => j
  | n + 1, j => if (j.filter (·.isEntry)).length > 16 then keepJournal n (j.drop 1) else j

/-- An item added to the journal. -/
def journalAdd (s : State) (x : JournalItem) : State :=
  let j := s.stk.journal ++ [x]
  s.setStk { s.stk with journal := keepJournal j.length j }

/-- Status of a journal's command (R341, R342, R404). -/
def powerLostStatus (c : CmdRec) : Status := { plain 0x0504 false with unknown := c.stage == 1 }

/-- Owner of a journal's command record: its TENANT field (R395). -/
def cmdEnded (c : CmdRec) : Nat × Nat × Nat × Status := (c.tenant, c.session, c.sequence, powerLostStatus c)

/-- The power-loss summary in the operator's telemetry part (R338, R342, R496); its payload is laid out by the model
(assumption 26). -/
def powerLossRecord (s : State) (outcome : Nat) (e : Option JournalEntry) : State :=
  if !s.ident.flash || outcome == 0 then s
  else
    let p : TelePart := AMap.at s.stk.telemetry operatorId ⟨[], 0⟩
    let b := packBytes [(1, outcome), (1, (e.map (·.cause)).getD 0), (2, 0), (4, (e.map (·.vinMin)).getD 0), (4, (e.map (·.cmdCount)).getD 0)]
    let t : TeleRec := { time := (e.map (·.time)).getD (stamp s), owner := operatorId, kind := 1, source := 0xFFFF, seq := p.seq,
                         payload := beNat b * 2 ^ 192 }
    s.setStk { s.stk with telemetry := AMap.put s.stk.telemetry operatorId ⟨lastN (2 ^ 26) (p.recs ++ [t]), (p.seq + 1) % 2 ^ 32⟩ }

/-- Stockpile has read the journal (R339, R342, R476): the power-up report of this epoch, then the epoch-open marker. -/
def readJournal (s : State) (torn : Nat × Nat) : State :=
  let o := journalOutcome s.stk.journal
  let f := fresh s
  let s := f.2
  let known := if o.1 == 2 then f.1.toNat % 16 else 15
  let r : Report :=
    { restart := false, cause := 0, outcome := o.1, entry := o.2, trip := if s.trust.bootEvents.contains 3 then s.trust.tripRecord else none,
      ended := match o.2 with | none => [] | some e => e.cmds.map cmdEnded,
      skip := if s.power.skipped then some s.power.epoch else none, hotSwap := s.power.hotSwapFailed, torn := torn, known := known, readBy := [], later := 0 }
  let older := s.legend.reports.map (fun x => { x with later := x.later + b2n o.2.isSome })
  let s := powerLossRecord (s.setLegend { s.legend with reports := r :: older }) o.1 o.2
  let s := if s.power.hotSwapFailed > 0 then raiseDev s 0x009 1 (dataBytes 4 s.power.hotSwapFailed) else s
  let s := s.setPower { s.power with hotSwapFailed := 0, markerOpen := true }
  journalAdd (s.setStk { s.stk with torn := torn }) (.epochOpen s.power.epoch)

/-- The events of the selection, of a trip record and of a level-4 action, delivered at command-ready (R368, R377, R507);
the action's DATA stands above the lowest 4 bits. -/
def bootRaise (s : State) (k : Nat) : State :=
  match k % 16 with
  | 1 => raiseDev s 0x401 1 0
  | 2 => raiseDev s 0x400 1 0
  | 3 => raiseDev s 0x402 1 0
  | 4 => raiseDev s 0x504 3 (k / 16)
  | _ => raiseDev s 0x505 1 (k / 16)

/-- The state in which Stockpile stands once a failure no longer holds (R344): a lost channel leaves its stripes to rebuild. -/
def stkAfterFailure (k : Stk) : StkState :=
  if k.spare < 2 then .readOnly else if k.lostChannels == 0 then .normal else .degraded

/-- What Stockpile stands for comes with the variant (R347); it leaves READ_ONLY and FAILED at a power-up at which the
condition no longer holds, with its event (R344). Whether a failed controller works again is free (assumption 102). -/
def stkPowerUp (s : State) : State :=
  if !s.ident.flash then s.setStk { s.stk with state := .absent }
  else match s.stk.state with
    | .readOnly => if s.stk.spare < 2 then s else setStkState s .normal
    | .failed =>
      let f := fresh s
      let s := f.2.setStk { s.stk with ctrlFailed := s.stk.ctrlFailed && f.1.getLsbD 0 }
      if s.stk.lostChannels ≥ 2 || s.stk.ctrlFailed then s else setStkState s (stkAfterFailure s.stk)
    | _ => s

/-- Torn pages discarded with their records, the newest ones of their ring or part (R342). -/
def discardTorn (s : State) (t : TornPage) : State :=
  let k := s.stk
  match t.telemetry with
  | false => match AMap.find k.rings t.place with
    | none => s
    | some x => s.setRing t.place { x with recs := x.recs.take (x.recs.length - t.records) }
  | true =>
    let p := AMap.at k.telemetry t.place ⟨[], 0⟩
    s.setStk { k with telemetry := AMap.put k.telemetry t.place { p with recs := p.recs.take (p.recs.length - t.records) } }

/-- Torn pages of the capture and of the telemetry region. -/
def tornCounts (torn : List TornPage) : Nat × Nat :=
  ((torn.filter (fun t => !t.telemetry)).length, (torn.filter (·.telemetry)).length)

/-- COMMAND_READY (R339, R342, R377, R474, R476): Legend accepts commands, and packets that wait in the rings are read. -/
def execCommandReady (torn : List TornPage) (s : State) : Host.Outcome State Fault Refusal :=
  .next (
    if s.power.phase != .booting || !s.power.dramReady || s.trust.zeroizing.isSome then s
    else
      let s := if s.power.markerOpen then s else readJournal (torn.foldl discardTorn (stkPowerUp s)) (tornCounts torn)
      let s := setPhase s .commandReady
      let s := s.setPower { s.power with fault := s.contain.hold }
      let s := raiseDev s 0x008 1 0
      let s := s.trust.bootEvents.foldl bootRaise s
      let s := s.setTrust { s.trust with bootEvents := [] }
      settle ((s.host.funcs.map (·.1)).foldl pump s))

/-! ### Traffic-ready -/

/-- What a level-0 task of a vendor image starts with: its program is the whole Pan SRAM (assumption 45); one that starts during
power-up, or in the guarded second after an action on its Pan, runs guarded (R175, R508; assumption 90). -/
def vendorRun (s : State) (k : TaskRef) : RunSpec :=
  { task := k, program := 0, base := 0x01000000, size := 4 * 2 ^ 20, binding := [], tenant := deviceId, prio := 0, level := 0,
    guard := s.power.phase != .trafficReady || panGuarded s (match k with | .supervisor pan => pan | _ => 0),
    l2 := 0, l1 := 0, env := [], entry := 0, arg := 0, w2 := 0, chanMap := 0 }

/-- Legend loads the running PRT image into a Pan: where its service routines lie (R131, R373; assumption 89). -/
def loadPrt (s : State) (pan : Nat) : State :=
  match s.trust.runningImages.find? (fun i => i.kind == 6) with
  | none => s
  | some i =>
    let at_ := Config.prtService i.digest
    s.setPan pan { s.pan pan with svcBase := at_.1 &&& csrMask 0x010, svcSize := at_.2 }

/-- The supervisor of a Pan starts at level 0 on thread 1 of CC 30, from the PRT image (R124, R203). -/
def startSupervisor (s : State) (pan : Nat) : State :=
  let s := loadPrt s pan
  startRun s (supervisorTid pan) (vendorRun s (.supervisor pan))

/-- Legend holds the control cores of Pan 0 that CC_ASSIGN names, at level 0; thread 1 of CC 30 is the supervisor's (R17,
R124, R203). -/
def startLegend (s : State) : State :=
  let ts := (if bitsOf s.legend.ccAssign 0 1 == 1 then [240] else []) ++ (if bitsOf s.legend.ccAssign 1 1 == 1 then [248, 249] else [])
  ts.foldl (fun s t => startRun s t (vendorRun s .legend)) s

/-- Every supervisor, and Legend's threads. -/
def startCores (s : State) : State := startLegend ((List.range 16).foldl startSupervisor s)

/-- A power state has been reached (R492): DATA byte 0 is its code. -/
def OpState.code : OpState → Nat
  | .run => 0
  | .doze => 1
  | .nap => 2
  | .standby => 3
  | .off => 4

/-- Note that a power state has been reached. -/
def reachState (s : State) (x : OpState) : State :=
  raiseDev (s.setPower { s.power with state := x }) 0x007 1 (dataBytes 1 x.code)

/-- TRAFFIC_READY (R66, R298, R476): with no rank trained the module stays command-ready; every traffic domain is powered; the module is in DOZE and its lasers are dark. -/
def execTrafficReady (s : State) : Host.Outcome State Fault Refusal :=
  .next (
    if s.power.phase != .commandReady || s.trust.zeroizing.isSome || s.dram.noRank then s
    else
      let s := setPhase (startCores s) .trafficReady
      finish (reachState s .doze))

end Sys2Proof.Machine
end

