-- ==== Sys2Proof/Machine/Intake.lean ====
section
/-! DEFINITION. Intake: the input bus, the hold-up and the flush, power-up, sensors, clocks, the synchronisation lands
(R339–R341, R466–R477, R483–R488). -/

namespace Sys2Proof.Machine

/-! ### Alerts -/

/-- The alert land follows its causes. -/
def syncAlert (s : State) : State := s.setPower { s.power with supplyAlert := alerts s.power }

/-- A SEEN bit of INTAKE sets, with one event when it does (R488). -/
def noteSeen (s : State) (i source : Nat) : State :=
  if bit s.power.intake i then s
  else raiseDev (s.setPower { s.power with intake := setFld s.power.intake i 1 1 }) source 1 0

/-- A value of VIN, kept with the lowest one since the last read (R488), and whether it has fallen (R469). -/
def noteVin (s : State) (vin : Nat) : State :=
  s.setPower { s.power with vin := vin, vinMin := min s.power.vinMin vin, vinFell := s.power.vinFell || decide (vin < s.power.vin) }

/-- A change of the input that Intake sees while the always-on domain runs. -/
def onInput (s : State) (ok : Bool) (go : State → State) : Host.Outcome State Fault Refusal :=
  .next (if powered s && ok then settle (syncAlert (go s)) else s)

/-- BROWNOUT_WARNING (R467): VIN has fallen below 34.0 V. -/
def execBrownoutWarning (vin : Nat) (s : State) : Host.Outcome State Fault Refusal :=
  onInput s (decide (vin < 34000)) (fun s =>
    let s := noteVin s vin
    let held := s.power.warning
    let s := s.setPower { s.power with warning := true, intake := setFld s.power.intake 16 1 1 }
    if held then s else raiseDev s 0x000 1 0)

/-- BROWNOUT_WARNING_CLEAR (R467): VIN has been at or above 35.0 V for 1 ms. -/
def execBrownoutWarningClear (vin : Nat) (s : State) : Host.Outcome State Fault Refusal :=
  onInput s (decide (vin ≥ 35000)) (fun s =>
    let s := noteVin s vin
    if s.power.warning then raiseDev (s.setPower { s.power with warning := false }) 0x000 1 0 else s)

/-- VIN_DIP (R466): VIN was between 30.0 V and 32.0 V, down to `vin`, for less than 1 ms. -/
def execVinDip (vin : Nat) (s : State) : Host.Outcome State Fault Refusal :=
  onInput s (decide (30000 ≤ vin) && decide (vin < 32000)) (fun s =>
    noteSeen (s.setPower { s.power with dips := s.power.dips + 1, vinMin := min s.power.vinMin vin, vinFell := true }) 17 0x001)

/-- VIN_HIGH (R466): above 75 V, or back from there. -/
def execVinHigh (vin : Nat) (s : State) : Host.Outcome State Fault Refusal :=
  onInput s true (fun s =>
    let s := noteVin s vin
    if vin > 75000 then noteSeen s 18 0x002 else s)

/-- VIN_LOW_BAND (R466). -/
def execVinLowBand (vin : Nat) (s : State) : Host.Outcome State Fault Refusal :=
  onInput s (decide (vin < 36000)) (fun s => noteSeen (noteVin s vin) 20 0x004)

/-- INPUT_POWER_ALERT (R488): the input power as measured; above POWER_ALERT_W it alerts. -/
def execInputPowerAlert (watts : Nat) (s : State) : Host.Outcome State Fault Refusal :=
  onInput s true (fun s =>
    let high := decide (watts > fld s.power.intake 4 11)
    let s := s.setPower { s.power with pin := watts, powerHigh := high }
    if high then noteSeen s 19 0x003 else s)

/-! ### Sensors -/

/-- A sensor that has been at or above its shutdown threshold for 1 ms (R475). -/
def overheated (s : State) : Bool := s.power.hotSince.any (fun x => decide (now s ≥ x.2 + 1000000))

/-- One sensor read: since when it is at or above its shutdown threshold, 10 °C above its warning (R475). -/
def readSensor (s : State) (x : Nat × Int) : State :=
  let p := s.power
  let hot := if x.2 ≥ warnAt x.1 + 10 then (if AMap.has p.hotSince x.1 then p.hotSince else AMap.put p.hotSince x.1 (now s))
    else AMap.del p.hotSince x.1
  s.setPower { p with temps := AMap.put p.temps x.1 x.2, hotSince := hot }

/-- A power-up tested against the sensors just read (R475): too warm, it is tested again 1 s later. -/
def startTest (s : State) : State :=
  if s.power.phase == .starting && tooWarm s && decide (now s ≥ s.power.testAt) then
    s.setPower { s.power with testAt := now s + 1000000000 }
  else goOn s

/-- SENSOR_POLL (R475): the die, the input stage and the DRAM stacks; a power-up that waits for them is tried again. -/
def execSensorPoll (die input : Int) (degrees : List Int) (s : State) : Host.Outcome State Fault Refusal :=
  .next (
    if !powered s then s
    else
      let readings := (0, die) :: (1, input) :: (degrees.take 6).zipIdx.map (fun x => (8 + x.2, x.1))
      let s := readings.foldl readSensor s
      let cool := s.power.temps.all (fun x => decide (x.2 ≤ warnAt x.1 - 5))
      let s := s.setPower { s.power with therm := tooWarm s || (s.power.therm && !cool) }
      let s := if tooWarm s then noteSeen s 22 0x006 else s
      settle (startTest s))

/-! ### REFCLK and the synchronisation lands -/

/-- REFCLK_LOST (R484): the port PLLs lose lock and every link goes down. -/
def execRefclkLost (s : State) : Host.Outcome State Fault Refusal :=
  .next (
    if !s.power.refclk then s
    else
      let s := s.setPower { s.power with refclk := false, pllLocked := false }
      if !powered s then s
      else
        let s := s.setPower { s.power with intake := setFld s.power.intake 21 1 1 }
        finish ((List.range 64).foldl (takeLinkDown 0x31) (raiseDev s 0x005 1 0)))

/-- REFCLK_RETURN (R476, R484): the port PLLs relock; a power-up that waits for REFCLK goes on. -/
def execRefclkReturn (s : State) : Host.Outcome State Fault Refusal :=
  .next (
    if s.power.refclk then s
    else
      let s := s.setPower { s.power with refclk := true, pllLocked := powered s }
      if !powered s then s else settle (goOn (if s.power.phase == .starting then s else raiseDev s 0x005 2 0)))

/-- SYNC_IN_EDGE (R487): counted; latched unless it follows another within 1 µs. -/
def execSyncInEdge (s : State) : Host.Outcome State Fault Refusal :=
  .next (
    if !powered s then s
    else
      let p := s.power
      let close := match p.syncLast with | none => false | some t => decide (now s < t + 1000)
      s.setPower { p with syncCount := p.syncCount + 1, syncLast := some (now s), syncLatch := if close then p.syncLatch else stamp s })

/-- Level of SYNC_OUT (R487): high for the first half of each period of 2^n ns; 0 is off. -/
def syncOutLevel (n : Nat) (t : Ns) : Bool := n != 0 && decide (t % 2 ^ n < 2 ^ (n - 1))

/-- SYNC_OUT_EDGE (R487): the land takes its level of this moment. -/
def execSyncOutEdge (s : State) : Host.Outcome State Fault Refusal :=
  .next (if powered s then s.setPower { s.power with syncOut := syncOutLevel (fld s.power.intake 32 8) (now s) } else s)

/-! ### The shutdown -/

/-- Packets in flight of each owner: those that hold a context, and the descriptors in the wait store (R340, R341). -/
def packetCounts (s : State) : AMap Nat :=
  let owners := s.meridian.ctxs.map (fun c => c.2.desc.tenant) ++
    (s.meridian.domains.map (fun d => d.2.waiting.map (·.tenant))).flatten
  owners.foldl (fun m o => AMap.upd m o 0 (· + 1)) []

/-- Copies of each ring in the capture staging (R337, R341). -/
def stagedCounts (k : Stk) : AMap Nat :=
  let own : AMap Nat := k.rings.map (fun x => (x.1, (x.2.recs.filter (fun r => !r.flash)).length))
  own.filter (fun x => x.2 != 0)

/-- The record of a command in flight (R341). -/
def journalCmd (e : Entry) : CmdRec :=
  { transport := transportOf e.via, stage := b2n (e.stage == .executing), opcode := e.opcode, tenant := e.tenant,
    session := e.session, sequence := e.seq, cookie := e.cookie }

/-- The counts as they are latched at a decision (R340, R341). -/
def latchEntry (s : State) (cause : Nat) : JournalEntry :=
  let n := s.legend.flight.length
  { cause := cause, overflow := decide (n > 4096), time := stamp s, vinMin := s.power.vinMin, cmdCount := n,
    cmds := (s.legend.flight.take 4096).map (fun f => journalCmd f.2), packets := packetCounts s, rings := stagedCounts s.stk,
    commit := none }

/-- Every laser goes dark and every link down, with nothing more recorded: Tide Gate is unpowered (R470). -/
def darken (s : State) : State :=
  let lports : AMap LPort := s.ports.lports.map (fun x => (x.1, { x.2 with linkUp := false, aligned := false }))
  let lanes : AMap Lane := s.ports.lanes.map (fun x => (x.1, { x.2 with lit := false }))
  s.setPorts { s.ports with lports := lports, lanes := lanes }

/-- A shutdown decision (R28, R470): latched whatever VIN does later; before the epoch-open marker there is nothing to
record (R476). -/
def decideShutdown (s : State) (cause : Nat) : State :=
  let e := latchEntry s cause
  let s := s.setStk { s.stk with flushing := if s.power.markerOpen then some e else none }
  let s := darken s
  let s := s.setDram { s.dram with content := [], poison := [] }
  let s := s.setPower { s.power with
    phase := .flushing, pgood := false, holdup := true, fault := true, supplyAlert := true, transition := none,
    pwrEn := s.power.pwrEn && cause != 2 }
  syncUsb (s.setContain s.contain.superseded)

/-- Whether the conditions of a cause hold (R470): 1 brownout, VIN below 32.0 V; 2 PWR_EN; 3 thermal. -/
def causeHolds (s : State) (cause vin : Nat) : Bool :=
  (cause == 1 && decide (vin < 32000)) || cause == 2 || (cause == 3 && overheated s)

/-- A cause latched once a shutdown is decided (R542): in the decision's 250 ns cycle of the always-on domain the journal
records the lower CAUSE; later it changes nothing. -/
def joinDecision (s : State) (cause : Nat) : State :=
  match s.stk.flushing with
  | none => s
  | some e =>
    if e.time.ns / 250 == now s / 250 && decide (cause < e.cause) then
      s.setStk { s.stk with flushing := some { e with cause := cause } }
    else s

/-- SHUTDOWN_DECISION (R466, R470): at `vin` on the input. -/
def execShutdownDecision (cause vin : Nat) (s : State) : Host.Outcome State Fault Refusal :=
  checked (decide (1 ≤ cause) && decide (cause ≤ 3)) (
    if !powered s || !causeHolds s cause vin then s
    else if s.power.phase == .flushing then joinDecision s cause
    else settle (decideShutdown (noteVin s vin) cause))

/-- The rails open (R470, R472, R478): the module is OFF with what the boot flash and the NAND hold. -/
def powerOff (s : State) : State :=
  let s := accrue s
  let s := s.setStk { s.stk with served := s.stk.served + now s, creditAt := 0 }
  let s := s.setDram { s.dram with powered := poweredTime s }
  let s := resetBlocks s true
  s.setPower { s.power with
    phase := .off, state := .off, pgood := false, supplyAlert := false, holdup := false, therm := false, fault := false,
    bankReady := false, vinFell := false, timeLocked := false, bank := 0, pin := 0, temps := [], hotSince := [], warning := false, powerHigh := false, pllLocked := false,
    dramReady := false, markerOpen := false, offHeld := true, syncLast := none, syncOut := false }

/-- FLUSH_DONE (R340, R341, R470): the commit page is programmed, and Intake opens every rail. -/
def execFlushDone (s : State) : Host.Outcome State Fault Refusal :=
  .next (
    if s.power.phase != .flushing then s
    else
      let s := match s.stk.flushing with
        | none => s
        | some e => journalAdd s (.entry s.power.epoch (commitJournal e))
      powerOff s)

/-- HOLDUP_EXHAUSTED (R471): the rails collapse before the flush is done, with pages of the entry issued or not. -/
def execHoldupExhausted (issued : Bool) (s : State) : Host.Outcome State Fault Refusal :=
  .next (
    if s.power.phase != .flushing then s
    else
      let s := match s.stk.flushing, issued with
        | some e, true => journalAdd s (.entry s.power.epoch e)
        | _, _ => s
      powerOff s)

/-- OFF_HOLD_EXPIRY (R472): the module has been OFF for 100 ms. -/
def execOffHoldExpiry (s : State) : Host.Outcome State Fault Refusal :=
  .next (if s.power.phase == .off then s.setPower { s.power with offHeld := false } else s)

/-! ### Power-up -/

/-- The boot epoch from its fuses and its low part (R486). -/
def epochOf (f l : Nat) : Nat := f * 2 ^ 26 + l

/-- The epoch at a power-up (R15, R486): fuses, low part, saturated, skipped. -/
def advanceEpoch (f l : Nat) (valid : Bool) : Nat × Nat × Bool × Bool :=
  if valid then
    (if epochOf f l == 0xFFFFFFFF then (f, l, true, false)
     else if l == 0x3FFFFFF then (f + 1, 0, false, false)
     else (f, l + 1, false, false))
  else if f < 63 then (f + 1, 0, false, true)
  else (f, 0x3FFFFFF, true, false)

/-- HOT_SWAP_RETRY (R468): an attempt at power-up has failed. -/
def execHotSwapRetry (s : State) : Host.Outcome State Fault Refusal :=
  .next (if s.power.phase == .off && !s.power.offHeld then s.setPower { s.power with hotSwapFailed := s.power.hotSwapFailed + 1 } else s)

/-- POWER_UP (R66, R472, R476, R485, R486): the always-on domain starts with the run clock at 0, the straps are sampled and the
epoch advances; `copyA` and `copyB` say whether the stored copies of its low part verify. It stands at its always-on step until the
sensors have been read (R475), so that a trip latched then is acted on before any key is derived (R366). -/
def execPowerUp (vin : Nat) (copyA copyB : Bool) (lands : Lands) (s : State) : Host.Outcome State Fault Refusal :=
  .next (
    if s.power.phase != .off || s.power.offHeld || vin < 35000 then s
    else
      let e := advanceEpoch s.power.epochF s.power.epochL (copyA || copyB)
      let p := s.power
      let s := s.setPower { p with
        phase := .starting, clock := 0, epochF := e.1, epochL := e.2.1, epoch := epochOf e.1 e.2.1, saturated := e.2.2.1,
        skipped := e.2.2.2, intake := intakeReset, pstate := pstateReset, state := .doze, before := .doze, standbyAt := 0,
        vin := vin, vinMin := vin, dips := 0, pwrEn := true, lands := lands, syncCount := 0, syncLast := none,
        syncLatch := ⟨0, 0⟩, syncOut := false, testAt := 0, vinFell := false, timeLocked := false, pllLocked := p.refclk }
      let s := { s with
        ports := { s.ports with darkUntil := s.ports.darkUntil - p.clock },
        events := { Events.reset with completions := s.events.completions, base := stamp s },
        survey := { s.survey with strap := lands.svyAddr.toNat, term := lands.svyTerm },
        host := { s.host with strap := lands.gpio.toNat } }
      settle (tripDone s))

/-- Whether a voltage makes the bank ready (R469): within 1 V of VIN, or above 35.0 V after a fall of VIN. -/
def bankWithin (p : Power) (bank : Nat) : Bool :=
  (decide (p.vin ≤ bank + 1000) && decide (bank ≤ p.vin + 1000)) || (decide (bank > 35000) && p.vinFell)

/-- BANK_READY (R469, R473). -/
def execBankReady (bank : Nat) (s : State) : Host.Outcome State Fault Refusal :=
  .next (
    if !powered s || s.power.phase == .flushing || !bankWithin s.power bank then s
    else s.setPower { s.power with bank := bank, bankReady := true, pgood := true })

end Sys2Proof.Machine
end

