-- ==== Sys2Proof/Machine/PowerStates.lean ====
section
/-! DEFINITION. The operating states and their transitions, and what a Pan keeps when it is reset (R24, R27, R339,
R479–R482, R508). -/

namespace Sys2Proof.Machine

/-! ### A Pan emptied and rebuilt -/

/-- A persistent task IDLE with flags 0 (R481, R508). -/
def afreshTask (k : PTask) : PTask := { k with state := .idle, flags := 0, pendingAct := false, waiters := [] }

/-- A Pan's delay list with nothing but period timers: those of some tasks started afresh, the others as they run
(R481, R508). -/
def restartTimers (p : Pan) (fresh : PTask → Bool) : Pan :=
  let isFresh (slot : Nat) : Bool := (AMap.find p.tasks slot).any fresh
  let kept := p.delays.filter (fun d => match d.who with | .thread _ => false | .period slot => !isFresh slot)
  (p.tasks.filter (fun t => fresh t.2)).foldl (fun p t => startTimer p t.1 t.2) { p with delays := kept }

/-- A Pan without its SRAM, its queues' entries, its delays and its running work; a task marked for deletion goes. With `legend`,
Legend runs on from Pan 0's SRAM (R482). -/
def emptyPan (legend : Bool) (s : State) (pan : Nat) : State :=
  let legendStays := legend && pan == 0
  let gone := (s.pan pan).tasks.filter (fun t => t.2.deleting)
  let s := gone.foldl (fun s t => dropTask s pan t.1 t.2) s
  let p := s.pan pan
  let tasks : AMap PTask := p.tasks.map (fun t => (t.1, afreshTask t.2))
  let msgqs : AMap MsgQ := p.msgqs.map (fun q => (q.1, { q.2 with entries := [], held := [] }))
  let threads : AMap Thread := s.threads.map (fun t => if tidPan t.1 == pan && !(legendStays && t.2.task == .legend) then (t.1, { Thread.idle with run := t.2.run }) else t)
  let p := restartTimers p (fun _ => true)
  let s := ({ s with threads := threads }).setPan pan { p with
    sram := if legendStays then p.sram else [], programs := [], ready := [], tasks := tasks, msgqs := msgqs, chanWaits := [], links := [], efs := [],
    faultQueue := [], held := [], locks := [], buffers := [], cpBusy := [], lateCp := [],
    supervisorFaulted := false }
  applyCcMode (applyCcMode s pan 30) pan 31

/-- Legend reloads a Pan's programs from its store (R481, R508). -/
def reloadPan (s : State) (pan : Nat) : State :=
  let load (s : State) (x : Nat × Prog) : State :=
    if maskHas x.2.pans pan then loadInto (x.1 % 65536) x.1 x.2 s pan else s
  s.legend.superseded.foldl load (s.legend.programs.foldl load s)

/-- Every buffer pool's ring built anew (R293, R481). -/
def rebuildPools (s : State) : State :=
  { s with cote := s.cote.pools.foldl (fun k p => buildPool k p.1 p.2.cfg) s.cote }

/-! ### Depth of sleep -/

/-- Parts that sleep deeper than a state allows are woken (R479, R481). -/
def wakeDeeper (s : State) (x : OpState) : State :=
  let deeper (p : PanPower) : Bool := (p == .powerGated && x != .nap) || (p == .clockGated && x == .run)
  let s := ((s.pans.filter (fun p => deeper p.2.power)).map (·.1)).foldl wakePan s
  if x == .nap then s
  else
    let stackMap : AMap Stack := s.dram.stackMap.map (fun k => (k.1, k.2.exitFrom (now s)))
    s.setDram { s.dram with stackMap := stackMap }

/-- A transition is over: its command ends (R480). -/
def endTransition (s : State) (x : OpState) (acc : Option Nat) : State :=
  endOk (reachState (s.setPower { s.power with transition := none }) x) acc

/-! ### STANDBY -/

/-- STANDBY or OFF is ordered (R481 step 1): every port goes down, its queued frames with it. -/
def orderStandby (s : State) (x : OpState) (acc : Option Nat) : State :=
  let s := s.setPower { s.power with transition := some { target := x, acc := acc, since := now s, grace := false, railsAt := none } }
  (List.range 64).foldl (fun s l => takeLinkDown 0x31 (light s l) l) s

/-- Whether everything that the traffic domains hold has ended, a containment action too (R481 steps 2 and 3, R482). -/
def drained (s : State) (t : Transition) : Bool :=
  s.contain.pans.isEmpty && s.contain.core.isNone && s.meridian.ctxs.isEmpty && s.sluice.queues.all (fun q => q.2.isEmpty) && waitUsed s == 0 &&
    !s.legend.flight.any (fun f => (match t.acc with | none => true | some a => decide (f.1 < a)) && !standbyArea f.2.opcode)

/-- A stack as STANDBY is entered (R317, R318): one that is not on its way into self-refresh starts to enter, once an exit under
way has ended. -/
def stackIn (s : State) (k : Nat) (x : Stack) : Stack :=
  match x.refresh with
  | .active => x.enter (now s) (refreshInterval s k)
  | .entering _ => x
  | .exiting t => (x.awake (max (now s) (t + 1500))).enter (max (now s) (t + 1500)) (refreshInterval s k)

/-- The entries of a table as a rebuild from its shadow leaves them (R269, R481): one whose place in the shadow is unreadable is
lost with its row (R251). -/
def TEntry.rebuilt (e : TEntry) : TEntry :=
  { e with bad := none, image := if e.shadowLost then some none else none, dead := e.dead || e.shadowLost }

/-- A rule likewise, in every replica. -/
def Rule.rebuilt (r : Rule) : Rule :=
  { r with bad := [], images := if r.shadowLost then (List.range 8).map (fun k => (k, none)) else [], dead := r.dead || r.shadowLost }

/-- A TCAM or LPM table rebuilt from its shadow, its owner told of the entries lost (R251, R481). -/
def rebuildTable (s : State) (table : Nat) : State :=
  let t := s.table table
  if t.kind ≥ 2 then s
  else
    let lost := (physicalRows t).filter (fun e => e.shadowLost && !e.dead)
    let s := s.setTable table (t.mapEntries TEntry.rebuilt)
    setPresence true (lost.foldl (fun s e => reportDead s table t.owner e.id) s) table

/-- TCAM rows and entry store rebuilt from the shadows (R269, R481); the banks are on and awake. -/
def rebuildRows (s : State) : State :=
  let lost := (s.sluice.scopeRules ++ s.sluice.rules).filter (fun r => r.shadowLost && !r.dead)
  let s := s.setSluice { s.sluice with
    scopeRules := s.sluice.scopeRules.map Rule.rebuilt, rules := s.sluice.rules.map Rule.rebuilt }
  let s := lost.foldl (fun s r => reportDead s 0xFFFFFFFF r.tenant r.id) s
  let s := setClsPresence true ((s.gaz.tables.map (·.1)).foldl rebuildTable s)
  { s with gaz := { s.gaz with banks := s.gaz.banks.map (fun b => (b.1, { b.2 with asleep := false, lastSearch := now s })) } }

/-- The domains go off (R481 steps 4 and 5): the DRAM stacks are in self-refresh, Pan content is gone, the TCAM banks are off; SAs
and tables are saved. -/
def switchOff (s : State) : State :=
  let s := (List.range 16).foldl (emptyPan true) s
  let pans : AMap Pan := s.pans.map (fun p => (p.1, { p.2 with power := if p.1 == 0 then p.2.power else .powerGated }))
  let stackMap : AMap Stack := (List.range 6).map (fun k => (k, { stackIn s k (stackAt s k) with openRow := [] }))
  { s with pans := pans, dram := { s.dram with stackMap := stackMap }, gaz := { s.gaz with banks := [] } }

/-- The activations that still run are ended as by the supervisor's END (R205, R481 step 3). -/
def endActivations (s : State) (pan : Nat) : State :=
  let running := (s.pan pan).tasks.filter (fun t => t.2.state == .running)
  running.foldl (fun s t => endFaulted s (.persistent pan t.1) false false) s

/-- The final reply of an OFF order is sent, Stockpile writes the closed marker, and the rails open 10 ms later (R339, R481). -/
def closeEpoch (s : State) (t : Transition) : State :=
  let s := journalAdd (endOk (reachState s .off) t.acc) (.closed s.power.epoch)
  s.setPower { s.power with transition := some { t with acc := none, railsAt := some (now s + 10000000) } }

/-- The entry is complete once everything has drained. -/
def completeEntry (s : State) (t : Transition) : State :=
  if !t.grace || !drained s t || t.railsAt.isSome then s
  else
    let s := switchOff s
    if t.target == .off then closeEpoch s t
    else endTransition (s.setPower { s.power with standbyAt := now s }) .standby t.acc

/-- ACTIVATION_GRACE_EXPIRY (R481): 10 ms after the order the running activations are ended; from then on the entry
completes as soon as everything has drained. -/
def execActivationGraceExpiry (s : State) : Host.Outcome State Fault Refusal :=
  .next (match s.power.transition with
    | none => s
    | some t =>
      if now s < t.since + 10000000 || t.railsAt.isSome then s
      else
        let s := if t.grace then s else (List.range 16).foldl endActivations s
        let t := { t with grace := true }
        finish (completeEntry (s.setPower { s.power with transition := some t }) t))

/-- OFF_RAILS_OPEN (R481): a command that is still in flight has its status before the module is OFF. -/
def execOffRailsOpen (s : State) : Host.Outcome State Fault Refusal :=
  .next (match s.power.transition with
    | some t =>
      (match t.railsAt with
        | some r => if now s < r then s else powerOff (endAll s (s.legend.flight.map (·.1)) (failWith 0x0503 3 4))
        | none => s)
    | none => s)

/-- The return from STANDBY (R481): stacks leave self-refresh, which takes them the times of R318, rows rebuilt, programs and
supervisors back, rings built, every domain at sequence 0, tasks with fresh timers, ports lit again; Legend has run on (R482). -/
def returnTraffic (s : State) : State :=
  let stackMap : AMap Stack := s.dram.stackMap.map (fun k => (k.1, k.2.exitFrom (now s)))
  let s := s.setDram { s.dram with stackMap := stackMap }
  let s := rebuildRows s
  let s := (List.range 16).foldl (fun s p => reloadPan (emptyPan true s p) p) s
  let pans : AMap Pan := s.pans.map (fun p => (p.1, { p.2 with power := .awake, idleSince := now s }))
  let s := { s with pans := pans, meridian := { s.meridian with domains := [], due := [] } }
  (List.range 16).foldl startSupervisor (rebuildPools s)

/-- A return from STANDBY; a module that no rank keeps command-ready has no traffic to return to (R298). -/
def leaveStandby (s : State) (x : OpState) (acc : Option Nat) : State :=
  let s := if s.power.phase == .trafficReady then returnTraffic s else s
  (List.range 64).foldl light (endTransition s x acc)

/-- A wake by a timer or by GPIO[7] returns to the state in force before STANDBY (R481). -/
def wakeUp (s : State) : State := finish (leaveStandby s s.power.before none)

/-- Whether the module rests in STANDBY. -/
def inStandby (s : State) : Bool := legendUp s && s.power.state == .standby && s.power.transition.isNone

/-- STANDBY_WAKE_GPIO (R480): a falling edge on GPIO[7]. -/
def execStandbyWakeGpio (s : State) : Host.Outcome State Fault Refusal :=
  .next (if inStandby s && bit s.power.pstate 3 then wakeUp s else s)

/-- STANDBY_WAKE_TIMER (R480). -/
def execStandbyWakeTimer (s : State) : Host.Outcome State Fault Refusal :=
  .next (
    let ms := fld s.power.pstate 4 24
    if inStandby s && ms != 0 && decide (now s ≥ s.power.standbyAt + ms * 1000000) then wakeUp s else s)

/-! ### Commands -/

/-- The state that a code names (R479). -/
def stateOf (n : Nat) : OpState :=
  match n with
  | 0 => .run
  | 1 => .doze
  | 2 => .nap
  | 3 => .standby
  | _ => .off

/-- A transition ordered by command (R481). The order is its commit point (assumption 46). -/
def order (s : State) (k : Call) (record : BitVec 64) : State × Ending :=
  let x := stateOf (fld record 0 3)
  let s := s.setPower { s.power with pstate := record }
  if x == .standby && s.power.state == .standby then okDone s
  else if x == .off && s.power.state == .standby then
    (closeEpoch (commitEntry s k.acc) { target := .off, acc := some k.acc, since := now s, grace := true, railsAt := none }, .later)
  else if x == .standby || x == .off then
    let s := s.setPower { s.power with before := s.power.state }
    (orderStandby (commitEntry s k.acc) x (some k.acc), .later)
  else if s.power.state == .standby then (leaveStandby s x (some k.acc), .later)
  else (endTransition (wakeDeeper s x) x (some k.acc), .later)

/-- POWER_STATE_SET (R298, R479–R482): it waits for a transition under way and for the traffic domains to be powered, which they
never are where no rank has trained. -/
def execPowerStateSet (c : CmdRef) (record : BitVec 64) (s : State) : Host.Outcome State Fault Refusal :=
  .next (
    if s.power.transition.isSome || (s.power.phase == .commandReady && !s.dram.noRank) then s
    else finish (runCommand s c 0x0103 (fun k s =>
      unlessBad s (reservedBad record [(28, 36)] 0 ++ [(decide (fld record 0 3 > 4), badField 0x0300 0 0)]) (order s k record))))

/-- POWER_STATUS (R480; assumption 26): PSTATE, the state in force, and the target of a transition or 0xFF. -/
def execPowerStatus (c : CmdRef) (s : State) : Host.Outcome State Fault Refusal :=
  .next (runCommand s c 0x0104 (fun _ s =>
    let target := match s.power.transition with | none => 0xFF | some t => t.target.code
    okRead s (beBytes 8 s.power.pstate.toNat ++ packBytes [(1, s.power.state.code), (1, target)])))

end Sys2Proof.Machine
end

