-- ==== Sys2Proof/Machine/Device.lean ====
section
/-! DEFINITION. Device information, the device records, the tamper inputs, the reports and the time: area 0x01 but for
operating states, restart and zeroize (R2, R11, R15, R119, R163, R170, R207, R342, R367, R404, R409, R487, R488). -/

namespace Sys2Proof.Machine

/-- The stamp of the command protocol that the running LGD image provides (R375); zeros where none runs. -/
def protocolStamp (t : Trust) : Nat × Nat × Nat :=
  (((t.runningImages.filter (fun i => i.kind == 3)).map (·.provides)).flatten.find? (fun p => p.1 == 8)).getD (0, 0, 0)

/-- DEVICE_INFO (R2, R15, R58, R298, R375, R510; assumption 26): ordering code, serial, stepping, epoch, base address, the stamp
of the command protocol and the state flags. -/
def execDeviceInfo (c : CmdRef) (s : State) : Host.Outcome State Fault Refusal :=
  .next (runCommand s c 0x0100 (fun _ s =>
    let p := protocolStamp s.trust
    let flags := b2n s.power.skipped + 2 * b2n s.power.saturated + 4 * b2n s.dram.noRank + 8 * b2n s.contain.hold
    okRead s (orderingCode s ++ beBytes 8 s.ident.serial.toNat ++ steppingCode s ++
      packBytes [(4, s.power.epoch), (6, s.ident.baseAddress.toNat), (2, p.1), (1, p.2.1), (1, p.2.2), (1, flags)])))

/-! ### The records -/

/-- What is wrong with the selector of a device record (R385, R409): its id, then its index. -/
def selectorBad (id index : Nat) : List (Bool × Status) :=
  let n := match id with | 2 => 16 | 3 => 480 | 4 => 32 | _ => 1
  [(id == 0 || decide (id > 6), badField 0x0300 0 48), (decide (index ≥ n), badField 0x0300 0 0)]

/-- Bytes 2–3 of the selector of a device record are reserved (R385, R409). -/
def selectorReserved (e : Entry) : List (Bool × Status) := [(be16At e.payload 2 != 0, badField 0x0100 0 32)]

/-- A field of a record must lie in a range (R391). -/
def rangeBad {n : Nat} (v : BitVec n) (offset lo width least most : Nat) : Bool × Status :=
  (decide (fld v lo width < least) || decide (fld v lo width > most), badField 0x0300 offset lo)

/-- What is wrong with a MERIDIAN record (R10, R119). -/
def meridianBad (v : BitVec 128) : List (Bool × Status) :=
  reservedBad v [(3, 1), (22, 2), (56, 8), (71, 1), (85, 43)] 8 ++
  [rangeBad v 8 1 2 0 2, rangeBad v 8 4 4 1 15, rangeBad v 8 8 14 100 10000, rangeBad v 8 24 16 (fld v 8 14) 50000,
   rangeBad v 8 40 16 (fld v 24 16) 50000, rangeBad v 8 64 7 50 100, rangeBad v 8 72 12 16 4095]

/-- The express path goes on when a watch Pan that serves packets is named (R508). -/
def resumeExpress (s : State) : State :=
  if s.meridian.suspended && panServes s (watchPan s) then
    raiseDev (s.setMeridian { s.meridian with suspended := false }) 0x0E2 2 0
  else s

/-- The watch Pan is woken from a sleep that WATCH_SLEEP does not allow (R24). -/
def keepWatch (s : State) : State :=
  let deep := match (s.pan (watchPan s)).power with | .clockGated => 1 | .powerGated => 2 | _ => 0
  if expressEn s && decide (deep > watchSleep s) then wakePan s (watchPan s) else s

/-- MERIDIAN written (R119): no change of WATCH_PAN or EXPRESS_EN while an express context is in use. -/
def writeMeridian (s : State) (v : BitVec 128) : State × Ending :=
  let moves := bit v 0 != expressEn s || fld v 4 4 != watchPan s
  unlessBad s (meridianBad v ++ [(moves && s.meridian.ctxs.any (fun c => c.2.express), plain 0x0502 false)])
    (let s := s.setMeridian { s.meridian with cfg := v }
     okDone (keepWatch (if moves then resumeExpress s else s)))

/-- SCHED written (R207). -/
def writeSched (s : State) (pan : Nat) (v : BitVec 128) : State × Ending :=
  unlessBad s (reservedBad v [(23, 1), (58, 6), (77, 3), (96, 32)] 8 ++
    [rangeBad v 8 0 20 250 1000000, rangeBad v 8 20 3 0 6, rangeBad v 8 40 16 10 10000, rangeBad v 8 56 2 0 2,
     rangeBad v 8 84 4 (fld v 80 4) 15])
    (okDone (s.setPan pan { s.pan pan with sched := v }))

/-- PE_ISSUE written (R163): on the watch Pan it is held while express is enabled. -/
def writeIssue (s : State) (index : Nat) (v : BitVec 128) : State × Ending :=
  let pan := index / 30
  let held := expressEn s && pan == watchPan s
  unlessBad s (reservedBad v [(4, 60)] 8 ++ [(held && fld v 0 4 != 1, failWith 0x0503 3 index)])
    (okDone (s.setPan pan { s.pan pan with peIssue := AMap.put (s.pan pan).peIssue (index % 30) (v.truncate 64) }))

/-- CC_MODE written (R17, R170, R203): refused for CC 30 of every Pan and for a CC that runs Legend; applied once both
threads of the CC are between tasks. -/
def writeCcMode (s : State) (index : Nat) (v : BitVec 128) : State × Ending :=
  let pan := index / 2
  let core := 30 + index % 2
  let barred := core == 30 || (pan == 0 && bitsOf s.legend.ccAssign 1 1 == 1)
  unlessBad s (reservedBad v [(1, 63)] 8 ++ [(bit v 0 && barred, failWith 0x0503 3 index)])
    (okDone (applyCcMode (s.setPan pan { s.pan pan with ccPending := AMap.put (s.pan pan).ccPending core (v.truncate 64) }) pan core))

/-- CC_ASSIGN written (R409): in force from the next device restart. -/
def writeAssign (s : State) (v : BitVec 128) : State × Ending :=
  unlessBad s (reservedBad v [(2, 62)] 8 ++ [(fld v 0 2 != 1 && fld v 0 2 != 3, badField 0x0300 8 0)])
    (okDone (s.setLegend { s.legend with ccAssignNext := fld v 0 2 }))

/-- INTAKE as a read returns it: its live fields are measured now (R488). -/
def intakeRecord (p : Power) : BitVec 128 :=
  let live := [(48, 17, p.vin), (65, 17, p.bank), (82, 11, p.pin), (93, 1, b2n p.bankReady), (94, 1, b2n p.refclk), (96, 17, p.vinMin)]
  live.foldl (fun v f => setFld v f.1 f.2.1 (min f.2.2 (2 ^ f.2.1 - 1))) p.intake

/-- The RO fields of INTAKE, with the value each must carry (R409). -/
def intakeLiveBad (p : Power) (v : BitVec 128) : List (Bool × Status) :=
  [(48, 17), (65, 17), (82, 11), (93, 1), (94, 1)].map (fun f => (fld v f.1 f.2 != fld (intakeRecord p) f.1 f.2, badField 0x0300 8 f.1))

/-- INTAKE written (R11, R409, R488): WARN_SEEN stays set while the warning holds (R467). -/
def writeIntake (s : State) (v : BitVec 128) : State × Ending :=
  let n := fld v 32 8
  unlessBad s (reservedBad v [(3, 1), (15, 1), (23, 9), (40, 8), (95, 1), (113, 15)] 8 ++
    [rangeBad v 8 4 11 100 1150, (n != 0 && (decide (n < 10) || decide (n > 36)), badField 0x0300 8 32)] ++ intakeLiveBad s.power v)
    (let p := s.power
     let seen := (fld p.intake 16 7 &&& (127 - fld v 16 7)) ||| b2n p.warning
     let high := decide (p.pin > fld v 4 11)
     let kept := BitVec.ofNat 128 (fld v 0 15 + seen * 2 ^ 16 + n * 2 ^ 32)
     let s := s.setPower { p with intake := kept, powerHigh := high, syncOut := syncOutLevel n (now s) }
     okDone (syncAlert (if high && !p.powerHigh then noteSeen s 19 0x003 else s)))

/-- RECORD_WRITE (R409). -/
def execRecordWrite (c : CmdRef) (id index : Nat) (record : BitVec 128) (s : State) : Host.Outcome State Fault Refusal :=
  .next (runCommand s c 0x0101 (fun k s =>
    let wide := [1, 2, 6].contains id
    unlessBad s (selectorReserved k.entry ++ selectorBad id index ++ [(!wide && fld record 64 64 != 0, failWith 0x0100 0 0)])
      (match id with
        | 1 => writeMeridian s record
        | 2 => writeSched s index record
        | 3 => writeIssue s index record
        | 4 => writeCcMode s index record
        | 5 => writeAssign s record
        | _ => writeIntake s record)))

/-- The bytes of a device record (R409); a CC_MODE or CC_ASSIGN that waits is the one written. -/
def recordBytes (s : State) (id index : Nat) : List Byte :=
  match id with
  | 1 => beBytes 16 s.meridian.cfg.toNat
  | 2 => beBytes 16 (s.pan index).sched.toNat
  | 3 => beBytes 8 (peIssueOf s (256 * (index / 30) + 8 * (index % 30))).toNat
  | 4 =>
    let p := s.pan (index / 2)
    let core := 30 + index % 2
    beBytes 8 (AMap.at p.ccPending core (AMap.at p.ccMode core 0)).toNat
  | 5 => beBytes 8 s.legend.ccAssignNext
  | _ => beBytes 16 (intakeRecord s.power).toNat

/-- RECORD_READ (R11, R409, R488): a read of INTAKE starts VIN_MIN_MV afresh. -/
def execRecordRead (c : CmdRef) (id index : Nat) (s : State) : Host.Outcome State Fault Refusal :=
  .next (runCommand s c 0x0102 (fun k s =>
    unlessBad s (selectorReserved k.entry ++ selectorBad id index)
      (okRead (if id == 6 then s.setPower { s.power with vinMin := s.power.vin } else s) (recordBytes s id index))))

/-! ### Tamper inputs -/

/-- TAMPER_ARM (R366, R367): `input` 0 is TAMPER_A and 1 TAMPER_B; `high` is the input's level. -/
def execTamperArm (c : CmdRef) (input : Nat) (arm high : Bool) (s : State) : Host.Outcome State Fault Refusal :=
  .next (runCommand s c 0x0107 (fun _ s =>
    unlessBad s [(decide (input > 1), badOpen 0x0300 0x0107 0), (arm && high, plain 0x0208 false)]
      (let old := AMap.at s.trust.tamperArmed input false
       let s := s.setTrust { s.trust with tamperArmed := AMap.put s.trust.tamperArmed input arm }
       okDone (if old == arm then s else raiseDev s 0x404 1 (dataBytes 2 (256 * input + b2n arm))))))

/-! ### Reports -/

/-- The bytes of a trip record (R368; assumption 26). -/
def tripBytes (t : Option TripRec) : List Byte :=
  match t with
  | none => packBytes [(1, 0)]
  | some t => packBytes [(1, t.cause), (1, b2n t.second)] ++ stampBytes t.time ++
      beBytes 2 t.counts.length ++ (t.counts.map (fun x => packBytes [(2, x.1), (4, x.2)])).flatten

/-- A part of a journal entry that a report knows (R342). -/
def knownPart (r : Report) (i : Nat) : Option JournalEntry := if maskHas r.known i then r.entry else none

/-- The commands of a report that an owner may read: each with its one status, and the journal's own records
(R342, R404). -/
def endedBytes (r : Report) (o : Nat) : List Byte :=
  let mine := if maskHas r.known 1 || r.restart then r.ended.filter (fun x => x.1 == o) else []
  let recs : List CmdRec := match knownPart r 1 with | none => [] | some e => e.cmds.filter (fun c => c.tenant == o)
  beBytes 4 mine.length ++ (mine.map (fun x => packBytes [(4, x.2.1), (4, x.2.2.1)] ++ statusBytes x.2.2.2)).flatten ++
    beBytes 4 recs.length ++ (recs.map cmdRecBytes).flatten

/-- The operator's part of a report (R15, R342, R368, R404, R468; assumption 26). -/
def operatorPart (r : Report) : List Byte :=
  let head := match knownPart r 0 with
    | none => List.replicate 64 0
    | some e => journalHead e
  let counts := match knownPart r 2 with
    | none => [0]
    | some e => (1 : Byte) :: journalPackets e
  let rings := match knownPart r 3 with
    | none => [0]
    | some e => (1 : Byte) :: journalRings e
  packBytes [(1, b2n r.restart), (1, r.cause), (1, r.outcome), (1, b2n r.skip.isSome), (4, r.skip.getD 0), (1, r.known), (4, r.hotSwap), (4, r.torn.1), (4, r.torn.2)] ++
    head ++ counts ++ rings ++ tripBytes r.trip ++ endedBytes r operatorId

/-- A tenant's part of a report: its own commands and its own packet count (R342). -/
def tenantPart (r : Report) (o : Nat) : List Byte :=
  let packets := match knownPart r 2 with | none => 0 | some e => AMap.at e.packets o 0
  packBytes [(1, b2n r.restart), (1, r.cause), (1, r.outcome), (1, r.known), (4, packets)] ++ endedBytes r o

/-- Whether a report has a part for a tenant (R342). -/
def hasPart (r : Report) (o : Nat) : Bool :=
  r.ended.any (fun x => x.1 == o) || (match r.entry with | none => false | some e => AMap.at e.packets o 0 != 0)

/-- Tenants whose part of a report is still to be read: 16 later entries replace it (R342). -/
def partWaits (r : Report) : Bool :=
  decide (r.later < 16) && (List.range 512).any (fun o => hasPart r o && !r.readBy.contains o)

/-- Reports that the operator has acknowledged and every tenant concerned has read are given up (R342). -/
def dropReports (s : State) : State :=
  s.setLegend { s.legend with reports := s.legend.reports.filter (fun r => !r.readBy.contains operatorId || partWaits r) }

/-- An owner has read or acknowledged every report. -/
def markReports (s : State) (o : Nat) : State :=
  let mark (r : Report) : Report := if r.readBy.contains o then r else { r with readBy := o :: r.readBy }
  dropReports (s.setLegend { s.legend with reports := s.legend.reports.map mark })

/-- REPORT_READ (R342, R404): the caller's part of each report kept, the newest first; a tenant's part is read once. -/
def execReportRead (c : CmdRef) (s : State) : Host.Outcome State Fault Refusal :=
  .next (runCommand s c 0x0108 (fun k s =>
    let open_ := s.legend.reports.filter (fun r => !r.readBy.contains k.owner && (k.isOp || decide (r.later < 16)))
    let parts := open_.map (fun r => if k.isOp then operatorPart r else tenantPart r k.owner)
    okRead (if k.isOp then s else markReports s k.owner) ((beBytes 2 open_.length ++ parts.flatten).take 65496)))

/-- REPORT_ACK (R342). -/
def execReportAck (c : CmdRef) (s : State) : Host.Outcome State Fault Refusal :=
  .next (runCommand s c 0x0109 (fun _ s => okDone (markReports s operatorId)))

/-- TIME_READ (R487; assumption 26): the time, the latest latch of SYNC_IN and its count. -/
def execTimeRead (c : CmdRef) (s : State) : Host.Outcome State Fault Refusal :=
  .next (runCommand s c 0x010A (fun _ s =>
    okRead s (stampBytes (stamp s) ++ stampBytes s.power.syncLatch ++ beBytes 8 s.power.syncCount)))

end Sys2Proof.Machine
end

