-- ==== Sys2Proof/Machine/Integer.lean ====
section
/-! DEFINITION. The integer instructions of Graticule: registers and immediates, shifts, fields, multiply, divide (R139, R142). -/

namespace Sys2Proof.Machine

/-- `ADD` (R139). -/
def execAdd (t : Nat) (a b c : BitVec 5) (s : State) : Host.Outcome State Fault Refusal := alu3 t a b c s (· + ·)
/-- `SUB` (R139). -/
def execSub (t : Nat) (a b c : BitVec 5) (s : State) : Host.Outcome State Fault Refusal := alu3 t a b c s (· - ·)
/-- `ADDT`: OVERFLOW when the signed sum does not fit (R142). -/
def execAddt (t : Nat) (a b c : BitVec 5) (s : State) : Host.Outcome State Fault Refusal := trap3 t a b c s 1 (· + ·)
/-- `SUBT` (R142). -/
def execSubt (t : Nat) (a b c : BitVec 5) (s : State) : Host.Outcome State Fault Refusal := trap3 t a b c s 1 (· - ·)
/-- `NEG`: sets OV for −2^63 (R142). -/
def execNeg (t : Nat) (a b : BitVec 5) (s : State) : Host.Outcome State Fault Refusal :=
  issue t true 0 [b] 1 s (fun s x => .next (writeReg s t a (negResult (x.reg b)).1 1 (negResult (x.reg b)).2))
/-- `NEGT`: OVERFLOW for −2^63 (R142). -/
def execNegt (t : Nat) (a b : BitVec 5) (s : State) : Host.Outcome State Fault Refusal :=
  issue t true 0 [b] 1 s (fun s x =>
    if x.reg b = minWord then .trap 0x09 (x.reg b) else .next (writeReg s t a (-(x.reg b)) 1 0))
/-- `AND` (R139). -/
def execAnd (t : Nat) (a b c : BitVec 5) (s : State) : Host.Outcome State Fault Refusal := alu3 t a b c s (· &&& ·)
/-- `OR` (R139). -/
def execOr (t : Nat) (a b c : BitVec 5) (s : State) : Host.Outcome State Fault Refusal := alu3 t a b c s (· ||| ·)
/-- `XOR` (R139). -/
def execXor (t : Nat) (a b c : BitVec 5) (s : State) : Host.Outcome State Fault Refusal := alu3 t a b c s (· ^^^ ·)
/-- `ANDN`: b AND NOT c (R139). -/
def execAndn (t : Nat) (a b c : BitVec 5) (s : State) : Host.Outcome State Fault Refusal := alu3 t a b c s (fun b c => b &&& ~~~c)

/-- A truth value as a word. -/
def truth (b : Bool) : Word := if b then 1 else 0

/-- `SLT` (R139). -/
def execSlt (t : Nat) (a b c : BitVec 5) (s : State) : Host.Outcome State Fault Refusal := alu3 t a b c s (fun b c => truth (b.slt c))
/-- `SLTU` (R139). -/
def execSltu (t : Nat) (a b c : BitVec 5) (s : State) : Host.Outcome State Fault Refusal := alu3 t a b c s (fun b c => truth (b.ult c))
/-- `SEQ` (R139). -/
def execSeq (t : Nat) (a b c : BitVec 5) (s : State) : Host.Outcome State Fault Refusal := alu3 t a b c s (fun b c => truth (b == c))
/-- `MIN`, signed (R139). -/
def execMin (t : Nat) (a b c : BitVec 5) (s : State) : Host.Outcome State Fault Refusal := alu3 t a b c s (fun b c => if b.slt c then b else c)
/-- `MAX`, signed (R139). -/
def execMax (t : Nat) (a b c : BitVec 5) (s : State) : Host.Outcome State Fault Refusal := alu3 t a b c s (fun b c => if b.slt c then c else b)
/-- `MINU` (R139). -/
def execMinu (t : Nat) (a b c : BitVec 5) (s : State) : Host.Outcome State Fault Refusal := alu3 t a b c s (fun b c => if b.ult c then b else c)
/-- `MAXU` (R139). -/
def execMaxu (t : Nat) (a b c : BitVec 5) (s : State) : Host.Outcome State Fault Refusal := alu3 t a b c s (fun b c => if b.ult c then c else b)

/-- A shift left by an unsigned amount: 0 from 64 on (R142). -/
def shlWord (b : Word) (n : Nat) : Word := if n ≥ 64 then 0 else b <<< n
/-- A logical shift right: 0 from 64 on (R142). -/
def shrWord (b : Word) (n : Nat) : Word := if n ≥ 64 then 0 else b >>> n
/-- An arithmetic shift right: copies of the sign from 64 on (R142). -/
def sarWord (b : Word) (n : Nat) : Word := b.sshiftRight (min n 63)

/-- `SHL` (R142). -/
def execShl (t : Nat) (a b c : BitVec 5) (s : State) : Host.Outcome State Fault Refusal := alu3 t a b c s (fun b c => shlWord b c.toNat)
/-- `SHR` (R142). -/
def execShr (t : Nat) (a b c : BitVec 5) (s : State) : Host.Outcome State Fault Refusal := alu3 t a b c s (fun b c => shrWord b c.toNat)
/-- `SAR` (R142). -/
def execSar (t : Nat) (a b c : BitVec 5) (s : State) : Host.Outcome State Fault Refusal := alu3 t a b c s (fun b c => sarWord b c.toNat)
/-- `ROL`: by c mod 64 (R142). -/
def execRol (t : Nat) (a b c : BitVec 5) (s : State) : Host.Outcome State Fault Refusal := alu3 t a b c s (fun b c => b.rotateLeft (c.toNat % 64))
/-- `ROR` (R142). -/
def execRor (t : Nat) (a b c : BitVec 5) (s : State) : Host.Outcome State Fault Refusal := alu3 t a b c s (fun b c => b.rotateRight (c.toNat % 64))

/-- A conditional move: it reads its destination, which stays where the condition fails (R139). -/
def condMove (t : Nat) (a b c : BitVec 5) (onZero : Bool) (s : State) : Host.Outcome State Fault Refusal :=
  issue t true 0 [a, b, c] 1 s (fun s x =>
    if (x.reg c == 0) == onZero then .next (writeReg s t a (x.reg b) 1 0) else .next s)
/-- `CMOVZ` (R139). -/
def execCmovz (t : Nat) (a b c : BitVec 5) (s : State) : Host.Outcome State Fault Refusal := condMove t a b c true s
/-- `CMOVN` (R139). -/
def execCmovn (t : Nat) (a b c : BitVec 5) (s : State) : Host.Outcome State Fault Refusal := condMove t a b c false s

/-- Leading zeros of a word: of 0 it is 64 (R139). -/
def leadingZeros (b : Word) : Nat := ((List.range 64).find? (fun i => b.getLsbD (63 - i))).getD 64
/-- Trailing zeros of a word. -/
def trailingZeros (b : Word) : Nat := ((List.range 64).find? (fun i => b.getLsbD i)).getD 64
/-- Ones in a word. -/
def onesOf (b : Word) : Nat := ((List.range 64).filter (fun i => b.getLsbD i)).length
/-- The low `n` bytes of a word reversed, zero-extended (R139). -/
def swapBytes (n : Nat) (b : Word) : Word := BitVec.ofNat 64 (leNat (leBytes n b.toNat).reverse)

/-- `CLZ` (R139). -/
def execClz (t : Nat) (a b : BitVec 5) (s : State) : Host.Outcome State Fault Refusal := alu t a [b] s (fun x => BitVec.ofNat 64 (leadingZeros (x.reg b)))
/-- `CTZ` (R139). -/
def execCtz (t : Nat) (a b : BitVec 5) (s : State) : Host.Outcome State Fault Refusal := alu t a [b] s (fun x => BitVec.ofNat 64 (trailingZeros (x.reg b)))
/-- `POPC` (R139). -/
def execPopc (t : Nat) (a b : BitVec 5) (s : State) : Host.Outcome State Fault Refusal := alu t a [b] s (fun x => BitVec.ofNat 64 (onesOf (x.reg b)))
/-- `BSWP16` (R139). -/
def execBswp16 (t : Nat) (a b : BitVec 5) (s : State) : Host.Outcome State Fault Refusal := alu t a [b] s (fun x => swapBytes 2 (x.reg b))
/-- `BSWP32` (R139). -/
def execBswp32 (t : Nat) (a b : BitVec 5) (s : State) : Host.Outcome State Fault Refusal := alu t a [b] s (fun x => swapBytes 4 (x.reg b))
/-- `BSWP64` (R139). -/
def execBswp64 (t : Nat) (a b : BitVec 5) (s : State) : Host.Outcome State Fault Refusal := alu t a [b] s (fun x => swapBytes 8 (x.reg b))

/-- An instruction that multiplies or divides: result, sticky bits, distance. -/
def longOp (t : Nat) (a b c : BitVec 5) (s : State) (distance : Nat) (f : Word → Word → Word × Nat) :
    Host.Outcome State Fault Refusal :=
  issue t true 0 [b, c] 1 s (fun s x => .next (writeReg s t a (f (x.reg b) (x.reg c)).1 distance (f (x.reg b) (x.reg c)).2))
/-- Distance of the divider: 18 on a PE, 12 on a CC (R139). -/
def divDistance (t : Nat) : Nat := if onCc t then 12 else 18
/-- High 64 bits of a signed product. -/
def mulHigh (b c : Word) : Word := BitVec.ofInt 64 (b.toInt * c.toInt / 2 ^ 64)
/-- High 64 bits of an unsigned product. -/
def mulHighU (b c : Word) : Word := BitVec.ofNat 64 (b.toNat * c.toNat / 2 ^ 64)

/-- `MUL` (R139). -/
def execMul (t : Nat) (a b c : BitVec 5) (s : State) : Host.Outcome State Fault Refusal := longOp t a b c s 3 (fun b c => (b * c, 0))
/-- `MULH` (R139). -/
def execMulh (t : Nat) (a b c : BitVec 5) (s : State) : Host.Outcome State Fault Refusal := longOp t a b c s 3 (fun b c => (mulHigh b c, 0))
/-- `MULHU` (R139). -/
def execMulhu (t : Nat) (a b c : BitVec 5) (s : State) : Host.Outcome State Fault Refusal := longOp t a b c s 3 (fun b c => (mulHighU b c, 0))
/-- `MULT`: OVERFLOW when the signed product does not fit (R142). -/
def execMult (t : Nat) (a b c : BitVec 5) (s : State) : Host.Outcome State Fault Refusal := trap3 t a b c s 3 (· * ·)
/-- `DIV` (R142). -/
def execDiv (t : Nat) (a b c : BitVec 5) (s : State) : Host.Outcome State Fault Refusal := longOp t a b c s (divDistance t) divResult
/-- `REM` (R142). -/
def execRem (t : Nat) (a b c : BitVec 5) (s : State) : Host.Outcome State Fault Refusal := longOp t a b c s (divDistance t) remResult
/-- `DIVU` (R142). -/
def execDivu (t : Nat) (a b c : BitVec 5) (s : State) : Host.Outcome State Fault Refusal := longOp t a b c s (divDistance t) divuResult
/-- `REMU` (R142). -/
def execRemu (t : Nat) (a b c : BitVec 5) (s : State) : Host.Outcome State Fault Refusal := longOp t a b c s (divDistance t) remuResult
/-- `DIVT`: DIV_ZERO, and OVERFLOW for −2^63 by −1 (R142). -/
def execDivt (t : Nat) (a b c : BitVec 5) (s : State) : Host.Outcome State Fault Refusal :=
  issue t true 0 [b, c] 1 s (fun s x =>
    if x.reg c = 0 then .trap 0x0A (x.reg b)
    else if x.reg b = minWord ∧ x.reg c = -1 then .trap 0x09 (x.reg b)
    else .next (writeReg s t a (divResult (x.reg b) (x.reg c)).1 (divDistance t) 0))
/-- `REMT`: DIV_ZERO (R142). -/
def execRemt (t : Nat) (a b c : BitVec 5) (s : State) : Host.Outcome State Fault Refusal :=
  issue t true 0 [b, c] 1 s (fun s x =>
    if x.reg c = 0 then .trap 0x0A (x.reg b)
    else .next (writeReg s t a (remResult (x.reg b) (x.reg c)).1 (divDistance t) 0))

/-- A register-immediate instruction of distance 1. -/
def aluI (t : Nat) (a b : BitVec 5) (imm : Word) (s : State) (f : Word → Word → Word) : Host.Outcome State Fault Refusal :=
  alu t a [b] s (fun x => f (x.reg b) imm)

/-- `ADDI` (R139). -/
def execAddi (t : Nat) (a b : BitVec 5) (imm : BitVec 16) (s : State) : Host.Outcome State Fault Refusal := aluI t a b (sext imm) s (· + ·)
/-- `ADDTI`: OVERFLOW when the signed sum does not fit (R142). -/
def execAddti (t : Nat) (a b : BitVec 5) (imm : BitVec 16) (s : State) : Host.Outcome State Fault Refusal :=
  issue t true 0 [b] 1 s (fun s x =>
    let v := (x.reg b).toInt + imm.toInt
    if fitsSigned v then .next (writeReg s t a (BitVec.ofInt 64 v) 1 0) else .trap 0x09 (x.reg b))
/-- `ANDI` (R139). -/
def execAndi (t : Nat) (a b : BitVec 5) (imm : BitVec 16) (s : State) : Host.Outcome State Fault Refusal := aluI t a b (zext imm) s (· &&& ·)
/-- `ORI` (R139). -/
def execOri (t : Nat) (a b : BitVec 5) (imm : BitVec 16) (s : State) : Host.Outcome State Fault Refusal := aluI t a b (zext imm) s (· ||| ·)
/-- `XORI` (R139). -/
def execXori (t : Nat) (a b : BitVec 5) (imm : BitVec 16) (s : State) : Host.Outcome State Fault Refusal := aluI t a b (zext imm) s (· ^^^ ·)
/-- `SLTI` (R139). -/
def execSlti (t : Nat) (a b : BitVec 5) (imm : BitVec 16) (s : State) : Host.Outcome State Fault Refusal := aluI t a b (sext imm) s (fun b i => truth (b.slt i))
/-- `SLTUI` (R139). -/
def execSltui (t : Nat) (a b : BitVec 5) (imm : BitVec 16) (s : State) : Host.Outcome State Fault Refusal := aluI t a b (sext imm) s (fun b i => truth (b.ult i))

/-- A word with its quarter `q` replaced by an immediate (R139). -/
def setQuarter (q : Nat) (b : Word) (imm : BitVec 16) : Word := setFld b (16 * q) 16 imm.toNat
/-- `SETQ0` (R139). -/
def execSetq0 (t : Nat) (a b : BitVec 5) (imm : BitVec 16) (s : State) : Host.Outcome State Fault Refusal := alu t a [b] s (fun x => setQuarter 0 (x.reg b) imm)
/-- `SETQ1` (R139). -/
def execSetq1 (t : Nat) (a b : BitVec 5) (imm : BitVec 16) (s : State) : Host.Outcome State Fault Refusal := alu t a [b] s (fun x => setQuarter 1 (x.reg b) imm)
/-- `SETQ2` (R139). -/
def execSetq2 (t : Nat) (a b : BitVec 5) (imm : BitVec 16) (s : State) : Host.Outcome State Fault Refusal := alu t a [b] s (fun x => setQuarter 2 (x.reg b) imm)
/-- `SETQ3` (R139). -/
def execSetq3 (t : Nat) (a b : BitVec 5) (imm : BitVec 16) (s : State) : Host.Outcome State Fault Refusal := alu t a [b] s (fun x => setQuarter 3 (x.reg b) imm)

/-- `SHLI` (R139). -/
def execShli (t : Nat) (a b : BitVec 5) (amount : BitVec 6) (s : State) : Host.Outcome State Fault Refusal := alu t a [b] s (fun x => shlWord (x.reg b) amount.toNat)
/-- `SHRI` (R139). -/
def execShri (t : Nat) (a b : BitVec 5) (amount : BitVec 6) (s : State) : Host.Outcome State Fault Refusal := alu t a [b] s (fun x => shrWord (x.reg b) amount.toNat)
/-- `SARI` (R139). -/
def execSari (t : Nat) (a b : BitVec 5) (amount : BitVec 6) (s : State) : Host.Outcome State Fault Refusal := alu t a [b] s (fun x => sarWord (x.reg b) amount.toNat)
/-- `ROLI` (R139). -/
def execRoli (t : Nat) (a b : BitVec 5) (amount : BitVec 6) (s : State) : Host.Outcome State Fault Refusal := alu t a [b] s (fun x => (x.reg b).rotateLeft amount.toNat)

/-- A field of a word at a position, of length `len` + 1, zero-extended; bits above 63 are 0 (R139, R142). -/
def extractField (b : Word) (pos len : BitVec 6) : Nat := b.toNat / 2 ^ pos.toNat % 2 ^ (len.toNat + 1)
/-- The same field sign-extended: missing high bits are copies of bit 63 (R142). -/
def extractSigned (b : Word) (pos len : BitVec 6) : Word :=
  BitVec.ofInt 64 (signedOf (len.toNat + 1) ((b.sshiftRight pos.toNat).toNat))
/-- A word with a field replaced by the low bits of another; bits that would land above bit 63 are dropped (R139, R142). -/
def insertField (a b : Word) (pos len : BitVec 6) : Word :=
  let mask : Word := BitVec.ofNat 64 ((2 ^ (len.toNat + 1) - 1) * 2 ^ pos.toNat)
  (a &&& ~~~mask) ||| ((b <<< pos.toNat) &&& mask)

/-- `EXTI` (R142). -/
def execExti (t : Nat) (a b : BitVec 5) (pos len : BitVec 6) (s : State) : Host.Outcome State Fault Refusal :=
  alu t a [b] s (fun x => BitVec.ofNat 64 (extractField (x.reg b) pos len))
/-- `EXTSI` (R142). -/
def execExtsi (t : Nat) (a b : BitVec 5) (pos len : BitVec 6) (s : State) : Host.Outcome State Fault Refusal :=
  alu t a [b] s (fun x => extractSigned (x.reg b) pos len)
/-- `INSI`: it reads its destination (R142). -/
def execInsi (t : Nat) (a b : BitVec 5) (pos len : BitVec 6) (s : State) : Host.Outcome State Fault Refusal :=
  alu t a [a, b] s (fun x => insertField (x.reg a) (x.reg b) pos len)

/-- A bounds check: BOUND with wA when it fails (R146). -/
def boundCheck (t : Nat) (a : BitVec 5) (srcs : List (BitVec 5)) (s : State) (ok : Thread → Bool) : Host.Outcome State Fault Refusal :=
  issue t true 0 srcs 1 s (fun s x => if ok x then .next s else .trap 0x0B (x.reg a))
/-- `CHK` (R146). -/
def execChk (t : Nat) (a b : BitVec 5) (s : State) : Host.Outcome State Fault Refusal :=
  boundCheck t a [a, b] s (fun x => (x.reg a).ult (x.reg b))
/-- `CHKI` (R146). -/
def execChki (t : Nat) (a : BitVec 5) (imm : BitVec 16) (s : State) : Host.Outcome State Fault Refusal :=
  boundCheck t a [a] s (fun x => (x.reg a).ult (zext imm))
/-- `CHKR` (R146). -/
def execChkr (t : Nat) (a b c : BitVec 5) (s : State) : Host.Outcome State Fault Refusal :=
  boundCheck t a [a, b, c] s (fun x => (x.reg b).ule (x.reg a) && (x.reg a).ult (x.reg c))
/-- `PWCK`: CONTEXT outside a packet task, PKT_BOUND beyond `PKT_LEN` (R146). -/
def execPwck (t : Nat) (a : BitVec 5) (imm : BitVec 16) (s : State) : Host.Outcome State Fault Refusal :=
  issue t true 0 [a] 1 s (fun s x =>
    match x.ctxId.bind s.ctx? with
    | none => .trap 0x15 (BitVec.ofNat 64 (wordI 0x13 a 0 imm.toNat))
    | some c => if (x.reg a).toNat + imm.toNat > c.pktLen then .trap 0x0C (x.reg a) else .next s)

/-- A branch: its delay slot comes next (R140). -/
def branch (t : Nat) (major : Nat) (a : BitVec 5) (off : BitVec 21) (s : State) (taken : Word → Bool) :
    Host.Outcome State Fault Refusal :=
  issue t false (wordB major a off) [a] 1 s (fun s x =>
    .slot s (branchTarget x off) (taken (x.reg a)))
/-- `BAL`, `BR` with a = 0: the link is the branch's address plus 8 (R139, R140). -/
def execBal (t : Nat) (a : BitVec 5) (off : BitVec 21) (s : State) : Host.Outcome State Fault Refusal :=
  issue t false (wordB 0x14 a off) [] 1 s (fun s x =>
    .slot (writeReg s t a (BitVec.ofNat 64 (x.pc + 8)) 1 0) (branchTarget x off) true)
/-- `BEQZ` (R139). -/
def execBeqz (t : Nat) (a : BitVec 5) (off : BitVec 21) (s : State) : Host.Outcome State Fault Refusal := branch t 0x15 a off s (· == 0)
/-- `BNEZ` (R139). -/
def execBnez (t : Nat) (a : BitVec 5) (off : BitVec 21) (s : State) : Host.Outcome State Fault Refusal := branch t 0x16 a off s (· != 0)
/-- `BLTZ` (R139). -/
def execBltz (t : Nat) (a : BitVec 5) (off : BitVec 21) (s : State) : Host.Outcome State Fault Refusal := branch t 0x17 a off s (fun v => v.slt 0)
/-- `BGEZ` (R139). -/
def execBgez (t : Nat) (a : BitVec 5) (off : BitVec 21) (s : State) : Host.Outcome State Fault Refusal := branch t 0x18 a off s (fun v => !v.slt 0)
/-- `BLEZ` (R139). -/
def execBlez (t : Nat) (a : BitVec 5) (off : BitVec 21) (s : State) : Host.Outcome State Fault Refusal := branch t 0x19 a off s (fun v => v.sle 0)
/-- `BGTZ` (R139). -/
def execBgtz (t : Nat) (a : BitVec 5) (off : BitVec 21) (s : State) : Host.Outcome State Fault Refusal := branch t 0x1A a off s (fun v => !v.sle 0)
/-- `JALR`: link in a, target in b (R139, R140). -/
def execJalr (t : Nat) (a b : BitVec 5) (s : State) : Host.Outcome State Fault Refusal :=
  issue t false (wordA 0 a b 0 0x040) [b] 1 s (fun s x =>
    .slot (writeReg s t a (BitVec.ofNat 64 (x.pc + 8)) 1 0) (x.reg b).toNat true)

end Sys2Proof.Machine
end

