-- ==== Sys2Proof/Machine/Zeroize.lean ====
section
/-! DEFINITION. The device zeroize (R366–R368, R370, R511). -/

namespace Sys2Proof.Machine

/-- Contexts in use, per owner. -/
def liveCounts (s : State) : AMap Nat :=
  s.meridian.ctxs.foldl (fun m c => AMap.upd m c.2.desc.tenant 0 (· + 1)) []

/-- Every key erased (R368): Benchmark's, the key tables', the security associations' and those loaded in CP0; every
session ends with its keys (R359). -/
def eraseEveryKey (s : State) : State :=
  let threads : AMap Thread := s.threads.map (fun x => (x.1, { x.2 with cp0 := { x.2.cp0 with key := none } }))
  let chans := s.ports.chans.map (fun c => { c with sas := [] })
  { s with
    threads := threads, ports := { s.ports with chans := chans }, legend := { s.legend with sessions := [] },
    trust := { s.trust with osk := [], omk := [], dmk := none, keys := [], challenge := none } }

/-- Nothing that any owner keeps in DRAM or flash can be read any more (R368), nor, with the device flash key gone, what the
journal and the device's telemetry part hold (R354). -/
def eraseContent (s : State) : State :=
  { s with
    dram := { s.dram with content := [], poison := [], alloc := [] },
    stk := { s.stk with cold := [], promotions := [], rings := [], captures := [], telemetry := [], journal := [], ladders := [] } }

/-- Every logical port goes administratively down (R368). -/
def portsDown (s : State) : State :=
  let lports : AMap LPort := s.ports.lports.map (fun x => (x.1, { x.2 with cfg := setFld x.2.cfg 2 1 0 }))
  (List.range 64).foldl light (s.setPorts { s.ports with lports := lports })

/-- Vault, operator claim and tenant slots erased, and the next VAULT_GEN fuse blown; the seventeenth zeroize finds none
(R355, R368). -/
def eraseOwners (t : Trust) (trip : TripRec) : Trust :=
  { t with
    vault := [], slots := [], transfer := none, tripRecord := some trip, zeroizing := some trip,
    vaultGen := if t.vaultGen < 16 then t.vaultGen + 1 else t.vaultGen, vaultExhausted := t.vaultExhausted || decide (t.vaultGen ≥ 16) }

/-- The traffic that a zeroize ends: every logical port goes down, whatever the state of the module, and every live context fails
with ZEROIZED, counted per owner (R21, R368). -/
def zeroizeTraffic (s : State) : State := failContexts (portsDown (dropWaiting s)) 0x26 (fun _ _ => true)

/-- A device zeroize from a trip (R366, R368): 1 ZEROIZE_N, 2 TAMPER_A, 3 TAMPER_B, 4 an internal sensor, 5 the command.
It supersedes every containment action (R511). A second trip during the sequence is recorded and changes nothing. -/
def zeroize (s : State) (cause : Nat) : State :=
  match s.trust.zeroizing with
  | some t => s.setTrust { s.trust with zeroizing := some { t with second := true }, tripRecord := some { t with second := true } }
  | none =>
    let trip : TripRec := { cause := cause, time := stamp s, counts := liveCounts s, second := false }
    let s := eraseContent (zeroizeTraffic (eraseEveryKey s))
    let s := (s.setContain s.contain.superseded).setPower { s.power with fault := if s.contain.core.isSome then s.contain.hold else s.power.fault }
    finish (s.setTrust (eraseOwners s.trust trip))

/-- A source of R366: the always-on domain watches it in every state except OFF. -/
def trips (s : State) (cause : Nat) : State := if s.power.phase == .off then s else zeroize s cause

/-- ZEROIZE_N_TRIP (R366): low for at least 10 µs. -/
def execZeroizeNTrip (s : State) : Host.Outcome State Fault Refusal := .next (trips s 1)

/-- TAMPER_TRIP (R366, R367): an armed input, 0 TAMPER_A or 1 TAMPER_B, has been high for at least 100 µs. -/
def execTamperTrip (input : Nat) (s : State) : Host.Outcome State Fault Refusal :=
  checked (decide (input < 2)) (if AMap.at s.trust.tamperArmed input false then trips s (2 + input) else s)

/-- INTERNAL_SENSOR_TRIP (R366). -/
def execInternalSensorTrip (s : State) : Host.Outcome State Fault Refusal := .next (trips s 4)

/-- DEVICE_ZEROIZE (R366, R368): its own status is ZEROIZING in the restart report (R404). -/
def execDeviceZeroize (c : CmdRef) (s : State) : Host.Outcome State Fault Refusal :=
  .next (runCommand s c 0x0106 (fun k s => (zeroize (commitEntry s k.acc) 5, .later)))

/-- Status of a command that a device zeroize ends (R404, R370). -/
def zeroizedStatus (_ : Entry) : Status := plain 0x0203 false

/-- ZEROIZE_RESTART (R368): the device restarts into UNCLAIMED; a trip that a power-up found lets the power-up go on. -/
def execZeroizeRestart (s : State) : Host.Outcome State Fault Refusal :=
  .next (
    if s.trust.zeroizing.isNone then s
    else if restarts s then settle (deviceRestart s 3 zeroizedStatus true)
    else if s.power.phase == .starting then settle (goOn (tripDone s))
    else s)

end Sys2Proof.Machine
end

