-- ==== Sys2Proof/Machine/Ladder.lean ====
section
/-! DEFINITION. The containment ladder (R175, R507–R511). An action of level 2 or 3 begins in the step of its trigger and ends
in the step of its end (assumption 47). -/

namespace Sys2Proof.Machine

/-- DATA of a containment event (R507, R511; assumption 26): the trigger, the unit, the number of contexts failed, and the number
of triggers that have joined the action. -/
def actionData (trigger unit failed joined : Nat) : Nat :=
  dataBytes 10 (trigger * 2 ^ 72 + (unit % 256) * 2 ^ 64 + failed % 2 ^ 32 * 2 ^ 32 + joined % 2 ^ 32)

/-- DATA of an action in progress. -/
def Action.data (a : Action) : Nat := actionData a.trigger a.unit a.failed a.joined

/-- A trigger joins an action (R511). -/
def Action.join (a : Action) : Action := { a with joined := a.joined + 1 }

/-- How many of a history's actions count (R507): those within a span of this epoch's run clock. -/
def recent (s : State) (span : Nat) (h : List Stamp) : Nat :=
  (h.filter (fun t => t.epoch == s.power.epoch && decide (now s < t.ns + span))).length

/-- Levels 4 and 5 (R507, R510): a device restart with FAULT_N low until command-ready; the third within 600 s holds the
module with no traffic. -/
def levelFour (s : State) (trigger unit failed : Nat) : State :=
  let h := stamp s :: s.contain.deviceHistory
  let s := settle (raiseDev s 0x504 1 (actionData trigger unit failed 0))
  let third := decide (recent s 600000000000 h ≥ 3)
  let done := actionData trigger unit failed 0
  let marks := (4 + 16 * done) :: (if third && !s.contain.hold then [5 + 16 * done] else [])
  let s := s.setContain { s.contain with deviceHistory := h, hold := s.contain.hold || third }
  let s := s.setTrust { s.trust with bootEvents := s.trust.bootEvents ++ marks }
  let s := deviceRestart s 4 restartedStatus false
  settle (s.setPower { s.power with fault := true })

/-- Every lock that a Pan's threads hold is released, the next waiter granted as at a task's end (R186, R508 step 3). -/
def releasePan (s : State) (pan : Nat) : State :=
  let owners := ((s.dram.locks.filter (fun l => l.held && tidPan l.owner == pan)).map (·.owner)).eraseDups
  owners.foldl (fun s t => releaseLocks s t false) s

/-- A Pan reset (R508 steps 3 and 4): its tasks' threads stop, its locks in DRAM are released, its SRAM is zero. -/
def resetPan (s : State) (pan : Nat) : State := emptyPan false (releasePan (endActivations s pan) pan) pan

/-- The tasks of a Pan return IDLE, with flags 0 and timers started afresh, those that are disabled only where `all` says so
(R508 step 5). -/
def restTasks (all : Bool) (s : State) (pan : Nat) : State :=
  let s := endActivations s pan
  let p := s.pan pan
  let rests (k : PTask) : Bool := all || k.state != .disabled
  let tasks : AMap PTask := p.tasks.map (fun t => (t.1, if rests t.2 then afreshTask t.2 else t.2))
  s.setPan pan { restartTimers p rests with tasks := tasks, ready := [] }

/-- Each persistent task of a Pan tells its owner that it has returned IDLE (R508 step 5). -/
def tellTasks (s : State) (pan : Nat) : State :=
  (s.pan pan).tasks.foldl (fun s t =>
    raise s (0x108 + 16 * pan) (taskTenant t.2) 2 (dataBytes 4 (taskHandle pan t.1 t.2.gen))) s

/-- A Pan's tasks run guarded for 1 s of run clock (R508 step 6). -/
def guardPan (s : State) (pan : Nat) : State :=
  s.setContain { s.contain with guardedUntil := AMap.put s.contain.guardedUntil pan (now s + 1000000000) }

/-! ### Level 3 -/

/-- XOFF released (R509 step 6). -/
def freePort (s : State) (l : Nat) : State := s.setLport l ((List.range 8).foldl LPort.deassertXoff (s.lport l))

/-- Sluice, Meridian, Cote and the event fabric reset (R509 step 4). -/
def resetCore (s : State) : State :=
  let groups : AMap IGroup := s.cote.groups.map (fun g => (g.1, { g.2 with xoff := false }))
  { s with
    meridian := { s.meridian with domains := [], rotate := [], due := [], unwindDue := [], waitFullSeen := false },
    cote := { s.cote with groups := groups, refError := false },
    events := { s.events with holdoffs := [] } }

/-- The Pans at the start of a traffic-core action (R509 step 4): Pan 0 keeps its memory where it did not cause the action. -/
def stopPans (s : State) (pan0 : Bool) : State :=
  let s := if pan0 then resetPan s 0 else restTasks false s 0
  (List.range 15).foldl (fun s i => resetPan s (i + 1)) s

/-- The Pans at its end (R509 step 5): their guarded second, their programs, tasks and supervisors. -/
def returnPans (s : State) (pan0 : Bool) : State :=
  let back := (List.range 16).filter (panServes s)
  let s := back.foldl (fun s p => reloadPan (restTasks (pan0 || p != 0) s p) p) (back.foldl guardPan s)
  let s := (back.filter (fun p => pan0 || p != 0)).foldl startSupervisor s
  resumeExpress (if pan0 then startLegend s else s)

/-- A level-3 action begins (R507, R509 steps 1 to 4): it supersedes the level-2 actions (R511), FAULT_N is low; the third within
600 s escalates. -/
def levelThree (s : State) (trigger unit : Nat) : State :=
  let n := s.meridian.ctxs.length
  let h := stamp s :: s.contain.coreHistory
  let s := raiseDev s 0x503 1 (actionData trigger unit 0 0)
  let s := s.setContain { s.contain with coreHistory := h, pans := [], core := some ⟨trigger, unit, n, 0, false⟩ }
  if recent s 600000000000 h ≥ 3 then levelFour s trigger unit n
  else
    let s := failContexts (dropWaiting s) 0x28 (fun _ _ => true)
    let s := (List.range 64).foldl holdPort ((List.range 64).foldl (drainQueues 0x31) s)
    let s := stopPans (resetCore s) (unit == 0)
    finish (s.setPower { s.power with fault := true })

/-- A level-3 action ends (R509 steps 5 and 6), or fails and escalates without its end event (R507, R511). -/
def endCore (s : State) (a : Action) (ok : Bool) : State :=
  if !ok then levelFour s a.trigger a.unit a.failed
  else
    let s := s.setContain s.contain.superseded
    let s := returnPans (rebuildPools s) (a.unit == 0)
    let s := (List.range 64).foldl freePort s
    finish (raiseDev (s.setPower { s.power with fault := s.contain.hold }) 0x503 3 a.data)

/-! ### Level 2 -/

/-- The express path of a watch Pan is suspended (R508). -/
def suspendExpress (s : State) (pan : Nat) : State :=
  if expressEn s && pan == watchPan s && !s.meridian.suspended then
    raiseDev (s.setMeridian { s.meridian with suspended := true }) 0x0E2 1 0
  else s

/-- A Pan comes back: its guarded second, in which its supervisor starts too, its programs, its tasks (R175, R508 steps 5 and 6). -/
def returnPan (s : State) (pan : Nat) : State :=
  let s := tellTasks (startSupervisor (guardPan (reloadPan (restTasks true s pan) pan) pan) pan) pan
  if pan == watchPan s then resumeExpress s else s

/-- A level-2 action begins (R507, R508 steps 1 to 4); on Pan 0 it escalates. -/
def levelTwo (s : State) (pan trigger : Nat) : State :=
  if pan == 0 then levelThree s 6 0
  else
    let n := (s.meridian.ctxs.filter (fun c => ctxPan c.1 == pan)).length
    let h := stamp s :: AMap.at s.contain.panHistory pan []
    let a : Action := ⟨trigger, pan, n, 0, decide (recent s 60000000000 h ≥ 3)⟩
    let s := s.setContain { s.contain with
      panHistory := AMap.put s.contain.panHistory pan h, pans := AMap.put s.contain.pans pan a }
    let s := raiseDev (raiseDev s 0x502 1 (actionData trigger pan 0 0)) (0x10A + 16 * pan) 1 0
    let s := failContexts (suspendExpress s pan) 0x28 (fun c _ => ctxPan c == pan)
    finish (resetPan s pan)

/-- A level-2 action ends (R508 steps 5 and 6), or fails and escalates; the third on a Pan within 60 s takes the Pan out of
service (R507). -/
def endPan (s : State) (pan : Nat) (a : Action) (ok : Bool) : State :=
  let s := s.setContain { s.contain with pans := AMap.del s.contain.pans pan }
  if !ok then levelThree s 7 pan
  else
    let s :=
      if a.out then raiseDev (s.setContain { s.contain with outOfService := pan :: s.contain.outOfService }) 0x502 2 a.data
      else returnPan s pan
    finish (raiseDev s 0x502 3 a.data)

/-! ### Triggers and ends -/

/-- Whether the traffic core can be in a containment action: the module serves traffic, and no zeroize is under way (R511). -/
def containable (s : State) : Bool := trafficUp s && s.trust.zeroizing.isNone

/-- PAN_CONTAINMENT (R507, R508, R511): trigger 1 a fault of the supervisor, 2 Pan SRAM, 3 a scheduler structure, 4 the lock
unit, 5 a coprocessor. A trigger joins an action of the Pan or of the traffic core, else it begins one; with none the action in
progress ends, complete or failed as `completes` says. -/
def execPanContainment (pan : Nat) (trigger : Option Nat) (completes : Bool) (s : State) : Host.Outcome State Fault Refusal :=
  checked (okPan pan && okTrigger trigger) (
    if !containable s then s
    else match trigger, AMap.find s.contain.pans pan with
      | none, some a => endPan s pan a completes
      | none, none => s
      | some n, action =>
        if s.contain.outOfService.contains pan || (n == 1 && !(s.pan pan).supervisorFaulted) then s
        else match s.contain.core, action with
          | some a, _ => s.setContain { s.contain with core := some a.join }
          | none, some a => s.setContain { s.contain with pans := AMap.put s.contain.pans pan a.join }
          | none, none => levelTwo s pan n)

/-- TRAFFIC_CORE_CONTAINMENT (R291, R507, R509, R511): trigger 1 a REFCOUNT_ERROR that has happened, 2 Meridian, 3 Sluice, 4 Cote,
5 Gazetteer. A trigger joins the action in progress, else it begins one; none ends it. -/
def execTrafficCoreContainment (trigger : Option Nat) (completes : Bool) (s : State) : Host.Outcome State Fault Refusal :=
  checked (okTrigger trigger) (
    if !containable s then s
    else match trigger, s.contain.core with
      | none, some a => endCore s a completes
      | none, none => s
      | some n, action =>
        if n == 1 && !s.cote.refError then s
        else match action with
          | some a => s.setContain { s.contain with core := some a.join }
          | none => levelThree s n 255)

/-- LEGEND_WATCHDOG (R507): Legend has been silent for 1 s to Benchmark's watchdog. -/
def execLegendWatchdog (s : State) : Host.Outcome State Fault Refusal :=
  .next (if legendUp s && s.trust.zeroizing.isNone then levelFour s 2 255 s.meridian.ctxs.length else s)

/-- LEGEND_FAULT (R507): a fault of Legend, or of Benchmark's full core. -/
def execLegendFault (benchmark : Bool) (s : State) : Host.Outcome State Fault Refusal :=
  .next (if (if benchmark then mgmtRuns s else legendUp s) && s.trust.zeroizing.isNone then
    levelFour s (if benchmark then 3 else 1) 255 s.meridian.ctxs.length else s)

/-- GUARDED_PERIOD_END (R508): 1 s after an action, the Pan's later runs are guarded only as their programs ask. -/
def execGuardedPeriodEnd (pan : Nat) (s : State) : Host.Outcome State Fault Refusal :=
  checked (okPan pan) (
    match AMap.find s.contain.guardedUntil pan with
    | none => s
    | some t => if now s < t then s else s.setContain { s.contain with guardedUntil := AMap.del s.contain.guardedUntil pan })

end Sys2Proof.Machine
end

