-- ==== Sys2Proof/Machine/Dispatch.lean ====
section
/-! DEFINITION. The meaning of every command, one arm per row of the table. -/

namespace Sys2Proof.Machine

/-- The effect of a command on everything but the queue. -/
def exec (i : Instr) (s : State) : Host.Outcome State Fault Refusal :=
  match i with
  | .frameReceive lport frame fcs fecOk aligned => Sys2Proof.Machine.execFrameReceive lport frame fcs fecOk aligned s
  | .pauseReceived lport dest len time age => Sys2Proof.Machine.execPauseReceived lport dest len time age s
  | .pfcReceived lport dest len enable times age => Sys2Proof.Machine.execPfcReceived lport dest len enable times age s
  | .pauseExpiry lport pcp => Sys2Proof.Machine.execPauseExpiry lport pcp s
  | .xoffRepeat lport pcp => Sys2Proof.Machine.execXoffRepeat lport pcp s
  | .frameBoundary lport => Sys2Proof.Machine.execFrameBoundary lport s
  | .linkUp lport => Sys2Proof.Machine.execLinkUp lport s
  | .linkDown lport => Sys2Proof.Machine.execLinkDown lport s
  | .opticsEvaluation engine temp lanes fec => Sys2Proof.Machine.execOpticsEvaluation engine temp lanes fec s
  | .laserEnNHigh => Sys2Proof.Machine.execLaserEnNHigh s
  | .laserEnNLow => Sys2Proof.Machine.execLaserEnNLow s
  | .laserLight => Sys2Proof.Machine.execLaserLight s
  | .descriptorIntake => Sys2Proof.Machine.execDescriptorIntake s
  | .panWake pan => Sys2Proof.Machine.execPanWake pan s
  | .panGate pan => Sys2Proof.Machine.execPanGate pan s
  | .taskDispatch tid => Sys2Proof.Machine.execTaskDispatch tid s
  | .expressDispatch => Sys2Proof.Machine.execExpressDispatch s
  | .commit express domain => Sys2Proof.Machine.execCommit express domain s
  | .unwindComplete ctx => Sys2Proof.Machine.execUnwindComplete ctx s
  | .promotionEnd table key => Sys2Proof.Machine.execPromotionEnd table key s
  | .lifetimeExpiry ctx => Sys2Proof.Machine.execLifetimeExpiry ctx s
  | .waitExpired express domain => Sys2Proof.Machine.execWaitExpired express domain s
  | .queueExpired port prio => Sys2Proof.Machine.execQueueExpired port prio s
  | .delayExpiry pan => Sys2Proof.Machine.execDelayExpiry pan s
  | .periodExpiry pan slot => Sys2Proof.Machine.execPeriodExpiry pan slot s
  | .flagApply handle flags => Sys2Proof.Machine.execFlagApply handle flags s
  | .starved pan level pos => Sys2Proof.Machine.execStarved pan level pos s
  | .supervisorTimeout pan => Sys2Proof.Machine.execSupervisorTimeout pan s
  | .supervisorEnd pan held => Sys2Proof.Machine.execSupervisorEnd pan held s
  | .supervisorRearm pan held => Sys2Proof.Machine.execSupervisorRearm pan held s
  | .supervisorDisable pan held => Sys2Proof.Machine.execSupervisorDisable pan held s
  | .channelEntryLand sender receiver => Sys2Proof.Machine.execChannelEntryLand sender receiver s
  | .msgqEntryLand pan queue => Sys2Proof.Machine.execMsgqEntryLand pan queue s
  | .lockGrant place => Sys2Proof.Machine.execLockGrant place s
  | .leaseExpired place => Sys2Proof.Machine.execLeaseExpired place s
  | .memoryAccessComplete tid => Sys2Proof.Machine.execMemoryAccessComplete tid s
  | .coprocessorResult tid unit => Sys2Proof.Machine.execCoprocessorResult tid unit s
  | .searchResult num => Sys2Proof.Machine.execSearchResult num s
  | .searchTimeout num => Sys2Proof.Machine.execSearchTimeout num s
  | .storeBufferDrain tid => Sys2Proof.Machine.execStoreBufferDrain tid s
  | .add t a b c => Sys2Proof.Machine.execAdd t a b c s
  | .sub t a b c => Sys2Proof.Machine.execSub t a b c s
  | .addt t a b c => Sys2Proof.Machine.execAddt t a b c s
  | .subt t a b c => Sys2Proof.Machine.execSubt t a b c s
  | .neg t a b => Sys2Proof.Machine.execNeg t a b s
  | .negt t a b => Sys2Proof.Machine.execNegt t a b s
  | .and t a b c => Sys2Proof.Machine.execAnd t a b c s
  | .or t a b c => Sys2Proof.Machine.execOr t a b c s
  | .xor t a b c => Sys2Proof.Machine.execXor t a b c s
  | .andn t a b c => Sys2Proof.Machine.execAndn t a b c s
  | .slt t a b c => Sys2Proof.Machine.execSlt t a b c s
  | .sltu t a b c => Sys2Proof.Machine.execSltu t a b c s
  | .seq t a b c => Sys2Proof.Machine.execSeq t a b c s
  | .min t a b c => Sys2Proof.Machine.execMin t a b c s
  | .max t a b c => Sys2Proof.Machine.execMax t a b c s
  | .minu t a b c => Sys2Proof.Machine.execMinu t a b c s
  | .maxu t a b c => Sys2Proof.Machine.execMaxu t a b c s
  | .shl t a b c => Sys2Proof.Machine.execShl t a b c s
  | .shr t a b c => Sys2Proof.Machine.execShr t a b c s
  | .sar t a b c => Sys2Proof.Machine.execSar t a b c s
  | .rol t a b c => Sys2Proof.Machine.execRol t a b c s
  | .ror t a b c => Sys2Proof.Machine.execRor t a b c s
  | .cmovz t a b c => Sys2Proof.Machine.execCmovz t a b c s
  | .cmovn t a b c => Sys2Proof.Machine.execCmovn t a b c s
  | .clz t a b => Sys2Proof.Machine.execClz t a b s
  | .ctz t a b => Sys2Proof.Machine.execCtz t a b s
  | .popc t a b => Sys2Proof.Machine.execPopc t a b s
  | .bswp16 t a b => Sys2Proof.Machine.execBswp16 t a b s
  | .bswp32 t a b => Sys2Proof.Machine.execBswp32 t a b s
  | .bswp64 t a b => Sys2Proof.Machine.execBswp64 t a b s
  | .jalr t a b => Sys2Proof.Machine.execJalr t a b s
  | .mul t a b c => Sys2Proof.Machine.execMul t a b c s
  | .mulh t a b c => Sys2Proof.Machine.execMulh t a b c s
  | .mulhu t a b c => Sys2Proof.Machine.execMulhu t a b c s
  | .mult t a b c => Sys2Proof.Machine.execMult t a b c s
  | .div t a b c => Sys2Proof.Machine.execDiv t a b c s
  | .rem t a b c => Sys2Proof.Machine.execRem t a b c s
  | .divu t a b c => Sys2Proof.Machine.execDivu t a b c s
  | .remu t a b c => Sys2Proof.Machine.execRemu t a b c s
  | .divt t a b c => Sys2Proof.Machine.execDivt t a b c s
  | .remt t a b c => Sys2Proof.Machine.execRemt t a b c s
  | .aadd t a b c => Sys2Proof.Machine.execAadd t a b c s
  | .acas t a b c => Sys2Proof.Machine.execAcas t a b c s
  | .aswp t a b c => Sys2Proof.Machine.execAswp t a b c s
  | .egr t a b c => Sys2Proof.Machine.execEgr t a b c s
  | .chk t a b => Sys2Proof.Machine.execChk t a b s
  | .chkr t a b c => Sys2Proof.Machine.execChkr t a b c s
  | .addi t a b imm => Sys2Proof.Machine.execAddi t a b imm s
  | .addti t a b imm => Sys2Proof.Machine.execAddti t a b imm s
  | .andi t a b imm => Sys2Proof.Machine.execAndi t a b imm s
  | .ori t a b imm => Sys2Proof.Machine.execOri t a b imm s
  | .xori t a b imm => Sys2Proof.Machine.execXori t a b imm s
  | .slti t a b imm => Sys2Proof.Machine.execSlti t a b imm s
  | .sltui t a b imm => Sys2Proof.Machine.execSltui t a b imm s
  | .setq0 t a b imm => Sys2Proof.Machine.execSetq0 t a b imm s
  | .setq1 t a b imm => Sys2Proof.Machine.execSetq1 t a b imm s
  | .setq2 t a b imm => Sys2Proof.Machine.execSetq2 t a b imm s
  | .setq3 t a b imm => Sys2Proof.Machine.execSetq3 t a b imm s
  | .shli t a b amount => Sys2Proof.Machine.execShli t a b amount s
  | .shri t a b amount => Sys2Proof.Machine.execShri t a b amount s
  | .sari t a b amount => Sys2Proof.Machine.execSari t a b amount s
  | .roli t a b amount => Sys2Proof.Machine.execRoli t a b amount s
  | .exti t a b pos len => Sys2Proof.Machine.execExti t a b pos len s
  | .extsi t a b pos len => Sys2Proof.Machine.execExtsi t a b pos len s
  | .insi t a b pos len => Sys2Proof.Machine.execInsi t a b pos len s
  | .chki t a imm => Sys2Proof.Machine.execChki t a imm s
  | .pwck t a imm => Sys2Proof.Machine.execPwck t a imm s
  | .bal t a off => Sys2Proof.Machine.execBal t a off s
  | .beqz t a off => Sys2Proof.Machine.execBeqz t a off s
  | .bnez t a off => Sys2Proof.Machine.execBnez t a off s
  | .bltz t a off => Sys2Proof.Machine.execBltz t a off s
  | .bgez t a off => Sys2Proof.Machine.execBgez t a off s
  | .blez t a off => Sys2Proof.Machine.execBlez t a off s
  | .bgtz t a off => Sys2Proof.Machine.execBgtz t a off s
  | .fork t a off => Sys2Proof.Machine.execFork t a off s
  | .ld8 t a b disp => Sys2Proof.Machine.execLd8 t a b disp s
  | .ld8s t a b disp => Sys2Proof.Machine.execLd8s t a b disp s
  | .ld16 t a b disp => Sys2Proof.Machine.execLd16 t a b disp s
  | .ld16s t a b disp => Sys2Proof.Machine.execLd16s t a b disp s
  | .ld32 t a b disp => Sys2Proof.Machine.execLd32 t a b disp s
  | .ld32s t a b disp => Sys2Proof.Machine.execLd32s t a b disp s
  | .ld64 t a b disp => Sys2Proof.Machine.execLd64 t a b disp s
  | .st8 t a b disp => Sys2Proof.Machine.execSt8 t a b disp s
  | .st16 t a b disp => Sys2Proof.Machine.execSt16 t a b disp s
  | .st32 t a b disp => Sys2Proof.Machine.execSt32 t a b disp s
  | .st64 t a b disp => Sys2Proof.Machine.execSt64 t a b disp s
  | .lpw16 t a b disp => Sys2Proof.Machine.execLpw16 t a b disp s
  | .lpw32 t a b disp => Sys2Proof.Machine.execLpw32 t a b disp s
  | .lpw64 t a b disp => Sys2Proof.Machine.execLpw64 t a b disp s
  | .sld t a b table word => Sys2Proof.Machine.execSld t a b table word s
  | .sst t a b table word => Sys2Proof.Machine.execSst t a b table word s
  | .srchSearch t a b chan => Sys2Proof.Machine.execSrchSearch t a b chan s
  | .searchOrLearn t a b chan => Sys2Proof.Machine.execSearchOrLearn t a b chan s
  | .srchDelete t a b chan => Sys2Proof.Machine.execSrchDelete t a b chan s
  | .lka t a b lease => Sys2Proof.Machine.execLka t a b lease s
  | .lkt t a b lease => Sys2Proof.Machine.execLkt t a b lease s
  | .lkr t b => Sys2Proof.Machine.execLkr t b s
  | .chr t a chan => Sys2Proof.Machine.execChr t a chan s
  | .chw t a chan => Sys2Proof.Machine.execChw t a chan s
  | .chp t a chan => Sys2Proof.Machine.execChp t a chan s
  | .csrr t a n => Sys2Proof.Machine.execCsrr t a n s
  | .csrw t a b n => Sys2Proof.Machine.execCsrw t a b n s
  | .csrs t a b n => Sys2Proof.Machine.execCsrs t a b n s
  | .csrc t a b n => Sys2Proof.Machine.execCsrc t a b n s
  | .csync t => Sys2Proof.Machine.execCsync t s
  | .ser t => Sys2Proof.Machine.execSer t s
  | .svc t n => Sys2Proof.Machine.execSvc t n s
  | .sret t => Sys2Proof.Machine.execSret t s
  | .trap t n => Sys2Proof.Machine.execTrap t n s
  | .fence t => Sys2Proof.Machine.execFence t s
  | .exit t b => Sys2Proof.Machine.execExit t b s
  | .join t a b => Sys2Proof.Machine.execJoin t a b s
  | .yield t => Sys2Proof.Machine.execYield t s
  | .efw t a b => Sys2Proof.Machine.execEfw t a b s
  | .efs t a b => Sys2Proof.Machine.execEfs t a b s
  | .dly t b => Sys2Proof.Machine.execDly t b s
  | .pdrop t n => Sys2Proof.Machine.execPdrop t n s
  | .evp t b n => Sys2Proof.Machine.execEvp t b n s
  | .mtc t unit b cr => Sys2Proof.Machine.execMtc t unit b cr s
  | .mfc t unit a cr => Sys2Proof.Machine.execMfc t unit a cr s
  | .csave t unit b => Sys2Proof.Machine.execCsave t unit b s
  | .crest t unit b => Sys2Proof.Machine.execCrest t unit b s
  | .keyload t a b => Sys2Proof.Machine.execKeyload t a b s
  | .cp0Seal t a b => Sys2Proof.Machine.execCp0Seal t a b s
  | .cp0Open t a b => Sys2Proof.Machine.execCp0Open t a b s
  | .xtsEnc t a b => Sys2Proof.Machine.execXtsEnc t a b s
  | .xtsDec t a b => Sys2Proof.Machine.execXtsDec t a b s
  | .keyclr t a b => Sys2Proof.Machine.execKeyclr t a b s
  | .shaInit t a b => Sys2Proof.Machine.execShaInit t a b s
  | .shaUpdate t a b => Sys2Proof.Machine.execShaUpdate t a b s
  | .shaFinal t a b => Sys2Proof.Machine.execShaFinal t a b s
  | .cp1Crc t a b => Sys2Proof.Machine.execCp1Crc t a b s
  | .toeplitz t a b => Sys2Proof.Machine.execToeplitz t a b s
  | .count t a b => Sys2Proof.Machine.execCount t a b s
  | .police t a b => Sys2Proof.Machine.execPolice t a b s
  | .countFetch t a b => Sys2Proof.Machine.execCountFetch t a b s
  | .meter t a b => Sys2Proof.Machine.execMeter t a b s
  | .cp2Read t a b => Sys2Proof.Machine.execCp2Read t a b s
  | .viewPublish table => Sys2Proof.Machine.execViewPublish table s
  | .falseHitRewrite bank entry => Sys2Proof.Machine.execFalseHitRewrite bank entry s
  | .scrubSweep table => Sys2Proof.Machine.execScrubSweep table s
  | .agingScan table => Sys2Proof.Machine.execAgingScan table s
  | .rehashComplete table => Sys2Proof.Machine.execRehashComplete table s
  | .filterRebuildSwitch table => Sys2Proof.Machine.execFilterRebuildSwitch table s
  | .bankSleep bank => Sys2Proof.Machine.execBankSleep bank s
  | .ringRefill pool => Sys2Proof.Machine.execRingRefill pool s
  | .farStagingRead lport queue => Sys2Proof.Machine.execFarStagingRead lport queue s
  | .dramRequest stack bank reqs wrongData wrongCheck => Sys2Proof.Machine.execDramRequest stack bank reqs wrongData wrongCheck s
  | .refresh stack bank queued => Sys2Proof.Machine.execRefresh stack bank queued s
  | .calibration channel => Sys2Proof.Machine.execCalibration channel s
  | .dramReadRetry rank owner line tries wrong => Sys2Proof.Machine.execDramReadRetry rank owner line tries wrong s
  | .patrolScrub rank owner line wrong => Sys2Proof.Machine.execPatrolScrub rank owner line wrong s
  | .migrationEnd => Sys2Proof.Machine.execMigrationEnd s
  | .reshapeEnd => Sys2Proof.Machine.execReshapeEnd s
  | .retirePendingReminder rank => Sys2Proof.Machine.execRetirePendingReminder rank s
  | .selfRefreshEntry stack => Sys2Proof.Machine.execSelfRefreshEntry stack s
  | .selfRefreshExit stack => Sys2Proof.Machine.execSelfRefreshExit stack s
  | .dramTrained failed repaired => Sys2Proof.Machine.execDramTrained failed repaired s
  | .stagedRecordWrite table key ok => Sys2Proof.Machine.execStagedRecordWrite table key ok s
  | .readRetryStep table key => Sys2Proof.Machine.execReadRetryStep table key s
  | .captureWrite ring flushed => Sys2Proof.Machine.execCaptureWrite ring flushed s
  | .shutdownDecision cause vin => Sys2Proof.Machine.execShutdownDecision cause vin s
  | .flushDone => Sys2Proof.Machine.execFlushDone s
  | .holdupExhausted issued => Sys2Proof.Machine.execHoldupExhausted issued s
  | .offHoldExpiry => Sys2Proof.Machine.execOffHoldExpiry s
  | .powerUp vin copyA copyB lands => Sys2Proof.Machine.execPowerUp vin copyA copyB lands s
  | .hotSwapRetry => Sys2Proof.Machine.execHotSwapRetry s
  | .bankReady bank => Sys2Proof.Machine.execBankReady bank s
  | .commandReady torn => Sys2Proof.Machine.execCommandReady torn s
  | .trafficReady => Sys2Proof.Machine.execTrafficReady s
  | .resetNAssert => Sys2Proof.Machine.execResetNAssert s
  | .brownoutWarning vin => Sys2Proof.Machine.execBrownoutWarning vin s
  | .brownoutWarningClear vin => Sys2Proof.Machine.execBrownoutWarningClear vin s
  | .vinDip vin => Sys2Proof.Machine.execVinDip vin s
  | .vinHigh vin => Sys2Proof.Machine.execVinHigh vin s
  | .sensorPoll die input degrees => Sys2Proof.Machine.execSensorPoll die input degrees s
  | .refclkLost => Sys2Proof.Machine.execRefclkLost s
  | .refclkReturn => Sys2Proof.Machine.execRefclkReturn s
  | .syncInEdge => Sys2Proof.Machine.execSyncInEdge s
  | .syncOutEdge => Sys2Proof.Machine.execSyncOutEdge s
  | .standbyWakeGpio => Sys2Proof.Machine.execStandbyWakeGpio s
  | .standbyWakeTimer => Sys2Proof.Machine.execStandbyWakeTimer s
  | .zeroizeNTrip => Sys2Proof.Machine.execZeroizeNTrip s
  | .tamperTrip input => Sys2Proof.Machine.execTamperTrip input s
  | .internalSensorTrip => Sys2Proof.Machine.execInternalSensorTrip s
  | .zeroizeRestart => Sys2Proof.Machine.execZeroizeRestart s
  | .ownerZeroizeEnd owner => Sys2Proof.Machine.execOwnerZeroizeEnd owner s
  | .sessionTimeout session => Sys2Proof.Machine.execSessionTimeout session s
  | .holdoffExpiry source owner => Sys2Proof.Machine.execHoldoffExpiry source owner s
  | .panContainment pan trigger completes => Sys2Proof.Machine.execPanContainment pan trigger completes s
  | .trafficCoreContainment trigger completes => Sys2Proof.Machine.execTrafficCoreContainment trigger completes s
  | .legendWatchdog => Sys2Proof.Machine.execLegendWatchdog s
  | .guardedPeriodEnd pan => Sys2Proof.Machine.execGuardedPeriodEnd pan s
  | .inbandFragment ctx => Sys2Proof.Machine.execInbandFragment ctx s
  | .reassemblyTimeout lport mac tag => Sys2Proof.Machine.execReassemblyTimeout lport mac tag s
  | .acknowledgment acc => Sys2Proof.Machine.execAcknowledgment acc s
  | .chainTimeout acc => Sys2Proof.Machine.execChainTimeout acc s
  | .deadlineExpired acc => Sys2Proof.Machine.execDeadlineExpired acc s
  | .snapshotExpiry id => Sys2Proof.Machine.execSnapshotExpiry id s
  | .getVersion c => Sys2Proof.Machine.execGetVersion c s
  | .getCapabilities c => Sys2Proof.Machine.execGetCapabilities c s
  | .negotiateAlgorithms c => Sys2Proof.Machine.execNegotiateAlgorithms c s
  | .getDigests c => Sys2Proof.Machine.execGetDigests c s
  | .getCertificate c slot offset len => Sys2Proof.Machine.execGetCertificate c slot offset len s
  | .challenge c slot nonce => Sys2Proof.Machine.execChallenge c slot nonce s
  | .getMeasurements c index nonce => Sys2Proof.Machine.execGetMeasurements c index nonce s
  | .keyExchange c x => Sys2Proof.Machine.execKeyExchange c x s
  | .finish c session signature => Sys2Proof.Machine.execFinish c session signature s
  | .heartbeat c => Sys2Proof.Machine.execHeartbeat c s
  | .keyUpdate c operation => Sys2Proof.Machine.execKeyUpdate c operation s
  | .endSession c => Sys2Proof.Machine.execEndSession c s
  | .unsupportedSpdmRequest c => Sys2Proof.Machine.execUnsupportedSpdmRequest c s
  | .operatorClaim c claim => Sys2Proof.Machine.execOperatorClaim c claim s
  | .operatorTransfer c keyHash => Sys2Proof.Machine.execOperatorTransfer c keyHash s
  | .tenantClaim c tenant claim => Sys2Proof.Machine.execTenantClaim c tenant claim s
  | .sessionInfo c => Sys2Proof.Machine.execSessionInfo c s
  | .resultQuery c session sequence => Sys2Proof.Machine.execResultQuery c session sequence s
  | .echo c => Sys2Proof.Machine.execEcho c s
  | .deviceInfo c => Sys2Proof.Machine.execDeviceInfo c s
  | .recordWrite c id index record => Sys2Proof.Machine.execRecordWrite c id index record s
  | .recordRead c id index => Sys2Proof.Machine.execRecordRead c id index s
  | .powerStateSet c record => Sys2Proof.Machine.execPowerStateSet c record s
  | .powerStatus c => Sys2Proof.Machine.execPowerStatus c s
  | .deviceRestart c => Sys2Proof.Machine.execDeviceRestart c s
  | .deviceZeroize c => Sys2Proof.Machine.execDeviceZeroize c s
  | .tamperArm c input arm high => Sys2Proof.Machine.execTamperArm c input arm high s
  | .reportRead c => Sys2Proof.Machine.execReportRead c s
  | .reportAck c => Sys2Proof.Machine.execReportAck c s
  | .timeRead c => Sys2Proof.Machine.execTimeRead c s
  | .portWrite c lport record => Sys2Proof.Machine.execPortWrite c lport record s
  | .portRead c lport => Sys2Proof.Machine.execPortRead c lport s
  | .portMapWrite c lport record => Sys2Proof.Machine.execPortMapWrite c lport record s
  | .portMapRead c lport => Sys2Proof.Machine.execPortMapRead c lport s
  | .queueWrite c lport queue record => Sys2Proof.Machine.execQueueWrite c lport queue record s
  | .queueRead c lport queue => Sys2Proof.Machine.execQueueRead c lport queue s
  | .portStatusRead c lport clear => Sys2Proof.Machine.execPortStatusRead c lport clear s
  | .opticsRead c port => Sys2Proof.Machine.execOpticsRead c port s
  | .opticsThreshWrite c port record => Sys2Proof.Machine.execOpticsThreshWrite c port record s
  | .opticsEnable c engine => Sys2Proof.Machine.execOpticsEnable c engine s
  | .cmdInbandWrite c lport record => Sys2Proof.Machine.execCmdInbandWrite c lport record s
  | .macsecScCreate c x => Sys2Proof.Machine.execMacsecScCreate c x s
  | .macsecScDelete c sci lport transmit => Sys2Proof.Machine.execMacsecScDelete c sci lport transmit s
  | .macsecSaInstall c lport transmit x => Sys2Proof.Machine.execMacsecSaInstall c lport transmit x s
  | .macsecSaDelete c sci lport transmit an => Sys2Proof.Machine.execMacsecSaDelete c sci lport transmit an s
  | .macsecRead c sci lport transmit => Sys2Proof.Machine.execMacsecRead c sci lport transmit s
  | .macsecPnThresh c sci lport transmit thresh => Sys2Proof.Machine.execMacsecPnThresh c sci lport transmit thresh s
  | .scopeRuleAdd c x => Sys2Proof.Machine.execScopeRuleAdd c x s
  | .scopeRuleDelete c id => Sys2Proof.Machine.execScopeRuleDelete c id s
  | .ruleAdd c x => Sys2Proof.Machine.execRuleAdd c x s
  | .ruleDelete c id => Sys2Proof.Machine.execRuleDelete c id s
  | .ruleRead c id owner => Sys2Proof.Machine.execRuleRead c id owner s
  | .profileWrite c profile extractors => Sys2Proof.Machine.execProfileWrite c profile extractors s
  | .profileSetWrite c set record => Sys2Proof.Machine.execProfileSetWrite c set record s
  | .mirrorSessionWrite c id record => Sys2Proof.Machine.execMirrorSessionWrite c id record s
  | .slowReasonWrite c reason record => Sys2Proof.Machine.execSlowReasonWrite c reason record s
  | .slowTenantWrite c tenant record => Sys2Proof.Machine.execSlowTenantWrite c tenant record s
  | .sluiceWrite c record => Sys2Proof.Machine.execSluiceWrite c record s
  | .classifierRead c kind index => Sys2Proof.Machine.execClassifierRead c kind index s
  | .programLoad c x => Sys2Proof.Machine.execProgramLoad c x s
  | .programUnload c id => Sys2Proof.Machine.execProgramUnload c id s
  | .programRead c id => Sys2Proof.Machine.execProgramRead c id s
  | .slowPathSet c program => Sys2Proof.Machine.execSlowPathSet c program s
  | .envWrite c pan record words => Sys2Proof.Machine.execEnvWrite c pan record words s
  | .taskCreate c ownerKey pan desc => Sys2Proof.Machine.execTaskCreate c ownerKey pan desc s
  | .taskDelete c handle => Sys2Proof.Machine.execTaskDelete c handle s
  | .taskActivate c handle => Sys2Proof.Machine.execTaskActivate c handle s
  | .taskEnable c handle => Sys2Proof.Machine.execTaskEnable c handle s
  | .msgqCreate c pan queue depth => Sys2Proof.Machine.execMsgqCreate c pan queue depth s
  | .msgqDelete c pan queue => Sys2Proof.Machine.execMsgqDelete c pan queue s
  | .taskRead c handle => Sys2Proof.Machine.execTaskRead c handle s
  | .gazWrite c record => Sys2Proof.Machine.execGazWrite c record s
  | .tableCreate c table x => Sys2Proof.Machine.execTableCreate c table x s
  | .tableDelete c table => Sys2Proof.Machine.execTableDelete c table s
  | .entryWrite c table x => Sys2Proof.Machine.execEntryWrite c table x s
  | .entryDelete c table entry => Sys2Proof.Machine.execEntryDelete c table entry s
  | .entryRead c table first count => Sys2Proof.Machine.execEntryRead c table first count s
  | .flowInsert c table key record => Sys2Proof.Machine.execFlowInsert c table key record s
  | .flowDelete c table key => Sys2Proof.Machine.execFlowDelete c table key s
  | .stateWrite c table index word values => Sys2Proof.Machine.execStateWrite c table index word values s
  | .stateRead c table index word count => Sys2Proof.Machine.execStateRead c table index word count s
  | .flowCfgWrite c table record => Sys2Proof.Machine.execFlowCfgWrite c table record s
  | .rehash c table => Sys2Proof.Machine.execRehash c table s
  | .tableCompare c table first crcs => Sys2Proof.Machine.execTableCompare c table first crcs s
  | .tableRead c table => Sys2Proof.Machine.execTableRead c table s
  | .coteWrite c record => Sys2Proof.Machine.execCoteWrite c record s
  | .poolWrite c pool record => Sys2Proof.Machine.execPoolWrite c pool record s
  | .igBufWrite c lport prio record => Sys2Proof.Machine.execIgBufWrite c lport prio record s
  | .eqBufWrite c lport queue record => Sys2Proof.Machine.execEqBufWrite c lport queue record s
  | .bufferRead c kind index => Sys2Proof.Machine.execBufferRead c kind index s
  | .dramWrite c record => Sys2Proof.Machine.execDramWrite c record s
  | .dramPortWrite c port record => Sys2Proof.Machine.execDramPortWrite c port record s
  | .dramRead c kind index => Sys2Proof.Machine.execDramRead c kind index s
  | .stkWrite c record => Sys2Proof.Machine.execStkWrite c record s
  | .stkRead c => Sys2Proof.Machine.execStkRead c s
  | .ringWrite c ring record => Sys2Proof.Machine.execRingWrite c ring record s
  | .ringDelete c ring => Sys2Proof.Machine.execRingDelete c ring s
  | .ringRearm c ring => Sys2Proof.Machine.execRingRearm c ring s
  | .ringRead c ring offset count => Sys2Proof.Machine.execRingRead c ring offset count s
  | .coldRead c table key => Sys2Proof.Machine.execColdRead c table key s
  | .coldDelete c table key => Sys2Proof.Machine.execColdDelete c table key s
  | .filterRebuild c table => Sys2Proof.Machine.execFilterRebuild c table s
  | .telemetryRead c offset count => Sys2Proof.Machine.execTelemetryRead c offset count s
  | .tenantCreate c record => Sys2Proof.Machine.execTenantCreate c record s
  | .tenantDelete c tenant => Sys2Proof.Machine.execTenantDelete c tenant s
  | .tenantZeroize c tenant => Sys2Proof.Machine.execTenantZeroize c tenant s
  | .quotaWrite c record => Sys2Proof.Machine.execQuotaWrite c record s
  | .tenantRead c tenant => Sys2Proof.Machine.execTenantRead c tenant s
  | .keyInstall c index key => Sys2Proof.Machine.execKeyInstall c index key s
  | .keyDelete c index => Sys2Proof.Machine.execKeyDelete c index s
  | .seal c flags minSvn data => Sys2Proof.Machine.execSeal c flags minSvn data s
  | .unseal c blob => Sys2Proof.Machine.execUnseal c blob s
  | .unsealKeys c blob => Sys2Proof.Machine.execUnsealKeys c blob s
  | .eventRouteWrite c object index record => Sys2Proof.Machine.execEventRouteWrite c object index record s
  | .eventRead c max => Sys2Proof.Machine.execEventRead c max s
  | .counterSelectWrite c object index record => Sys2Proof.Machine.execCounterSelectWrite c object index record s
  | .snapshot c scope flags inst => Sys2Proof.Machine.execSnapshot c scope flags inst s
  | .snapshotRead c id offset => Sys2Proof.Machine.execSnapshotRead c id offset s
  | .snapshotRelease c id => Sys2Proof.Machine.execSnapshotRelease c id s
  | .telemetrySelect c chosen => Sys2Proof.Machine.execTelemetrySelect c chosen s
  | .fwWrite c kind slot offset data => Sys2Proof.Machine.execFwWrite c kind slot offset data s
  | .fwVerify c kind slot => Sys2Proof.Machine.execFwVerify c kind slot s
  | .fwActivate c slots => Sys2Proof.Machine.execFwActivate c slots s
  | .fwPolicy c permissive => Sys2Proof.Machine.execFwPolicy c permissive s
  | .fwManifest c sequence sets signature => Sys2Proof.Machine.execFwManifest c sequence sets signature s
  | .fwCommitSvn c => Sys2Proof.Machine.execFwCommitSvn c s
  | .fwRevoke c signer signature => Sys2Proof.Machine.execFwRevoke c signer signature s
  | .fwStatus c => Sys2Proof.Machine.execFwStatus c s
  | .domainStatusRead c express domain => Sys2Proof.Machine.execDomainStatusRead c express domain s
  | .distReportSnapshot c pan => Sys2Proof.Machine.execDistReportSnapshot c pan s
  | .traceSnapshot c pan => Sys2Proof.Machine.execTraceSnapshot c pan s
  | .guardSelect c program on => Sys2Proof.Machine.execGuardSelect c program on s
  | .debugChallenge c scope => Sys2Proof.Machine.execDebugChallenge c scope s
  | .debugUnlock c credential => Sys2Proof.Machine.execDebugUnlock c credential s
  | .cmdTailDoorbell fn index descs readFails => Sys2Proof.Machine.execCmdTailDoorbell fn index descs readFails s
  | .rbufTailDoorbell fn index descs => Sys2Proof.Machine.execRbufTailDoorbell fn index descs s
  | .cplHeadDoorbell fn index arm => Sys2Proof.Machine.execCplHeadDoorbell fn index arm s
  | .ringControlWrite fn ring value => Sys2Proof.Machine.execRingControlWrite fn ring value s
  | .funcStatsRead fn index => Sys2Proof.Machine.execFuncStatsRead fn index s
  | .registerWrite fn offset width value => Sys2Proof.Machine.execRegisterWrite fn offset width value s
  | .msixUnmask fn entry enable => Sys2Proof.Machine.execMsixUnmask fn entry enable s
  | .outgoingPacket fn writeFails => Sys2Proof.Machine.execOutgoingPacket fn writeFails s
  | .rbufStarved fn => Sys2Proof.Machine.execRbufStarved fn s
  | .linkReset link cause => Sys2Proof.Machine.execLinkReset link cause s
  | .pfFlr link => Sys2Proof.Machine.execPfFlr link s
  | .vfFlr link vf => Sys2Proof.Machine.execVfFlr link vf s
  | .busMasterDisable fn d3hot => Sys2Proof.Machine.execBusMasterDisable fn d3hot s
  | .usbVbusChange millivolts => Sys2Proof.Machine.execUsbVbusChange millivolts s
  | .usbBusReset => Sys2Proof.Machine.execUsbBusReset s
  | .cmdWrite wValue wIndex data => Sys2Proof.Machine.execCmdWrite wValue wIndex data s
  | .replyRead wValue wIndex len => Sys2Proof.Machine.execReplyRead wValue wIndex len s
  | .usbStatus wValue wIndex len => Sys2Proof.Machine.execUsbStatus wValue wIndex len s
  | .orphanRead wValue wIndex len => Sys2Proof.Machine.execOrphanRead wValue wIndex len s
  | .orphanClear wValue wIndex len => Sys2Proof.Machine.execOrphanClear wValue wIndex len s
  | .abort wValue wIndex len => Sys2Proof.Machine.execAbort wValue wIndex len s
  | .surveyPing frame dst src clear conflict => Sys2Proof.Machine.execSurveyPing frame dst src clear conflict s
  | .surveyWrite frame dst src tag flags index data conflict => Sys2Proof.Machine.execSurveyWrite frame dst src tag flags index data conflict s
  | .surveyRead frame dst src release index conflict => Sys2Proof.Machine.execSurveyRead frame dst src release index conflict s
  | .surveySearch frame dst src filter n pfx choices conflict => Sys2Proof.Machine.execSurveySearch frame dst src filter n pfx choices conflict s
  | .surveyAssign frame dst src serial address conflict => Sys2Proof.Machine.execSurveyAssign frame dst src serial address conflict s
  | .surveyRate frame dst src code => Sys2Proof.Machine.execSurveyRate frame dst src code s
  | .rateChange => Sys2Proof.Machine.execRateChange s
  | .surveyAssemblyTimeout ctrl => Sys2Proof.Machine.execSurveyAssemblyTimeout ctrl s
  | .replyQueueExpiry ctrl => Sys2Proof.Machine.execReplyQueueExpiry ctrl s
  | .resultLand tid num => Sys2Proof.Machine.execResultLand tid num s
  | .illegalInstruction tid word => Sys2Proof.Machine.execIllegalInstruction tid word s
  | .unknownOpcode acc => Sys2Proof.Machine.execUnknownOpcode acc s
  | .ringTriggerCommand c ring => Sys2Proof.Machine.execRingTriggerCommand c ring s
  | .resetNRelease => Sys2Proof.Machine.execResetNRelease s
  | .perstNRelease link => Sys2Proof.Machine.execPerstNRelease link s
  | .dmaResume fn => Sys2Proof.Machine.execDmaResume fn s
  | .packetReadComplete fn ok packet => Sys2Proof.Machine.execPacketReadComplete fn ok packet s
  | .surveyFrameError kind => Sys2Proof.Machine.execSurveyFrameError kind s
  | .surveyUnknownType frame dst src type conflict => Sys2Proof.Machine.execSurveyUnknownType frame dst src type conflict s
  | .svyTermChange tied => Sys2Proof.Machine.execSvyTermChange tied s
  | .vinLowBand vin => Sys2Proof.Machine.execVinLowBand vin s
  | .inputPowerAlert watts => Sys2Proof.Machine.execInputPowerAlert watts s
  | .offRailsOpen => Sys2Proof.Machine.execOffRailsOpen s
  | .activationGraceExpiry => Sys2Proof.Machine.execActivationGraceExpiry s
  | .flashChannelFault kind => Sys2Proof.Machine.execFlashChannelFault kind s
  | .stripeRebuildEnd => Sys2Proof.Machine.execStripeRebuildEnd s
  | .legendFault benchmark => Sys2Proof.Machine.execLegendFault benchmark s

end Sys2Proof.Machine
end

