-- ==== Sys2Proof/WellFormed.lean ====
section
/-! DEFINITION. Which commands name units that the hardware has; every other command faults by name. A command of
Legend is well formed whatever it names: a wrong name there ends in a status (R391). -/

namespace Sys2Proof

open Machine

/-- Every unit the command names exists. -/
def Instr.wellFormed : Instr → Bool
  | .frameReceive lport _ _ _ _ => okLport lport
  | .pauseReceived lport _ _ _ _ => okLport lport
  | .pfcReceived lport _ _ _ _ _ => okLport lport
  | .pauseExpiry lport pcp => okLport lport && okPcp pcp
  | .xoffRepeat lport pcp => okLport lport && okPcp pcp
  | .frameBoundary lport => okLport lport
  | .linkUp lport => okLport lport
  | .linkDown lport => okLport lport
  | .opticsEvaluation engine _ _ _ => okEngine engine
  | .laserEnNHigh => true
  | .laserEnNLow => true
  | .laserLight => true
  | .descriptorIntake => true
  | .panWake pan => okPan pan
  | .panGate pan => okPan pan
  | .taskDispatch tid => okTid tid
  | .expressDispatch => true
  | .commit _ domain => okDomain domain
  | .unwindComplete ctx => okCtx ctx
  | .promotionEnd _ _ => true
  | .lifetimeExpiry ctx => okCtx ctx
  | .waitExpired _ domain => okDomain domain
  | .queueExpired port prio => okPort port && okQueue prio
  | .delayExpiry pan => okPan pan
  | .periodExpiry pan slot => okPan pan && decide (slot < 1024)
  | .flagApply _ _ => true
  | .starved pan level _ => okPan pan && decide (level < 16)
  | .supervisorTimeout pan => okPan pan
  | .supervisorEnd pan _ => okPan pan
  | .supervisorRearm pan _ => okPan pan
  | .supervisorDisable pan _ => okPan pan
  | .channelEntryLand sender receiver => okTid sender && okTid receiver
  | .msgqEntryLand pan _ => okPan pan
  | .lockGrant _ => true
  | .leaseExpired _ => true
  | .memoryAccessComplete tid => okTid tid
  | .coprocessorResult tid unit => okTid tid && okUnit unit
  | .searchResult _ => true
  | .searchTimeout _ => true
  | .storeBufferDrain tid => okTid tid
  | .add t _ _ _ => okTid t
  | .sub t _ _ _ => okTid t
  | .addt t _ _ _ => okTid t
  | .subt t _ _ _ => okTid t
  | .neg t _ _ => okTid t
  | .negt t _ _ => okTid t
  | .and t _ _ _ => okTid t
  | .or t _ _ _ => okTid t
  | .xor t _ _ _ => okTid t
  | .andn t _ _ _ => okTid t
  | .slt t _ _ _ => okTid t
  | .sltu t _ _ _ => okTid t
  | .seq t _ _ _ => okTid t
  | .min t _ _ _ => okTid t
  | .max t _ _ _ => okTid t
  | .minu t _ _ _ => okTid t
  | .maxu t _ _ _ => okTid t
  | .shl t _ _ _ => okTid t
  | .shr t _ _ _ => okTid t
  | .sar t _ _ _ => okTid t
  | .rol t _ _ _ => okTid t
  | .ror t _ _ _ => okTid t
  | .cmovz t _ _ _ => okTid t
  | .cmovn t _ _ _ => okTid t
  | .clz t _ _ => okTid t
  | .ctz t _ _ => okTid t
  | .popc t _ _ => okTid t
  | .bswp16 t _ _ => okTid t
  | .bswp32 t _ _ => okTid t
  | .bswp64 t _ _ => okTid t
  | .jalr t _ _ => okTid t
  | .mul t _ _ _ => okTid t
  | .mulh t _ _ _ => okTid t
  | .mulhu t _ _ _ => okTid t
  | .mult t _ _ _ => okTid t
  | .div t _ _ _ => okTid t
  | .rem t _ _ _ => okTid t
  | .divu t _ _ _ => okTid t
  | .remu t _ _ _ => okTid t
  | .divt t _ _ _ => okTid t
  | .remt t _ _ _ => okTid t
  | .aadd t _ _ _ => okTid t
  | .acas t _ _ _ => okTid t
  | .aswp t _ _ _ => okTid t
  | .egr t _ _ _ => okTid t
  | .chk t _ _ => okTid t
  | .chkr t _ _ _ => okTid t
  | .addi t _ _ _ => okTid t
  | .addti t _ _ _ => okTid t
  | .andi t _ _ _ => okTid t
  | .ori t _ _ _ => okTid t
  | .xori t _ _ _ => okTid t
  | .slti t _ _ _ => okTid t
  | .sltui t _ _ _ => okTid t
  | .setq0 t _ _ _ => okTid t
  | .setq1 t _ _ _ => okTid t
  | .setq2 t _ _ _ => okTid t
  | .setq3 t _ _ _ => okTid t
  | .shli t _ _ _ => okTid t
  | .shri t _ _ _ => okTid t
  | .sari t _ _ _ => okTid t
  | .roli t _ _ _ => okTid t
  | .exti t _ _ _ _ => okTid t
  | .extsi t _ _ _ _ => okTid t
  | .insi t _ _ _ _ => okTid t
  | .chki t _ _ => okTid t
  | .pwck t _ _ => okTid t
  | .bal t _ _ => okTid t
  | .beqz t _ _ => okTid t
  | .bnez t _ _ => okTid t
  | .bltz t _ _ => okTid t
  | .bgez t _ _ => okTid t
  | .blez t _ _ => okTid t
  | .bgtz t _ _ => okTid t
  | .fork t _ _ => okTid t
  | .ld8 t _ _ _ => okTid t
  | .ld8s t _ _ _ => okTid t
  | .ld16 t _ _ _ => okTid t
  | .ld16s t _ _ _ => okTid t
  | .ld32 t _ _ _ => okTid t
  | .ld32s t _ _ _ => okTid t
  | .ld64 t _ _ _ => okTid t
  | .st8 t _ _ _ => okTid t
  | .st16 t _ _ _ => okTid t
  | .st32 t _ _ _ => okTid t
  | .st64 t _ _ _ => okTid t
  | .lpw16 t _ _ _ => okTid t
  | .lpw32 t _ _ _ => okTid t
  | .lpw64 t _ _ _ => okTid t
  | .sld t _ _ _ _ => okTid t
  | .sst t _ _ _ _ => okTid t
  | .srchSearch t _ _ _ => okTid t
  | .searchOrLearn t _ _ _ => okTid t
  | .srchDelete t _ _ _ => okTid t
  | .lka t _ _ _ => okTid t
  | .lkt t _ _ _ => okTid t
  | .lkr t _ => okTid t
  | .chr t _ _ => okTid t
  | .chw t _ _ => okTid t
  | .chp t _ _ => okTid t
  | .csrr t _ _ => okTid t
  | .csrw t _ _ _ => okTid t
  | .csrs t _ _ _ => okTid t
  | .csrc t _ _ _ => okTid t
  | .csync t => okTid t
  | .ser t => okTid t
  | .svc t _ => okTid t
  | .sret t => okTid t
  | .trap t _ => okTid t
  | .fence t => okTid t
  | .exit t _ => okTid t
  | .join t _ _ => okTid t
  | .yield t => okTid t
  | .efw t _ _ => okTid t
  | .efs t _ _ => okTid t
  | .dly t _ => okTid t
  | .pdrop t _ => okTid t
  | .evp t _ _ => okTid t
  | .mtc t _ _ _ => okTid t
  | .mfc t _ _ _ => okTid t
  | .csave t _ _ => okTid t
  | .crest t _ _ => okTid t
  | .keyload t _ _ => okTid t
  | .cp0Seal t _ _ => okTid t
  | .cp0Open t _ _ => okTid t
  | .xtsEnc t _ _ => okTid t
  | .xtsDec t _ _ => okTid t
  | .keyclr t _ _ => okTid t
  | .shaInit t _ _ => okTid t
  | .shaUpdate t _ _ => okTid t
  | .shaFinal t _ _ => okTid t
  | .cp1Crc t _ _ => okTid t
  | .toeplitz t _ _ => okTid t
  | .count t _ _ => okTid t
  | .police t _ _ => okTid t
  | .countFetch t _ _ => okTid t
  | .meter t _ _ => okTid t
  | .cp2Read t _ _ => okTid t
  | .viewPublish _ => true
  | .falseHitRewrite bank _ => okBank bank
  | .scrubSweep _ => true
  | .agingScan _ => true
  | .rehashComplete _ => true
  | .filterRebuildSwitch _ => true
  | .bankSleep bank => okBank bank
  | .ringRefill pool => okPool pool
  | .farStagingRead lport queue => okLport lport && okQueue queue
  | .dramRequest stack _ reqs _ _ => okStack stack && reqs.all (fun q => decide (q.port < 24))
  | .refresh stack _ _ => okStack stack
  | .calibration channel => decide (channel < 192)
  | .dramReadRetry rank _ _ _ _ => decide (rank < 18)
  | .patrolScrub rank _ _ _ => decide (rank < 18)
  | .migrationEnd => true
  | .reshapeEnd => true
  | .retirePendingReminder rank => decide (rank < 18)
  | .selfRefreshEntry stack => okStack stack
  | .selfRefreshExit stack => okStack stack
  | .dramTrained failed repaired => (failed ++ repaired).all (fun r => decide (r < 18))
  | .stagedRecordWrite _ _ _ => true
  | .readRetryStep _ _ => true
  | .captureWrite _ _ => true
  | .shutdownDecision cause _ => decide (1 ≤ cause) && decide (cause ≤ 3)
  | .flushDone => true
  | .holdupExhausted _ => true
  | .offHoldExpiry => true
  | .powerUp _ _ _ _ => true
  | .hotSwapRetry => true
  | .bankReady _ => true
  | .commandReady _ => true
  | .trafficReady => true
  | .resetNAssert => true
  | .brownoutWarning _ => true
  | .brownoutWarningClear _ => true
  | .vinDip _ => true
  | .vinHigh _ => true
  | .sensorPoll _ _ _ => true
  | .refclkLost => true
  | .refclkReturn => true
  | .syncInEdge => true
  | .syncOutEdge => true
  | .standbyWakeGpio => true
  | .standbyWakeTimer => true
  | .zeroizeNTrip => true
  | .tamperTrip input => decide (input < 2)
  | .internalSensorTrip => true
  | .zeroizeRestart => true
  | .ownerZeroizeEnd _ => true
  | .sessionTimeout _ => true
  | .holdoffExpiry source _ => okSource source
  | .panContainment pan trigger _ => okPan pan && okTrigger trigger
  | .trafficCoreContainment trigger _ => okTrigger trigger
  | .legendWatchdog => true
  | .guardedPeriodEnd pan => okPan pan
  | .inbandFragment ctx => okCtx ctx
  | .reassemblyTimeout lport _ _ => okLport lport
  | .acknowledgment _ => true
  | .chainTimeout _ => true
  | .deadlineExpired _ => true
  | .snapshotExpiry _ => true
  | .getVersion _ => true
  | .getCapabilities _ => true
  | .negotiateAlgorithms _ => true
  | .getDigests _ => true
  | .getCertificate _ _ _ _ => true
  | .challenge _ _ _ => true
  | .getMeasurements _ _ _ => true
  | .keyExchange _ _ => true
  | .finish _ _ _ => true
  | .heartbeat _ => true
  | .keyUpdate _ _ => true
  | .endSession _ => true
  | .unsupportedSpdmRequest _ => true
  | .operatorClaim _ _ => true
  | .operatorTransfer _ _ => true
  | .tenantClaim _ _ _ => true
  | .sessionInfo _ => true
  | .resultQuery _ _ _ => true
  | .echo _ => true
  | .deviceInfo _ => true
  | .recordWrite _ _ _ _ => true
  | .recordRead _ _ _ => true
  | .powerStateSet _ _ => true
  | .powerStatus _ => true
  | .deviceRestart _ => true
  | .deviceZeroize _ => true
  | .tamperArm _ _ _ _ => true
  | .reportRead _ => true
  | .reportAck _ => true
  | .timeRead _ => true
  | .portWrite _ _ _ => true
  | .portRead _ _ => true
  | .portMapWrite _ _ _ => true
  | .portMapRead _ _ => true
  | .queueWrite _ _ _ _ => true
  | .queueRead _ _ _ => true
  | .portStatusRead _ _ _ => true
  | .opticsRead _ _ => true
  | .opticsThreshWrite _ _ _ => true
  | .opticsEnable _ _ => true
  | .cmdInbandWrite _ _ _ => true
  | .macsecScCreate _ _ => true
  | .macsecScDelete _ _ _ _ => true
  | .macsecSaInstall _ _ _ _ => true
  | .macsecSaDelete _ _ _ _ _ => true
  | .macsecRead _ _ _ _ => true
  | .macsecPnThresh _ _ _ _ _ => true
  | .scopeRuleAdd _ _ => true
  | .scopeRuleDelete _ _ => true
  | .ruleAdd _ _ => true
  | .ruleDelete _ _ => true
  | .ruleRead _ _ _ => true
  | .profileWrite _ _ _ => true
  | .profileSetWrite _ _ _ => true
  | .mirrorSessionWrite _ _ _ => true
  | .slowReasonWrite _ _ _ => true
  | .slowTenantWrite _ _ _ => true
  | .sluiceWrite _ _ => true
  | .classifierRead _ _ _ => true
  | .programLoad _ _ => true
  | .programUnload _ _ => true
  | .programRead _ _ => true
  | .slowPathSet _ _ => true
  | .envWrite _ _ _ _ => true
  | .taskCreate _ _ _ _ => true
  | .taskDelete _ _ => true
  | .taskActivate _ _ => true
  | .taskEnable _ _ => true
  | .msgqCreate _ _ _ _ => true
  | .msgqDelete _ _ _ => true
  | .taskRead _ _ => true
  | .gazWrite _ _ => true
  | .tableCreate _ _ _ => true
  | .tableDelete _ _ => true
  | .entryWrite _ _ _ => true
  | .entryDelete _ _ _ => true
  | .entryRead _ _ _ _ => true
  | .flowInsert _ _ _ _ => true
  | .flowDelete _ _ _ => true
  | .stateWrite _ _ _ _ _ => true
  | .stateRead _ _ _ _ _ => true
  | .flowCfgWrite _ _ _ => true
  | .rehash _ _ => true
  | .tableCompare _ _ _ _ => true
  | .tableRead _ _ => true
  | .coteWrite _ _ => true
  | .poolWrite _ _ _ => true
  | .igBufWrite _ _ _ _ => true
  | .eqBufWrite _ _ _ _ => true
  | .bufferRead _ _ _ => true
  | .dramWrite _ _ => true
  | .dramPortWrite _ _ _ => true
  | .dramRead _ _ _ => true
  | .stkWrite _ _ => true
  | .stkRead _ => true
  | .ringWrite _ _ _ => true
  | .ringDelete _ _ => true
  | .ringRearm _ _ => true
  | .ringRead _ _ _ _ => true
  | .coldRead _ _ _ => true
  | .coldDelete _ _ _ => true
  | .filterRebuild _ _ => true
  | .telemetryRead _ _ _ => true
  | .tenantCreate _ _ => true
  | .tenantDelete _ _ => true
  | .tenantZeroize _ _ => true
  | .quotaWrite _ _ => true
  | .tenantRead _ _ => true
  | .keyInstall _ _ _ => true
  | .keyDelete _ _ => true
  | .seal _ _ _ _ => true
  | .unseal _ _ => true
  | .unsealKeys _ _ => true
  | .eventRouteWrite _ _ _ _ => true
  | .eventRead _ _ => true
  | .counterSelectWrite _ _ _ _ => true
  | .snapshot _ _ _ _ => true
  | .snapshotRead _ _ _ => true
  | .snapshotRelease _ _ => true
  | .telemetrySelect _ _ => true
  | .fwWrite _ _ _ _ _ => true
  | .fwVerify _ _ _ => true
  | .fwActivate _ _ => true
  | .fwPolicy _ _ => true
  | .fwManifest _ _ _ _ => true
  | .fwCommitSvn _ => true
  | .fwRevoke _ _ _ => true
  | .fwStatus _ => true
  | .domainStatusRead _ _ _ => true
  | .distReportSnapshot _ _ => true
  | .traceSnapshot _ _ => true
  | .guardSelect _ _ _ => true
  | .debugChallenge _ _ => true
  | .debugUnlock _ _ => true
  | .cmdTailDoorbell fn _ _ _ => okFn fn
  | .rbufTailDoorbell fn _ _ => okFn fn
  | .cplHeadDoorbell fn _ _ => okFn fn
  | .ringControlWrite fn ring _ => okFn fn && decide (ring < 3)
  | .funcStatsRead fn index => okFn fn && decide (index < 8)
  | .registerWrite fn _ _ _ => okFn fn
  | .msixUnmask fn _ _ => okFn fn
  | .outgoingPacket fn _ => okFn fn
  | .rbufStarved fn => okFn fn
  | .linkReset link cause => okLink link && decide (cause < 4)
  | .pfFlr link => okLink link
  | .vfFlr link vf => okLink link && decide (1 ≤ vf) && decide (vf ≤ 512)
  | .busMasterDisable fn _ => okFn fn
  | .usbVbusChange _ => true
  | .usbBusReset => true
  | .cmdWrite _ _ _ => true
  | .replyRead _ _ _ => true
  | .usbStatus _ _ _ => true
  | .orphanRead _ _ _ => true
  | .orphanClear _ _ _ => true
  | .abort _ _ _ => true
  | .surveyPing _ _ _ _ _ => true
  | .surveyWrite _ _ _ _ _ _ _ _ => true
  | .surveyRead _ _ _ _ _ _ => true
  | .surveySearch _ _ _ _ _ _ _ _ => true
  | .surveyAssign _ _ _ _ _ _ => true
  | .surveyRate _ _ _ _ => true
  | .rateChange => true
  | .surveyAssemblyTimeout ctrl => okCtrl ctrl
  | .replyQueueExpiry ctrl => okCtrl ctrl
  | .resultLand tid _ => okTid tid
  | .illegalInstruction tid _ => okTid tid
  | .unknownOpcode _ => true
  | .ringTriggerCommand _ _ => true
  | .resetNRelease => true
  | .perstNRelease link => okLink link
  | .dmaResume fn => okFn fn
  | .packetReadComplete fn _ _ => okFn fn
  | .surveyFrameError kind => decide (kind < 3)
  | .surveyUnknownType _ _ _ _ _ => true
  | .svyTermChange _ => true
  | .vinLowBand _ => true
  | .inputPowerAlert _ => true
  | .offRailsOpen => true
  | .activationGraceExpiry => true
  | .flashChannelFault kind => decide (kind < 3)
  | .stripeRebuildEnd => true
  | .legendFault _ => true

end Sys2Proof
end

