-- ==== Sys2Proof/Safety.lean ====
section
/-! DEFINITION. The words in which statements speak of the machine: when an instruction may issue and how it completes,
when a command of Legend is served and how it ends, what is quiet, what the fuses keep. -/

namespace Sys2Proof.Machine

/-- What a step of the machine answers. -/
abbrev Out := Host.Outcome State Fault Refusal

/-- A thread may issue an instruction that reads some registers (R137, R140, R159, R176): its core exists, it has a task,
waits for nothing and has no instruction half done, its program counter names a word of its program, the instruction may stand where it stands, and in
guarded mode every register it reads has landed. -/
def Ready (s : State) (t : Nat) (slotOk : Bool) (srcs : List (BitVec 5)) : Prop :=
  okTid t = true ∧ canIssue s t = true ∧ (s.thread t).issuedRegs = none ∧ fetchBad s t = false ∧
    ((s.thread t).dslot = true → slotOk = true) ∧ (guarded (s.thread t) = true → inFlight (s.thread t) srcs = none)

/-- The instruction completes and its thread goes on to the next one. -/
def completes (t cost : Nat) (u : State) : Out :=
  .next (finish (u.setThread t ((u.thread t).advance cost)))

/-- An instruction of one result completes: the result goes to its register, at once or after its distance (R153). -/
def gives (s : State) (t : Nat) (srcs : List (BitVec 5)) (a : BitVec 5) (v : Word) (distance flags : Nat) : Out :=
  completes t 1 (writeReg (issued s t srcs) t a v distance flags)

/-- The branch completes and its delay slot comes next (R140). -/
def branches (t target : Nat) (taken : Bool) (u : State) : Out :=
  .next (finish (u.setThread t ((u.thread t).toSlot target taken 1)))

/-- The thread goes on at a target at once (R125). -/
def jumps (t target cost : Nat) (u : State) : Out :=
  .next (finish (u.setThread t ((u.thread t).goto target cost)))

/-- The thread blocks at the instruction (R159). -/
def blocks (t : Nat) (b : Block) (u : State) : Out := .next (finish (blockThread u t b))

/-- The instruction faults at its own address, with no other effect (R150). -/
def faults (t code : Nat) (value : Word) (u : State) : Out :=
  .next (finish (faultThread u t code value (u.thread t).pc))

/-- What a command has done, with what follows from it (`finish`: domains driven on, events handled, Pans woken). -/
def acts (u : State) : Out := .next (finish u)


/-- The command `c` is the one that Legend serves next, under its opcode (R390–R400): its packet is in flight and has not
started, no device zeroize runs and no shutdown is decided, its CHAINED predecessor has ended without failure, none must start before it, the checks of
version, flags, label, session, claim, role and machine state pass, and its deadline has not passed. -/
def Served (s : State) (c : CmdRef) (opcode : Nat) (e : Entry) : Prop :=
  AMap.find s.legend.flight c.acc = some e ∧ e.opcode = opcode ∧ e.stage = .waiting ∧ s.trust.zeroizing = none ∧
    s.power.phase ≠ .flushing ∧ chainWaits s e = false ∧ startsBefore s c.acc e = false ∧
    (Nat.testBit e.flags 2 = true → ∀ w, chainStatus s e = some w → w.code < 0x100) ∧
    headCheck s e true = none ∧ stateCheck s c.acc e = none ∧ c.malformed = false ∧ pastDeadline s e = false ∧
    (e.seq ≠ 0xFFFFFFFF ∨ e.session = 0 ∨ e.opcode = 0)

/-- The owner that a command acts for (R395); the operator's number when it has none. -/
def actor (s : State) (e : Entry) : Nat := (ownerOf s e).getD operatorId

/-- The command ends with a status and reply data, and what has been raised is handled (R402, R410). -/
def concludes (c : CmdRef) (w : Status) (data : List Byte) (u : State) : Out := .next (settle (endCommand u c.acc w data))

/-- The command ends OK with APPLIED: its effect holds (R410). -/
def applied (c : CmdRef) (u : State) : Out := concludes c (plain 0 true) [] u

/-- A read ends OK with its data (R410). -/
def replies (c : CmdRef) (data : List Byte) (u : State) : Out := concludes c (plain 0 false) data u

/-- The command ends OK with APPLIED, and what follows from its effect is done. -/
def appliedThen (c : CmdRef) (u : State) : Out := .next (finish (settle (endCommand u c.acc (plain 0 true) [])))

/-- The command is left executing: a later event ends it. -/
def goesOn (c : CmdRef) (u : State) : Out := .next (settle (conclude c.acc (u, .later)))

/-- What an instruction of a thread leaves as it is, beside threads, Pans, events, contexts and the count of free values:
the identity, power, trust, Legend, containment, ports, classifier, cells, tables, DRAM, flash, host ports, Survey Bus,
digests and the queue. -/
def BlocksKept (s v : State) : Prop :=
  v.ident = s.ident ∧ v.power = s.power ∧ v.trust = s.trust ∧ v.legend = s.legend ∧ v.contain = s.contain ∧
    v.ports = s.ports ∧ v.sluice = s.sluice ∧ v.cote = s.cote ∧ v.gaz = s.gaz ∧ v.dram = s.dram ∧ v.stk = s.stk ∧
    v.host = s.host ∧ v.survey = s.survey ∧ v.digests = s.digests ∧ v.pending = s.pending

/-- Thread `t` has gone on, and nothing of it changed but register `r` and what counts its progress. -/
def OnlyRegister (s v : State) (t : Nat) (r : BitVec 5) : Prop :=
  BlocksKept s v ∧ v.meridian = s.meridian ∧ (∀ u, u ≠ t → v.thread u = s.thread u) ∧
    (∀ q, q ≠ r → (v.thread t).reg q = (s.thread t).reg q) ∧
    v.thread t = { s.thread t with
      pc := (v.thread t).pc, npc := (v.thread t).npc, branch := (v.thread t).branch, dslot := (v.thread t).dslot,
      slotTaken := (v.thread t).slotTaken, issuedRegs := (v.thread t).issuedRegs,
      issued := (v.thread t).issued, cost := (v.thread t).cost, waited := (v.thread t).waited, prod := (v.thread t).prod,
      regs := (v.thread t).regs, landed := (v.thread t).landed } ∧
    ∀ m, readByte v m = readByte s m

/-- What the fuses and the epoch's stored copies hold is legal (R15, R355, R380, R381, R486): the epoch is its fuses times
2^26 plus its low part, at most 63 fuses and 16 vault generations are blown, minimum SVNs are at most 63, revoked signers
are among the four there are. -/
def FuseInv (s : State) : Prop :=
  s.power.epoch = s.power.epochF * 2 ^ 26 + s.power.epochL ∧ s.power.epochF ≤ 63 ∧ s.power.epochL < 2 ^ 26 ∧
    s.trust.vaultGen ≤ 16 ∧ (∀ k, AMap.at s.trust.minSvn k 0 ≤ 63) ∧ s.trust.revoked < 16

/-- No fuse is mended and the epoch does not move back (R15, R355, R380, R381). -/
def FusesGrow (s v : State) : Prop :=
  s.power.epoch ≤ v.power.epoch ∧ s.power.epochF ≤ v.power.epochF ∧ s.trust.vaultGen ≤ v.trust.vaultGen ∧
    (∀ k, AMap.at s.trust.minSvn k 0 ≤ AMap.at v.trust.minSvn k 0) ∧
    (∀ k, Nat.testBit s.trust.revoked k = true → Nat.testBit v.trust.revoked k = true)

end Sys2Proof.Machine
end

