-- ==== Sys2Proof/Certificates/Slice0/Obligations.lean ====
section
/-! DEFINITION. The statements about the machine. -/

open Sys2Proof Sys2Proof.Machine

/-- A step runs the front command on the state with the queue's rest; with nothing waiting it answers the idle machine
(assumption 7: the run clock counts one of its steps, outside OFF, R485, and the occupied contexts are counted, R498). -/
def Obligations.StepRunsFrontCommand : Prop :=
  (∀ (s : State) (c : Instr) (rest : List Instr), s.pending = c :: rest → step s = exec c { s with pending := rest }) ∧
  (∀ s : State, s.pending = [] → s.power.phase ≠ .off →
    let d := if s.power.refclk = true ∧ s.power.timeLocked = true then 1 else 250
    let cycles := if trafficUp s = true then (s.power.clock + d) * 5 / 4 - s.power.clock * 5 / 4 else 0
    let u := s.meridian.ctxs.foldl (fun s c => devCount s 2 6 (c.1 / 4096) c.2.desc.tenant cycles) s
    step s = .next { u with power := { s.power with clock := s.power.clock + d } }) ∧
  (∀ s : State, s.pending = [] → s.power.phase = .off → step s = .next s)

/-- Register-register and register-immediate instructions of distance 1 (R136, R139, R142): they complete, the result goes to `a`, no flag changes.
The amount of a shift is the whole of `c`; a rotation takes it mod 64. -/
def Obligations.RegisterArithmeticCompletes : Prop :=
  (∀ (s : State) (t : Nat) (a b c : BitVec 5), Ready s t true [b, c] →
     let B := (s.thread t).reg b
     let C := (s.thread t).reg c
     let result (v : Word) : Out := gives s t [b, c] a v 1 0
     exec (.add t a b c) s = result (B + C) ∧
     exec (.sub t a b c) s = result (B - C) ∧
     exec (.and t a b c) s = result (B &&& C) ∧
     exec (.or t a b c) s = result (B ||| C) ∧
     exec (.xor t a b c) s = result (B ^^^ C) ∧
     exec (.andn t a b c) s = result (B &&& ~~~C) ∧
     exec (.slt t a b c) s = result (if B.toInt < C.toInt then 1 else 0) ∧
     exec (.sltu t a b c) s = result (if B.toNat < C.toNat then 1 else 0) ∧
     exec (.seq t a b c) s = result (if B = C then 1 else 0) ∧
     exec (.min t a b c) s = result (if B.toInt < C.toInt then B else C) ∧
     exec (.max t a b c) s = result (if B.toInt < C.toInt then C else B) ∧
     exec (.minu t a b c) s = result (if B.toNat < C.toNat then B else C) ∧
     exec (.maxu t a b c) s = result (if B.toNat < C.toNat then C else B) ∧
     exec (.shl t a b c) s = result (BitVec.ofNat 64 (if C.toNat < 64 then B.toNat * 2 ^ C.toNat else 0)) ∧
     exec (.shr t a b c) s = result (BitVec.ofNat 64 (if C.toNat < 64 then B.toNat / 2 ^ C.toNat else 0)) ∧
     exec (.sar t a b c) s = result (B.sshiftRight (if C.toNat < 64 then C.toNat else 63)) ∧
     exec (.rol t a b c) s = result (B.rotateLeft (C.toNat % 64)) ∧
     exec (.ror t a b c) s = result (B.rotateRight (C.toNat % 64))) ∧
  (∀ (s : State) (t : Nat) (a b : BitVec 5) (imm : BitVec 16), Ready s t true [b] →
     let B := (s.thread t).reg b
     let result (v : Word) : Out := gives s t [b] a v 1 0
     exec (.addi t a b imm) s = result (B + imm.signExtend 64) ∧
     exec (.andi t a b imm) s = result (B &&& imm.zeroExtend 64) ∧
     exec (.ori t a b imm) s = result (B ||| imm.zeroExtend 64) ∧
     exec (.xori t a b imm) s = result (B ^^^ imm.zeroExtend 64) ∧
     exec (.slti t a b imm) s = result (if B.toInt < imm.toInt then 1 else 0) ∧
     exec (.sltui t a b imm) s = result (if B.toNat < (imm.signExtend 64).toNat then 1 else 0))

/-- Counts, byte swaps, fields, quarters and immediate shifts (R139, R142). -/
def Obligations.BitFieldInstructionsComplete : Prop :=
  (∀ (s : State) (t : Nat) (a b : BitVec 5), Ready s t true [b] →
    let B := (s.thread t).reg b
    let result (v : Word) : Out := gives s t [b] a v 1 0
    exec (.clz t a b) s = result (BitVec.ofNat 64 (leadingZeros B)) ∧
    exec (.ctz t a b) s = result (BitVec.ofNat 64 (trailingZeros B)) ∧
    exec (.popc t a b) s = result (BitVec.ofNat 64 (onesOf B)) ∧
    exec (.bswp16 t a b) s = result (BitVec.ofNat 64 (leNat (leBytes 2 B.toNat).reverse)) ∧
    exec (.bswp32 t a b) s = result (BitVec.ofNat 64 (leNat (leBytes 4 B.toNat).reverse)) ∧
    exec (.bswp64 t a b) s = result (BitVec.ofNat 64 (leNat (leBytes 8 B.toNat).reverse)) ∧
    (∀ pos len : BitVec 6,
      exec (.exti t a b pos len) s = result (BitVec.ofNat 64 (B.toNat / 2 ^ pos.toNat % 2 ^ (len.toNat + 1))) ∧
      exec (.extsi t a b pos len) s =
        result (BitVec.ofInt 64 (signedOf (len.toNat + 1) (B.sshiftRight pos.toNat).toNat))) ∧
    (∀ imm : BitVec 16,
      exec (.setq0 t a b imm) s = result (setFld B 0 16 imm.toNat) ∧
      exec (.setq1 t a b imm) s = result (setFld B 16 16 imm.toNat) ∧
      exec (.setq2 t a b imm) s = result (setFld B 32 16 imm.toNat) ∧
      exec (.setq3 t a b imm) s = result (setFld B 48 16 imm.toNat)) ∧
    (∀ amount : BitVec 6,
      exec (.shli t a b amount) s = result (BitVec.ofNat 64 (B.toNat * 2 ^ amount.toNat)) ∧
      exec (.shri t a b amount) s = result (BitVec.ofNat 64 (B.toNat / 2 ^ amount.toNat)) ∧
      exec (.sari t a b amount) s = result (B.sshiftRight amount.toNat) ∧
      exec (.roli t a b amount) s = result (B.rotateLeft amount.toNat))) ∧
  (∀ (s : State) (t : Nat) (a b : BitVec 5) (pos len : BitVec 6), Ready s t true [a, b] →
    exec (.insi t a b pos len) s =
      gives s t [a, b] a (insertField ((s.thread t).reg a) ((s.thread t).reg b) pos len) 1 0)

/-- `NEG`, products, quotients and conditional moves (R139, R142): values, sticky bits (1 OV, 2 DZ; 4 and 8 mark an
instruction that may set OV, DZ: their youngest producer, R176) and distances. -/
def Obligations.MultiplyDivideComplete : Prop :=
  (∀ (s : State) (t : Nat) (a b : BitVec 5), Ready s t true [b] →
    let B := (s.thread t).reg b
    exec (.neg t a b) s = gives s t [b] a (-B) 1 (if B.toInt = -2 ^ 63 then 5 else 4)) ∧
  (∀ (s : State) (t : Nat) (a b c : BitVec 5), Ready s t true [b, c] →
    let B := (s.thread t).reg b
    let C := (s.thread t).reg c
    let d := if t / 8 % 32 < 30 then 18 else 12
    let result (v : Word) (distance flags : Nat) : Out := gives s t [b, c] a v distance flags
    exec (.mul t a b c) s = result (B * C) 3 0 ∧
    exec (.mulh t a b c) s = result (BitVec.ofInt 64 (B.toInt * C.toInt / 2 ^ 64)) 3 0 ∧
    exec (.mulhu t a b c) s = result (BitVec.ofNat 64 (B.toNat * C.toNat / 2 ^ 64)) 3 0 ∧
    exec (.div t a b c) s =
      (if C = 0 then result 0 d 14
       else if B.toInt = -2 ^ 63 ∧ C.toInt = -1 then result B d 13
       else result (BitVec.ofInt 64 (B.toInt.tdiv C.toInt)) d 12) ∧
    exec (.rem t a b c) s = result (if C = 0 then B else BitVec.ofInt 64 (B.toInt.tmod C.toInt)) d (if C = 0 then 10 else 8) ∧
    exec (.divu t a b c) s = result (BitVec.ofNat 64 (B.toNat / C.toNat)) d (if C = 0 then 10 else 8) ∧
    exec (.remu t a b c) s = result (BitVec.ofNat 64 (B.toNat % C.toNat)) d (if C = 0 then 10 else 8)) ∧
  (∀ (s : State) (t : Nat) (a b c : BitVec 5), Ready s t true [a, b, c] →
    let B := (s.thread t).reg b
    let C := (s.thread t).reg c
    let r := issued s t [a, b, c]
    exec (.cmovz t a b c) s = (if C = 0 then gives s t [a, b, c] a B 1 0 else completes t 1 r) ∧
    exec (.cmovn t a b c) s = (if C = 0 then completes t 1 r else gives s t [a, b, c] a B 1 0))

/-- Trapping arithmetic and bounds checks (R142, R146, R151). -/
def Obligations.TrappingArithmeticCompletesOrFaults : Prop :=
  (∀ (s : State) (t : Nat) (a b c : BitVec 5), Ready s t true [b, c] →
    let B := (s.thread t).reg b
    let C := (s.thread t).reg c
    let fits (v : Int) : Prop := -2 ^ 63 ≤ v ∧ v < 2 ^ 63
    let d := if t / 8 % 32 < 30 then 18 else 12
    let result (v : Int) (distance : Nat) : Out := gives s t [b, c] a (BitVec.ofInt 64 v) distance 0
    let fault (code : Nat) : Out := faults t code B (issued s t [b, c])
    (fits (B.toInt + C.toInt) → exec (.addt t a b c) s = result (B.toInt + C.toInt) 1) ∧
    (¬fits (B.toInt + C.toInt) → exec (.addt t a b c) s = fault 9) ∧
    (fits (B.toInt - C.toInt) → exec (.subt t a b c) s = result (B.toInt - C.toInt) 1) ∧
    (¬fits (B.toInt - C.toInt) → exec (.subt t a b c) s = fault 9) ∧
    (fits (B.toInt * C.toInt) → exec (.mult t a b c) s = result (B.toInt * C.toInt) 3) ∧
    (¬fits (B.toInt * C.toInt) → exec (.mult t a b c) s = fault 9) ∧
    (C ≠ 0 → ¬(B.toInt = -2 ^ 63 ∧ C.toInt = -1) → exec (.divt t a b c) s = result (B.toInt.tdiv C.toInt) d) ∧
    (C = 0 → exec (.divt t a b c) s = fault 10) ∧
    (B.toInt = -2 ^ 63 → C.toInt = -1 → exec (.divt t a b c) s = fault 9) ∧
    (C ≠ 0 → exec (.remt t a b c) s = result (B.toInt.tmod C.toInt) d) ∧
    (C = 0 → exec (.remt t a b c) s = fault 10)) ∧
  (∀ (s : State) (t : Nat) (a b : BitVec 5) (imm : BitVec 16), Ready s t true [b] →
    let B := (s.thread t).reg b
    let fits (v : Int) : Prop := -2 ^ 63 ≤ v ∧ v < 2 ^ 63
    let fault : Out := faults t 9 B (issued s t [b])
    (B.toInt ≠ -2 ^ 63 → exec (.negt t a b) s = gives s t [b] a (BitVec.ofInt 64 (-B.toInt)) 1 0) ∧
    (B.toInt = -2 ^ 63 → exec (.negt t a b) s = fault) ∧
    (fits (B.toInt + imm.toInt) →
      exec (.addti t a b imm) s = gives s t [b] a (BitVec.ofInt 64 (B.toInt + imm.toInt)) 1 0) ∧
    (¬fits (B.toInt + imm.toInt) → exec (.addti t a b imm) s = fault)) ∧
  (∀ (s : State) (t : Nat) (a b c : BitVec 5) (imm : BitVec 16),
    let A := ((s.thread t).reg a)
    let B := ((s.thread t).reg b)
    let C := ((s.thread t).reg c)
    (Ready s t true [a, b] → exec (.chk t a b) s =
      (if A.toNat < B.toNat then completes t 1 (issued s t [a, b]) else faults t 11 A (issued s t [a, b]))) ∧
    (Ready s t true [a] → exec (.chki t a imm) s =
      (if A.toNat < imm.toNat then completes t 1 (issued s t [a]) else faults t 11 A (issued s t [a]))) ∧
    (Ready s t true [a, b, c] → exec (.chkr t a b c) s =
      (if B.toNat ≤ A.toNat ∧ A.toNat < C.toNat then completes t 1 (issued s t [a, b, c])
       else faults t 11 A (issued s t [a, b, c]))) ∧
    (Ready s t true [a] → ∀ (k : Nat) (x : Ctx), (s.thread t).task = .packet k → s.ctx? k = some x →
      exec (.pwck t a imm) s = (if A.toNat + imm.toNat ≤ x.pktLen then completes t 1 (issued s t [a])
        else faults t 12 A (issued s t [a]))) ∧
    (Ready s t true [a] → (s.thread t).ctxId = none →
      exec (.pwck t a imm) s = faults t 21 (BitVec.ofNat 64 (wordI 0x13 a 0 imm.toNat)) (issued s t [a])))

/-- Branches and service calls (R125, R139, R140). -/
def Obligations.BranchesComplete : Prop :=
  (∀ (s : State) (t : Nat) (a : BitVec 5) (off : BitVec 21), Ready s t false [a] →
    let A := (s.thread t).reg a
    let target := (((s.thread t).pc : Int) + 4 * off.toInt) % 2 ^ 64
    let goes (taken : Bool) : Out := branches t target.toNat taken (issued s t [a])
    exec (.beqz t a off) s = goes (decide (A = 0)) ∧
    exec (.bnez t a off) s = goes (decide (A ≠ 0)) ∧
    exec (.bltz t a off) s = goes (decide (A.toInt < 0)) ∧
    exec (.bgez t a off) s = goes (decide (0 ≤ A.toInt)) ∧
    exec (.blez t a off) s = goes (decide (A.toInt ≤ 0)) ∧
    exec (.bgtz t a off) s = goes (decide (0 < A.toInt))) ∧
  (∀ (s : State) (t : Nat) (a : BitVec 5) (off : BitVec 21), Ready s t false [] →
    let x := s.thread t
    exec (.bal t a off) s = branches t ((((x.pc : Int) + 4 * off.toInt) % 2 ^ 64).toNat) true
      (writeReg (issued s t []) t a (BitVec.ofNat 64 (x.pc + 8)) 1 0)) ∧
  (∀ (s : State) (t : Nat) (a b : BitVec 5), Ready s t false [b] →
    let x := s.thread t
    exec (.jalr t a b) s = branches t (x.reg b).toNat true
      (writeReg (issued s t [b]) t a (BitVec.ofNat 64 (x.pc + 8)) 1 0)) ∧
  (∀ (s : State) (t : Nat) (n : BitVec 12), Ready s t false [] →
    let x := s.thread t
    let r := issued s t []
    (x.level = 2 → n.toNat ≤ 255 → exec (.svc t n) s = jumps t ((x.csr 0x10).toNat + 16 * n.toNat) 3
      (r.setThread t { x with
        level := 1, csrs := AMap.put (AMap.put x.csrs 0x11 (BitVec.ofNat 64 (x.pc + 4) &&& csrMask 0x11)) 0x12 2 })) ∧
    (x.level ≠ 2 ∨ 255 < n.toNat → exec (.svc t n) s = faults t 2 (BitVec.ofNat 64 (wordX 1 0 0 n.toNat 6)) r) ∧
    (x.level = 1 → exec (.sret t) s =
      jumps t (x.csr 0x11).toNat 3 (r.setThread t { x with level := ((x.csr 0x12).toNat) % 4 })) ∧
    (x.level ≠ 1 → exec (.sret t) s = faults t 2 (BitVec.ofNat 64 (wordX 1 0 0 0 7)) r))

/-- Loads (R122, R126, R136, R139, R159, R172): where they complete, block and fault. -/
def Obligations.LoadsComplete : Prop :=
  (∀ (s : State) (t : Nat) (a b : BitVec 5) (disp : BitVec 16), Ready s t true [b] →
    let x := s.thread t
    let r := issued s t [b]
    let addr := (x.reg b + disp.signExtend 64).toNat
    let distance := if onCc t then 3 else 2
    ∀ q ∈ [((.ld8 t a b disp : Instr), 0x20, 1, false), (.ld8s t a b disp, 0x21, 1, true), (.ld16 t a b disp, 0x22, 2, false),
        (.ld16s t a b disp, 0x23, 2, true), (.ld32 t a b disp, 0x24, 4, false), (.ld32s t a b disp, 0x25, 4, true),
        (.ld64 t a b disp, 0x26, 8, false)],
      let value (v : Nat) : Word := if q.2.2.2 then BitVec.ofInt 64 (signedOf (8 * q.2.2.1) v) else BitVec.ofNat 64 v
      (addr % q.2.2.1 ≠ 0 → exec q.1 s = faults t 4 (BitVec.ofNat 64 addr) r) ∧
      (addr % q.2.2.1 = 0 →
        (∀ m : MemRef, place r x t addr q.2.2.1 false = .ref m → forwarded r t m q.2.2.1 = .none →
          exec q.1 s = match m with
            | .localStore _ _ => gives s t [b] a (value (readMem r m q.2.2.1)) distance 0
            | .window _ _ => gives s t [b] a (value (readMem r m q.2.2.1)) distance 0
            | .sram _ _ =>
              if deterministic r t = true ∧ onCc t = true then gives s t [b] a (value (readMem r m q.2.2.1)) 3 0
              else blocks t (.access (.load q.2.2.1 q.2.2.2) m (BitVec.ofNat 64 addr) a.toNat) r
            | _ => blocks t (.access (.load q.2.2.1 q.2.2.2) m (BitVec.ofNat 64 addr) a.toNat) r) ∧
        (∀ (m : MemRef) (v : Nat), place r x t addr q.2.2.1 false = .ref m → forwarded r t m q.2.2.1 = .value v →
          exec q.1 s = gives s t [b] a (value v) 3 0) ∧
        (∀ (m : MemRef) (k : Nat), place r x t addr q.2.2.1 false = .ref m → forwarded r t m q.2.2.1 = .after k →
          exec q.1 s = blocks t (.overlap k m q.2.2.1 q.2.2.2 false a.toNat) (perfCount r t 18)) ∧
        (∀ off : Nat, place r x t addr q.2.2.1 false = .record off →
          exec q.1 s = gives s t [b] a (value (leNat ((List.range q.2.2.1).map (fun k => recordByte r x (off + k))))) distance 0) ∧
        (∀ code : Nat, place r x t addr q.2.2.1 false = .bad code →
          exec q.1 s = faults t code (BitVec.ofNat 64 (if code = 0x15 then wordI q.2.1 a b disp.toNat else addr)) r))) ∧
  (∀ (s : State) (t : Nat) (a b : BitVec 5) (disp : BitVec 16), Ready s t true [b] →
    let x := s.thread t
    let r := issued s t [b]
    let addr := (x.reg b + disp.signExtend 64).toNat
    ∀ q ∈ [((.lpw16 t a b disp : Instr), 0x2C, 2), (.lpw32 t a b disp, 0x2D, 4), (.lpw64 t a b disp, 0x2E, 8)],
      (x.ctxId = none → exec q.1 s = faults t 21 (BitVec.ofNat 64 (wordI q.2.1 a b disp.toNat)) r) ∧
      (∀ c : Nat, x.ctxId = some c →
        (addr < 0x100000 ∨ 0x104000 < addr + q.2.2 → exec q.1 s = faults t 5 (BitVec.ofNat 64 addr) r) ∧
        (0x100000 ≤ addr → addr + q.2.2 ≤ 0x104000 → forwarded r t (.window c (addr - 0x100000)) q.2.2 = .none →
          exec q.1 s = gives s t [b] a (BitVec.ofNat 64 (beNat (readBytes r (.window c (addr - 0x100000)) q.2.2)))
            (if onCc t then 3 else 2) 0)))

/-- Stores (R108, R122, R139, R143, R147, R159, R173): where they complete, block and fault. -/
def Obligations.StoresComplete : Prop :=
  ∀ (s : State) (t : Nat) (a b : BitVec 5) (disp : BitVec 16), Ready s t true [a, b] →
    let x := s.thread t
    let r := issued s t [a, b]
    let addr := (x.reg b + disp.signExtend 64).toNat
    let where_ := BitVec.ofNat 64 addr
    ∀ q ∈ [((.st8 t a b disp : Instr), 0x28, 1), (.st16 t a b disp, 0x29, 2), (.st32 t a b disp, 0x2A, 4), (.st64 t a b disp, 0x2B, 8)],
      (addr % q.2.2 ≠ 0 → exec q.1 s = faults t 4 where_ r) ∧
      (addr % q.2.2 = 0 →
        (∀ code : Nat, place r x t addr q.2.2 true = .bad code →
          exec q.1 s = faults t code (BitVec.ofNat 64 (if code = 0x15 then wordI q.2.1 a b disp.toNat else addr)) r) ∧
        (∀ off : Nat, place r x t addr q.2.2 true = .record off → exec q.1 s = faults t 6 where_ r) ∧
        (∀ m : MemRef, place r x t addr q.2.2 true = .ref m →
          let near := match m with | .localStore _ _ => true | .window _ _ => true | _ => false
          let dram := match m with | .dram _ _ => true | _ => false
          (touchesLock r m q.2.2 = true → exec q.1 s = faults t 5 where_ r) ∧
          (touchesLock r m q.2.2 = false →
            (near = true → onCc t = false ∨ deterministic r t = true →
              exec q.1 s = completes t 2 (writeMem r m q.2.2 (x.reg a).toNat)) ∧
            (near = false → x.spec r = true → exec q.1 s = blocks t .serial r) ∧
            (near = false → x.spec r = false → (dram = true ∨ onCc t = false) →
              exec q.1 s = blocks t (.access (.store q.2.2 (x.reg a)) m where_ 0) r) ∧
            (near = false → x.spec r = false → dram = false → onCc t = true → deterministic r t = true →
              exec q.1 s = completes t 2 (writeMem r m q.2.2 (x.reg a).toNat)) ∧
            (dram = false → (near = true ∨ x.spec r = false) → onCc t = true → deterministic r t = false →
              exec q.1 s = if (ccBuffer r t).length < 8
                then completes t 2 (setCcBuffer r t (ccBuffer r t ++ [⟨t, m, q.2.2, x.reg a⟩]))
                else blocks t (.bufferRoom m q.2.2 (x.reg a)) r))))

/-- Atomics (R230, R231), the store buffer's drain (R173), results landing (R153, R154), accesses coming back (R159). -/
def Obligations.AtomicsAndLandingsComplete : Prop :=
  (∀ (s : State) (t : Nat) (a b c : BitVec 5) (m : MemRef),
    let x := s.thread t
    let addr := (x.reg b).toNat
    ∀ q ∈ [((.aadd t a b c : Instr), [b, c], AccessOp.add (x.reg c)), (.acas t a b c, [a, b, c], .cas (x.reg a) (x.reg c)),
        (.aswp t a b c, [b, c], .swap (x.reg c))],
      let r := issued s t q.2.1
      let old : Word := BitVec.ofNat 64 (readMem r m 8)
      let new : Word := match q.2.2 with
        | .add v => old + v
        | .cas e v => if old = e then v else old
        | .swap v => v
        | _ => old
      let near := match m with | .localStore _ _ => true | .window _ _ => true | _ => false
      Ready s t true q.2.1 →
      (addr % 8 ≠ 0 → exec q.1 s = faults t 4 (x.reg b) r) ∧
      (addr % 8 = 0 → place r x t addr 8 true = .ref m → touchesLock r m 8 = true → exec q.1 s = faults t 5 (x.reg b) r) ∧
      (addr % 8 = 0 → place r x t addr 8 true = .ref m → touchesLock r m 8 = false → ccBuffer r t ≠ [] → exec q.1 s = blocks t .bufferEmpty r) ∧
      (addr % 8 = 0 → place r x t addr 8 true = .ref m → touchesLock r m 8 = false → ccBuffer r t = [] →
        (near = true → exec q.1 s =
          completes t 3 (writeReg (if new = old then r else writeMem r m 8 new.toNat) t a old (if onCc t then 1 else 2) 0)) ∧
        (near = false → x.spec r = true → exec q.1 s = blocks t .serial r) ∧
        (near = false → x.spec r = false → exec q.1 s = blocks t (.access q.2.2 m (x.reg b) a.toNat) r))) ∧
  (∀ (s : State) (t : Nat) (e : BufStore) (rest : List BufStore), okTid t = true → ccBuffer s t = e :: rest →
    let u := setCcBuffer s t rest
    let v := if touchesLock u e.place e.size then u else writeMem u e.place e.size e.value.toNat
    (∀ w : Nat, w = t / 8 * 8 ∨ w = t / 8 * 8 + 1 → (v.thread w).block = .none) →
    exec (.storeBufferDrain t) s = acts v) ∧
  (∀ (s : State) (t num : Nat) (f : Flight), okTid t = true → (s.thread t).block = .none →
    (s.thread t).flights.find? (fun f => f.num == num) = some f →
    (∀ g ∈ (s.thread t).flights.takeWhile (fun g => g.num != num), g.reg = f.reg → f.dist < g.dist) →
    let x := s.thread t
    let landed := fun (x : Thread) => { x with
      flights := x.flights.erase f, ov := x.ov || Nat.testBit f.flags 0, dz := x.dz || Nat.testBit f.flags 1 }
    ((∀ n, AMap.find x.landed f.reg = some n → n ≤ f.num) → exec (.resultLand t num) s =
      acts (s.setThread t { landed x with
        regs := if f.reg = 0 then x.regs else AMap.put x.regs f.reg f.value, landed := AMap.put x.landed f.reg f.num })) ∧
    (∀ n, AMap.find x.landed f.reg = some n → f.num < n → exec (.resultLand t num) s = acts (s.setThread t (landed x)))) ∧
  (∀ (s : State) (t : Nat) (m : MemRef) (addr : Word) (dst : Nat), okTid t = true →
    let back (op : AccessOp) : Prop := (s.thread t).block = .access op m addr dst ∧ accessServed s op m = true
    (∀ (size : Nat) (signed : Bool), back (.load size signed) → poisoned s m size = false →
      exec (.memoryAccessComplete t) s =
        acts (wake (panRequest s t m size) t dst (loadValue size signed (readMem s m size)))) ∧
    (∀ (size : Nat) (v : Word), back (.store size v) → touchesLock s m size = false → poisoned s m size = false →
      exec (.memoryAccessComplete t) s = acts (wake (writeMem (panRequest s t m size) m size v.toNat) t 0 0)) ∧
    (∀ v : Word, back (.add v) → touchesLock s m 8 = false → poisoned s m 8 = false →
      let old : Word := BitVec.ofNat 64 (readMem s m 8)
      v ≠ 0 → exec (.memoryAccessComplete t) s = acts (wake (writeMem (panRequest s t m 8) m 8 (old + v).toNat) t dst old)))

/-- CSR access (R130–R134), `CSYNC` (R174), `SER` (R108), `FENCE` (R143, R173), `TRAP` (R151), illegal words (R137). -/
def Obligations.SystemInstructionsComplete : Prop :=
  (∀ (s : State) (t : Nat) (a : BitVec 5) (n : BitVec 12), Ready s t true [] →
    let x := s.thread t
    let r := issued s t []
    let busy := n = 0 ∧ guarded x = true ∧ (producing x 32 = true ∨ producing x 33 = true)
    (csrExists n.toNat = true → x.level ≤ csrReadLevel n.toNat → ¬busy →
      exec (.csrr t a n) s = completes t 1 (writeReg (reportCsr (csrRead r t x n.toNat).2 t n.toNat) t a (csrRead r t x n.toNat).1 1 0)) ∧
    (csrExists n.toNat = false → exec (.csrr t a n) s = faults t 1 (BitVec.ofNat 64 (wordX 1 a 0 n.toNat 0)) r) ∧
    (csrExists n.toNat = true → csrReadLevel n.toNat < x.level → exec (.csrr t a n) s = faults t 2 (n.zeroExtend 64) r)) ∧
  (∀ (s : State) (t : Nat) (a b : BitVec 5) (n : BitVec 12), Ready s t true [] → csrExists n.toNat = false →
    let r := issued s t []
    exec (.csrw t a b n) s = faults t 1 (BitVec.ofNat 64 (wordX 1 a b n.toNat 1)) r ∧
    exec (.csrs t a b n) s = faults t 1 (BitVec.ofNat 64 (wordX 1 a b n.toNat 2)) r ∧
    exec (.csrc t a b n) s = faults t 1 (BitVec.ofNat 64 (wordX 1 a b n.toNat 3)) r) ∧
  (∀ (s : State) (t : Nat) (a b : BitVec 5) (n : BitVec 12) (l : Nat), Ready s t true [b] →
    let x := s.thread t
    let r := issued s t [b]
    let B := x.reg b
    ∀ q ∈ [((.csrw t a b n : Instr), 1, fun (_ v : Word) => v), (.csrs t a b n, 2, fun old v => old ||| v),
        (.csrc t a b n, 3, fun old v => old &&& ~~~v)],
      (csrExists n.toNat = true → csrWriteLevel n.toNat = some l → x.level ≤ l → x.level ≤ csrReadLevel n.toNat →
        (csrSync n.toNat = true →
          exec q.1 s = completes t 1 (writeReg (r.setThread t { x with
            pendingCsrs := AMap.put x.pendingCsrs n.toNat (q.2.2 (x.csr n.toNat) B &&& csrMask n.toNat),
            csrWrites := AMap.put x.csrWrites n.toNat ⟨x.issued, 0, x.pc, x.cost⟩ }) t a (x.csr n.toNat) 1 0)) ∧
        (csrSync n.toNat = false → n.toNat ≠ 0 → n.toNat ≠ 4 →
          exec q.1 s = completes t 1 (writeReg (r.setThread t { x with
            csrs := AMap.put x.csrs n.toNat (q.2.2 (x.csr n.toNat) B &&& csrMask n.toNat) }) t a (x.csr n.toNat) 1 0)) ∧
        (n.toNat = 4 → ∀ (c : Nat) (k : Ctx), x.task = .packet c → r.ctx? c = some k →
          (q.2.2 (BitVec.ofNat 64 k.pktLen) B).toNat ≤ 15872 →
          exec q.1 s = completes t 1 (writeReg
            (r.setCtx c { k with pktLen := (q.2.2 (BitVec.ofNat 64 k.pktLen) B).toNat }) t a (BitVec.ofNat 64 k.pktLen) 1 0)) ∧
        (n.toNat = 0 → ¬(guarded x = true ∧ (producing x 32 = true ∨ producing x 33 = true)) →
          exec q.1 s = completes t 1 (writeReg (r.setThread t { x with
            ov := x.ov && !(q.2.2 (BitVec.ofNat 64 (tstat x)) B).getLsbD 0,
            dz := x.dz && !(q.2.2 (BitVec.ofNat 64 (tstat x)) B).getLsbD 1 }) t a (BitVec.ofNat 64 (tstat x)) 1 0))) ∧
      (csrExists n.toNat = true → csrWriteLevel n.toNat = none → exec q.1 s = faults t 2 (n.zeroExtend 64) r) ∧
      (csrExists n.toNat = true → csrWriteLevel n.toNat = some l → l < x.level → exec q.1 s = faults t 2 (n.zeroExtend 64) r)) ∧
  (∀ (s : State) (t : Nat), Ready s t true [] →
    let x := s.thread t
    let r := issued s t []
    (x.flights = [] → exec (.csync t) s = completes t 1 (r.setThread t { x with
      csrs := x.pendingCsrs.foldl (fun m p => AMap.put m p.1 p.2) x.csrs, pendingCsrs := [], csrWrites := [] })) ∧
    (x.flights ≠ [] → exec (.csync t) s =
      blocks t .results (r.setThread t { x with cost := x.flights.foldl (fun c f => max c f.ready) x.cost })) ∧
    (x.spec r = false → exec (.ser t) s = completes t 1 r) ∧
    (x.spec r = true → exec (.ser t) s = blocks t .serial r) ∧
    (ccBuffer r t = [] → exec (.fence t) s = completes t 1 r) ∧
    (ccBuffer r t ≠ [] → exec (.fence t) s = blocks t .bufferEmpty r) ∧
    (∀ n : BitVec 12, exec (.trap t n) s = faults t 0x17 (n.zeroExtend 64) r) ∧
    (∀ w : BitVec 32, w.toNat / 2 ^ 26 = 0x3F → exec (.illegalInstruction t w) s = faults t 3 3 r) ∧
    (∀ w : BitVec 32, w.toNat / 2 ^ 26 < 0x3E → legalWord w.toNat = false →
      exec (.illegalInstruction t w) s = faults t 1 (w.zeroExtend 64) r))

/-- What stops an instruction before it executes (R140, R141, R175, R176), shown on `ADD`, `LD64` and `BAL`. -/
def Obligations.IssueFaultsAndWaits : Prop :=
  ∀ (s : State) (t : Nat) (a b c : BitVec 5) (disp : BitVec 16) (off : BitVec 21), okTid t = true →
    let x := s.thread t
    (canIssue s t = false → exec (.add t a b c) s = acts s ∧ exec (.ld64 t a b disp) s = acts s ∧ exec (.bal t a off) s = acts s) ∧
    (canIssue s t = true → x.issuedRegs = none → fetchBad s t = true →
      let f := acts (faultThread s t 7 (BitVec.ofNat 64 x.pc) (if x.dslot then x.pc else x.branch))
      exec (.add t a b c) s = f ∧ exec (.ld64 t a b disp) s = f ∧ exec (.bal t a off) s = f) ∧
    (canIssue s t = true → x.issuedRegs = none → fetchBad s t = false → x.dslot = true →
      exec (.bal t a off) s = acts (faultThread s t 8 (BitVec.ofNat 64 (wordB 0x14 a off)) x.pc)) ∧
    (canIssue s t = true → x.issuedRegs = none → fetchBad s t = false → guarded x = true → b ≠ 0 → producing x b.toNat = true →
      let w := acts (s.setThread t { x with block := .guarded b.toNat, waited := true })
      exec (.add t a b c) s = w ∧ exec (.ld64 t a b disp) s = w)

/-- Lock instructions (R147, R202, R234, R235, R237) and the lock units' own events (R234, R236). -/
def Obligations.LockInstructionsComplete : Prop :=
  (∀ (s : State) (t : Nat) (a b : BitVec 5), Ready s t true [] →
    let r := issued s t []
    exec (.lka t a b 0) s = faults t 1 (BitVec.ofNat 64 (wordI 0x33 a b 0)) r ∧
    exec (.lkt t a b 0) s = faults t 1 (BitVec.ofNat 64 (wordI 0x34 a b 0)) r) ∧
  (∀ (s : State) (t : Nat) (a b : BitVec 5) (lease : BitVec 16), Ready s t true [b] →
    let x := s.thread t
    let r := issued s t [b]
    let B := x.reg b
    (lease ≠ 0 → ∀ m : MemRef, lockPlace r x t B = .inl m →
      let l := lockEntry r m
      let full := !l.inTable && tableFull r m
      let wait (tries : Bool) : Out :=
        acts (applyLockRule (blockThread (requestLock (if full then countTableFull r t m else r) x t m B lease.toNat tries) t
          (.lock m a.toNat)) l)
      (holdsLock r t m = true → exec (.lka t a b lease) s = faults t 17 B r ∧ exec (.lkt t a b lease) s = faults t 17 B r) ∧
      (holdsLock r t m = false → ccBuffer r t = [] →
        exec (.lka t a b lease) s = wait false ∧
        (l.held = true ∨ full = true → exec (.lkt t a b lease) s = completes t 6 (writeReg r t a 2 1 0)) ∧
        (l.held = false → full = false → exec (.lkt t a b lease) s = wait true)))) ∧
  (∀ (s : State) (t : Nat) (b : BitVec 5) (m : MemRef), Ready s t true [b] →
    let x := s.thread t
    let r := issued s t [b]
    lockPlace r x t (x.reg b) = .inl m →
    (∀ l : Lock, findLock r m = some l → l.held = true → l.owner = t → ccBuffer r t = [] →
      exec (.lkr t b) s = completes t 2 (releaseLock r l false)) ∧
    (holdsLock r t m = false → exec (.lkr t b) s = faults t 16 (x.reg b) r)) ∧
  (∀ (s : State) (m : MemRef) (l : Lock), findLock s m = some l → l.held = false → l.waiters ≠ [] →
    (l.inTable = true → exec (.lockGrant m) s = acts (grantNext s l)) ∧
    (l.inTable = false → tableFull s m = false → exec (.lockGrant m) s = acts (grantNext s (acquireWord s l))) ∧
    (l.inTable = false → tableFull s m = true → exec (.lockGrant m) s = .next s)) ∧
  (∀ (s : State) (m : MemRef) (l : Lock), findLock s m = some l → l.held = true → l.leaseEnd ≤ now s →
    let freed := releaseLock s l true
    let granted := match findLock freed m with | none => freed | some k => grantNext freed k
    let u := panCount granted (tidPan l.owner) 14
    let x := u.thread l.owner
    x.held = false → x.task ≠ .none → (∀ c v p e n, x.block ≠ .deferred (.fault c v p e n)) →
    exec (.leaseExpired m) s = acts (faultThread (withdrawWait u l.owner) l.owner 0x12 l.addr x.pc))

/-- Channels (R145, R198–R203) and what becomes of faulted tasks (R205, R206). -/
def Obligations.ChannelInstructionsComplete : Prop :=
  (∀ (s : State) (t : Nat) (a : BitVec 5) (ch : BitVec 4), Ready s t true [] →
    let x := s.thread t
    let r := issued s t []
    let p := tidPan t
    (ch.toNat < 8 →
      (∀ e rest, AMap.at x.responses ch.toNat [] = e :: rest → exec (.chr t a ch) s =
        acts (takeResponse (r.setThread t { x with responses := AMap.put x.responses ch.toNat rest }) t a.toNat e)) ∧
      (AMap.at x.responses ch.toNat [] = [] → exec (.chr t a ch) s = blocks t (.chanEmpty ch.toNat a.toNat) r)) ∧
    (8 ≤ ch.toNat →
      (∀ n e rest, chanOf x ch.toNat = .sibling n →
        let k := linkKey (t / 8 * 8 + n) t
        linkOf r k = e :: rest →
        exec (.chr t a ch) s = (if e.landed then acts (wake (serveLink (setLinkTo r k rest) k) t a.toNat e.value)
          else blocks t (.chanEmpty ch.toNat a.toNat) r)) ∧
      (∀ q m, chanOf x ch.toNat = .readEnd q → msgqOf r p q = some m →
        (∀ v u, takeMsg r p q m t = some (v, u) → exec (.chr t a ch) s = acts (wake (serveQueue u p q) t a.toNat v)) ∧
        (takeMsg r p q m t = none → exec (.chr t a ch) s = blocks t (.chanEmpty ch.toNat a.toNat) r)) ∧
      (∀ v u, chanOf x ch.toNat = .faultQueue → takeFaultWord r p = some (v, u) →
        exec (.chr t a ch) s = acts (wake u t a.toNat v)) ∧
      (chanOf x ch.toNat = .unconnected → exec (.chr t a ch) s = faults t 14 (BitVec.ofNat 64 ch.toNat) r)) ∧
    (∀ n, channelReady r x t ch.toNat = some n → exec (.chp t a ch) s = gives s t [] a (BitVec.ofNat 64 n) 1 0) ∧
    (channelReady r x t ch.toNat = none → exec (.chp t a ch) s = faults t 14 (ch.zeroExtend 64) r)) ∧
  (∀ (s : State) (t : Nat) (a : BitVec 5) (ch : BitVec 4), Ready s t true [a] →
    let x := s.thread t
    let r := issued s t [a]
    let p := tidPan t
    (ch.toNat < 8 → exec (.chw t a ch) s = faults t 14 (ch.zeroExtend 64) r) ∧
    (8 ≤ ch.toNat →
      (∀ n, chanOf x ch.toNat = .sibling n → n ≠ tidThread t → siblingOurs r t n = true →
        let k := linkKey t (t / 8 * 8 + n)
        exec (.chw t a ch) s = (if (linkOf r k).length < 4 then completes t 2 (setLinkTo r k (linkOf r k ++ [⟨x.reg a, false⟩]))
          else blocks t (.chanFull ch.toNat (x.reg a)) r)) ∧
      (∀ q m, chanOf x ch.toNat = .writeEnd q → msgqOf r p q = some m → x.spec r = false →
        exec (.chw t a ch) s = (if m.entries.length < m.depth
          then completes t 2 (setMsgq r p q { m with entries := m.entries ++ [⟨x.reg a, false⟩] })
          else blocks t (.chanFull ch.toNat (x.reg a)) r)) ∧
      (∀ q m, chanOf x ch.toNat = .writeEnd q → msgqOf r p q = some m → x.spec r = true →
        exec (.chw t a ch) s = blocks t .serial r) ∧
      (chanOf x ch.toNat = .control → exec (.chw t a ch) s = completes t 2 (controlWord r p (x.reg a))))) ∧
  (∀ (s : State) (from_ to_ : Nat), okTid from_ = true → okTid to_ = true →
    let k := linkKey from_ to_
    exec (.channelEntryLand from_ to_) s = acts (serveLink (setLinkTo s k (landFirst (linkOf s k))) k)) ∧
  (∀ (s : State) (p q : Nat) (m : MsgQ), okPan p = true → msgqOf s p q = some m →
    exec (.msgqEntryLand p q) s = acts (serveQueue (setMsgq s p q { m with entries := landFirst m.entries }) p q)) ∧
  (∀ (s : State) (p t : Nat) (h : HeldTask), okPan p = true → (s.thread t).held = true →
    (s.pan p).held.find? (fun h => h.tids.contains t) = some h →
    let u := s.setPan p { s.pan p with held := (s.pan p).held.filter (fun g => g.task != h.task) }
    exec (.supervisorEnd p t) s = acts (endFaulted u h.task false false) ∧
    exec (.supervisorRearm p t) s = acts (endFaulted u h.task false true) ∧
    exec (.supervisorDisable p t) s = acts (endFaulted u h.task true false)) ∧
  (∀ (s : State) (p : Nat) (h : HeldTask) (rest : List HeldTask), okPan p = true → (s.pan p).held = h :: rest →
    h.postedAt + 1000 * fld (s.pan p).sched 40 16 ≤ now s →
    exec (.supervisorTimeout p) s =
      acts (raiseDev (panCount (endFaulted (s.setPan p { s.pan p with held := rest }) h.task true false) p 6) (0x101 + 16 * p) 1 0))

/-- Thread and task instructions (R107, R148, R149, R184–R195, R492). -/
def Obligations.ThreadInstructionsComplete : Prop :=
  (∀ (s : State) (t : Nat) (a : BitVec 5) (off : BitVec 21), Ready s t true [] →
    let x := s.thread t
    let r := issued s t []
    (pool r t = [] → exec (.fork t a off) s = completes t 1 (writeReg (perfCount r t 13) t a (-1) 1 0)) ∧
    (∀ u rest, pool r t = u :: rest →
      let target := (((x.pc : Int) + 4 * off.toInt) % 2 ^ 64).toNat
      let cleared := emptyLinks { r with free := r.free + 1 } u (threadsOf r x.task)
      let started := traceThread (cleared.setThread u (childOf r x t u target)) u 5 0 0
      let parented := started.setThread t { started.thread t with children := (started.thread t).children ++ [tidThread u] }
      let known := match (threadsOf parented x.task).find? (fun v => (parented.thread v).first) with
        | none => parented
        | some v => parented.setThread v { parented.thread v with kin := (parented.thread v).kin ++ [(u, (childOf r x t u target).run)] }
      exec (.fork t a off) s = completes t 1 (writeReg known t a (BitVec.ofNat 64 (tidThread u)) 1 0))) ∧
  (∀ (s : State) (t : Nat) (b : BitVec 5), Ready s t false [b] →
    let x := s.thread t
    let r := issued s t [b]
    (∀ p, x.parent = some p → exec (.exit t b) s = acts (exitChild r t p (x.reg b))) ∧
    (x.parent = none → ∀ c, x.task = .packet c → exec (.exit t b) s = acts (endPacket r c 0)) ∧
    (x.parent = none → ∀ pan slot, x.task = .persistent pan slot →
      exec (.exit t b) s = acts (endActivation (stopThreads r x.task false 0) pan slot false)) ∧
    (x.parent = none → (∃ pan, x.task = .supervisor pan) ∨ x.task = .legend →
      exec (.exit t b) s = acts (stopThreads r x.task false 0))) ∧
  (∀ (s : State) (t : Nat) (a b : BitVec 5), Ready s t true [b] →
    let x := s.thread t
    let r := issued s t [b]
    let n := (x.reg b).toNat
    (∀ v, AMap.find x.exited n = some v →
      exec (.join t a b) s = acts (wake (r.setThread t { x with exited := AMap.del x.exited n }) t a.toNat v)) ∧
    (AMap.find x.exited n = none → n ∈ x.children → exec (.join t a b) s = blocks t (.join n a.toNat) r) ∧
    (AMap.find x.exited n = none → n ∉ x.children → exec (.join t a b) s = faults t 15 (x.reg b) r) ∧
    (n = 0 → exec (.efw t a b) s = acts (wake r t a.toNat 0)) ∧
    (n ≠ 0 → ∀ pan slot k, x.task = .persistent pan slot → r.task? pan slot = some k →
      exec (.efw t a b) s =
        if k.flags &&& n ≠ 0 then
          acts (wake (r.setTask pan slot { k with flags := k.flags - (k.flags &&& n) }) t a.toNat (BitVec.ofNat 64 (k.flags &&& n)))
        else blocks t (.efw n a.toNat) (r.setTask pan slot { k with waiters := k.waiters ++ [t] }))) ∧
  (∀ (s : State) (t : Nat), Ready s t true [] →
    let x := s.thread t
    let r := issued s t []
    (∀ pan slot, x.task = .persistent pan slot → exec (.yield t) s =
      acts (endActivation (stopThreads r x.task false 2) pan slot true)) ∧
    (∀ c, x.task = .packet c → exec (.yield t) s = faults t 21 (BitVec.ofNat 64 (wordX 0x3A 0 0 0 2)) r)) ∧
  (∀ (s : State) (t : Nat) (a b : BitVec 5), Ready s t true [a, b] →
    let x := s.thread t
    let r := issued s t [a, b]
    let h := (x.reg a).toNat
    x.ctxId = none →
    (∀ pan slot k, h < 2 ^ 32 → taskByHandle r h = some (pan, slot, k) → (x.level = 0 ∨ taskTenant k = x.tenant) →
      exec (.efs t a b) s = completes t 1 (r.setPan pan { r.pan pan with
        efs := (r.pan pan).efs ++ [(h, (x.reg b).toNat % 2 ^ 32, tidPan t)] })) ∧
    (2 ^ 32 ≤ h ∨ taskByHandle r h = none → exec (.efs t a b) s = completes t 1 (panCount r (tidPan t) 2))) ∧
  (∀ (s : State) (h flags : Nat) (e : Nat × Nat × Nat),
    (s.pan (h % 16)).efs.find? (fun e => e.1 == h && e.2.1 == flags) = some e →
    let u := s.setPan (h % 16) { s.pan (h % 16) with efs := (s.pan (h % 16)).efs.erase e }
    (∀ pan slot k, taskByHandle u h = some (pan, slot, k) → exec (.flagApply h flags) s = acts (setFlags u pan slot flags)) ∧
    (taskByHandle u h = none → exec (.flagApply h flags) s = acts (panCount u e.2.2 2))) ∧
  (∀ (s : State) (t : Nat) (b : BitVec 5), Ready s t true [b] →
    let x := s.thread t
    let r := issued s t [b]
    let p := r.pan (tidPan t)
    exec (.dly t b) s = blocks t .delay (r.setPan (tidPan t) { p with
      delays := insertDelay ⟨.thread t, p.tick + min (x.reg b).toNat 0xFFFFFFFF + 1, effPrio r x.task x.prio⟩ p.delays })) ∧
  (∀ (s : State) (t : Nat) (n : BitVec 8) (c : Nat) (k : Ctx), Ready s t false [] → (s.thread t).task = .packet c →
    let r := issued s t []
    r.ctx? c = some k →
    exec (.pdrop t n) s = acts (endPacket (r.setCtx c { k with dropReason := some n.toNat }) c 1)) ∧
  (∀ (s : State) (t : Nat) (b : BitVec 5) (n : BitVec 4), Ready s t true [b] →
    let x := s.thread t
    let r := issued s t [b]
    let data := dataBytes 8 (x.reg b).toNat + x.program % 65536 * 2 ^ 240
    (x.ctxId = none → exec (.evp t b n) s = completes t 1 (programEvent r x.tenant n.toNat data)) ∧
    (∀ c k, x.ctxId = some c → r.ctx? c = some k →
      (speculative r c = false → exec (.evp t b n) s =
        completes t 1 (programEvent (r.setCtx c { k with partly := true }) x.tenant n.toNat data)) ∧
      (speculative r c = true → exec (.evp t b n) s =
        if furtherUsed k < 32 then completes t 1 (r.setCtx c { k with recs := k.recs ++ [.event n.toNat (x.reg b)] })
        else blocks t .serial r))) ∧
  (∀ (s : State) (t : Nat) (a b c : BitVec 5) (id : Nat) (k : Ctx), Ready s t true [a, b, c] →
    let x := s.thread t
    let r := issued s t [a, b, c]
    let A := x.reg a
    x.ctxId = some id → r.ctx? id = some k →
    (8 ≤ k.egress → exec (.egr t a b c) s = faults t 0x13 9 r) ∧
    (k.egress < 8 → egressValid r A (x.reg b) (x.reg c) = false → exec (.egr t a b c) s = faults t 0x14 A r) ∧
    (k.egress < 8 → egressValid r A (x.reg b) (x.reg c) = true → (speculative r id = false ∨ furtherUsed k < 32) →
      exec (.egr t a b c) s = completes t 1 (r.setCtx id { k with
        egress := k.egress + 1,
        recs := k.recs ++ [.egress (A.toNat % 64) (A.toNat / 64 % 8) (x.reg b).toInt (x.reg c).toNat] })))

/-- Coprocessor instructions of CP0 and CP1, transfers, save and restore (R210–R223, R228, R229). -/
def Obligations.CoprocessorInstructionsComplete : Prop :=
  (∀ (s : State) (t : Nat) (unit : BitVec 2) (a cr : BitVec 5),
    let x := s.thread t
    let u := unit.toNat
    let k := x.cp u
    crDefined u cr.toNat = true → ¬(u = 2 ∧ onCc t = true) →
    (Ready s t true [] → cpEnabled x u = false →
      exec (.mtc t unit a cr) s = faults t 3 (BitVec.ofNat 64 u) (issued s t [])) ∧
    (Ready s t true [a] → cpEnabled x u = true →
      let r := issued s t [a]
      exec (.mtc t unit a cr) s =
        if cpReadOnly u cr.toNat then completes t 1 r
        else completes t 1 (r.setThread t (x.setCp u (k.set cr.toNat (x.reg a &&& cpMask u cr.toNat))))) ∧
    (Ready s t true [] → cpEnabled x u = true → exec (.mfc t unit a cr) s =
      if k.pendingRegs.testBit cr.toNat then blocks t (.scoreboard u cr.toNat a.toNat) (issued s t [])
      else completes t 1 (writeReg (issued s t []) t a (k.reg cr.toNat) 2 0))) ∧
  (∀ (s : State) (t : Nat), Ready s t true [0, 0] → (ccBuffer s t).any (fun e => e.tid == t) = false →
    let x := s.thread t
    let r := issued s t [0, 0]
    let enter (unit cmd : Nat) (k : CpCtx) : Out :=
      if k.cmds.length < 1 then completes t 1 (startCmd r t unit x cmd 0 0 k.regs) else blocks t (.unitFull unit) r
    (cpEnabled x 0 = true →
      exec (.keyload t 0 0) s = enter 0 1 x.cp0 ∧ exec (.keyclr t 0 0) s = enter 0 6 x.cp0 ∧
      ∀ q ∈ [((.cp0Seal t 0 0 : Instr), 2), (.cp0Open t 0 0, 3), (.xtsEnc t 0 0, 4), (.xtsDec t 0 0, 5)],
        (cipherBad x.cp0 q.2 = true ∨ cipherFault x t x.cp0 q.2 = none → exec q.1 s = enter 0 q.2 x.cp0) ∧
        (∀ v, cipherBad x.cp0 q.2 = false → cipherFault x t x.cp0 q.2 = some v → exec q.1 s = faults t 5 v r)) ∧
    (cpEnabled x 1 = true → exec (.shaFinal t 0 0) s = enter 1 3 x.cp1)) ∧
  (∀ (s : State) (t : Nat) (a b : BitVec 5), Ready s t true [a, b] → (ccBuffer s t).any (fun e => e.tid == t) = false →
    cpEnabled (s.thread t) 1 = true →
    let x := s.thread t
    let r := issued s t [a, b]
    let n := (x.reg b).toNat
    let enter (cmd : Nat) (v : Word) : Out :=
      if x.cp1.cmds.length < 1 then completes t 1 (startCmd r t 1 x cmd (x.reg a) v x.cp1.regs) else blocks t (.unitFull 1) r
    (b = 0 → exec (.shaInit t a b) s = enter 1 0) ∧
    (∀ q ∈ [((.shaUpdate t a b : Instr), 2, 15872), (.cp1Crc t a b, 4, 15872), (.toeplitz t a b, 5, 36)],
      (n = 0 ∨ q.2.2 < n ∨ (cpRange x t (x.reg a).toNat n).isSome = true → exec q.1 s = enter q.2.1 (x.reg b)) ∧
      (0 < n → n ≤ q.2.2 → cpRange x t (x.reg a).toNat n = none → exec q.1 s = faults t 5 (x.reg a) r))) ∧
  (∀ (s : State) (t : Nat) (unit : BitVec 2) (b : BitVec 5), Ready s t true [b] →
    let x := s.thread t
    let r := issued s t [b]
    let u := unit.toNat
    let addr := (x.reg b).toNat
    ¬(u = 2 ∧ onCc t = true) → cpEnabled x u = true → addr % 64 = 0 → addr + saveBytes u ≤ localSize t →
    (ccBuffer s t).any (fun e => e.tid == t) = false →
    exec (.csave t unit b) s =
      (if (x.cp u).cmds = [] then acts (wake (saveNow r t u addr) t 0 0) else blocks t (.save u (x.reg b)) r) ∧
    exec (.crest t unit b) s =
      (if (x.cp u).cmds = [] then acts (wake (restoreNow r t u addr) t 0 0) else blocks t (.restore u (x.reg b)) r)) ∧
  (∀ (s : State) (t unit : Nat) (c : CpCmd) (rest : List CpCmd), okTid t = true → okUnit unit = true →
    (s.pan (tidPan t)).lateCp.contains (t, unit) = false → ((s.thread t).cp unit).cmds = c :: rest →
    (unit = 0 → AMap.find (s.pan (tidPan t)).cpBusy (cp0Key t) = some t) →
    let u := if unit = 0 then finishCipher s t c else if unit = 1 then finishDigest s t c
      else s.setThread t { s.thread t with cp2 := (s.thread t).cp2.sets c.regs }
    let v := u.setThread t ((u.thread t).setCp unit (((u.thread t).cp unit).setCmds unit rest))
    exec (.coprocessorResult t unit) s = acts (cpResume (if unit = 0 then cp0Free v t else v) t unit)) ∧
  (∀ (s : State) (t unit : Nat), okTid t = true → okUnit unit = true → (s.pan (tidPan t)).lateCp.contains (t, unit) = true →
    exec (.coprocessorResult t unit) s = acts (lateResult s t unit))

/-- CP2 commands (R216, R217, R224–R227). -/
def Obligations.TallyInstructionsComplete : Prop :=
  ∀ (s : State) (t : Nat) (a b : BitVec 5) (m : MemRef), Ready s t true [a, b] → onCc t = false → cpEnabled (s.thread t) 2 = true →
    let x := s.thread t
    let r := issued s t [a, b]
    let A := x.reg a
    let B := x.reg b
    let pan := tidPan t
    let colour := (x.cp2.reg 0).toNat
    (∀ q ∈ [((.count t a b : Instr), 1, 16), (.police t a b, 2, 32)],
      (A.toNat % q.2.2 ≠ 0 → exec q.1 s = faults t 4 A r) ∧
      (tallyPlace r x t A q.2.2 q.2.2 true = .inl m →
        (x.ctxId = none → x.cp2.cmds.length < 16 → exec q.1 s = completes t 1 (applyTally r q.2.1 pan m B.toNat colour).1) ∧
        (∀ c k, x.ctxId = some c → r.ctx? c = some k →
          (speculative r c = true → exec q.1 s =
            if furtherUsed k < 32 then completes t 1 (r.setCtx c { k with recs := k.recs ++ [.tally q.2.1 pan m B.toNat colour] })
            else blocks t .serial r) ∧
          (speculative r c = false → x.cp2.cmds.length < 16 →
            let o := applyTally r q.2.1 pan m B.toNat colour
            ∀ k', o.1.ctx? c = some k' →
              exec q.1 s = completes t 1 (o.1.setCtx c { k' with partly := true, policed := k'.policed || o.2 }))))) ∧
    (x.spec r = false → x.cp2.cmds.length < 16 →
      (tallyPlace r x t A 16 16 true = .inl m → poisoned r m 16 = false →
        let v := readMem r m 16
        let u := writeMem (memRequest r pan m 16) m 16 (counterUpdate v B.toNat)
        exec (.countFetch t a b) s = completes t 1 (startCmd u t 2 (u.thread t) 3 A B
          [(1, BitVec.ofNat 64 v), (2, BitVec.ofNat 64 (v / 2 ^ 64)), (4, 0)])) ∧
      (tallyPlace r x t A 32 32 true = .inl m → poisoned r m 32 = false →
        ∀ c v, meterUpdate (readMem r m 32) (now r) B.toNat colour = some (c, v) →
        let u := writeMem (memRequest r pan m 32) m 32 v
        exec (.meter t a b) s = completes t 1 (startCmd u t 2 (u.thread t) 4 A B [(3, BitVec.ofNat 64 c), (4, 0)])) ∧
      (b = 0 → tallyPlace r x t A 16 16 false = .inl m → poisoned r m 16 = false →
        let v := readMem r m 16
        exec (.cp2Read t a b) s = completes t 1 (startCmd (memRequest r pan m 16) t 2 x 5 A 0
          [(1, BitVec.ofNat 64 v), (2, BitVec.ofNat 64 (v / 2 ^ 64)), (4, 0)]))) ∧
    (x.spec r = true → tallyPlace r x t A 16 16 true = .inl m → exec (.countFetch t a b) s = blocks t .serial r)

/-- `SLD`, `SST`, `SRCH` and the arrival of their results (R106, R144, R145, R265, R266, R268). -/
def Obligations.TableInstructionsComplete : Prop :=
  (∀ (s : State) (t : Nat) (a b : BitVec 5) (table : BitVec 8) (word : BitVec 4), Ready s t true [b] →
    let x := s.thread t
    let r := issued s t [b]
    (∀ v, stateTarget r x b table word false = .inr v → exec (.sld t a b table word) s = faults t 13 v r) ∧
    (∀ id tb, stateTarget r x b table word false = .inl (id, tb) →
      let i := (x.reg b).toNat
      let back : Block := .access (.stateLoad id i word.toNat) (.dram x.tenant 0) 0 a.toNat
      (x.ctxId = none → exec (.sld t a b table word) s = blocks t back r) ∧
      (∀ c k, x.ctxId = some c → r.ctx? c = some k →
        (ownWrite k id i word.toNat ≠ none → exec (.sld t a b table word) s = blocks t back r) ∧
        (∀ key, ownWrite k id i word.toNat = none → flashOnly r id i = some key →
          exec (.sld t a b table word) s = acts (coldPacket r c k id key)) ∧
        (ownWrite k id i word.toNat = none → flashOnly r id i = none → exec (.sld t a b table word) s =
          if speculative r c = true ∧ setFull k (.record id i) = true then blocks t .serial r
          else blocks t back (r.setCtx c (k.addRead (.record id i))))))) ∧
  (∀ (s : State) (t : Nat) (a b : BitVec 5) (table : BitVec 8) (word : BitVec 4), Ready s t true [a, b] →
    let x := s.thread t
    let r := issued s t [a, b]
    (∀ v, stateTarget r x b table word true = .inr v → exec (.sst t a b table word) s = faults t 13 v r) ∧
    (∀ id tb, stateTarget r x b table word true = .inl (id, tb) →
      let i := (x.reg b).toNat
      (x.ctxId = none →
        let u := tableRequest r (tidPan t) id 8
        exec (.sst t a b table word) s = completes t 1 (u.setMeridian { u.meridian with
          writes := u.meridian.writes ++ [.words id i [(word.toNat, x.reg a)] none] })) ∧
      (∀ c k, x.ctxId = some c → r.ctx? c = some k →
        (speculative r c = false → exec (.sst t a b table word) s =
          completes t 1 (writeNow r c k id i word.toNat (x.reg a))) ∧
        (speculative r c = true → exec (.sst t a b table word) s =
          if setFull k (.record id i) then blocks t .serial r
          else completes t 1 (r.setCtx c { k with recs := k.recs ++ [.write id i word.toNat (x.reg a)] }))))) ∧
  (∀ (s : State) (t : Nat) (a b : BitVec 5) (chan : BitVec 3), Ready s t true [a, b] →
    let x := s.thread t
    let r := issued s t [a, b]
    let w := x.reg a
    let no := w.toNat % 256
    let op := w.toNat / 256 % 16
    let addr := (x.reg b).toNat
    ∀ i ∈ [(.srchSearch t a b chan : Instr), .searchOrLearn t a b chan, .srchDelete t a b chan],
      (boundTable r x no = none → exec i s = faults t 13 (BitVec.ofNat 64 no) r) ∧
      (∀ table tb, boundTable r x no = some (table, tb) →
        tb.kind ≤ 3 → w.toNat / 4096 = 0 → op ≤ 2 → (op = 0 ∨ tb.kind = 3) →
        (addr % 8 ≠ 0 ∨ localSize t < addr + searchKeyBytes tb → exec i s = faults t 5 (x.reg b) r) ∧
        (addr % 8 = 0 → addr + searchKeyBytes tb ≤ localSize t →
          let room := (AMap.at x.responses chan.toNat []).length + AMap.at x.reserved chan.toNat 0 + resultEntries tb
          (16 < room → exec i s = faults t 14 (chan.zeroExtend 64) r) ∧
          (room ≤ 16 → ccBuffer r t = [] →
            ∀ u, runSearch r t x chan.toNat no op table tb (readBytes r (.localStore t addr) (searchKeyBytes tb)) = .next u →
              exec i s = completes t 1 u)))) ∧
  (∀ (s : State) (n : Nat) (q : Search), s.gaz.searches.find? (fun q => q.num == n) = some q →
    q.aborted = false → q.timedOut = false → olderSearch s q = false →
    exec (.searchResult n) s = acts (deliverResponse (dropSearch s n) q.tid q.channel q.result q.data) ∧
    (q.deadline ≤ now s →
      let late := s.gaz.searches.map (fun p => if p.num == n then { p with timedOut := true } else p)
      let u := { s with gaz := { s.gaz with searches := late } }
      exec (.searchTimeout n) s = acts (deliverResponse (tableCount u q.table 9) q.tid q.channel
        (resultWord 7 false false q.tableNo 0 0) (q.data.map (fun _ => 0)))))

/-- Intake, expiries, commits and dispatch (R99–R105, R112, R114, R117, R189), Pan power (R27). -/
def Obligations.SchedulingEventsComplete : Prop :=
  (∀ s : State, serves s = true → exec .descriptorIntake s = acts (intake s)) ∧
  (∀ (s : State) (x : Bool) (domain : Nat) (d : Desc) (rest : List Desc), okDomain domain = true →
    (s.dom (domKey x domain)).waiting = d :: rest → d.taken + parkNs s ≤ now s →
    let u := s.setDom (domKey x domain) { s.dom (domKey x domain) with waiting := rest }
    let v := discardDesc u d 0x54
    exec (.waitExpired x domain) s = acts (drainWait (waitUsed v) v)) ∧
  (∀ (s : State) (port prio : Nat) (d : Desc) (rest : List Desc), okPort port = true → okQueue prio = true →
    soq s (8 * port + prio) = d :: rest → d.headSince + parkNs s ≤ now s →
    exec (.queueExpired port prio) s = acts (discardDesc (popSoq s (8 * port + prio)) d 0x53)) ∧
  (∀ (s : State) (c : Nat) (x : Ctx), okCtx c = true → s.ctx? c = some x → (x.state ≠ .ending ∨ x.waitEgress = true) →
    x.lifeEnd ≤ now s →
    exec (.lifetimeExpiry c) s =
      acts (failCtx (raiseFirst (markLateReads (markLate s x) c) (cid 5 x.desc.tenant 0x222) 0x0E1 1 0) c 0x22 false 6)) ∧
  (∀ (s : State) (c : Nat) (x : Ctx), okCtx c = true → s.ctx? c = some x → x.state = .unwind →
    let u := s.setMeridian { s.meridian with unwindDue := AMap.del s.meridian.unwindDue c }
    let y := { x with state := CtxState.ready }
    exec (.unwindComplete c) s = acts (readyCtx (u.setCtx c y) c y true)) ∧
  (∀ (s : State) (e : Bool) (domain c : Nat) (rest : List Nat) (x : Ctx), okDomain domain = true →
    (s.dom (domKey e domain)).flight = c :: rest → s.ctx? c = some x → (x.state = .done ∨ x.state = .ending) → x.failed = none →
    exec (.commit e domain) s = acts (commit s c)) ∧
  (∀ (s : State) (t : Nat) (e : ReadyEntry), okTid t = true → serves s = true → panAwake s (tidPan t) = true →
    panServes s (tidPan t) = true → dispatchable s t = true → (∀ u ∈ earlierThreads t, dispatchable s u = false) →
    firstEntry s (tidPan t) (onCc t) = some e →
    exec (.taskDispatch t) s = acts (takeEntry s t e)) ∧
  (∀ (s : State) (t : Nat) (e : ReadyEntry), serves s = true → panAwake s (watchPan s) = true →
    panServes s (watchPan s) = true → (AMap.at (s.pan (watchPan s)).ready 0 []).find? (fun e => !e.cc) = some e → urgentThread s = some t →
    exec .expressDispatch s = acts (takeEntry s t e)) ∧
  (∀ (s : State) (p : Nat) (since cost : Ns), okPan p = true → (s.pan p).power = .waking since cost → since + cost ≤ now s →
    exec (.panWake p) s = .next (s.setPan p { s.pan p with power := .awake, idleSince := now s })) ∧
  (∀ (s : State) (p : Nat) (g : PanPower) (after : Ns), okPan p = true → p ≠ 0 → gateOf s p = some (g, after) →
    ((s.pan p).power = .awake ∨ (s.pan p).power = .clockGated) → panIdle s p = true → (s.pan p).idleSince + after ≤ now s →
    exec (.panGate p) s = .next (s.setPan p { s.pan p with power := g }))

/-- Ticks, periods and starvation (R188, R195–R197). -/
def Obligations.PanTimersComplete : Prop :=
  (∀ (s : State) (p : Nat), okPan p = true → trafficUp s = true → delayDue (s.pan p) = false → (s.pan p).tickAt + (s.pan p).tickNs ≤ now s →
    let u := s.setPan p { s.pan p with
      tick := (s.pan p).tick + 1, tickAt := (s.pan p).tickAt + (s.pan p).tickNs, tickNs := (s.pan p).sched.toNat % 2 ^ 20 }
    exec (.delayExpiry p) s = acts (releaseDelays (s.pan p).delays.length u p)) ∧
  (∀ (s : State) (p slot : Nat) (e : DelayEntry) (rest : List DelayEntry) (k : PTask), okPan p = true → slot < 1024 →
    (s.pan p).delays = e :: rest → e.who = .period slot → s.task? p slot = some k → e.expiry ≤ (s.pan p).tick →
    let u := s.setPan p { s.pan p with delays := insertDelay { e with expiry := e.expiry + fld k.desc 352 32 } rest }
    let v := if k.flags.testBit 31 then panCount u p 3 else setFlags (wakePan u p) p slot (2 ^ 31)
    exec (.periodExpiry p slot) s = acts (releaseDelays (v.pan p).delays.length v p)) ∧
  (∀ (s : State) (p level pos : Nat) (e : ReadyEntry), okPan p = true → level < 16 →
    (AMap.at (s.pan p).ready level [])[pos]? = some e → e.starved = false → fld (s.pan p).sched 24 16 ≠ 0 →
    e.since + fld (s.pan p).sched 24 16 * 1000 < now s →
    let marked := (AMap.at (s.pan p).ready level []).set pos { e with starved := true }
    let u := s.setPan p { s.pan p with ready := AMap.put (s.pan p).ready level marked }
    exec (.starved p level pos) s = acts (raiseDev (panCount u p 9) (0x102 + 16 * p) 1 0))

/-- Events of the port complex and of the buffer rings (R38, R42, R44, R53, R61–R66, R279). -/
def Obligations.LinkAndLaserEventsComplete : Prop :=
  (∀ (s : State) (l : Nat), okLport l = true → (s.lport l).linkUp = true →
    (s.contain.core = none →
      (∀ b fcs fec al, trafficUp s = true → exec (.frameReceive l b fcs fec al) s = acts (receiveFrame s l b fcs fec al)) ∧
      (∀ dest len time age, exec (.pauseReceived l dest len time age) s = acts (pauseFrame s l dest len (time % 65536) age)) ∧
      (∀ dest len en times age, exec (.pfcReceived l dest len en times age) s = acts (pfcFrame s l dest len en times age))) ∧
    (s.contain.core ≠ none →
      (∀ b fcs fec al, trafficUp s = true → exec (.frameReceive l b fcs fec al) s =
        acts (discardInAction s l (b.length + fcs.length) fec al)) ∧
      (∀ dest len time age, exec (.pauseReceived l dest len time age) s = acts (countPort s l 0x59)) ∧
      (∀ dest len en times age, exec (.pfcReceived l dest len en times age) s = acts (countPort s l 0x59))) ∧
    exec (.linkDown l) s = acts (takeLinkDown 0x31 s l)) ∧
  (∀ (s : State) (l p : Nat) (x : Pause), okLport l = true → okPcp p = true → AMap.find (s.lport l).pauses p = some x →
    x.expiry ≤ nowPs s →
    exec (.pauseExpiry l p) s = .next (s.setLport l { s.lport l with pauses := AMap.del (s.lport l).pauses p })) ∧
  (∀ (s : State) (l p : Nat) (at_ : Ps), okLport l = true → okPcp p = true → AMap.find (s.lport l).xoffRepeat p = some at_ →
    at_ ≤ nowPs s → Nat.testBit (s.lport l).xoff p = true →
    exec (.xoffRepeat l p) s = .next (s.setLport l { s.lport l with
      xoffPending := maskSet (s.lport l).xoffPending p, xoffRepeat := AMap.del (s.lport l).xoffRepeat p })) ∧
  (∀ (s : State) (l : Nat), okLport l = true → (s.lport l).linkUp = false → lportExists s l = true → adminUp (s.lport l) = true →
    laserOn s l = true → trafficUp s = true → s.power.pllLocked = true →
    let u := wakeBanks (s.setLport l { s.lport l with linkUp := true, aligned := true, linkChanged := true }) (replicaBanks s l)
    let v := (List.range 8).foldl (fun s q => syncXoff s (8 * l + q)) (raiseDev u (0x020 + l) 1 0)
    exec (.linkUp l) s = acts (if v.contain.core = none then v else holdPort v l)) ∧
  (∀ (s : State) (k : Nat) (temp : Int) (lanes : List LaneReading) (fec : List FecReading), okEngine k = true → trafficUp s = true →
    exec (.opticsEvaluation k temp lanes fec) s =
      acts (evaluateEngine (fec.foldl (evaluateFec k) (lanes.foldl (evaluateLane k) s)) k temp)) ∧
  (∀ s : State, powered s = true →
    (s.ports.laserEnN = false → exec .laserEnNHigh s =
      acts ((List.range 64).foldl light (raiseDev { s with ports := { s.ports with laserEnN := true } } 0x0B0 1 0))) ∧
    (s.ports.laserEnN = true → exec .laserEnNLow s =
      acts (raiseDev { s with ports := { s.ports with laserEnN := false, darkUntil := now s + 100000000 } } 0x0B0 2 0)) ∧
    exec .laserLight s = .next ((List.range 64).foldl light s)) ∧
  (∀ (s : State) (l : Nat), okLport l = true → trafficUp s = true → exec (.frameBoundary l) s = acts (boundary s l)) ∧
  (∀ (s : State) (l q : Nat) (f : EgressFrame) (rest : List EgressFrame), okLport l = true → okQueue q = true → trafficUp s = true →
    (s.queue l q).frames = f :: rest → f.staged = false →
    (∀ k < 8, ∀ g ∈ (s.queue l k).frames, g.staged = true → ∀ x ∈ g.segs, x.cell < 2 ^ 27) → f.len ≤ 16384 →
    exec (.farStagingRead l q) s =
      if f.segs.any (fun x => farPoisoned s x.cell) then
        let p := s.lport l
        acts (dropFrame 0x21 ((s.setLport l { p with
          credit := if rest.isEmpty then AMap.put p.credit q 0 else p.credit }).setQueue l q { s.queue l q with frames := rest }) f)
      else acts (clientRequest (s.setQueue l q { s.queue l q with frames := { f with staged := true } :: rest }) 19 deviceId f.len)) ∧
  (∀ (s : State) (p : Nat), okPool p = true → (s.cote.pool p).reads ≠ 0 → trafficUp s = true →
    let x := s.cote.pool p
    let n := min 512 x.ring
    let y : Pool := (({ x with reads := x.reads - 1, ring := x.ring - n, cache := x.cache + n } : Pool).spill).refill
    let u := devCount { s with cote := { s.cote with pools := AMap.put s.cote.pools p y } } 4 2 p 0x1000 1
    exec (.ringRefill p) s = acts (syncPool (clientRequest u 18 deviceId (4 * n)) p))

/-- Commands of the port complex (R34–R37, R52, R56, R57, R61–R63, R67). -/
def Obligations.PortCommandsComplete : Prop :=
  ∀ (s : State) (c : CmdRef) (e : Entry) (l : Nat), lportExists s l = true →
    (Served s c 0x0200 e → ∀ v : BitVec 64, firstBad (portBad l v) = none →
      let n := l / 4
      let changes := l % 4 == 0 && fld v 0 2 != portMode s n
      (changes = true → ∀ x ∈ s.ports.chans, x.lport / 4 ≠ n) →
      let moded := if changes then changeMode s n (fld v 0 2) else s
      let set := moded.setLport l { moded.lport l with cfg := v }
      let u := if adminUp (set.lport l) then light set l else drainQueues 0x31 (if changes then set else turnDark set l) l
      exec (.portWrite c l v) s =
        .next (finish (settle (endCommand u c.acc (plain (if v.getLsbD 2 && u.ports.laserEnN then 4 else 0) true) [])))) ∧
    (Served s c 0x0201 e → exec (.portRead c l) s = replies c (beBytes 8 (s.lport l).cfg.toNat) s) ∧
    (Served s c 0x0202 e → ∀ v : BitVec 320, fld v 20 4 = 0 → fld v 48 16 = 0 → fld v 112 16 = 0 → 0x0600 ≤ fld v 0 16 →
      (fld v 64 48 ≠ 0 ∧ v.getLsbD 104 = false) →
      exec (.portMapWrite c l v) s = applied c (s.setLport l { s.lport l with map := v })) ∧
    (Served s c 0x0203 e → exec (.portMapRead c l) s = replies c (beBytes 40 (s.lport l).map.toNat) s) ∧
    (Served s c 0x0204 e → ∀ (q : Nat) (v : BitVec 64), q < 8 → fld v 1 7 = 0 → fld v 56 8 = 0 → fld v 16 16 ≤ lportRate s l →
      16 ≤ fld v 32 16 → fld v 32 16 ≤ 4096 → (v.getLsbD 0 = true ∨ fld v 8 8 ≠ 0) →
      let strict (k : Nat) : Bool := if k == q then bit v 0 else bit (s.queue l k).cfg 0
      strict 0 = true → strictPrefix ((List.range 8).map strict) = true →
      exec (.queueWrite c l q v) s = applied c (retuneShaper (s.setQueue l q { s.queue l q with cfg := v }) l q (s.queue l q))) ∧
    (Served s c 0x0205 e → ∀ q : Nat, q < 8 → exec (.queueRead c l q) s = replies c (beBytes 8 (s.queue l q).cfg.toNat) s) ∧
    (Served s c 0x0206 e → ∀ clear : BitVec 64,
      let p := s.lport l
      exec (.portStatusRead c l clear) s = concludes c (plain 0 true) (beBytes 8 (portStatus s l)) (s.setLport l { p with
        linkChanged := p.linkChanged && !clear.getLsbD 32, fecUncorrSeen := p.fecUncorrSeen && !clear.getLsbD 33,
        opticsAlarmSeen := p.opticsAlarmSeen && !clear.getLsbD 34 })) ∧
    (Served s c 0x0207 e → ∀ n : Nat, n < 16 →
      let k := s.engine (n / 2)
      exec (.opticsRead c n) s = replies c (signedBytes 2 k.temp ++ beBytes 1 (b2n k.warm + 2 * b2n k.hot + 4 * b2n k.dark) ++ [0] ++
        ((List.range 4).map (fun i => signedBytes 2 (s.lane (4 * n + i)).rxPower ++ signedBytes 2 (s.lane (4 * n + i)).bias)).flatten ++
        beBytes 8 (threshOf s n).toNat) s) ∧
    (Served s c 0x0208 e → ∀ (n : Nat) (v : BitVec 64), n < 16 → firstBad (threshBad n v) = none →
      exec (.opticsThreshWrite c n v) s = applied c { s with ports := { s.ports with thresh := AMap.put s.ports.thresh n v } }) ∧
    (Served s c 0x0209 e → ∀ k : Nat, k < 8 → ((s.engine k).dark = false ∨ (s.engine k).temp < 75) →
      exec (.opticsEnable c k) s = applied c ((engineLports k).foldl light (s.setEngine k { s.engine k with dark := false }))) ∧
    (Served s c 0x020A e → ∀ v : BitVec 64, fld v 4 12 = 0 → fld v 46 18 = 0 → 0x0600 ≤ fld v 16 16 →
      fld v 16 16 ∉ knownEtherTypes (s.lport l) → 0 < fld v 32 14 → fld v 32 14 ≤ 10000 →
      let b := retune (AMap.find s.sluice.cmdBuckets l) (fld (s.lport l).inband 32 14) 1024 1024 (now s)
      exec (.cmdInbandWrite c l v) s = applied c
        ((s.setSluice { s.sluice with cmdBuckets := AMap.put s.sluice.cmdBuckets l b }).setLport l { s.lport l with inband := v }))

/-- Commands of MACsec (R36, R46–R51). -/
def Obligations.MacsecCommandsComplete : Prop :=
  ∀ (s : State) (c : CmdRef) (e : Entry),
    (Served s c 0x020B e → ∀ x : ScSpec, lportExists s x.lport = true → x.sci < 2 ^ 64 → x.offset ∈ [0, 30, 50] → x.sciMode ≤ 2 →
      x.window < 2 ^ 30 → (newChan x (actor s e)).pnThresh < (newChan x (actor s e)).pnEnd →
      (chanNamed s x.sci x.lport x.transmit = none →
        (s.ports.chans.filter (fun o => o.lport / 4 == x.lport / 4 && o.transmit == x.transmit)).length <
          (if x.transmit then 16 else 64) →
        exec (.macsecScCreate c x) s =
          applied c { s with ports := { s.ports with chans := s.ports.chans ++ [newChan x (actor s e)] } }) ∧
      (∀ o, chanNamed s x.sci x.lport x.transmit = some o → o.owner = actor s e → o.sameAs (newChan x (actor s e)) = true →
        exec (.macsecScCreate c x) s = concludes c (plain 2 false) [] s)) ∧
    (∀ (sci l : Nat) (tx : Bool) (o : SecChan), chanNamed s sci l tx = some o →
      (o.owner = actor s e →
        (Served s c 0x020C e → exec (.macsecScDelete c sci l tx) s =
          applied c { s with ports := { s.ports with chans := s.ports.chans.filter (fun y => !y.named sci l tx) } }) ∧
        (Served s c 0x020D e → ∀ (x : SaSpec) (key : BitVec 512), x.sci = sci → x.an ≤ 3 → x.pn ≠ 0 → x.pn < o.pnEnd →
          keyEntry s (actor s e) x.keyIndex = some key → AMap.has o.sas x.an = false →
          let a : SecAssoc :=
            { key := key.extractLsb' 256 256, salt := x.salt, ssci := x.ssci, pn := x.pn, enabled := x.enable,
              thresholdRaised := false, retired := false }
          exec (.macsecSaInstall c l tx x) s = applied c (setChan s { o with
            an := if AMap.has o.sas o.an then o.an else x.an, sas := AMap.put o.sas x.an a })) ∧
        (Served s c 0x020E e → ∀ an : Nat, an ≤ 3 →
          (AMap.has o.sas an = true →
            exec (.macsecSaDelete c sci l tx an) s = applied c (setChan s { o with sas := AMap.del o.sas an })) ∧
          (AMap.has o.sas an = false → exec (.macsecSaDelete c sci l tx an) s = concludes c (plain 3 false) [] s)) ∧
        (Served s c 0x0210 e → ∀ v : Nat, 0 < v → v < o.pnEnd → exec (.macsecPnThresh c sci l tx v) s =
          applied c (setChan s { o with
            pnThresh := v, sas := o.sas.map (fun a => (a.1, { a.2 with thresholdRaised := false })) })) ∧
        (Served s c 0x020F e → exec (.macsecRead c sci l tx) s = replies c (chanPublic o ++ chanConfig o) s)) ∧
      (o.owner ≠ actor s e →
        (Served s c 0x020C e → exec (.macsecScDelete c sci l tx) s = concludes c (plain 0x0201 false) [] s) ∧
        (Served s c 0x020F e → ownerOf s e = some operatorId → exec (.macsecRead c sci l tx) s = replies c (chanPublic o) s))) ∧
    (∀ (sci l : Nat) (tx : Bool), chanNamed s sci l tx = none →
      (Served s c 0x020C e → exec (.macsecScDelete c sci l tx) s = concludes c (plain 3 false) [] s) ∧
      (Served s c 0x020F e → exec (.macsecRead c sci l tx) s = concludes c (plain 0x0107 false) [] s))

/-- Commands of the classifier (R73–R93). -/
def Obligations.ClassifierCommandsComplete : Prop :=
  ∀ (s : State) (c : CmdRef) (e : Entry),
    let me := actor s e
    let op := ownerOf s e == some operatorId
    let call : Call := ⟨c.acc, me, op, e⟩
    (Served s c 0x0300 e → ∀ x : RuleRec, x.width = 10 → firstBad (recordBad call x) = none →
      firstBad (actionReserved 10 x.action [(17, 15), (32, 96)]) = none → x.profile = 0 →
      (fld x.action 0 12 ≤ 511 ∨ fld x.action 0 12 = operatorId) → slotBusy s (fld x.action 0 12) = false →
      (s.sluice.scopeRules.find? (fun r => r.id == x.id) = none → s.sluice.scopeRules.length < 4096 →
        exec (.scopeRuleAdd c x) s = applied c (setClsPresence false (s.setSluice { s.sluice with
          scopeRules := s.sluice.scopeRules ++ [ruleFrom x s.sluice.order], order := s.sluice.order + 1 }))) ∧
      (∀ r, s.sluice.scopeRules.find? (fun r => r.id == x.id) = some r → r.asRecord x = true →
        exec (.scopeRuleAdd c x) s = concludes c (plain 2 false) [] s)) ∧
    (Served s c 0x0301 e → ∀ id : Nat, exec (.scopeRuleDelete c id) s =
      if s.sluice.scopeRules.any (fun r => r.id == id) then
        applied c (s.setSluice { s.sluice with scopeRules := s.sluice.scopeRules.filter (fun r => r.id != id) })
      else concludes c (plain 3 false) [] s) ∧
    (Served s c 0x0302 e → ∀ x : RuleRec, x.profile ≤ 15 → profileBuilt s x.profile = true → x.width = 10 * profileUnits s x.profile →
      firstBad (recordBad call x ++ actionBad s me x.width x.action ++ prefixBad me x) = none →
      (s.sluice.rules.find? (fun r => r.isOf me x.id) = none →
        let r := ruleFrom x s.sluice.order
        let next := s.setSluice { s.sluice with rules := s.sluice.rules ++ [r], order := s.sluice.order + 1 }
        tcamUnits next me ≤ ownerQuota s me 8 4 → rulesTake next ≤ ruleBanks s →
        exec (.ruleAdd c x) s = applied c (setClsPresence false next)) ∧
      (∀ r, s.sluice.rules.find? (fun r => r.isOf me x.id) = some r → r.asRecord x = true →
        exec (.ruleAdd c x) s = concludes c (plain 2 false) [] s)) ∧
    (Served s c 0x0303 e → ∀ id : Nat, exec (.ruleDelete c id) s =
      if s.sluice.rules.any (fun r => r.isOf me id) then
        applied c (setClsPresence false (s.setSluice { s.sluice with rules := s.sluice.rules.filter (fun r => !r.isOf me id) }))
      else concludes c (plain 3 false) [] s) ∧
    (Served s c 0x0304 e → ∀ (id owner : Nat) (r : Rule), (owner = me ∨ op = true) → owner ≠ 0x1FFF → slotBusy s owner = false →
      s.sluice.rules.find? (fun r => r.isOf owner id) = some r →
      exec (.ruleRead c id owner) s = replies c (ruleData s r (owner == me) (profileUnits s r.profile)) s) ∧
    (Served s c 0x0305 e → ∀ (p : Nat) (ks : List (BitVec 32)), 8 ≤ p → p ≤ 15 → ks ≠ [] → ks.length ≤ 19 →
      firstBad (ks.zipIdx.map (fun k => extractorBad k.1 k.2)).flatten = none →
      (profileUsed s p = false ∨ AMap.find s.sluice.profiles p = some ks) →
      exec (.profileWrite c p ks) s =
        applied c (s.setSluice { s.sluice with profiles := AMap.put s.sluice.profiles p ks })) ∧
    (Served s c 0x0306 e → ∀ (k : Nat) (v : BitVec 32), k ≤ 15 → (∀ i < 8, profileBuilt s (fld v (4 * i) 4) = true) →
      exec (.profileSetWrite c k v) s = applied c (s.setSluice { s.sluice with sets := AMap.put s.sluice.sets k v })) ∧
    (Served s c 0x0307 e → ∀ (id : Nat) (v : BitVec 64), id ≤ 255 → fld v 23 1 = 0 → fld v 46 18 = 0 →
      (fld v 0 12 ≤ 511 ∨ fld v 0 12 = operatorId) → 64 ≤ fld v 32 14 → fld v 32 14 ≤ 9216 → slotBusy s (fld v 0 12) = false →
      let put (w : BitVec 64) : State := s.setSluice { s.sluice with sessions := AMap.put s.sluice.sessions id w }
      (fld v 0 12 = fld (mirrorOf s id) 0 12 → fld v 0 12 = me → (op = true ∨ fld v 12 2 ≠ 1) →
        (fld v 12 2 ≠ 2 ∨ s.ident.flash = true) → exec (.mirrorSessionWrite c id v) s = applied c (put v)) ∧
      (fld v 0 12 ≠ fld (mirrorOf s id) 0 12 → op = true → sessionNamed s id = false →
        exec (.mirrorSessionWrite c id v) s = applied c (put (setFld mirrorReset 0 12 (fld v 0 12))))) ∧
    (Served s c 0x0308 e → ∀ (n : Nat) (v : BitVec 128), 0 < n → n ≤ 10 → fld v 36 4 = 0 → fld v 65 63 = 0 → fld v 0 16 ≤ 50000 →
      0 < fld v 16 17 → fld v 16 17 ≤ 65536 → fld v 33 3 ≠ 0 → fld v 60 5 ≤ 20 → rangeOk (fld v 40 20) (fld v 60 5) = true →
      let old := slowReason s n
      let b := retune (AMap.find s.sluice.reasonBuckets n) (fld old 0 16) (fld old 16 17) (fld v 16 17) (now s)
      exec (.slowReasonWrite c n v) s = applied c (s.setSluice { s.sluice with
        reasons := AMap.put s.sluice.reasons n v, reasonBuckets := AMap.put s.sluice.reasonBuckets n b })) ∧
    (Served s c 0x0309 e → ∀ (n : Nat) (v : BitVec 64), n ≤ 511 → fld v 14 2 = 0 → fld v 33 31 = 0 → fld v 0 14 ≤ 10000 → slotBusy s n = false →
      0 < fld v 16 17 → fld v 16 17 ≤ 65536 →
      let old := slowTenant s n
      let b := retune (AMap.find s.sluice.tenantBuckets n) (fld old 0 14) (fld old 16 17) (fld v 16 17) (now s)
      exec (.slowTenantWrite c n v) s = applied c (s.setSluice { s.sluice with
        tenants := AMap.put s.sluice.tenants n v, tenantBuckets := AMap.put s.sluice.tenantBuckets n b })) ∧
    (Served s c 0x030A e → ∀ v : BitVec 64, fld v 48 16 = 0 → (fld v 0 16 = 0 ∨ fld v 0 16 ≠ fld v 16 16) →
      (fld v 0 16 = 0 ∨ fld v 0 16 ≠ fld v 32 16) → (fld v 16 16 = 0 ∨ fld v 16 16 ≠ fld v 32 16) →
      exec (.sluiceWrite c v) s = applied c (s.setSluice { s.sluice with cfg := v })) ∧
    (Served s c 0x030B e → ∀ (kind index : Nat) (d : List Byte), kind ≤ 6 → index < classifierCount kind →
      ((kind = 4 ∨ kind = 5) → slotBusy s index = false) → classifierData s call kind index = some d → exec (.classifierRead c kind index) s = replies c d s)

/-- Commands of Gazetteer (R22, R239–R262). -/
def Obligations.TableCommandsComplete : Prop :=
  ∀ (s : State) (c : CmdRef) (e : Entry) (table : Nat),
    let me := actor s e
    let op := ownerOf s e == some operatorId
    (Served s c 0x0501 e → ∀ x : TableSpec, AMap.find s.gaz.tables table = none → table < 2 ^ 16 → firstBad (specBad s x) = none →
      (s.gaz.tables.filter (fun t => t.2.kind == x.kind)).length < kindLimit x.kind →
      let n := if x.kind < 2 then max 1 (ceilDiv (x.rows * x.width) 4096) else 0
      let banks := (freeBanks s (ruleBanks s)).take n
      let new := tableFrom me x (now s)
      n ≤ banks.length → firstBad (growTests s me .empty new) = none →
      let a := fresh s
      let b := fresh a.2
      let seed1 := a.1.toNat % 2 ^ 32
      let seed2 := b.1.toNat % 2 ^ 32
      let stored := if x.kind = 3 then { new with banks := banks, cfg := setFld new.cfg 64 64 (seed1 + seed2 * 2 ^ 32), filterSeed := seed1 }
        else { new with banks := banks, filterSeed := 0 }
      let u := if x.kind = 3 then b.2 else s
      exec (.tableCreate c table x) s = applied c { u with gaz := { u.gaz with
        tables := AMap.put u.gaz.tables table stored,
        banks := banks.foldl (fun m b => AMap.put m b { Bank.reset with lastSearch := now s }) u.gaz.banks } }) ∧
    (Served s c 0x0502 e → AMap.find s.gaz.tables table = none → exec (.tableDelete c table) s = concludes c (plain 3 false) [] s) ∧
    (∀ t : Table, AMap.find s.gaz.tables table = some t → t.owner = me →
      (Served s c 0x0502 e → exec (.tableDelete c table) s = applied c (nextMove (removeTable s table))) ∧
      (t.kind < 2 →
        (Served s c 0x0503 e → ∀ x : EntrySpec, (t.kind = 0 ∨ x.plen ≤ (if t.width = 1 then 32 else 128)) →
          exec (.entryWrite c table x) s =
            goesOn c (s.setTable table { t with batch := t.batch ++ [.write c.acc (entryFrom t x)] })) ∧
        (Served s c 0x0504 e → ∀ n : Nat, exec (.entryDelete c table n) s =
          goesOn c (s.setTable table { t with batch := t.batch ++ [.delete c.acc n] }))) ∧
      (t.kind = 2 →
        (Served s c 0x0503 e → ∀ x : EntrySpec, x.words.length = t.entryWords → x.id < 2 ^ t.indexBits →
          fld (x.words.getD 0 0) 1 23 = 0 → exec (.entryWrite c table x) s =
            goesOn c (s.setTable table { t with batch := t.batch ++ [.writeDirect c.acc x.id x.words] })) ∧
        (Served s c 0x0504 e → ∀ n : Nat, n < 2 ^ t.indexBits → exec (.entryDelete c table n) s =
          goesOn c (s.setTable table { t with batch := t.batch ++ [.deleteDirect c.acc n] }))) ∧
      (t.kind ≤ 2 →
        (Served s c 0x0505 e → ∀ first count : Nat, exec (.entryRead c table first count) s =
          replies c ((((encodedEntries t).drop first).take count).flatten.take replyMax) s) ∧
        (Served s c 0x050C e → ∀ (first : Nat) (crcs : List Nat), exec (.tableCompare c table first crcs) s =
          replies c (((differingBlocks (encodedEntries t) first crcs).map (beBytes 4)).flatten.take replyMax) s)) ∧
      (t.kind = 3 →
        (Served s c 0x0506 e → ∀ (key : List Byte) (record : List Word), key.length = 8 * keyWords t → record.length ≤ 16 →
          let u := s.setMeridian { s.meridian with writes := s.meridian.writes ++ [.insert table key record c.acc] }
          exec (.flowInsert c table key record) s = .next (finish (settle (conclude c.acc (u, .later))))) ∧
        (Served s c 0x0507 e → ∀ key : List Byte, key.length = 8 * keyWords t → flowFind t key ≠ none →
          let u := s.setMeridian { s.meridian with writes := s.meridian.writes ++ [.delete table key (some c.acc)] }
          exec (.flowDelete c table key) s = .next (finish (settle (conclude c.acc (u, .later))))) ∧
        (Served s c 0x050A e → ∀ v : BitVec 128, firstBad (flowCfgBad s v 8) = none → fld v 0 8 = fld t.cfg 0 8 →
          fld v 8 1 = fld t.cfg 8 1 → fld v 10 1 = fld t.cfg 10 1 → fld v 51 6 = fld t.cfg 51 6 →
          exec (.flowCfgWrite c table v) s = applied c (s.setTable table { t with cfg := setFld v 64 64 (fld t.cfg 64 64) })) ∧
        (Served s c 0x050B e → t.rehash = none →
          let a := fresh s
          let b := fresh a.2
          let t' := { t with rehash := some ⟨a.1.toNat % 2 ^ 32, b.1.toNat % 2 ^ 32, [], some c.acc⟩ }
          firstBad (growTests s t.owner t t') = none → exec (.rehash c table) s = goesOn c (b.2.setTable table t'))) ∧
      (t.kind = 3 ∨ t.kind = 4 →
        (Served s c 0x0508 e → ∀ (i w : Nat) (vs : List Word), i < tableSize t → w + vs.length ≤ 16 → (t.kind = 4 ∨ keyWords t ≤ w) →
          recordLive t i = true →
          let ws := vs.zipIdx.map (fun v => (w + v.2, v.1))
          let u := s.setMeridian { s.meridian with writes := s.meridian.writes ++ [.words table i ws (some c.acc)] }
          exec (.stateWrite c table i w vs) s = .next (finish (settle (conclude c.acc (u, .later))))) ∧
        (Served s c 0x0509 e → ∀ i w n : Nat, i < tableSize t → w + n ≤ 16 → t.poison = [] →
          exec (.stateRead c table i w n) s = replies c (wordBytes (((recordOf t i).drop w).take n)) s))) ∧
    (Served s c 0x050D e → op = true →
      exec (.tableRead c 0xFFFFFFFF) s = replies c (((List.range 64).map (fun b => beBytes 8 (gazBank s b))).flatten ++
        beBytes 4 ((s.sluice.scopeRules ++ s.sluice.rules).filter (fun r => r.dead)).length) s) ∧
    (Served s c 0x0500 e → ∀ v : BitVec 64, fld v 3 1 = 0 → fld v 14 2 = 0 → fld v 26 6 = 0 → fld v 46 2 = 0 →
      1 ≤ fld v 0 3 → fld v 0 3 ≤ 5 → 1 ≤ fld v 4 10 → fld v 4 10 ≤ 1000 → fld v 4 10 ≤ fld v 16 10 → fld v 16 10 ≤ 1000 →
      10 ≤ fld v 32 14 → fld v 32 14 ≤ 10000 → rulesTake s ≤ fld v 0 3 →
      (fld v 0 3 = ruleBanks s → exec (.gazWrite c v) s = applied c { s with gaz := { s.gaz with cfg := v } }) ∧
      (fld v 0 3 ≠ ruleBanks s → firstUnmovable (64 - partitionBanks (fld v 0 3)) s.gaz.tables 0 = none →
        let tables := movedTables s (fld v 0 3)
        exec (.gazWrite c v) s = applied c (setClsPresence true
          (tables.foldl (fun u t => setPresence true u t.1) { s with gaz := { s.gaz with cfg := v, tables := tables } }))))

/-- Events of Gazetteer's banks and tables (R243–R250, R262, R271). -/
def Obligations.TableEventsComplete : Prop :=
  (∀ (s : State) (table : Nat) (t : Table), AMap.find s.gaz.tables table = some t → t.kind ≤ 2 → t.batch ≠ [] → viewHeld s t = false →
    let u := (t.batch.map (·.acc)).foldl expireLate s
    exec (.viewPublish table) s = acts (publishBatch u table (u.table table)) ∧
    ((∀ x ∈ t.batch, ∀ e, AMap.find s.legend.flight x.acc = some e → pastDeadline s e = false) →
      exec (.viewPublish table) s = acts (publishBatch s table t))) ∧
  (∀ (s : State) (bank entry n : Nat) (table : Nat) (t : Table) (r : TEntry), okBank bank = true → partitionBanks (ruleBanks s) ≤ bank →
    bankOwner s bank = some (table, t, n) → (physicalRows t).find? (fun e => e.row == n * perBank t + entry) = some r →
    entry < perBank t →
    (imageOf t r = none → exec (.falseHitRewrite bank entry) s = acts (healEntry table s r)) ∧
    (imageOf t r ≠ none → r.bad ≠ none → exec (.falseHitRewrite bank entry) s =
      acts (raiseDev (bankCount (s.setTable table (t.setEntry { r with bad := none })) false bank) (0x200 + bank) 1 0))) ∧
  (∀ s : State, exec (.scrubSweep 0xFFFFFFFF) s = acts (sweepClassifier s)) ∧
  (∀ (s : State) (table : Nat) (t : Table), table ≠ 0xFFFFFFFF → AMap.find s.gaz.tables table = some t → 
    (t.kind < 2 → exec (.scrubSweep table) s = acts (sweepTable s table t)) ∧
    (t.kind = 2 → exec (.scrubSweep table) s = acts (sweepDirect s table t))) ∧
  (∀ (s : State) (bank : Nat), okBank bank = true →
    let k := AMap.at s.gaz.banks bank .reset
    0 < fld s.gaz.cfg 48 16 → k.asleep = false → bankUsed s bank ≠ 0 → bankPinned s bank = false →
    k.lastSearch + 1000 * fld s.gaz.cfg 48 16 ≤ now s →
    exec (.bankSleep bank) s = .next { s with gaz := { s.gaz with banks := AMap.put s.gaz.banks bank { k with asleep := true } } }) ∧
  (∀ (s : State) (table : Nat) (t : Table) (r : Rehash) (bs : AMap (AMap Way)), AMap.find s.gaz.tables table = some t →
    t.rehash = some r → moveAll t r (storedWays t) r.buckets = some bs →
    let moved := { t with
      cfg := setFld t.cfg 64 64 (r.seed1 + r.seed2 * 2 ^ 32), buckets := bs, stash := [], rehash := none, requestRaised := false,
      poison := t.poison.filter (fun l => decide (l < 2 * tableSize t)) ++
        (t.poison.filter (fun l => decide (newBucketLine t 0 ≤ l) && decide (l < stashLine t 0))).map (fun l => l - bucketCount t) }
    (coldEn t = false ∨ filterLog t = 0 → exec (.rehashComplete table) s = acts (endOk (s.setTable table moved) r.acc)) ∧
    (coldEn t = true → filterLog t ≠ 0 → exec (.rehashComplete table) s =
      acts (startRebuild (s.setTable table { moved with rebuildAccs := t.rebuildAccs ++ r.acc.toList }) table)))

/-- Commands of programs, environments, tasks and message queues (R93, R104, R175, R182, R184, R192, R200). -/
def Obligations.ProgramCommandsComplete : Prop :=
  ∀ (s : State) (c : CmdRef) (e : Entry),
    let me := actor s e
    (Served s c 0x0400 e → ∀ x : ProgSpec,
      (AMap.find s.legend.programs x.id = none → firstBad (programBad s me x) = none →
        exec (.programLoad c x) s = applied c (installProgram s x.id (progFrom me 0 x))) ∧
      (∀ old, AMap.find s.legend.programs x.id = some old → old.owner = me →
        (old.digest = x.digest → exec (.programLoad c x) s = concludes c (plain 2 false) [] s) ∧
        (old.digest ≠ x.digest → firstBad (programBad s me x) = none → exec (.programLoad c x) s =
          applied c (installProgram (supersede s x.id old) x.id (progFrom me (old.version + 1) x))))) ∧
    (∀ (id : Nat) (p : Prog), AMap.find s.legend.programs id = some p → p.owner = me →
      (Served s c 0x0401 e → programUsed s id = false → exec (.programUnload c id) s = applied c (removeProgram s id)) ∧
      (Served s c 0x0402 e → exec (.programRead c id) s = replies c (programData p) s) ∧
      (Served s c 0x0403 e → exec (.slowPathSet c id) s =
        applied c (s.setSluice { s.sluice with slowPrograms := AMap.put s.sluice.slowPrograms me id })) ∧
      (Served s c 0x0C03 e → ∀ on : Bool, exec (.guardSelect c id on) s = applied c { s with legend := { s.legend with
        programs := AMap.put s.legend.programs id { p with guardSelected := on } } })) ∧
    (Served s c 0x0401 e → ∀ id : Nat, AMap.find s.legend.programs id = none →
      exec (.programUnload c id) s = concludes c (plain 3 false) [] s) ∧
    (Served s c 0x0404 e → ∀ (pan r : Nat) (ws : List Word), ws.length = 12 → pan ≤ 15 → r ≤ 255 → envForeign s me pan r = false →
      firstBad (envBad ws) = none → envRunning s pan r = false →
      exec (.envWrite c pan r ws) s = applied c (s.setPan pan { s.pan pan with envs := AMap.put (s.pan pan).envs r (me, ws) })) ∧
    (Served s c 0x0405 e → ∀ (key pan : Nat) (d : BitVec 384),
      (taskByKey s me key = none → firstBad (descBad s me pan d ++ taskLimits s me pan) = none →
        let r := createTask s me key pan (taskDesc me d)
        exec (.taskCreate c key pan d) s = concludes c (plain 0 true) (beBytes 4 r.2) r.1) ∧
      (∀ slot t, taskByKey s me key = some (pan, slot, t) → t.desc = taskDesc me d →
        exec (.taskCreate c key pan d) s = concludes c (plain 2 false) (beBytes 4 (taskHandle pan slot t.gen)) s)) ∧
    (∀ (h pan slot : Nat) (t : PTask), taskByHandle s h = some (pan, slot, t) → t.owner = me →
      (Served s c 0x0406 e → exec (.taskDelete c h) s =
        if t.state = .running ∨ t.state = .faulted then applied c (s.setTask pan slot { t with deleting := true })
        else applied c (dropTask (readyDrop s pan (.persistent pan slot)) pan slot t)) ∧
      (Served s c 0x0407 e →
        (t.state = .idle → exec (.taskActivate c h) s = applied c (activate s pan slot t)) ∧
        (t.state = .ready → exec (.taskActivate c h) s = applied c s) ∧
        (t.state = .running → exec (.taskActivate c h) s = applied c (s.setTask pan slot { t with pendingAct := true })) ∧
        (t.state = .faulted ∨ t.state = .disabled → exec (.taskActivate c h) s = concludes c (failWith 0x0503 3 h) [] s)) ∧
      (Served s c 0x0408 e →
        (t.state = .disabled → t.flags &&& wakeMask t ≠ 0 → exec (.taskEnable c h) s = applied c (activate s pan slot t)) ∧
        (t.state = .disabled → t.flags &&& wakeMask t = 0 →
          exec (.taskEnable c h) s = applied c (s.setTask pan slot { t with state := .idle })) ∧
        (t.state ≠ .disabled → exec (.taskEnable c h) s = applied c s)) ∧
      (Served s c 0x040B e → exec (.taskRead c h) s =
        replies c (packBytes [(1, taskStateCode t.state), (1, effPrio s (.persistent pan slot) (taskPrio t)), (1, b2n t.pendingAct),
          (1, b2n t.deleting), (4, t.flags), (4, t.ownerKey), (48, t.desc.toNat)]) s)) ∧
    (Served s c 0x0409 e → ∀ pan q depth : Nat, pan ≤ 15 → q ≤ 1023 → 4 ≤ depth → depth ≤ 256 → msgqOf s pan q = none →
      msgqEntries ((s.pan pan).msgqs.filter (fun x => x.2.owner == me)) + depth ≤ ownerQuota s me 60 2 →
      msgqEntries (s.pan pan).msgqs + depth ≤ 16384 →
      exec (.msgqCreate c pan q depth) s = applied c (setMsgq s pan q { owner := me, depth := depth, entries := [], held := [] })) ∧
    (Served s c 0x040A e → ∀ pan q : Nat, pan ≤ 15 → q ≤ 1023 →
      (msgqOf s pan q = none → exec (.msgqDelete c pan q) s = concludes c (plain 3 false) [] s) ∧
      (∀ m, msgqOf s pan q = some m → m.owner = me → queueBound s pan q = false →
        exec (.msgqDelete c pan q) s =
          applied c (s.setPan pan { s.pan pan with msgqs := AMap.del (s.pan pan).msgqs q })))

/-- Events of the DRAM (R294–R313). -/
def Obligations.DramEventsComplete : Prop :=
  (∀ (s : State) (k bank wrongData wrongCheck : Nat) (reqs : List DramReq) (q : DramReq), okStack k = true →
    reqs.all (fun q => decide (q.port < 24)) = true → reqs ≠ [] → s.dram.trained = true → (stackAt s k).refresh = .active →
    let u := advanceCopy (setStack s k { stackAt s k with lastRequest := now s, refresh := .active })
    chooseReq u (stackAt s k) bank reqs = some q →
    exec (.dramRequest k bank reqs wrongData wrongCheck) s =
      acts (serveReq (setStack u k (notePassed u (stackAt u k) bank reqs q)) k bank q
        (decide (wrongData + wrongCheck = 1 ∨ wrongData + wrongCheck = 2)))) ∧
  (∀ (s : State) (k bank : Nat), okStack k = true → s.dram.trained = true → (stackAt s k).refresh = .active →
    let i := refreshInterval s k
    let due := AMap.at (stackAt s k).refreshAt bank ((stackAt s k).refreshBase + i)
    let issued := setStack s k { stackAt s k with refreshAt := AMap.put (stackAt s k).refreshAt bank (due + i) }
    (due ≤ now s + 8 * i → exec (.refresh k bank false) s = .next issued) ∧
    (due + 8 * i ≤ now s → exec (.refresh k bank true) s = acts (count issued (stackCountId k 1) 1)) ∧
    (now s < due + 8 * i → exec (.refresh k bank true) s = .next s)) ∧
  (∀ (s : State) (ch : Nat), okStack (ch / 32) = true → s.dram.trained = true → AMap.at s.dram.calibrated ch 0 + 100000000 ≤ now s →
    exec (.calibration ch) s = .next (s.setDram { s.dram with calibrated := AMap.put s.dram.calibrated ch (now s) })) ∧
  (∀ (s : State) (k : Nat), okStack k = true →
    ((stackAt s k).refresh = .active → s.power.state = .nap → fld s.dram.cfg 0 14 ≠ 0 →
      (stackAt s k).lastRequest + 1000 * fld s.dram.cfg 0 14 ≤ now s →
      exec (.selfRefreshEntry k) s = .next (setStack s k ((stackAt s k).enter (now s) (refreshInterval s k)))) ∧
    (∀ since, (stackAt s k).refresh = .exiting since → since + 1500 ≤ now s →
      exec (.selfRefreshExit k) s =
        .next (setStack s k ((stackAt s k).awake (now s))))) ∧
  (∀ (s : State) (r owner line tries wrong : Nat), r < 18 → s.dram.trained = true →
    let u := extendWaiters (if tableOwner ≤ owner then extendTable s (owner - tableOwner) line else s) owner line
    let v := if tableOwner ≤ owner then poisonSearches u (owner - tableOwner) line else u
    (wrong ≤ 2 → exec (.dramReadRetry r owner line tries wrong) s =
      acts (count (endRetries u owner line) (stackCountId (r / 3) 2) 1)) ∧
    (2 < wrong → exec (.dramReadRetry r owner line tries wrong) s =
      acts (if tries < 3 then u.setDram { u.dram with retrying := (owner, line) :: u.dram.retrying.filter (· != (owner, line)) }
        else uncorrectable (endRetries v owner line) r owner line))) ∧
  (∀ (s : State) (r owner line wrong again : Nat), r < 18 → s.dram.trained = true →
    scrubNext s r owner line = true → scrubDue s ≤ now s →
    let u := countScrub s r owner
    exec (.patrolScrub r owner line []) s = acts u ∧ (∀ rest, exec (.patrolScrub r owner line (0 :: rest)) s = acts u) ∧
    (wrong = 1 ∨ wrong = 2 → ∀ rest, exec (.patrolScrub r owner line (wrong :: rest)) s = acts (correctedLine u r owner line)) ∧
    (2 < wrong → again ≤ 2 → ∀ rest, exec (.patrolScrub r owner line (wrong :: again :: rest)) s = acts (count u (stackCountId (r / 3) 2) 1))) ∧
  (∀ (s : State) (r : Nat),
    let retire (u : State) : State :=
      let v := raiseDev ((changeRank u r { rankAt u r with state := .retired, slot := 31 }).setDram
        { (changeRank u r { rankAt u r with state := .retired, slot := 31 }).dram with move := none }) 0x3A0 2 0
      nextMove (setCredited v (slotsHeld v))
    (∀ t since copied, s.dram.move = some ⟨r, some t, since, copied⟩ → exec .migrationEnd s =
      acts (retire (changeRank s t { rankAt s t with state := .inService, slot := (rankAt s r).slot }))) ∧
    (∀ since copied, s.dram.move = some ⟨r, none, since, copied⟩ → exec .reshapeEnd s = acts (retire s)) ∧
    (r < 18 → (rankAt s r).state = .retirePending → (s.dram.move ≠ none ∨ fitsOneFewer s = false) →
      (rankAt s r).pendingAt + 60000000000 ≤ now s → exec (.retirePendingReminder r) s =
        acts (raiseDev (setRank s r { rankAt s r with pendingAt := now s }) (0x342 + 4 * r) 1 0)) ∧
    (r < 18 → (rankAt s r).state = .retirePending → s.dram.move = none → fitsOneFewer s = true →
      exec (.retirePendingReminder r) s = acts (nextMove s))) ∧
  (∀ (s : State) (failed repaired : List Nat), (∀ r ∈ failed ++ repaired, r < 18) → s.power.dramReady = false →
    (s.power.phase = .booting ∨ s.power.phase = .commandReady ∨ s.power.phase = .recovery) →
    let u := failed.foldl (failTraining failed) (moveAtTraining failed (repaired.foldl (fun s r => raiseDev s (0x340 + 4 * r) 1 0) s))
    let v := u.setDram { u.dram with
      trained := !(slotRanks u).isEmpty, noRank := (slotRanks u).isEmpty,
      stackMap := (List.range 6).map (fun k => (k, { Stack.reset with woke := now u, refreshBase := now u, lastRequest := now u })) }
    let w := { v with power := { v.power with dramReady := true } }
    exec (.dramTrained failed repaired) s = acts (nextMove (setCredited w (slotsHeld w - b2n w.dram.move.isSome))))

/-- Commands of Cote and of the DRAM (R277–R302). -/
def Obligations.BufferAndDramCommandsComplete : Prop :=
  ∀ (s : State) (c : CmdRef) (e : Entry),
    (Served s c 0x0600 e → ∀ v : BitVec 64, fld v 6 2 = 0 → fld v 24 40 = 0 → fld v 0 6 ≤ 32 → 0 < fld v 8 16 →
      (fld v 0 6 = farGib s ∨ farPool s = none) →
      (fld v 0 6 ≤ farGib s ∨ (retirePending s = false ∧ dramGranted s (fld v 0 6) none ≤ capacityOfSlots (slotsHeld s))) →
      let u := zeroFill s deviceId ((farGib s - fld v 0 6) * 2 ^ 30)
      exec (.coteWrite c v) s = applied c (nextMove { u with cote := { u.cote with cfg := v } })) ∧
    (Served s c 0x0601 e → ∀ (p : Nat) (v : BitVec 64), p < 64 → firstBad (poolBad s p v) = none →
      exec (.poolWrite c p v) s = appliedThen c (if v = (s.cote.pool p).cfg then s
        else { s with cote := buildPool s.cote p v })) ∧
    (Served s c 0x0602 e → ∀ (l p : Nat) (v : BitVec 64), l < 64 → p < 8 → firstBad (igBad s (8 * l + p) v) = none →
      exec (.igBufWrite c l p v) s = appliedThen c (syncXoff (setGroup s (8 * l + p) v) (8 * l + p))) ∧
    (Served s c 0x0603 e → ∀ (l q : Nat) (v : BitVec 64), l < 64 → q < 8 → fld v 6 2 = 0 → fld v 36 28 = 0 → fld v 8 24 ≠ 0 →
      (q ≠ 0 ∨ poolFar (s.cote.pool (fld v 0 6)) = false) →
      exec (.eqBufWrite c l q v) s = appliedThen c (s.setQueue l q { s.queue l q with buf := v })) ∧
    (Served s c 0x0604 e →
      (ownerOf s e = some operatorId → ∀ kind index : Nat, kind ≤ 3 → index < (if kind = 0 then 1 else if kind = 1 then 64 else 512) →
        exec (.bufferRead c kind index) s = replies c (bufferData s kind index) s) ∧
      (ownerOf s e ≠ some operatorId → ∀ kind index : Nat,
        exec (.bufferRead c kind index) s = replies c (ownerDrops s (actor s e)) s)) ∧
    (Served s c 0x0700 e → ∀ v : BitVec 64, fld v 14 2 = 0 → fld v 24 40 = 0 → (fld v 0 14 = 0 ∨ (5 ≤ fld v 0 14 ∧ fld v 0 14 ≤ 10000)) →
      1 ≤ fld v 16 8 → fld v 16 8 ≤ 168 → exec (.dramWrite c v) s = applied c (s.setDram { s.dram with cfg := v })) ∧
    (Served s c 0x0701 e → ∀ (p : Nat) (v : BitVec 64), p < 24 → fld v 3 1 = 0 → fld v 17 3 = 0 → fld v 43 21 = 0 → portGbw v ≤ 7200 →
      500 ≤ portTarget v → portTarget v ≤ 1000000 →
      let old := dramPort s p
      let new := setFld v 42 1 (b2n (portDemoted old))
      (portDemoted old = true ∨ (portGbw old = portGbw new ∧ portTarget old = portTarget new) ∨
        admission (peakNow s) (portsWith s p new) = none) →
      exec (.dramPortWrite c p v) s = applied c (readmitClasses (if portDemoted old then
        s.setDram { s.dram with awaiting := AMap.put s.dram.awaiting p new } else setDramPort s p new))) ∧
    (Served s c 0x0702 e →
      exec (.dramRead c 0 0) s = replies c (beBytes 8 s.dram.cfg.toNat) s ∧
      (∀ i < 18, exec (.dramRead c 1 i) s = replies c (beBytes 8 (rankStatus s i)) s) ∧
      (∀ i < 24, exec (.dramRead c 2 i) s = replies c (beBytes 8 (dramPort s i).toNat ++
        ((List.range 6).map (fun k => beBytes 8 (counted s (portCountId i k)))).flatten) s) ∧
      (∀ i < 4096, exec (.dramRead c 3 i) s =
        replies c (beBytes 8 (allocOf s i) ++ beBytes 8 (sumTables tableDram (tablesOf s i))) s))

/-- Events of Stockpile (R262–R264, R324–R336, R344): each completes, and with which next state. -/
def Obligations.FlashEventsComplete : Prop :=
  (∀ (s : State) (table : Nat) (t : Table), AMap.find s.gaz.tables table = some t → t.kind = 3 →
    let tick := 1000000 * fld t.cfg 16 16
    let n := (now s - t.ageAt) / tick
    let u := s.setTable table { t with ageTick := t.ageTick + n, ageAt := t.ageAt + n * tick }
    (t.rehash = none → exec (.agingScan table) s = .next (finish (agePass u table))) ∧
    (t.rehash ≠ none → exec (.agingScan table) s = .next u)) ∧
  (∀ (s : State) (table : Nat) (key : List Byte) (p : Promotion),
    s.stk.promotions.find? (fun p => p.table == table && p.key == key) = some p →
    exec (.promotionEnd table key) s = .next (finish (endPromotion s p)) ∧
    (∀ r, coldFind s table key = some r → r.staged = false →
      let u := s.setStk { s.stk with promotions := s.stk.promotions.map (fun q =>
        if q.table == table && q.key == key && q.gone == p.gone then { q with step := q.step + 1 } else q) }
      (p.step < 9 → exec (.readRetryStep table key) s =
        .next (finish (devCount (p.deletes.foldl (extendDeadline 1) (extendParked u p)) 6 2 0 (u.table table).owner 1))) ∧
      (p.step = 9 → exec (.readRetryStep table key) s = .next u))) ∧
  (∀ (s : State) (place : Nat) (key : List Byte), s.stk.promotions.find? (fun p => p.table == place && p.key == key) = none →
    onNand s place key = true →
    exec (.readRetryStep place key) s = .next (setLadder s place key (min 10 (ladderStep s place key + 1)))) ∧
  (∀ (s : State) (table : Nat) (key : List Byte) (r : ColdRec), coldFind s table key = some r → r.staged = true →
    stkState s ≠ .failed → stkOpen s = true →
    let paid := charge s 128
    exec (.stagedRecordWrite table key true) s =
      .next (finish (paid.setStk { paid.stk with cold := paid.stk.cold.map (fun x =>
        if x.table == table && x.key == key then { x with staged := false } else x) })) ∧
    (let drawn := fresh paid
     let spare := drawn.1.toNat % (paid.stk.spare + 1)
     let u := drawn.2.setStk { drawn.2.stk with spare := spare }
     exec (.stagedRecordWrite table key false) s =
       .next (finish (if spare < 2 ∧ (u.stk.state = .normal ∨ u.stk.state = .degraded) then setStkState u .readOnly else u)))) ∧
  (∀ (s : State) (table : Nat) (t : Table) (bits : List Nat), AMap.find s.gaz.tables table = some t → t.filterNew = some bits →
    t.rehash = none →
    let cold := coldOf s table
    let new := (cold.map (fun r => filterBits t r.kh (flowH (seed1 t) r.key))).flatten.eraseDups
    let t' := { t with
      filter := new, filterNew := none, filterSeed := seed1 t, covered := cold.length, leftovers := 0, rebuildAccs := [] }
    exec (.filterRebuildSwitch table) s =
      .next (finish (endAll (tableCount (s.setTable table t') table 26) t.rebuildAccs (plain 0 true)))) ∧
  (∀ s : State, s.ident.flash = true →
    let channel := s.setStk { s.stk with lostChannels := s.stk.lostChannels + 1 }
    let controller := s.setStk { s.stk with ctrlFailed := true }
    let fails (u : State) : State := (setStkState u .failed).stk.promotions.foldl endPromotion (setStkState u .failed)
    exec (.flashChannelFault 2) s = .next (finish (fails controller)) ∧
    (1 ≤ s.stk.lostChannels → exec (.flashChannelFault 1) s = .next (finish (fails channel))) ∧
    (s.stk.state = .normal → s.stk.lostChannels = 0 → exec (.flashChannelFault 1) s = .next (finish (setStkState channel .degraded))) ∧
    (s.stk.state = .normal → s.stk.lostChannels ≤ 1 → exec (.flashChannelFault 0) s = .next (finish (setStkState s .degraded)))) ∧
  (∀ s : State, s.stk.state = .degraded → exec .stripeRebuildEnd s = .next (finish (setStkState s .normal))) ∧
  (∀ (s : State) (ring n i : Nat) (x : Ring) (p : PendCap), stkOpen s = true → AMap.find s.stk.rings ring = some x →
    s.stk.captures.find? (fun p => p.ring == ring) = some p → s.stk.captures.findIdx? (fun p => p.ring == ring) = some i →
    let u := s.setRing ring { x with recs := flushRecs n x.recs }
    let v := u.setStk { u.stk with captures := (u.stk.captures.zipIdx.filter (fun q => q.2 != i)).map (·.1) }
    exec (.captureWrite ring n) s = .next (finish (releaseCells (arriveCapture (accrue v) p) p.cells)))

/-- Commands of Stockpile (R320–R343). -/
def Obligations.FlashCommandsComplete : Prop :=
  ∀ (s : State) (c : CmdRef) (e : Entry), s.ident.flash = true →
    let me := actor s e
    (Served s c 0x0800 e → ∀ v : BitVec 64, fld v 6 2 = 0 → fld v 27 37 = 0 → fld v 0 6 ≤ 32 → 365 ≤ fld v 8 12 → fld v 8 12 ≤ 3652 →
      5 ≤ fld v 20 7 → fld v 20 7 ≤ 100 →
      (fld v 0 6 = captureUnits s ∨ (s.stk.rings = [] ∧ s.stk.cold.length ≤ coldCap (fld v 0 6))) →
      exec (.stkWrite c v) s = applied c ((accrue s).setStk { (accrue s).stk with cfg := v })) ∧
    (Served s c 0x0801 e → exec (.stkRead c) s = replies c (beBytes 16 (stkStatus s)) s) ∧
    (Served s c 0x0802 e → ∀ (ring : Nat) (v : BitVec 64), ring < 256 → fld v 0 12 = me → (me = operatorId ∨ slotUsed s me = true ∧ me < 512) →
      (∀ x, AMap.find s.stk.rings ring = some x → fld x.cfg 0 12 = me) → fld v 14 2 = 0 → fld v 52 12 = 0 → fld v 12 2 ≠ 3 →
      fld v 16 16 ≤ 32768 → fld v 32 2 ≠ 3 → (fld v 32 2 = 1 → fld v 34 11 ≤ 15) → 1 ≤ fld v 45 7 → fld v 45 7 ≤ 100 →
      (fld v 32 2 = 2 → me = operatorId) → ringSizes s ring (some me) + fld v 16 16 ≤ ownerQuota s me 52 4 →
      ringSizes s ring none + fld v 16 16 ≤ captureUnits s * 1024 →
      exec (.ringWrite c ring v) s = applied c (s.setRing ring (match AMap.find s.stk.rings ring with
        | none => freshRing v
        | some x => changedRing x v))) ∧
    (∀ (ring : Nat) (x : Ring), AMap.find s.stk.rings ring = some x → fld x.cfg 0 12 = me →
      (Served s c 0x0803 e → exec (.ringDelete c ring) s =
        applied c (s.setStk { s.stk with
          rings := AMap.del s.stk.rings ring, ladders := s.stk.ladders.filter (fun l => l.1 != ringPlace ring) })) ∧
      (Served s c 0x0804 e → x.state ≠ .disabled → exec (.ringRearm c ring) s =
        applied c (s.setRing ring { x with state := .armed, since := 0, trigNext := false })) ∧
      (Served s c 0x0805 e → exec (.ringTriggerCommand c ring) s = applied c (triggerRing s ring)) ∧
      (Served s c 0x0806 e → ∀ offset n : Nat,
        let recs := (x.recs.drop offset).take n
        let seqs := (recs.filter (fun r => r.flash)).map (fun r => r.seq)
        let lost (q : Nat) : Bool := decide (10 ≤ ladderStep s (ringPlace ring) (beBytes 4 q))
        let u := seqs.foldl (fun s q => readNand s c.acc (ringPlace ring) (beBytes 4 q)) s
        (seqs.dropWhile (fun q => !lost q) = [] → exec (.ringRead c ring offset n) s =
          replies c ((ringHead s ring x true ++ (recs.map capRecBytes).flatten).take replyMax) u) ∧
        (∀ q rest, seqs.dropWhile (fun q => !lost q) = q :: rest → exec (.ringRead c ring offset n) s =
          concludes c (failWith 0x0600 3 q) (beBytes 4 q ++ beBytes 4 (((q :: rest).takeWhile lost).getLast?.getD q)) u))) ∧
    (∀ (ring : Nat) (x : Ring), AMap.find s.stk.rings ring = some x → fld x.cfg 0 12 ≠ me → Served s c 0x0806 e → ∀ offset n : Nat,
      exec (.ringRead c ring offset n) s =
        if ownerOf s e = some operatorId then replies c ((ringHead s ring x false).take replyMax) s
        else concludes c (plain 0x0201 false) [] s) ∧
    (∀ (table : Nat) (t : Table) (key : List Byte), AMap.find s.gaz.tables table = some t → t.owner = me → t.kind = 3 →
      (∀ r, coldFind s table key = some r →
        (Served s c 0x0807 e → stkState s ≠ .failed → exec (.coldRead c table key) s =
          if ladderStep s table key < 10 then replies c (coldBytes r) (readNand s c.acc table key)
          else concludes c (plain 0x0600 false) [] (readNand s c.acc table key)) ∧
        (Served s c 0x0808 e → (∀ p ∈ s.stk.promotions, ¬(p.table = table ∧ p.key = key)) →
          exec (.coldDelete c table key) s = applied c (leftCold s table key))) ∧
      (Served s c 0x0808 e → coldFind s table key = none → (∀ p ∈ s.stk.promotions, ¬(p.table = table ∧ p.key = key)) →
        exec (.coldDelete c table key) s = concludes c (plain 3 false) [] s) ∧
      (Served s c 0x0808 e → s.stk.promotions.any (fun p => p.table == table && p.key == key && !p.gone) = true →
        exec (.coldDelete c table key) s = goesOn c (s.setStk { s.stk with promotions := s.stk.promotions.map (fun p =>
          if p.table == table && p.key == key && !p.gone then { p with deletes := p.deletes ++ [c.acc] } else p) })) ∧
      (Served s c 0x0809 e → t.filterNew = none → coldEn t = true → filterLog t ≠ 0 →
        let u := startRebuild s table
        let t' := u.table table
        t'.filterNew ≠ none →
        exec (.filterRebuild c table) s = goesOn c (u.setTable table { t' with rebuildAccs := t'.rebuildAccs ++ [c.acc] }))) ∧
    (Served s c 0x080A e → ∀ offset n : Nat,
      let recs := ((AMap.at s.stk.telemetry me ⟨[], 0⟩).recs.drop offset).take (min n 1023)
      let seqs := recs.map (fun r => r.seq)
      let lost (q : Nat) : Bool := decide (10 ≤ ladderStep s (telePlace me) (beBytes 4 q))
      let u := seqs.foldl (fun s q => readNand s c.acc (telePlace me) (beBytes 4 q)) s
      (seqs.dropWhile (fun q => !lost q) = [] → exec (.telemetryRead c offset n) s = replies c (recs.map teleBytes).flatten u) ∧
      (∀ q rest, seqs.dropWhile (fun q => !lost q) = q :: rest → exec (.telemetryRead c offset n) s =
        concludes c (failWith 0x0600 3 q) (beBytes 4 q ++ beBytes 4 (((q :: rest).takeWhile lost).getLast?.getD q)) u))

/-- Events, counters, snapshots and traces (R179, R209, R407, R490–R502). -/
def Obligations.EventCommandsComplete : Prop :=
  (∀ (s : State) (source owner : Nat), okSource source = true → powered s = true →
    exec (.holdoffExpiry source owner) s = .next (settle (endHoldoff s source owner))) ∧
  (∀ (s : State) (id : Nat) (x : Snap), AMap.find s.legend.snaps id = some x → x.lastRead + 60000000000 ≤ now s →
    exec (.snapshotExpiry id) s = .next { s with legend := { s.legend with snaps := AMap.del s.legend.snaps id } }) ∧
  (∀ (s : State) (c : CmdRef) (e : Entry),
    let me := actor s e
    let op := ownerOf s e == some operatorId
    let call : Call := ⟨c.acc, me, op, e⟩
    (Served s c 0x0A00 e →
      (op = true → ∀ (i : Nat) (v : BitVec 64), i ≤ 2047 → firstBad (routeBad s v) = none →
        exec (.eventRouteWrite c 0 i v) s = applied c { s with events := { s.events with routes := AMap.put s.events.routes i v } }) ∧
      (op = false → ∀ v : BitVec 64, fld v 32 32 = 0 → exec (.eventRouteWrite c 1 0 v) s = applied c { s with events :=
        { s.events with ownerRoutes := AMap.put s.events.ownerRoutes me (BitVec.ofNat 32 v.toNat) } })) ∧
    (Served s c 0x0A01 e → ∀ n : Nat,
      let q := AMap.at s.events.queues me ⟨[], false⟩
      let recs := q.recs.foldl (fun l r => Machine.insertRec r l) []
      let k := min n (replyMax / 64)
      exec (.eventRead c n) s = replies c ((recs.take k).map eventBytes).flatten
        { s with events := { s.events with queues := AMap.put s.events.queues me { q with recs := recs.drop k } } }) ∧
    (Served s c 0x0A02 e →
      (∀ (i : Nat) (v : BitVec 64), firstBad (coreSelectBad s call i v) = none →
        let p := s.pan (i / 128)
        let w : BitVec 32 := BitVec.ofNat 32 v.toNat
        exec (.counterSelectWrite c 0 i v) s = applied c (s.setPan (i / 128) { p with
          perfSel := AMap.put p.perfSel (i % 128) (w, me),
          perf := if (coreSelect s i).1 = w then p.perf else AMap.del p.perf (i % 128) })) ∧
      (op = true → ∀ (i : Nat) (v : BitVec 64), i ≤ 31 → firstBad (devSelectBad v) = none →
        exec (.counterSelectWrite c 1 i v) s = applied c { s with events := { s.events with
          devSelect := AMap.put s.events.devSelect i v,
          devPerf := if AMap.at s.events.devSelect i 0 = v then s.events.devPerf else AMap.del s.events.devPerf i } })) ∧
    (snapsOf s e.session < 16 → s.legend.snaps.length < 1024 →
      let id := s.legend.nextSnap
      let taken (bytes : List Byte) : State := { s with legend := { s.legend with
        snaps := AMap.put s.legend.snaps id { session := e.session, bytes := bytes, lastRead := now s }, nextSnap := id + 1 } }
      let told (bytes : List Byte) : List Byte := beBytes 4 id ++ beBytes 4 bytes.length
      (Served s c 0x0A03 e → ∀ (scope inst : Nat), (1 ≤ scope ∧ scope ≤ 10 ∨ scope = 0xFF) → instExists s scope inst = true →
        (op = true ∨ instSeen s me scope inst = true) →
        let es := latched s call scope inst
        let bytes := snapBytes s es
        let u := sampleCounters (taken bytes) es
        exec (.snapshot c scope 0 inst) s = replies c (told bytes)
          { u with events := { u.events with seen := u.events.seen.filter (fun i => !es.any (fun e => e.id == i)) } }) ∧
      (Served s c 0x0C01 e → ∀ pan : Nat, pan ≤ 15 →
        let p := s.pan pan
        let mine (r : DistReport) : Bool := r.tenant == me || (op && r.tenant == deviceId)
        let bytes := ((p.reports.filter mine).map distBytes).flatten ++ (if op then distCounts p else [])
        let u := (taken bytes).setPan pan { p with
          reports := p.reports.filter (fun r => !mine r), lostReports := if op then [] else p.lostReports }
        exec (.distReportSnapshot c pan) s = concludes c (plain 0 true) (told bytes)
          { u with events := { u.events with seen := u.events.seen.filter (· != cid 4 pan 0) } }) ∧
      (Served s c 0x0C02 e → ∀ pan : Nat, pan ≤ 15 →
        let bytes := ((s.pan pan).trace.map traceBytes).flatten
        exec (.traceSnapshot c pan) s =
          concludes c (plain 0 true) (told bytes) ((taken bytes).setPan pan { s.pan pan with trace := [] }))) ∧
    (∀ (id : Nat) (x : Snap), AMap.find s.legend.snaps id = some x → x.session = e.session →
      (Served s c 0x0A04 e → ∀ offset : Nat, exec (.snapshotRead c id offset) s = replies c ((x.bytes.drop offset).take 65280)
        { s with legend := { s.legend with snaps := AMap.put s.legend.snaps id { x with lastRead := now s } } }) ∧
      (Served s c 0x0A05 e → exec (.snapshotRelease c id) s =
        applied c { s with legend := { s.legend with snaps := AMap.del s.legend.snaps id } })) ∧
    (Served s c 0x0A06 e → s.ident.flash = true → ∀ chosen : List Nat,
      (∀ v ∈ chosen, v < 3 ∨ v ∈ (coreEntries s call ++ devEntries s call).map (·.id)) →
      exec (.telemetrySelect c chosen) s =
        applied c { s with events := { s.events with telemetrySelect := AMap.put s.events.telemetrySelect me chosen } }) ∧
    (Served s c 0x0C00 e → ∀ (x : Bool) (d : Nat), d < 2 ^ 20 →
      exec (.domainStatusRead c x d) s = replies c (beBytes 8 (domainStatus (s.dom (domKey x d)))) s))

/-- Supply, sensors and sync (R466–R476, R484–R488). -/
def Obligations.InputAndSensorEventsComplete : Prop :=
  ∀ s : State, powered s = true →
    let seenAt := fun (u : State) => Machine.settle (syncAlert u)
    (∀ vin : Nat,
      (vin < 34000 → s.power.warning = false → exec (.brownoutWarning vin) s =
        .next (seenAt (raiseDev ((noteVin s vin).setPower { (noteVin s vin).power with
          warning := true, intake := setFld s.power.intake 16 1 1 }) 0x000 1 0))) ∧
      (vin < 34000 → s.power.warning = true → exec (.brownoutWarning vin) s =
        .next (seenAt ((noteVin s vin).setPower { (noteVin s vin).power with
          warning := true, intake := setFld s.power.intake 16 1 1 }))) ∧
      (35000 ≤ vin → s.power.warning = true → exec (.brownoutWarningClear vin) s =
        .next (seenAt (raiseDev ((noteVin s vin).setPower { (noteVin s vin).power with warning := false }) 0x000 1 0))) ∧
      (30000 ≤ vin → vin < 32000 → exec (.vinDip vin) s = .next (seenAt (noteSeen (s.setPower { s.power with
        dips := s.power.dips + 1, vinMin := min s.power.vinMin vin, vinFell := true }) 17 0x001))) ∧
      (75000 < vin → exec (.vinHigh vin) s = .next (seenAt (noteSeen (noteVin s vin) 18 0x002))) ∧
      (vin < 36000 → exec (.vinLowBand vin) s = .next (seenAt (noteSeen (noteVin s vin) 20 0x004))) ∧
      (∀ bank : Nat, s.power.phase ≠ .flushing →
        (s.power.vin ≤ bank + 1000 ∧ bank ≤ s.power.vin + 1000) ∨ (35000 < bank ∧ s.power.vinFell = true) → exec (.bankReady bank) s =
        .next (s.setPower { s.power with bank := bank, bankReady := true, pgood := true }))) ∧
    (∀ watts : Nat, fld s.power.intake 4 11 < watts → exec (.inputPowerAlert watts) s =
      .next (seenAt (noteSeen (s.setPower { s.power with pin := watts, powerHigh := true }) 19 0x003))) ∧
    (∀ (die input : Int) (degrees : List Int),
      let readings := (0, die) :: (1, input) :: (degrees.take 6).zipIdx.map (fun x => (8 + x.2, x.1))
      let u := readings.foldl readSensor s
      let cool := u.power.temps.all (fun x => decide (x.2 ≤ warnAt x.1 - 5))
      let v := u.setPower { u.power with therm := tooWarm u || (u.power.therm && !cool) }
      exec (.sensorPoll die input degrees) s = .next (settle (startTest (if tooWarm v = true then noteSeen v 22 0x006 else v)))) ∧
    (s.power.refclk = true → exec .refclkLost s =
      acts ((List.range 64).foldl (takeLinkDown 0x31) (raiseDev (s.setPower { s.power with
        refclk := false, pllLocked := false, intake := setFld s.power.intake 21 1 1 }) 0x005 1 0))) ∧
    (s.power.refclk = false → s.power.phase ≠ .starting → exec .refclkReturn s =
      .next (settle (goOn (raiseDev (s.setPower { s.power with refclk := true, pllLocked := true }) 0x005 2 0)))) ∧
    ((∀ t, s.power.syncLast = some t → t + 1000 ≤ now s) → exec .syncInEdge s = .next (s.setPower { s.power with
      syncCount := s.power.syncCount + 1, syncLast := some (now s), syncLatch := stamp s })) ∧
    (∀ t, s.power.syncLast = some t → now s < t + 1000 → exec .syncInEdge s = .next (s.setPower { s.power with
      syncCount := s.power.syncCount + 1, syncLast := some (now s) })) ∧
    exec .syncOutEdge s = .next (s.setPower { s.power with syncOut := syncOutLevel (fld s.power.intake 32 8) (now s) })

/-- Going down and coming up (R15, R340, R341, R466–R486, R542). -/
def Obligations.PowerDownAndUpComplete : Prop :=
  ∀ s : State,
    (powered s = true → s.power.phase ≠ .flushing → ∀ cause vin : Nat, 1 ≤ cause → cause ≤ 3 → causeHolds s cause vin = true →
      exec (.shutdownDecision cause vin) s = .next (settle (decideShutdown (noteVin s vin) cause))) ∧
    (s.power.phase = .flushing →
      exec .flushDone s = .next (powerOff (match s.stk.flushing with
        | none => s
        | some e => journalAdd s (.entry s.power.epoch { e with commit := some (crc32c (journalBytes e)) }))) ∧
      exec (.holdupExhausted true) s = .next (powerOff (match s.stk.flushing with
        | none => s
        | some e => journalAdd s (.entry s.power.epoch e))) ∧
      exec (.holdupExhausted false) s = .next (powerOff s) ∧
      (∀ cause vin : Nat, 1 ≤ cause → cause ≤ 3 → causeHolds s cause vin = true →
        exec (.shutdownDecision cause vin) s = .next (match s.stk.flushing with
          | none => s
          | some e =>
            if e.time.ns / 250 = now s / 250 ∧ cause < e.cause then
              s.setStk { s.stk with flushing := some { e with cause := cause } }
            else s))) ∧
    (s.power.phase = .off →
      exec .offHoldExpiry s = .next (s.setPower { s.power with offHeld := false }) ∧
      (s.power.offHeld = false →
        exec .hotSwapRetry s = .next (s.setPower { s.power with hotSwapFailed := s.power.hotSwapFailed + 1 }) ∧
        (∀ (vin : Nat) (copyA copyB : Bool) (lands : Lands), 35000 ≤ vin →
          let e := advanceEpoch s.power.epochF s.power.epochL (copyA || copyB)
          let u := s.setPower { s.power with
            phase := .starting, clock := 0, epochF := e.1, epochL := e.2.1, epoch := epochOf e.1 e.2.1, saturated := e.2.2.1,
            skipped := e.2.2.2, intake := intakeReset, pstate := pstateReset, state := .doze, before := .doze, standbyAt := 0,
            vin := vin, vinMin := vin, dips := 0, pwrEn := true, lands := lands, syncCount := 0, syncLast := none,
            syncLatch := ⟨0, 0⟩, syncOut := false, testAt := 0, vinFell := false, timeLocked := false, pllLocked := s.power.refclk }
          let ports := { u.ports with darkUntil := u.ports.darkUntil - s.power.clock }
          let events := { Events.reset with completions := u.events.completions, base := stamp u }
          let survey := { u.survey with strap := lands.svyAddr.toNat, term := lands.svyTerm }
          let host := { u.host with strap := lands.gpio.toNat }
          exec (.powerUp vin copyA copyB lands) s =
            .next (settle (tripDone { u with ports := ports, events := events, survey := survey, host := host })))))

/-- Power states (R479–R482). -/
def Obligations.PowerStatesComplete : Prop :=
  (∀ (s : State) (c : CmdRef) (e : Entry),
    (Served s c 0x0103 e → s.power.transition = none → (s.power.phase ≠ .commandReady ∨ s.dram.noRank = true) → ∀ record : BitVec 64,
      fld record 0 3 ≤ 4 → fld record 28 36 = 0 →
      exec (.powerStateSet c record) s =
        acts (settle (conclude c.acc (order s ⟨c.acc, actor s e, ownerOf s e == some operatorId, e⟩ record)))) ∧
    (Served s c 0x0104 e → exec (.powerStatus c) s = replies c (beBytes 8 s.power.pstate.toNat ++ packBytes [(1, s.power.state.code),
      (1, match s.power.transition with | none => 0xFF | some t => t.target.code)]) s)) ∧
  (∀ (s : State) (t : Transition), s.power.transition = some t →
    (t.railsAt = none → t.since + 10000000 ≤ now s → t.grace = false →
      let u := (List.range 16).foldl endActivations s
      let t' := { t with grace := true }
      exec .activationGraceExpiry s = acts (completeEntry (u.setPower { u.power with transition := some t' }) t')) ∧
    (t.railsAt = none → t.since + 10000000 ≤ now s → t.grace = true →
      exec .activationGraceExpiry s = acts (completeEntry (s.setPower { s.power with transition := some { t with grace := true } })
        { t with grace := true })) ∧
    (∀ r, t.railsAt = some r → r ≤ now s →
      exec .offRailsOpen s = .next (powerOff (endAll s (s.legend.flight.map (·.1)) (failWith 0x0503 3 4))))) ∧
  (∀ s : State, inStandby s = true →
    (fld s.power.pstate 3 1 = 1 → exec .standbyWakeGpio s = acts (leaveStandby s s.power.before none)) ∧
    (fld s.power.pstate 4 24 ≠ 0 → s.power.standbyAt + fld s.power.pstate 4 24 * 1000000 ≤ now s →
      exec .standbyWakeTimer s = acts (leaveStandby s s.power.before none)))

/-- Reset and boot (R379, R404, R473–R477, R510). -/
def Obligations.ResetAndBootComplete : Prop :=
  (∀ s : State,
    (let u := s.setPower { s.power with resetN := false }
     mgmtRuns u = true → exec .resetNAssert s = .next (settle (Machine.deviceRestart u 1 restartedStatus false))) ∧
    (let u := s.setPower { s.power with resetN := true }
     exec .resetNRelease s = .next (settle (if s.power.phase = .restarting then reboot u else goOn u)))) ∧
  (∀ (s : State) (c : CmdRef) (e : Entry), Served s c 0x0105 e →
    let u := settle (conclude c.acc (commitEntry s c.acc, .later))
    let r := if s.contain.hold = true then settle (raiseDev u 0x505 3 0) else u
    exec (.deviceRestart c) s =
      .next (settle (Machine.deviceRestart (r.setContain { r.contain with hold := false, deviceHistory := [] }) 2 restartedStatus false))) ∧
  (∀ (s : State) (torn : List TornPage), s.trust.zeroizing = none →
    (s.power.phase = .booting → s.power.dramReady = true →
      let a := if s.power.markerOpen = true then s else readJournal (torn.foldl discardTorn (stkPowerUp s)) (tornCounts torn)
      let b := setPhase a .commandReady
      let d := raiseDev (b.setPower { b.power with fault := b.contain.hold }) 0x008 1 0
      let f := d.trust.bootEvents.foldl bootRaise d
      let g := f.setTrust { f.trust with bootEvents := [] }
      exec (.commandReady torn) s = .next (settle ((g.host.funcs.map (·.1)).foldl pump g))) ∧
    (s.power.phase = .commandReady → s.dram.noRank = false →
      exec .trafficReady s = acts (reachState (setPhase (startCores s) .trafficReady) .doze)))

/-- Tenants and debug (R349, R350, R369, R372). -/
def Obligations.TenantCommandsComplete : Prop :=
  (∀ (s : State) (c : CmdRef) (e : Entry),
    let me := actor s e
    let op := ownerOf s e == some operatorId
    (∀ (record : BitVec 1024) (o : Nat), o = quotaField record 0 2 → firstBad (quotaBad s record) = none →
      (Served s c 0x0900 e → o ≤ 511 → (s.slot o).state = .free → firstBad (dramFits s o record) = none →
        let expect := BitVec.ofNat 384 (quotaField record 64 48)
        exec (.tenantCreate c record) s =
          applied c (applyQuota (s.setSlot o { Slot.free with state := .created, expect := expect }) o record)) ∧
      (Served s c 0x0900 e → o ≤ 511 → (s.slot o).state = .created → (s.slot o).quota = keptQuota s.ident.flash record →
        (s.slot o).expect = BitVec.ofNat 384 (quotaField record 64 48) →
        exec (.tenantCreate c record) s = concludes c (plain 2 false) [] s) ∧
      (Served s c 0x0903 e → firstBad (quotaSlotBad record) = none → (s.slot o).state ≠ .free → (s.slot o).state ≠ .zeroizing →
        firstBad (dramFits s o record) = none → exec (.quotaWrite c record) s = applied c (applyQuota s o record))) ∧
    (Served s c 0x0904 e → ∀ tenant : Nat, tenant ≤ 511 ∨ tenant = operatorId → op = true ∨ tenant = me →
      let x := s.slot tenant
      exec (.tenantRead c tenant) s =
        if slotBusy s tenant then concludes c (failWith 0x0203 3 tenant) [] s
        else replies c (beBytes 1 (slotCode x.state) ++
          beBytes 128 (setQuota x.quota 64 48 x.expect.toNat).toNat ++ packBytes (quotaUse s tenant)) s) ∧
    (∀ tenant : Nat,
      (Served s c 0x0901 e → tenant ≤ 511 → (s.slot tenant).state = .free →
        exec (.tenantDelete c tenant) s = .next (finish (settle (endCommand s c.acc (plain 3 false) [])))) ∧
      (Served s c 0x0901 e → tenant ≤ 511 → (s.slot tenant).state ≠ .free → (s.slot tenant).state ≠ .zeroizing →
        exec (.tenantDelete c tenant) s =
          acts (settle (conclude c.acc (startZeroize (commitEntry s c.acc) tenant c.acc true, .later)))) ∧
      (Served s c 0x0902 e → tenant = me → (s.slot tenant).state ≠ .zeroizing →
        exec (.tenantZeroize c tenant) s =
          acts (settle (conclude c.acc (startZeroize (commitEntry s c.acc) tenant c.acc false, .later))))) ∧
    (Served s c 0x0C04 e → ∀ scope : Nat, scope < 2 ^ 160 →
      let x : Challenge := { epoch := s.power.epoch, nonce := Config.secret s.free, scope := scope }
      let trust := { s.trust with challenge := some x }
      exec (.debugChallenge c scope) s =
        concludes c (plain 0 true) (challengeBytes s x) { s with free := s.free + 1, trust := trust }) ∧
    (Served s c 0x0C05 e → ∀ credential : List Byte, credentialOk s credential = true →
      (∀ x ∈ s.trust.slots, x.1 < 512 → x.2.state ≠ .claimed ∧ x.2.state ≠ .zeroizing) →
      exec (.debugUnlock c credential) s = appliedThen c (grantUnlock (commitEntry (s.setTrust { s.trust with challenge := none }) c.acc)))) ∧
  (∀ (s : State) (owner : Nat), (s.slot owner).state = .zeroizing →
    let u := s.setDram { s.dram with content := AMap.del s.dram.content owner, poison := AMap.del s.dram.poison owner }
    exec (.ownerZeroizeEnd owner) s = acts ((s.slot owner).waiting.foldl endWaiter (nextMove (slotAfter u owner))))

/-- Keys and sealing (R356, R360, R361). -/
def Obligations.KeyAndSealCommandsComplete : Prop :=
  ∀ (s : State) (c : CmdRef) (e : Entry),
    let me := actor s e
    let mine := AMap.at s.trust.keys me []
    (∀ index : Nat, index ≤ 65535 →
      (Served s c 0x0905 e → index < ownerQuota s me 20 4 → ∀ key : BitVec 512, exec (.keyInstall c index key) s =
        applied c (s.setTrust { s.trust with keys := AMap.put s.trust.keys me (AMap.put mine index key) })) ∧
      (Served s c 0x0906 e → exec (.keyDelete c index) s =
        if AMap.has mine index then applied c (s.setTrust { s.trust with keys := AMap.put s.trust.keys me (AMap.del mine index) })
        else concludes c (plain 3 false) [] s)) ∧
    (Served s c 0x0907 e → ∀ (flags : Nat) (minSvn : List Nat) (data : List Byte), flags ≤ 3 → minSvn.length = 6 →
      data.length ≤ 65280 → sealingOff s me = false →
      let nonce : BitVec 96 := (Config.secret s.free).setWidth 96
      let hd := blobHead me flags (stamp s) (if maskHas flags 1 then minSvn else runningSvns s) nonce data.length
      exec (.seal c flags minSvn data) s = concludes c (plain 0 true)
        (hd ++ gcmText (sealKey s me) nonce data ++ beBytes 16 (Config.gcmTag (sealKey s me) nonce hd data).toNat)
        { s with free := s.free + 1 }) ∧
    (∀ (blob text : List Byte), openBlob s me blob = .inr text →
      (Served s c 0x0908 e → exec (.unseal c blob) s = replies c ((blob.drop 12).take 12 ++ text) s) ∧
      (Served s c 0x0909 e → text.length % 68 = 0 →
        let items := keyItems (text.length / 68) text
        (∀ x ∈ items, x.2.1 = 0 ∧ x.1 < ownerQuota s me 20 4) →
        exec (.unsealKeys c blob) s = applied c (s.setTrust { s.trust with
          keys := AMap.put s.trust.keys me (items.foldl (fun m x => AMap.put m x.1 x.2.2) mine) })))

/-- Firmware (R376–R381). -/
def Obligations.FirmwareCommandsComplete : Prop :=
  ∀ (s : State) (c : CmdRef) (e : Entry),
    let t := s.trust
    (Served s c 0x0B00 e → ∀ (kind slot offset : Nat) (data : List Byte), 1 ≤ kind → kind ≤ 6 → slot ≤ 1 →
      offset + data.length ≤ (slotMap kind).1 → (e.session ≠ 0 ∨ kind ≤ 2) → slotHeld t kind slot = false →
      exec (.fwWrite c kind slot offset data) s = applied c (s.setTrust (program t kind slot offset data))) ∧
    (Served s c 0x0B01 e → ∀ kind slot : Nat, 1 ≤ kind → kind ≤ 6 → slot ≤ 1 → (e.session ≠ 0 ∨ kind ≤ 2) →
      exec (.fwVerify c kind slot) s = replies c (verifyData t kind slot) s) ∧
    (Served s c 0x0B02 e → ∀ slots : List Nat, slots.length = 6 → (∀ x ∈ slots, x ≤ 1) → setVerifies t slots = true →
      misfit s.ident (setImages t slots) = none →
      exec (.fwActivate c slots) s =
        if setTested t (setImages t slots) then applied c (s.setTrust { t with active := slots })
        else concludes c { plain 5 true with detail := if t.policyNext then 0 else 1 } [] (s.setTrust { t with active := slots })) ∧
    (Served s c 0x0B03 e → ∀ permissive : Bool,
      exec (.fwPolicy c permissive) s = applied c (s.setTrust { t with policyNext := permissive })) ∧
    (Served s c 0x0B04 e → ∀ (sequence : Nat) (sets : List (List (BitVec 384))) (signature : List Byte),
      sets ≠ [] → sets.length ≤ 1024 → (∀ x ∈ sets, x.length = 6) →
      let digest := Config.hash384 (manifestBytes sequence sets)
      Config.sigOk 4 digest signature = true → t.manifestSeq < sequence →
      exec (.fwManifest c sequence sets signature) s = applied c (s.setTrust (reEvaluate { t with
        manifestSeq := sequence, manifestDigest := digest, manifest := sets }))) ∧
    (Served s c 0x0B05 e → t.provisional = false → t.fallback = false → t.runningImages ≠ [] → (∀ i ∈ t.runningImages, i.svn ≤ 63) →
      exec (.fwCommitSvn c) s = applied c (s.setTrust { t with minSvn := t.runningImages.zipIdx.foldl (fun m i =>
        AMap.put m (i.2 + 1) (max (AMap.at m (i.2 + 1) 0) i.1.svn)) t.minSvn })) ∧
    (Served s c 0x0B06 e → ∀ (signer : Nat) (signature : List Byte), signer ≤ 3 →
      Config.sigOk 6 (Config.hash384 (beBytes 1 signer)) signature = true → signerUsed t signer = false →
      exec (.fwRevoke c signer signature) s = applied c (s.setTrust { t with revoked := maskSet t.revoked signer })) ∧
    (Served s c 0x0B07 e → exec (.fwStatus c) s = replies c (fwStatusData t) s)

/-- SPDM requests (R353, R357–R363, R392, R393); the layouts of DSP0274 are the model's reading (log 42). -/
def Obligations.SpdmRequestsComplete : Prop :=
  ∀ (s : State) (c : CmdRef) (e : Entry), Served s c 0 e → e.session = 0 ∨ e.seq ≠ 0xFFFFFFFF →
    let say (sent b : List Byte) (u : State) : Out :=
      concludes c (plain 0 true) (b ++ (signed u (sent ++ b)).2) (signed u (sent ++ b)).1
    let reply := say []
    let chain := certChain s
    exec (.getVersion c) s = reply ([0x10, 0x04, 0, 0] ++ packLe [(1, 0), (1, 1), (2, 0x1200)]) s ∧
    exec (.getCapabilities c) s =
      reply (spdmHead 0x61 0 0 ++ [0, Config.ctExponent] ++ packLe [(2, 0), (4, capabilityFlags), (4, 65504), (4, 65504)]) s ∧
    exec (.negotiateAlgorithms c) s = reply (algorithms e.payload) s ∧
    exec (.getDigests c) s = reply (spdmHead 0x01 0 1 ++ beBytes 48 (Config.hash384 chain).toNat) s ∧
    (∀ offset len : Nat, offset ≤ chain.length →
      let part := (chain.drop offset).take len
      exec (.getCertificate c 0 offset len) s =
        reply (spdmHead 0x02 0 0 ++ packLe [(2, part.length), (2, chain.length - offset - part.length)] ++ part) s) ∧
    (∀ nonce : BitVec 256,
      let r := drbg s
      exec (.challenge c 0 nonce) s = say (beBytes 32 nonce.toNat)
        (spdmHead 0x03 0 1 ++ beBytes 48 (Config.hash384 chain).toNat ++ beBytes 32 r.2.toNat ++ leBytes 2 0) r.1 ∧
      (∀ (index : Nat) (m : Nat × List (List Byte)), measurementsFor s (ownerOf s e) index = some m →
        exec (.getMeasurements c index nonce) s = say (beBytes 32 nonce.toNat)
          (spdmHead 0x60 m.1 0 ++ packLe [(1, m.2.length), (3, m.2.flatten.length)] ++ m.2.flatten ++ beBytes 32 r.2.toNat ++ leBytes 2 0)
          r.1)) ∧
    (∀ x : KeyExchange, e.session = 0 → sessionsFull s (namedOwner s e.via x.key) = false →
      let r := drbg s
      let h := keyShare r.1
      let n : Session :=
        { owner := namedOwner s e.via x.key, established := false, reqKey := 0, rspKey := 0, reqIv := 0, rspIv := 0, high := 0,
          window := 0, notif := 0, kept := [], log := [], via := e.via, lastMessage := now s, transcript := s.free }
      let u := h.1.setSession (x.reqId % 65536 * 65536 + freeHalf s) n
      let legend := { u.legend with sessionNum := u.legend.sessionNum + 1 }
      exec (.keyExchange c x) s = say e.payload (spdmHead 0x64 60 0 ++
        packLe [(2, freeHalf s), (1, b2n (namedOwner s e.via x.key).isSome), (1, 0xFF)] ++ beBytes 32 r.2.toNat ++
        beBytes 96 h.2.toNat ++ leBytes 2 0) { u with legend := legend }) ∧
    (∀ (session : Nat) (x : Session) (signature : List Byte), e.session = 0 → s.session session = some x → x.established = false →
      (x.owner = none ∨ ∃ o key, x.owner = some o ∧ (s.slot o).key = some key ∧ keySigned key x signature = true) →
      let f := freshKeys s x
      exec (.finish c session signature) s = reply (spdmHead 0x65 0 0 ++ verifyBytes x)
        (f.1.setSession session { f.2 with established := true, via := e.via, lastMessage := now s })) ∧
    (e.session ≠ 0 →
      let ended (b : List Byte) : State := endCommand (signed s b).1 c.acc (plain 0 true) (b ++ (signed s b).2)
      exec (.heartbeat c) s = reply (spdmHead 0x68 0 0) s ∧
      (s.legend.flight.any (fun f => f.1 != c.acc && f.2.session == e.session) = false →
        exec (.keyUpdate c 2) s = goesOn c (updateKeys (ended (spdmHead 0x69 2 0)) e.session)) ∧
      exec (.endSession c) s = goesOn c (Machine.endSession (ended (spdmHead 0x6C 0 0)) e.session)) ∧
    exec (.unsupportedSpdmRequest c) s = reply (spdmError errUnsupported) s

/-- Claims and sessions (R348, R351, R361, R392–R394). -/
def Obligations.ClaimAndSessionCommandsComplete : Prop :=
  ∀ (s : State) (c : CmdRef) (e : Entry),
    let owner := ownerOf s e
    let x := s.session e.session
    (∀ (y : Session) (claim : Claim), s.session e.session = some y → keySigned claim.key y claim.signature = true →
      (Served s c 0x0001 e → mayClaimDevice e.via = true → sealingOff s operatorId = false → operatorAdmits s claim.key = true →
        exec (.operatorClaim c claim) s = applied c (bindSession (claimOperator s claim.key) e.session operatorId)) ∧
      (∀ tenant : Nat, Served s c 0x0003 e → tenant ≤ 511 → mayClaimTenant e.via tenant = true → sealingOff s tenant = false →
        (s.slot tenant).state = .created →
        ((s.slot tenant).expect = 0 ∨ (s.slot tenant).expect = Config.hash384 (beBytes 96 claim.key.toNat)) →
        let u := newOmk (newVault s tenant claim.key) tenant
        exec (.tenantClaim c tenant claim) s = applied c (bindSession (u.setSlot tenant { s.slot tenant with
          state := .claimed, key := some claim.key, claimTime := stamp s }) e.session tenant))) ∧
    (Served s c 0x0002 e → ∀ keyHash : BitVec 384, exec (.operatorTransfer c keyHash) s =
      applied c (s.setTrust { s.trust with transfer := some keyHash })) ∧
    (Served s c 0x0004 e → exec (.sessionInfo c) s = replies c (packBytes [(2, owner.getD deviceId),
      (1, b2n (owner == some operatorId) * 64 + b2n (owner != some operatorId) * 8), (1, 32), (1, 4), (1, 16),
      (4, (x.map (·.high)).getD 0), (4, (x.map (·.notif)).getD 0), (1, b2n (decide ((x.map (·.notif)).getD 0 ≥ 0xFFFFFFFF)))]) s) ∧
    (Served s c 0x0005 e → ∀ (session sequence : Nat) (w : Status), keptStatus s (actor s e) session sequence = some w →
      exec (.resultQuery c session sequence) s = replies c (statusBytes w) s) ∧
    (Served s c 0x0006 e → exec (.echo c) s = replies c (e.payload.take 65496) s)

/-- Sessions and commands in time (R359, R386–R403). -/
def Obligations.SessionEventsComplete : Prop :=
  (∀ (s : State) (session : Nat) (x : Session), s.session session = some x → powered s = true →
    x.lastMessage + 120000000000 ≤ now s → exec (.sessionTimeout session) s = .next (endSession s session)) ∧
  (∀ (s : State) (acc : Nat) (e : Entry), AMap.find s.legend.flight acc = some e →
    (takesPackets s e.via = true →
      (e.ack = none → e.acceptedAt + 1000000 ≤ now s → exec (.acknowledgment acc) s = .next (settle (acknowledge s acc e))) ∧
      (e.stage = .waiting → chainOpen s e = true →
        e.acceptedAt + (if e.limit = 0 then 1000000000 else min 1000000000 (e.limit * 1000)) ≤ now s →
        exec (.chainTimeout acc) s = .next (settle (endCommand s acc (failWith 0x0106 6 (e.seq - 1)) []))) ∧
      (e.limit ≠ 0 → e.deadline ≤ now s → e.committed = false → chainOpen s e = false →
        exec (.deadlineExpired acc) s = .next (settle (endCommand (withdraw s acc) acc (plain 0x0105 false) [])))) ∧
    (knownOpcode e.opcode = false → exec (.unknownOpcode acc) s =
      .next (settle (runBody s ⟨acc, false⟩ e false (fun _ s => ends s (plain 0x0102 false)))))) ∧
  (∀ (s : State) (ctx : Nat) (x : Ctx), okCtx ctx = true → s.ctx? ctx = some x → x.desc.command = true → x.state = .ready →
    (s.dom x.key).flight.head? = some ctx → legendUp s = true →
    exec (.inbandFragment ctx) s =
      acts (takeFragment (endCtx (countTenant s operatorId 0x74) ctx x 0 0 0) x.desc.lport (frameBytes s x.desc))) ∧
  (∀ (s : State) (lport : Nat) (mac : BitVec 48) (tag : Nat) (p : Partial), okLport lport = true →
    s.legend.partials.find? (fun p => p.is lport mac tag) = some p → p.since + 2000000 ≤ now s →
    exec (.reassemblyTimeout lport mac tag) s = .next (settle (discardPartial (dropPartial s lport mac tag))))

/-- The host port (R416–R426). -/
def Obligations.HostPortEventsComplete : Prop :=
  (∀ (s : State) (fn : Nat), okFn fn = true → mgmtRuns s = true → fnReached s fn = true →
    let f := s.func fn
    (∀ index : Nat, index < 4096 →
      (∀ descs : List (BitVec 128), f.cmd.runs = true → index < f.cmd.size →
        let n := (index + f.cmd.size - f.cmd.tail) % f.cmd.size
        let new := (List.range n).map (fun i => descs[i]?)
        exec (.cmdTailDoorbell fn index descs false) s = .next (settle (pump (s.setFunc fn { f with
          cmd := { f.cmd with tail := index }, posted := f.posted ++ new }) fn))) ∧
      (∀ descs : List (BitVec 64), f.rbuf.runs = true → index < f.rbuf.size → (∀ d ∈ descs, bufOk d = true) →
        exec (.rbufTailDoorbell fn index (some descs)) s =
          .next (settle (s.setFunc fn { f with
            rbuf := { f.rbuf with tail := index }, bufs := f.postBufs (descs.take ((index + f.rbuf.size - f.rbuf.tail) % f.rbuf.size)) }))) ∧
      (∀ arm : Bool, f.cpl.runs = true → index < f.cpl.size →
        let cpl : HRing := { f.cpl with head := index }
        let u := payOwed f.owed.length (s.setFunc fn { f with cpl := cpl, arm := arm }) fn
        exec (.cplHeadDoorbell fn index arm) s =
          .next (settle (pump (if arm && cpl.count != 0 then completionMessage u fn else u) fn)))) ∧
    (∀ value : BitVec 32,
      (ringEn (f.cmd.control 0 value).ctl = true → exec (.ringControlWrite fn 0 value) s =
        .next (settle (s.setFunc fn { f with cmd := f.cmd.control 0 value }))) ∧
      (ringEn (f.cmd.control 0 value).ctl = false → exec (.ringControlWrite fn 0 value) s =
        .next (settle (s.setFunc fn { f with
          cmd := f.cmd.control 0 value, posted := [],
          reads := (f.reads.filter (fun r => r.error == 0)).map (fun r => { r with stopping := true }) }))) ∧
      exec (.ringControlWrite fn 1 value) s = .next (settle (s.setFunc fn { f with rbuf := f.rbuf.control 1 value })) ∧
      (let r := f.cpl.control 2 value
       exec (.ringControlWrite fn 2 value) s = .next (settle (s.setFunc fn { f with
         cpl := r, owed := if ringEn r.ctl then f.owed else [], phase := f.phase || !ringEn r.ctl || !ringEn f.cpl.ctl, arm := f.arm && ringEn r.ctl })))) ∧
    (∀ index : Nat, index < 8 →
      let host := { s.host with statRead := AMap.at f.stats index 0 }
      exec (.funcStatsRead fn index) s =
        .next (settle ({ s with host := host }.setFunc fn { f with stats := AMap.put f.stats index 0 }))) ∧
    (∀ (entry : Nat) (enable : Bool), entry < vectorsOf s fn → exec (.msixUnmask fn entry enable) s =
      .next (settle (deliverPending (s.setFunc fn { f with
        msixEnable := enable, msixTable := AMap.put f.msixTable entry (setFld (msixEntry f entry) 96 1 0) }) fn))) ∧
    (∀ (offset width : Nat) (value : BitVec 64), exec (.registerWrite fn offset width value) s =
      .next (settle (if offset < 0x10000 then writeRegister s fn offset width value else writeConfig s fn offset value))) ∧
    (∀ (r : PktRead) (rest : List PktRead) (packet : List Byte), f.reads = r :: rest → dmaRuns s fn = true →
      (f.cmd.runs = true ∨ r.stopping = true) → r.error = 0 → r.partly = false → packet.length = r.len →
      let u := hostDma (s.setFunc fn (f.passed r rest)) packet.length
      exec (.packetReadComplete fn true packet) s =
        .next (settle (pump (offer (requestSeen u (.pcie fn)) (.pcie fn) packet false) fn))) ∧
    (∀ (p : OutPkt) (rest : List OutPkt) (n : Nat), f.out = p :: rest → buffersFor f p.bytes.length = some n → dmaRuns s fn = true →
      f.rbuf.runs = true → f.cplRoom = true → f.owed = [] → n ≤ f.rbuf.size - f.rbuf.head → n ≤ f.rbuf.count →
      let d := hostDma s p.bytes.length
      let u := d.setFunc fn
        (({ f with out := rest, rbuf := { f.rbuf with head := f.rbuf.next f.rbuf.head n } } : HFunc).bump 1)
      let host := { u.host with wakeN := wakeWanted u.host }
      exec (.outgoingPacket fn false) s =
        .next (settle (writeCpl { u with host := host } fn 0 f.rbuf.head n p.bytes.length 0 p.bytes)))) ∧
  (∀ (s : State) (fn : Nat), okFn fn = true →
    let f := s.func fn
    let late := f.out.filter (fun p => decide (p.since + 100000000 ≤ now s))
    late ≠ [] →
    let u := s.setFunc fn (late.foldl (fun f _ => f.bump 3) { f with out := f.out.filter (fun p => !decide (p.since + 100000000 ≤ now s)) })
    let host := { u.host with wakeN := wakeWanted u.host }
    exec (.rbufStarved fn) s = .next { u with host := host }) ∧
  (∀ (s : State) (link : Nat), okLink link = true →
    (linkUsed s link = true → mgmtRuns s = true →
      (∀ cause : Nat, cause < 4 →
        let u := resetLink (if cause = 0 then s.setLink link { s.link link with perst := true } else s) link
        exec (.linkReset link cause) s = .next (if (u.link link).perst then u else trainLink u link)) ∧
      ((s.link link).perst = true → exec (.perstNRelease link) s =
        .next (trainLink (s.setLink link { s.link link with perst := false }) link)) ∧
      (let u := resetFuncs (s.setFunc (1024 * link) (s.func (1024 * link))) (fun fn => fn / 1024 == link)
       exec (.pfFlr link) s = .next (u.setLink link { u.link link with vfEnable := false })) ∧
      (∀ vf : Nat, 1 ≤ vf → vf ≤ 512 → exec (.vfFlr link vf) s = .next (resetVf s (1024 * link + vf))))) ∧
  (∀ (s : State) (fn : Nat), okFn fn = true → linkUsed s (fn / 1024) = true → mgmtRuns s = true →
    let f := s.func fn
    let f' : HFunc := { f with reads := f.reads.map (fun r => { r with partly := r.error == 0 }) }
    exec (.busMasterDisable fn false) s = .next (s.setFunc fn { f' with busMaster := false }) ∧
    exec (.busMasterDisable fn true) s = .next (s.setFunc fn ({ f' with d3hot := true } : HFunc).notePme) ∧
    exec (.dmaResume fn) s = .next (settle (pump (payOwed f.owed.length (s.setFunc fn { f with
      busMaster := true, d3hot := false, reads := f.reads.map (fun r => { r with partly := false }) }) fn) fn)))

/-- The USB port (R427–R433). -/
def Obligations.UsbRequestsComplete : Prop :=
  (∀ (s : State) (wValue wIndex : BitVec 16), s.host.usbConnected = true → fld wIndex 0 8 < 2 →
    let u := nextTransfer s
    let i := fld wIndex 0 8
    (fld wIndex 8 8 = 0 →
      (∀ data : List Byte, fld wValue 5 10 = 0 → fld wValue 0 5 ≤ 16 → 1 ≤ data.length → data.length ≤ 4096 →
        exec (.cmdWrite wValue wIndex data) s = .next (settle (usbChunk u i (fld wValue 0 5) (fld wValue 15 1 == 1) data))) ∧
      (wValue = 0 →
        (∀ (len : Nat) (p : OutPkt) (rest : List OutPkt), 1 ≤ len → len ≤ 4096 → (u.usbIf i).out = p :: rest →
          let f := u.usbIf i
          let bs := (p.bytes.drop f.outPos).take len
          exec (.replyRead wValue wIndex len) s = .next (settle (usbAnswer (u.setUsb i
            (if f.outPos + bs.length ≥ p.bytes.length then UIface.fill f.waiting.length { f with out := rest, outPos := 0 }
             else { f with outPos := f.outPos + bs.length })) bs))) ∧
        (∀ len : Nat, 1 ≤ len → len ≤ 4096 → (u.usbIf i).out = [] →
          exec (.replyRead wValue wIndex len) s = .next (settle (usbAnswer u []))) ∧
        exec (.usbStatus wValue wIndex 16) s = .next (settle (usbAnswer u (usbStatusBytes (u.usbIf i)))) ∧
        exec (.abort wValue wIndex 0) s = .next (settle (usbAnswer (u.setUsb i (u.usbIf i).dropAsm) []))) ∧
      (∀ p, orphanNamed (u.usbIf i) wValue = some p → exec (.orphanClear wValue wIndex 0) s =
        .next (settle (usbAnswer (u.setUsb i { u.usbIf i with orphan := none }) [])))) ∧
    (∀ p (len : Nat), fld wIndex 8 8 ≤ 16 → 1 ≤ len → len ≤ 4096 → orphanNamed (u.usbIf i) wValue = some p →
      exec (.orphanRead wValue wIndex len) s = .next (settle (usbAnswer u ((p.bytes.drop (4096 * fld wIndex 8 8)).take len))))) ∧
  (∀ s : State,
    (s.host.usbConnected = true → exec .usbBusReset s = .next (settle (resetUsb (resetUsb s 0) 1))) ∧
    (∀ millivolts : Nat,
      let on := if millivolts > 4000 then true else if millivolts < 3500 then false else s.host.usbVbus
      let host := { s.host with usbVbus := on }
      exec (.usbVbusChange millivolts) s = .next (settle (syncUsb { s with host := host }))))

/-- The Survey Bus (R436–R461). -/
def Obligations.SurveyFramesComplete : Prop :=
  (∀ (s : State) (frame : SvyFrame) (dst src : BitVec 8), svyRuns s = true → frame.rate ≤ 3 → frame.len ≤ 132 →
    (s.survey.locked = false ∨ s.survey.rate = frame.rate) → svyForMe (svyHear s frame.rate) dst src = true →
    let u := svyHear s frame.rate
    ∀ conflict : Bool,
      (∀ clear : BitVec 8, exec (.surveyPing frame dst src clear conflict) s =
        .next (settle (svyAlert (pingEffect frame.len dst src clear conflict u)))) ∧
      (∀ (tag flags : BitVec 8) (index : BitVec 16) (data : List Byte), exec (.surveyWrite frame dst src tag flags index data conflict) s =
        .next (settle (svyAlert (writeEffect frame.len dst src tag flags index data conflict u)))) ∧
      (∀ (release : BitVec 32) (index : BitVec 16), exec (.surveyRead frame dst src release index conflict) s =
        .next (settle (svyAlert (readEffect frame.len dst src release index conflict u)))) ∧
      (∀ (filter n : BitVec 8) (pfx : BitVec 64) (choices : List (Option Bool)),
        exec (.surveySearch frame dst src filter n pfx choices conflict) s =
          .next (settle (searchEffect frame.len dst filter n pfx choices conflict u))) ∧
      (∀ (serial : BitVec 64) (address : BitVec 8), exec (.surveyAssign frame dst src serial address conflict) s =
        .next (settle (svyAlert (assignEffect frame.len dst serial address conflict u)))) ∧
      (∀ code : BitVec 8, exec (.surveyRate frame dst src code) s = .next (settle (rateEffect frame dst code u))) ∧
      (∀ type : BitVec 8, type.toNat = 0 ∨ 6 < type.toNat → exec (.surveyUnknownType frame dst src type conflict) s =
        .next (settle (unknownTypeEffect dst conflict u)))) ∧
  (∀ s : State,
    (∀ r, s.survey.pendingRate = some r →
      exec .rateChange s = .next (s.setSurvey { s.survey with rate := r, pendingRate := none })) ∧
    (svyRuns s = true →
      exec (.surveyFrameError 0) s = .next (s.setSurvey (s.survey.bump 0)) ∧
      (∀ kind : Nat, kind = 1 ∨ kind = 2 → exec (.surveyFrameError kind) s = .next (settle (svyFailed s kind)))) ∧
    (∀ tied : Bool, exec (.svyTermChange tied) s = .next (s.setSurvey { s.survey with term := tied }))) ∧
  (∀ (s : State) (ctrl : Nat), okCtrl ctrl = true →
    ((s.svyAsm ctrl).live = true → (s.svyAsm ctrl).lastWrite + 1000000000 ≤ now s →
      let u := s.setSvyAsm ctrl .reset
      exec (.surveyAssemblyTimeout ctrl) s = .next (u.setSurvey (u.survey.bump 7))) ∧
    (let q := s.svyQueue ctrl
     let kept := q.waiting.filter (fun p => decide (now s < p.since + 100000000))
     exec (.replyQueueExpiry ctrl) s = .next (s.setSvyQueue ctrl (SvyQueue.fill (now s) kept.length { q with
       pkts := q.pkts.filter (fun p => decide (now s < p.2.since + 10000000000)), waiting := kept,
       starved := q.starved + (q.waiting.length - kept.length) }))))

/-- The device's own commands (R341, R342, R366, R367, R409, R487). -/
def Obligations.DeviceCommandsComplete : Prop :=
  ∀ (s : State) (c : CmdRef) (e : Entry),
    let me := actor s e
    let stamped := protocolStamp s.trust
    let op := ownerOf s e == some operatorId
    (Served s c 0x0100 e → exec (.deviceInfo c) s = replies c (orderingCode s ++ beBytes 8 s.ident.serial.toNat ++ steppingCode s ++
      packBytes [(4, s.power.epoch), (6, s.ident.baseAddress.toNat), (2, stamped.1), (1, stamped.2.1), (1, stamped.2.2),
        (1, b2n s.power.skipped + 2 * b2n s.power.saturated + 4 * b2n s.dram.noRank + 8 * b2n s.contain.hold)]) s) ∧
    (Served s c 0x0101 e → be16At e.payload 2 = 0 → ∀ (index : Nat) (v : BitVec 128),
      (index = 0 → firstBad (meridianBad v) = none → s.meridian.ctxs.any (fun c => c.2.express) = false →
        let u := s.setMeridian { s.meridian with cfg := v }
        exec (.recordWrite c 1 0 v) s = applied c (keepWatch
          (if fld v 0 1 ≠ (if expressEn s then 1 else 0) ∨ fld v 4 4 ≠ watchPan s then resumeExpress u else u))) ∧
      (index < 16 → firstBad (reservedBad v [(23, 1), (58, 6), (77, 3), (96, 32)] 8) = none → 250 ≤ fld v 0 20 → fld v 0 20 ≤ 1000000 →
        fld v 20 3 ≤ 6 → 10 ≤ fld v 40 16 → fld v 40 16 ≤ 10000 → fld v 56 2 ≤ 2 → fld v 80 4 ≤ fld v 84 4 →
        exec (.recordWrite c 2 index v) s = applied c (s.setPan index { s.pan index with sched := v })) ∧
      (index < 480 → v.toNat < 16 → ¬(expressEn s = true ∧ index / 30 = watchPan s ∧ fld v 0 4 ≠ 1) →
        exec (.recordWrite c 3 index v) s = applied c (s.setPan (index / 30) { s.pan (index / 30) with
          peIssue := AMap.put (s.pan (index / 30)).peIssue (index % 30) (v.truncate 64) })) ∧
      (index < 32 → v.toNat < 2 → (v = 0 ∨ (index % 2 = 1 ∧ ¬(index = 1 ∧ bitsOf s.legend.ccAssign 1 1 = 1))) →
        exec (.recordWrite c 4 index v) s = applied c (applyCcMode (s.setPan (index / 2) { s.pan (index / 2) with
          ccPending := AMap.put (s.pan (index / 2)).ccPending (30 + index % 2) (v.truncate 64) }) (index / 2) (30 + index % 2))) ∧
      (index = 0 → v.toNat = 1 ∨ v.toNat = 3 →
        exec (.recordWrite c 5 0 v) s = applied c (s.setLegend { s.legend with ccAssignNext := v.toNat })) ∧
      (index = 0 → firstBad (reservedBad v [(3, 1), (15, 1), (23, 9), (40, 8), (95, 1), (113, 15)] 8) = none →
        100 ≤ fld v 4 11 → fld v 4 11 ≤ 1150 → (fld v 32 8 = 0 ∨ (10 ≤ fld v 32 8 ∧ fld v 32 8 ≤ 36)) →
        firstBad (intakeLiveBad s.power v) = none →
        let high := decide (s.power.pin > fld v 4 11)
        let kept := BitVec.ofNat 128 (fld v 0 15 +
          ((fld s.power.intake 16 7 &&& (127 - fld v 16 7)) ||| (if s.power.warning = true then 1 else 0)) * 2 ^ 16 + fld v 32 8 * 2 ^ 32)
        let u := s.setPower { s.power with intake := kept, powerHigh := high, syncOut := syncOutLevel (fld v 32 8) (now s) }
        exec (.recordWrite c 6 0 v) s = applied c (syncAlert (if high && !s.power.powerHigh then noteSeen u 19 0x003 else u)))) ∧
    (Served s c 0x0102 e → be16At e.payload 2 = 0 → ∀ id index : Nat, firstBad (selectorBad id index) = none →
      exec (.recordRead c id index) s = replies c (recordBytes s id index)
        (if id = 6 then s.setPower { s.power with vinMin := s.power.vin } else s)) ∧
    (Served s c 0x0107 e → ∀ (input : Nat) (arm high : Bool), input ≤ 1 → ¬(arm = true ∧ high = true) →
      let u := s.setTrust { s.trust with tamperArmed := AMap.put s.trust.tamperArmed input arm }
      exec (.tamperArm c input arm high) s = applied c
        (if AMap.at s.trust.tamperArmed input false = arm then u else raiseDev u 0x404 1 (dataBytes 2 (256 * input + b2n arm)))) ∧
    (Served s c 0x0108 e →
      let opened := s.legend.reports.filter (fun r => !r.readBy.contains me && (op || decide (r.later < 16)))
      exec (.reportRead c) s = replies c
        ((beBytes 2 opened.length ++ (opened.map (fun r => if op then operatorPart r else tenantPart r me)).flatten).take 65496)
        (if op then s else markReports s me)) ∧
    (Served s c 0x0109 e → exec (.reportAck c) s = applied c (markReports s operatorId)) ∧
    (Served s c 0x010A e → exec (.timeRead c) s =
      replies c (stampBytes (stamp s) ++ stampBytes s.power.syncLatch ++ beBytes 8 s.power.syncCount) s)

/-- Zeroize and containment (R366–R368, R507–R511). -/
def Obligations.ZeroizeAndContainmentComplete : Prop :=
  (∀ s : State, s.power.phase ≠ .off →
    exec .zeroizeNTrip s = .next (zeroize s 1) ∧ exec .internalSensorTrip s = .next (zeroize s 4) ∧
    (∀ input : Nat, input < 2 → AMap.at s.trust.tamperArmed input false = true →
      exec (.tamperTrip input) s = .next (zeroize s (2 + input)))) ∧
  (∀ (s : State) (c : CmdRef) (e : Entry), Served s c 0x0106 e →
    exec (.deviceZeroize c) s = goesOn c (zeroize (commitEntry s c.acc) 5)) ∧
  (∀ s : State, s.trust.zeroizing ≠ none →
    (restarts s = true → exec .zeroizeRestart s = .next (settle (deviceRestart s 3 zeroizedStatus true))) ∧
    (s.power.phase = .starting → exec .zeroizeRestart s = .next (settle (goOn (tripDone s))))) ∧
  (∀ s : State, s.trust.zeroizing = none →
    (trafficUp s = true →
      (∀ (pan n : Nat) (ok : Bool), okPan pan = true → 1 ≤ n → n ≤ 5 → pan ∉ s.contain.outOfService →
        (n = 1 → (s.pan pan).supervisorFaulted = true) →
        (panServes s pan = true → exec (.panContainment pan (some n) ok) s = .next (levelTwo s pan n)) ∧
        (∀ a : Action, s.contain.core = none → AMap.find s.contain.pans pan = some a →
          exec (.panContainment pan (some n) ok) s =
            .next (s.setContain { s.contain with pans := AMap.put s.contain.pans pan { a with joined := a.joined + 1 } })) ∧
        (∀ a : Action, s.contain.core = some a →
          exec (.panContainment pan (some n) ok) s =
            .next (s.setContain { s.contain with core := some { a with joined := a.joined + 1 } }))) ∧
      (∀ (n : Nat) (ok : Bool), 1 ≤ n → n ≤ 5 → (n = 1 → s.cote.refError = true) →
        (s.contain.core = none → exec (.trafficCoreContainment (some n) ok) s = .next (levelThree s n 255)) ∧
        (∀ a : Action, s.contain.core = some a → exec (.trafficCoreContainment (some n) ok) s =
          .next (s.setContain { s.contain with core := some { a with joined := a.joined + 1 } }))) ∧
      (∀ (pan : Nat) (a : Action) (ok : Bool), okPan pan = true → AMap.find s.contain.pans pan = some a →
        exec (.panContainment pan none ok) s = .next (endPan s pan a ok)) ∧
      (∀ (a : Action) (ok : Bool), s.contain.core = some a →
        exec (.trafficCoreContainment none ok) s = .next (endCore s a ok))) ∧
    (legendUp s = true →
      exec .legendWatchdog s = .next (levelFour s 2 255 s.meridian.ctxs.length) ∧
      exec (.legendFault false) s = .next (levelFour s 1 255 s.meridian.ctxs.length)) ∧
    (mgmtRuns s = true → exec (.legendFault true) s = .next (levelFour s 3 255 s.meridian.ctxs.length))) ∧
  (∀ (s : State) (pan t : Nat), okPan pan = true → AMap.find s.contain.guardedUntil pan = some t → t ≤ now s →
    exec (.guardedPeriodEnd pan) s = .next (s.setContain { s.contain with guardedUntil := AMap.del s.contain.guardedUntil pan }))

/-- R129: the regions of a thread decide its Pan SRAM accesses at levels 1 and 2, each region for itself. -/
def Obligations.PanSramBoundsDecideAccess : Prop :=
  ∀ (s : State) (x : Thread) (t a size : Nat) (write : Bool), x.level = 1 ∨ x.level = 2 → 1 ≤ size → 0x1000000 ≤ a →
    a + size ≤ 0x13B0000 →
    let off := a - 0x1000000
    let permitted := ∃ i : Nat, i < 4 ∧ fld (x.csr (0x30 + i)) 0 23 ≤ off ∧ off + size ≤ fld (x.csr (0x30 + i)) 23 23 ∧
      fld (x.csr (0x30 + i)) ((if x.level = 2 then 46 else 48) + (if write then 1 else 0)) 1 = 1
    (permitted → place s x t a size write = .ref (.sram (tidPan t) off)) ∧
    (¬permitted → place s x t a size write = .bad 5)

/-- R229: a refused save area restores nothing and opens no key. -/
def Obligations.RestoreRefusesForeignSaveArea : Prop :=
  (∀ (s : State) (t unit addr : Nat), unit < 3 →
    let x := s.thread t
    let head := readMem s (.localStore t addr) 8
    let handle := readMem s (.localStore t (addr + 104)) 8
    (head % 4 ≠ unit ∨ head / 2 ^ 8 % 2 ^ 8 ≠ 1 ∨ head / 2 ^ 16 % 2 ^ 12 ≠ x.tenant ∨
      (unit = 0 ∧ Nat.testBit handle 16 = true ∧ keyEntry s x.tenant (handle % 2 ^ 16) = none)) →
    restoreNow s t unit addr =
      s.setThread t (x.setCp unit (CpCtx.reset.set (if unit = 0 then 10 else if unit = 1 then 0 else 4) 5))) ∧
  (∀ (s : State) (t : Nat) (unit : BitVec 2) (b : BitVec 5), Ready s t true [b] →
    let x := s.thread t
    let addr := (x.reg b).toNat
    unit.toNat < 3 → ¬(unit.toNat = 2 ∧ onCc t = true) → cpEnabled x unit.toNat = true → addr % 64 = 0 →
    addr + saveBytes unit.toNat ≤ localSize t →
    (ccBuffer s t).any (fun e => e.tid == t) = false → (x.cp unit.toNat).cmds = [] →
    exec (.crest t unit b) s = acts (wake (restoreNow (issued s t [b]) t unit.toNat addr) t 0 0))

/-- The register file (R121, R153, R154). -/
def Obligations.RegisterFileKeepsProgramOrder : Prop :=
  let file := fun (x : Thread) (r : BitVec 5) => if r = 0 then (0 : Word) else AMap.at x.regs r.toNat 0
  (∀ x : Thread, x.reg 0 = 0 ∧ (x.issuedRegs = none → ∀ r, x.reg r = file x r)) ∧
  (∀ (s : State) (t : Nat) (r q : BitVec 5) (v : Word) (flags : Nat),
    (file ((writeReg s t r v 1 flags).thread t) q = if q = r ∧ r ≠ 0 then v else file (s.thread t) q) ∧
    (∀ distance : Nat, 2 ≤ distance → file ((writeReg s t r v distance flags).thread t) q = file (s.thread t) q)) ∧
  (∀ (s : State) (t num : Nat) (r q : BitVec 5) (f : Flight),
    (s.thread t).flights.find? (fun f => f.num == num) = some f → f.reg = r.toNat →
    (∀ g ∈ (s.thread t).flights.takeWhile (fun g => g.num != num), g.reg = f.reg → f.dist < g.dist) →
    let younger := ∃ n, AMap.find (s.thread t).landed r.toNat = some n ∧ f.num < n
    (younger → file ((landResult s t num).thread t) q = file (s.thread t) q) ∧
    (¬younger → file ((landResult s t num).thread t) q = if q = r ∧ r ≠ 0 then f.value else file (s.thread t) q))

/-- Read after write (R122, R126), and the canonical form of memories. -/
def Obligations.MemoryReadsWhatWasWritten : Prop :=
  (∀ (s : State) (m : MemRef) (b : Byte), (∀ c o, m = .window c o → (s.ctx? c).isSome = true) →
    (∀ m', readByte (writeByte s m b) m' = if m' = m then b else readByte s m') ∧
    (∀ n v : Nat, readMem (writeMem s m n v) m n = v % 2 ^ (8 * n))) ∧
  (∀ (m : Memory) (a : Nat) (b : Byte), m.wf = true → (m.set a b).wf = true) ∧
  (∀ m m' : Memory, m.wf = true → m'.wf = true → (∀ a, m.get a = m'.get a) → m = m')

/-- The frame of the register instructions (R139): destination `a`, nothing else. -/
def Obligations.RegisterInstructionsChangeOneRegister : Prop :=
  ∀ (s : State) (t : Nat) (a b c : BitVec 5) (imm : BitVec 16) (k k' : BitVec 6),
    (Ready s t true [b, c] → ∀ i ∈ [(.add t a b c : Instr), .sub t a b c, .and t a b c, .or t a b c, .xor t a b c, .andn t a b c,
      .slt t a b c, .sltu t a b c, .seq t a b c, .min t a b c, .max t a b c, .minu t a b c, .maxu t a b c, .shl t a b c,
      .shr t a b c, .sar t a b c, .rol t a b c, .ror t a b c], ∃ v, exec i s = .next (finish v) ∧ OnlyRegister s v t a) ∧
    (Ready s t true [b] → ∀ i ∈ [(.clz t a b : Instr), .ctz t a b, .popc t a b, .bswp16 t a b, .bswp32 t a b, .bswp64 t a b,
      .shli t a b k, .shri t a b k, .sari t a b k, .roli t a b k, .setq0 t a b imm, .setq1 t a b imm, .setq2 t a b imm,
      .setq3 t a b imm, .exti t a b k k', .extsi t a b k k', .addi t a b imm, .andi t a b imm, .ori t a b imm, .xori t a b imm,
      .slti t a b imm, .sltui t a b imm], ∃ v, exec i s = .next (finish v) ∧ OnlyRegister s v t a) ∧
    (Ready s t true [a, b] → ∃ v, exec (.insi t a b k k') s = .next (finish v) ∧ OnlyRegister s v t a)

/-- The frame of stores (R122, R139): the bytes at the address that `place` gives, nothing else. -/
def Obligations.StoresChangeOnlyTheirBytes : Prop :=
  ∀ (s : State) (t : Nat) (a b : BitVec 5) (disp : BitVec 16), Ready s t true [a, b] →
    let x := s.thread t
    let r := issued s t [a, b]
    let addr := (x.reg b + disp.signExtend 64).toNat
    ∀ q ∈ [((.st8 t a b disp : Instr), 1), (.st16 t a b disp, 2), (.st32 t a b disp, 4), (.st64 t a b disp, 8)],
      addr % q.2 = 0 → ∀ m : MemRef, place r x t addr q.2 true = .ref m → touchesLock r m q.2 = false → onCc t = false →
        let near := (∃ u o, m = .localStore u o) ∨ (∃ c o, m = .window c o ∧ (s.ctx? c).isSome = true)
        let sram := ∃ p o, m = .sram p o
        let dram := ∃ o, m = .dram x.tenant o
        (near → ∃ v, exec q.1 s = .next (finish v) ∧ BlocksKept s v ∧ (∀ u w, (v.thread u).reg w = (s.thread u).reg w) ∧
          (∀ k, k < q.2 → readByte v (m.plus k) = BitVec.ofNat 8 ((x.reg a).toNat / 2 ^ (8 * k))) ∧
          (∀ m', (∀ k, k < q.2 → m' ≠ m.plus k) → readByte v m' = readByte s m')) ∧
        (sram ∨ dram → x.spec s = false → ∃ v, exec q.1 s = .next (finish v) ∧
          (sram → BlocksKept s v) ∧ BlocksKept { s with dram := v.dram } v ∧ v.dram = { s.dram with stackMap := v.dram.stackMap } ∧
          (∀ u w, (v.thread u).reg w = (s.thread u).reg w) ∧ (∀ m', readByte v m' = readByte s m'))

/-- What ending a read changes (R385, R386, R391, R394, R410). -/
def Obligations.EndingACommandChangesOnlyItsReply : Prop :=
  ∀ (s : State) (c : CmdRef) (e : Entry) (n m : Nat) (b : List Byte),
    ∀ q ∈ [((.deviceInfo c : Instr), 0x0100), (.powerStatus c, 0x0104), (.timeRead c, 0x010A), (.sessionInfo c, 0x0004),
      (.resultQuery c n m, 0x0005), (.echo c, 0x0006), (.tenantRead c n, 0x0904), (.unseal c b, 0x0908), (.fwVerify c n m, 0x0B01),
      (.fwStatus c, 0x0B07), (.stkRead c, 0x0801), (.coldRead c n b, 0x0807)],
      Served s c q.2 e → ∃ u, exec q.1 s = .next u ∧ AMap.find u.legend.flight c.acc = none ∧ u.ident = s.ident ∧
        u.power = s.power ∧ u.trust = s.trust ∧ u.contain = s.contain ∧ u.sluice = s.sluice ∧ u.threads = s.threads ∧
        u.gaz = s.gaz ∧ u.digests = s.digests ∧ u.pending = s.pending

/-- The sequence window (R393): nothing is accepted twice. -/
def Obligations.SequenceIsAcceptedOnce : Prop :=
  ∀ (x : Session) (q : Nat),
    (q ≠ 0 → (seqFresh x q = true ↔ x.high < q ∨ (x.high < q + 64 ∧ q ≤ x.high ∧ Nat.testBit x.window (x.high - q) = false))) ∧
    (seqStale x q = true → seqFresh x q = false) ∧
    (seqFresh x q = true → ∀ (via : Via) (at_ : Ns),
      let y := acceptSeq x q via at_
      y.high = max x.high q ∧
      ∀ r : Nat, seqFresh y r = true ↔ seqFresh x r = true ∧ r ≠ q ∧ y.high < r + 64)

/-- Refusals (R391, R395, R408, R482): one command of each area, whatever its operands. -/
def Obligations.RefusedCommandsHaveNoEffect : Prop :=
  ∀ (s : State) (c : CmdRef) (e : Entry) (w : Status) (n m k : Nat) (v : BitVec 64) (record : BitVec 128) (quota : BitVec 1024)
    (b : List Byte), AMap.find s.legend.flight c.acc = some e → e.stage = .waiting → s.trust.zeroizing = none →
    s.power.phase ≠ .flushing → chainWaits s e = false →
    startsBefore s c.acc e = false → Nat.testBit e.flags 2 = false →
    (headCheck s e true = some w ∨ (headCheck s e true = none ∧ stateCheck s c.acc e = some w)) →
    ∀ q ∈ [((.operatorTransfer c 0 : Instr), 0x0002), (.recordWrite c n m record, 0x0101), (.deviceZeroize c, 0x0106),
      (.stkWrite c v, 0x0800), (.quotaWrite c quota, 0x0903), (.keyDelete c n, 0x0906), (.eventRead c n, 0x0A01),
      (.fwWrite c n m k b, 0x0B00), (.fwCommitSvn c, 0x0B05), (.reportAck c, 0x0109)],
      e.opcode = q.2 → exec q.1 s = concludes c w [] s

/-- The epoch and the run clock (R15, R485, R486). -/
def Obligations.EpochAdvancesAtPowerUpOnly : Prop :=
  (∀ (s u : State) (vin : Nat) (copyA copyB : Bool) (lands : Lands), FuseInv s → s.power.phase = .off → s.power.offHeld = false →
    35000 ≤ vin → exec (.powerUp vin copyA copyB lands) s = .next u →
    u.power.clock = 0 ∧
    ((copyA || copyB) = true → u.power.skipped = false ∧
      (s.power.epoch < 0xFFFFFFFF → u.power.epoch = s.power.epoch + 1 ∧ u.power.saturated = false) ∧
      (s.power.epoch = 0xFFFFFFFF → u.power.epoch = 0xFFFFFFFF ∧ u.power.saturated = true)) ∧
    ((copyA || copyB) = false →
      (s.power.epochF < 63 → u.power.epoch = (s.power.epochF + 1) * 2 ^ 26 ∧ u.power.skipped = true) ∧
      (s.power.epochF = 63 → u.power.epoch = 0xFFFFFFFF ∧ u.power.saturated = true))) ∧
  (∀ (i : Instr) (s u : State), exec i s = .next u → (∀ vin copyA copyB lands, i ≠ .powerUp vin copyA copyB lands) →
    u.power.epoch = s.power.epoch ∧ u.power.clock = s.power.clock)

/-- No command touches the queue; the identity is for life (R1, R2, R58). -/
def Obligations.ExecLeavesQueueAndIdentity : Prop :=
  ∀ (i : Instr) (s u : State), exec i s = .next u → u.pending = s.pending ∧ u.ident = s.ident

/-- The fuses over every step, from every state that has them legal (R15, R355, R380, R381, R486). -/
def Obligations.StepKeepsFuses : Prop :=
  ∀ s u : State, FuseInv s → step s = .next u → FuseInv u ∧ FusesGrow s u

/-- Reset (R58, R119, R207 …); the module OFF at shipment is log 1's choice. -/
def Obligations.ResetIsAsTheSpecSays : Prop :=
  let s := State.reset
  FuseInv s ∧ s.pending = [] ∧ s.power.phase = .off ∧ s.power.pstate = 1 ∧ fld s.power.intake 4 11 = 1150 ∧
    (∀ o, (s.slot o).state = .free) ∧ s.trust.keys = [] ∧ s.legend.sessions = [] ∧ s.legend.flight = [] ∧
    (∀ i, AMap.at s.trust.tamperArmed i false = false) ∧ s.trust.revoked = 0 ∧
    (∀ p, fld (s.pan p).sched 0 20 = 1000 ∧ fld (s.pan p).sched 24 16 = 1000 ∧ fld (s.pan p).sched 40 16 = 100 ∧
      (s.pan p).sram = [] ∧ (s.pan p).ready = []) ∧
    fld s.meridian.cfg 0 1 = 1 ∧ fld s.meridian.cfg 4 4 = 15 ∧ fld s.meridian.cfg 8 14 = 1000 ∧ fld s.meridian.cfg 24 16 = 5000 ∧
    fld s.meridian.cfg 40 16 = 10000 ∧ fld s.meridian.cfg 64 7 = 75 ∧ fld s.meridian.cfg 72 12 = 256 ∧
    (∀ l, fld (s.lport l).cfg 0 1 = 0 ∧ fld (s.lport l).cfg 24 16 = 0x2400) ∧
    fld s.stk.cfg 0 6 = 16 ∧ fld s.stk.cfg 8 12 = 1826 ∧ fld s.stk.cfg 20 7 = 25 ∧ s.contain.hold = false ∧
    (∀ t, (s.thread t).task = .none ∧ ∀ r, (s.thread t).reg r = 0)

/-- Totality: the model stops nothing that names existing units; the named fault is the model's. -/
def Obligations.WellFormedCommandsRun : Prop :=
  ∀ (i : Instr) (s : State), (i.wellFormed = true → ∃ u, exec i s = .next u) ∧ (i.wellFormed = false → exec i s = .fault .noSuchUnit)
end

