-- ==== Sys2Proof/Laws/AMap.lean ====
section
/-! SUPPORT. Finite maps: what a lookup gives after an entry is put or removed. -/

namespace Sys2Proof.Machine

variable {α : Type}

@[simp] theorem AMap.find_nil (i : Nat) : AMap.find ([] : AMap α) i = none := rfl

theorem AMap.find_cons (k i : Nat) (v : α) (m : AMap α) :
    AMap.find ((k, v) :: m) i = if k = i then some v else AMap.find m i := rfl

@[simp] theorem AMap.find_put_self (m : AMap α) (i : Nat) (x : α) : AMap.find (AMap.put m i x) i = some x := by
  induction m with
  | nil => simp [AMap.put, AMap.find_cons]
  | cons p m ih =>
    obtain ⟨k, v⟩ := p
    unfold AMap.put
    split
    · simp [AMap.find_cons]
    · split
      · simp [AMap.find_cons]
      · rename_i h; rw [AMap.find_cons, if_neg h, ih]

theorem AMap.find_put_ne (m : AMap α) {i j : Nat} (x : α) (h : j ≠ i) : AMap.find (AMap.put m i x) j = AMap.find m j := by
  induction m with
  | nil => simp [AMap.put, AMap.find_cons, Ne.symm h]
  | cons p m ih =>
    obtain ⟨k, v⟩ := p
    unfold AMap.put
    split
    · rw [AMap.find_cons, if_neg (Ne.symm h)]
    · split
      · rename_i hk; subst hk; rw [AMap.find_cons, AMap.find_cons, if_neg (Ne.symm h), if_neg (Ne.symm h)]
      · rw [AMap.find_cons, AMap.find_cons, ih]

theorem AMap.find_put (m : AMap α) (i j : Nat) (x : α) :
    AMap.find (AMap.put m i x) j = if j = i then some x else AMap.find m j := by
  split
  · rename_i h; subst h; exact AMap.find_put_self m j x
  · exact AMap.find_put_ne m x ‹_›

@[simp] theorem AMap.find_del_self (m : AMap α) (i : Nat) : AMap.find (AMap.del m i) i = none := by
  induction m with
  | nil => rfl
  | cons p m ih =>
    obtain ⟨k, v⟩ := p
    by_cases h : k = i
    · simpa [AMap.del, h] using ih
    · simp only [AMap.del, ne_eq, h, not_false_eq_true, bne_iff_ne, List.filter_cons_of_pos]
      rw [AMap.find_cons, if_neg h]
      exact ih

theorem AMap.find_del_ne (m : AMap α) {i j : Nat} (h : j ≠ i) : AMap.find (AMap.del m i) j = AMap.find m j := by
  induction m with
  | nil => rfl
  | cons p m ih =>
    obtain ⟨k, v⟩ := p
    by_cases hk : k = i
    · subst hk
      rw [AMap.find_cons, if_neg (Ne.symm h)]
      simpa [AMap.del] using ih
    · simp only [AMap.del, ne_eq, hk, not_false_eq_true, bne_iff_ne, List.filter_cons_of_pos]
      rw [AMap.find_cons, AMap.find_cons, ← ih]
      rfl

theorem AMap.at_put (m : AMap α) (i j : Nat) (x d : α) :
    AMap.at (AMap.put m i x) j d = if j = i then x else AMap.at m j d := by
  unfold AMap.at; rw [AMap.find_put]; split <;> rfl

@[simp] theorem AMap.at_put_self (m : AMap α) (i : Nat) (x d : α) : AMap.at (AMap.put m i x) i d = x := by
  rw [AMap.at_put, if_pos rfl]

theorem AMap.at_del (m : AMap α) (i j : Nat) (d : α) :
    AMap.at (AMap.del m i) j d = if j = i then d else AMap.at m j d := by
  unfold AMap.at
  split
  · rename_i h; subst h; rw [AMap.find_del_self]; rfl
  · rw [AMap.find_del_ne m ‹_›]

/-- The keys of a map rise. -/
def AMap.Rising (m : AMap α) : Prop := m.Pairwise (fun p q => p.1 < q.1)

theorem AMap.mem_put {m : AMap α} {i : Nat} {x : α} {p : Nat × α} (h : p ∈ AMap.put m i x) : p = (i, x) ∨ p ∈ m := by
  induction m with
  | nil => simpa [AMap.put] using h
  | cons q m ih =>
    obtain ⟨k, v⟩ := q
    unfold AMap.put at h
    split at h
    · simpa using h
    · split at h
      · rcases List.mem_cons.1 h with h | h
        · exact Or.inl h
        · exact Or.inr (List.mem_cons_of_mem _ h)
      · rcases List.mem_cons.1 h with h | h
        · exact Or.inr (by simp [h])
        · rcases ih h with h | h
          · exact Or.inl h
          · exact Or.inr (List.mem_cons_of_mem _ h)

theorem AMap.put_rising {m : AMap α} (h : m.Rising) (i : Nat) (x : α) : (AMap.put m i x).Rising := by
  induction m with
  | nil => exact List.pairwise_singleton _ _
  | cons q m ih =>
    obtain ⟨k, v⟩ := q
    obtain ⟨hk, hm⟩ := List.pairwise_cons.1 h
    unfold AMap.put
    split
    · rename_i hi
      refine List.pairwise_cons.2 ⟨fun p hp => ?_, h⟩
      rcases List.mem_cons.1 hp with hp | hp
      · rw [hp]; exact hi
      · exact Nat.lt_trans hi (hk p hp)
    · split
      · rename_i he; subst he; exact List.pairwise_cons.2 ⟨hk, hm⟩
      · rename_i h1 h2
        refine List.pairwise_cons.2 ⟨fun p hp => ?_, ih hm⟩
        rcases AMap.mem_put hp with hp | hp
        · rw [hp]; dsimp only; omega
        · exact hk p hp

theorem AMap.del_rising {m : AMap α} (h : m.Rising) (i : Nat) : (AMap.del m i).Rising := List.Pairwise.filter _ h

theorem AMap.find_none_of_lt {m : AMap α} (k : Nat) (h : ∀ p ∈ m, k < p.1) : AMap.find m k = none := by
  induction m with
  | nil => rfl
  | cons q m ih =>
    obtain ⟨k', v⟩ := q
    have := h (k', v) (by simp)
    rw [AMap.find_cons, if_neg (by dsimp only at this; omega)]
    exact ih (fun p hp => h p (List.mem_cons_of_mem _ hp))

/-- Maps with rising keys that give the same at every key are equal. -/
theorem AMap.ext_of_rising {m m' : AMap α} (h : m.Rising) (h' : m'.Rising) (e : ∀ i, AMap.find m i = AMap.find m' i) :
    m = m' := by
  induction m generalizing m' with
  | nil =>
    cases m' with
    | nil => rfl
    | cons q m' => obtain ⟨k, v⟩ := q; have := e k; simp [AMap.find_cons] at this
  | cons q m ih =>
    obtain ⟨k, v⟩ := q
    cases m' with
    | nil => have := e k; simp [AMap.find_cons] at this
    | cons q' m' =>
      obtain ⟨k', v'⟩ := q'
      obtain ⟨hk, hm⟩ := List.pairwise_cons.1 h
      obtain ⟨hk', hm'⟩ := List.pairwise_cons.1 h'
      have hkk : k = k' := by
        have a := e k
        have b := e k'
        rw [AMap.find_cons, AMap.find_cons, if_pos rfl] at a
        rw [AMap.find_cons, AMap.find_cons, if_pos rfl] at b
        rcases Nat.lt_trichotomy k k' with c | c | c
        · rw [if_neg (by omega), AMap.find_none_of_lt k (fun p hp => Nat.lt_trans c (hk' p hp))] at a
          cases a
        · exact c
        · rw [if_neg (by omega), AMap.find_none_of_lt k' (fun p hp => Nat.lt_trans c (hk p hp))] at b
          cases b
      subst hkk
      have hv := e k
      simp [AMap.find_cons] at hv
      subst hv
      congr 1
      refine ih hm hm' (fun i => ?_)
      have := e i
      rw [AMap.find_cons, AMap.find_cons] at this
      by_cases c : k = i
      · subst c; rw [AMap.find_none_of_lt k hk, AMap.find_none_of_lt k hk']
      · rwa [if_neg c, if_neg c] at this

end Sys2Proof.Machine
end

