-- ==== Sys2Proof/Laws/Bits.lean ====
section
/-! SUPPORT. What the bit and byte helpers compute. -/

namespace Sys2Proof.Machine

/-- A bit of a record is its one-bit field. -/
theorem bit_eq_fld {n : Nat} (v : BitVec n) (i : Nat) : bit v i = (fld v i 1 == 1) := by
  simp [bit, fld, bitsOf, BitVec.getLsbD, Nat.testBit, Nat.shiftRight_eq_div_pow]

/-- A field of `w` bits is below `2 ^ w`. -/
theorem fld_lt {n : Nat} (v : BitVec n) (lo w : Nat) : fld v lo w < 2 ^ w := Nat.mod_lt _ (Nat.two_pow_pos w)

@[simp] theorem leBytes_length (k v : Nat) : (leBytes k v).length = k := by
  induction k generalizing v with
  | zero => rfl
  | succ k ih => simp [leBytes, ih]

@[simp] theorem beBytes_length (k v : Nat) : (beBytes k v).length = k := by simp [beBytes]

/-- Laying a number out in `k` bytes and reading it back keeps it modulo the bytes' range. -/
theorem leNat_leBytes (k v : Nat) : leNat (leBytes k v) = v % 256 ^ k := by
  induction k generalizing v with
  | zero => simp [leBytes, leNat, Nat.mod_one]
  | succ k ih =>
    simp only [leBytes, leNat, ih, BitVec.toNat_ofNat]
    rw [show (256 : Nat) ^ (k + 1) = 256 * 256 ^ k by rw [Nat.pow_succ, Nat.mul_comm], Nat.mod_mul]

/-- The same in network order. -/
theorem beNat_beBytes (k v : Nat) : beNat (beBytes k v) = v % 256 ^ k := by
  have h : ∀ l : List Byte, beNat l.reverse = leNat l := by
    intro l
    unfold beNat
    induction l with
    | nil => rfl
    | cons b l ih => simp only [List.reverse_cons, List.foldl_append, List.foldl_cons, List.foldl_nil, ih, leNat]; omega
  rw [beBytes, h, leNat_leBytes]

end Sys2Proof.Machine
end

