-- ==== Sys2Proof/Laws/Command.lean ====
section
/-! SUPPORT. What running a command of Legend can do. -/

namespace Sys2Proof.Machine

@[simp] theorem firstBad_nil : firstBad [] = none := rfl
@[simp] theorem firstBad_true (w : Status) (l : List (Bool × Status)) : firstBad ((true, w) :: l) = some w := rfl
@[simp] theorem firstBad_false (w : Status) (l : List (Bool × Status)) : firstBad ((false, w) :: l) = firstBad l := rfl

/-- The tests of two lists run in order: the first list's violation, else the second's. -/
theorem firstBad_append (l m : List (Bool × Status)) : firstBad (l ++ m) = (firstBad l).or (firstBad m) := by
  induction l with
  | nil => simp
  | cons p l ih => obtain ⟨b, w⟩ := p; cases b <;> simp [ih]

/-- No test is violated exactly where every test's condition is false. -/
theorem firstBad_none {l : List (Bool × Status)} : firstBad l = none ↔ ∀ p ∈ l, p.1 = false := by
  induction l with
  | nil => simp
  | cons p l ih => obtain ⟨b, w⟩ := p; cases b <;> simp [ih]

/-- Where no test is violated the command goes on; else it ends with the first violated one and changes nothing. -/
theorem unlessBad_cases (s : State) (l : List (Bool × Status)) (go : State × Ending) :
    (firstBad l = none ∧ unlessBad s l go = go) ∨ (∃ w, firstBad l = some w ∧ unlessBad s l go = ends s w) := by
  unfold unlessBad
  cases h : firstBad l with
  | none => exact .inl ⟨rfl, rfl⟩
  | some w => exact .inr ⟨w, rfl, rfl⟩

/-- A served command runs its body and ends as the body says. -/
theorem run_served {s : State} {c : CmdRef} {opcode : Nat} {e : Entry} (h : Served s c opcode e)
    (body : Call → State → State × Ending) :
    runCommand s c opcode body =
      settle (conclude c.acc (body ⟨c.acc, actor s e, ownerOf s e == some operatorId, e⟩ s)) := by
  obtain ⟨h1, h2, h3, h4, hp, h5, h6, h7, h8, h9, h10, h11, h12⟩ := h
  have hm : ∀ r, malformedStatus s c e r = none := by
    intro r
    have hs : (e.seq == 0xFFFFFFFF && e.session != 0 && e.opcode != 0) = false := by rcases h12 with h | h | h <;> simp [h]
    simp [malformedStatus, hs, h10, h11]
  have run : ∀ broken : Bool, broken = false →
      (if broken then endCommand s c.acc (failWith 0x0106 6 (e.seq - 1)) []
       else match malformedStatus s c e (body ⟨c.acc, (ownerOf s e).getD operatorId, ownerOf s e == some operatorId, e⟩ s) with
         | some w => endCommand s c.acc w []
         | none => conclude c.acc (body ⟨c.acc, (ownerOf s e).getD operatorId, ownerOf s e == some operatorId, e⟩ s)) =
      conclude c.acc (body ⟨c.acc, actor s e, ownerOf s e == some operatorId, e⟩ s) := by
    intro broken hb; subst hb; rw [hm]; rfl
  have go : runBody s c e true body = conclude c.acc (body ⟨c.acc, actor s e, ownerOf s e == some operatorId, e⟩ s) := by
    unfold runBody
    have hp : (s.power.phase == Phase.flushing) = false := by simp [hp]
    simp only [h3, h4, hp, h5, h6, h8, h9]
    refine run _ ?_
    cases hf : maskHas e.flags 2
    · rfl
    · cases hw : chainStatus s e with
      | none => rfl
      | some w => have := h7 hf w hw; simp; omega
  simp only [runCommand, h1, h2, go, beq_self_eq_true, if_true]

end Sys2Proof.Machine
end

