-- ==== Sys2Proof/Laws/DramPorts.lean ====
section
/-! SUPPORT. What a request of a DRAM client port can do: it counts, takes from the port's profile and puts off or ends
self-refresh, nothing else (R303, R317). -/

namespace Sys2Proof.Machine

/-- Only the events, the profile buckets of the DRAM ports and the stacks' self-refresh differ. -/
def PortsCounted (s v : State) : Prop :=
  ∃ e b k, v = { s with events := e, dram := { s.dram with buckets := b, stackMap := k } }

theorem PortsCounted.refl (s : State) : PortsCounted s s := ⟨_, _, _, rfl⟩

theorem PortsCounted.trans {s u v : State} (h : PortsCounted s u) (k : PortsCounted u v) : PortsCounted s v := by
  obtain ⟨e, b, m, rfl⟩ := h
  obtain ⟨e', b', m', rfl⟩ := k
  exact ⟨e', b', m', rfl⟩

theorem count_portsCounted (s : State) (id n : Nat) : PortsCounted s (count s id n) := ⟨_, _, _, rfl⟩

theorem devCount_portsCounted (s : State) (a b c d n : Nat) : PortsCounted s (devCount s a b c d n) := by
  unfold devCount
  generalize s.events.devSelect = l
  induction l generalizing s with
  | nil => exact .refl s
  | cons x l ih =>
    rw [List.foldl_cons]
    refine .trans ?_ (ih _)
    dsimp only
    split
    · split <;> exact ⟨_, _, _, rfl⟩
    · exact .refl s

/-- What a request of a port can do (R303). -/
theorem servePort_portsCounted (s : State) (port owner bytes : Nat) (arrival : Ns) (asleep express : Bool) :
    PortsCounted s (servePort s port owner bytes arrival asleep express) := by
  unfold servePort
  dsimp only
  have urgent : PortsCounted s (if urgencyAt s port bytes arrival express == 7 then devCount s 5 2 port owner 1 else s) := by
    split
    · exact devCount_portsCounted _ _ _ _ _ _
    · exact .refl s
  refine .trans urgent ?_
  generalize (if urgencyAt s port bytes arrival express == 7 then devCount s 5 2 port owner 1 else s) = s
  refine .trans ?_ (devCount_portsCounted _ _ _ _ _ _)
  refine .trans ?_ (devCount_portsCounted _ _ _ _ _ _)
  have base : PortsCounted s (count (count s (portCountId port 2) 1) (portCountId port 3) bytes) := ⟨_, _, _, rfl⟩
  have prof : ∀ c : Bool, PortsCounted s (if c = true then
      let u := count (count (count s (portCountId port 2) 1) (portCountId port 3) bytes) (portCountId port 4) 1
      u.setDram { u.dram with buckets := AMap.put u.dram.buckets port ⟨profileTokens u port - bytes, now u⟩ }
    else count (count s (portCountId port 2) 1) (portCountId port 3) bytes) := by
    intro c; split
    · exact ⟨_, _, _, rfl⟩
    · exact base
  split
  · exact .trans (prof _) (.trans (count_portsCounted _ _ _) (devCount_portsCounted _ _ _ _ _ _))
  · exact prof _

/-- What a request that reaches a stack can do (R317, R319). -/
theorem arrive_portsCounted (s : State) (stack : Nat) : PortsCounted s (arrive s stack) := by
  unfold arrive
  dsimp only
  split
  · exact .refl s
  · refine .trans (u := countLate s stack (b2n ((stackAt s stack).lateFor (now s)))) ?_ ⟨_, _, _, rfl⟩
    unfold countLate
    split
    · exact .refl s
    · exact devCount_portsCounted _ _ _ _ _ _

theorem requestTo_portsCounted (s : State) (port owner off bytes : Nat) : PortsCounted s (requestTo s port owner off bytes) := by
  unfold requestTo
  exact .trans (arrive_portsCounted _ _) (servePort_portsCounted _ _ _ _ _ _ _)

theorem clientRequest_portsCounted (s : State) (port owner bytes : Nat) : PortsCounted s (clientRequest s port owner bytes) := by
  unfold clientRequest
  exact requestTo_portsCounted _ _ _ _ _

theorem memRequest_portsCounted (s : State) (port : Nat) (r : MemRef) (bytes : Nat) :
    PortsCounted s (memRequest s port r bytes) := by
  unfold memRequest
  split
  · exact requestTo_portsCounted _ _ _ _ _
  · exact .refl s

theorem panRequest_portsCounted (s : State) (t : Nat) (r : MemRef) (bytes : Nat) :
    PortsCounted s (panRequest s t r bytes) := by
  unfold panRequest
  split
  · exact servePort_portsCounted _ _ _ _ _ _ _
  · exact .refl s

theorem tableRequest_portsCounted (s : State) (port table bytes : Nat) :
    PortsCounted s (tableRequest s port table bytes) := by
  unfold tableRequest
  dsimp only
  split
  · exact .refl s
  · exact clientRequest_portsCounted _ _ _ _

/-- A request leaves memory as it reads. -/
theorem PortsCounted.readMem {s v : State} (h : PortsCounted s v) (m : MemRef) (n : Nat) : readMem v m n = readMem s m n := by
  obtain ⟨e, b, k, rfl⟩ := h; rfl

/-- A request leaves poison as it is. -/
theorem PortsCounted.poisoned {s v : State} (h : PortsCounted s v) (m : MemRef) (n : Nat) :
    poisoned v m n = poisoned s m n := by
  obtain ⟨e, b, k, rfl⟩ := h; rfl

/-- A request leaves every thread. -/
theorem PortsCounted.thread {s v : State} (h : PortsCounted s v) (t : Nat) : v.thread t = s.thread t := by
  obtain ⟨e, b, k, rfl⟩ := h; rfl

/-- A request takes no time. -/
theorem PortsCounted.now {s v : State} (h : PortsCounted s v) : now v = now s := by
  obtain ⟨e, b, k, rfl⟩ := h; rfl

end Sys2Proof.Machine
end

