-- ==== Sys2Proof/Laws/Issue.lean ====
section
/-! SUPPORT. What issuing an instruction can do: the issue operation and its reports. -/

namespace Sys2Proof.Machine

@[simp] theorem Thread.cp_zero (x : Thread) : x.cp 0 = x.cp0 := rfl
@[simp] theorem Thread.cp_one (x : Thread) : x.cp 1 = x.cp1 := rfl
@[simp] theorem Thread.cp_two (x : Thread) : x.cp 2 = x.cp2 := rfl

@[simp] theorem count_threads (s : State) (id n : Nat) : (count s id n).threads = s.threads := rfl
@[simp] theorem setPan_threads (s : State) (p : Nat) (x : Pan) : (s.setPan p x).threads = s.threads := rfl
@[simp] theorem raise_threads (s : State) (a b c d : Nat) : (raise s a b c d).threads = s.threads := rfl
@[simp] theorem raiseDev_threads (s : State) (a b c : Nat) : (raiseDev s a b c).threads = s.threads := rfl
@[simp] theorem fresh_threads (s : State) : (fresh s).2.threads = s.threads := rfl

@[simp] theorem countFirst_threads (s : State) (a b c d e : Nat) : (countFirst s a b c d e).threads = s.threads := by
  unfold countFirst; dsimp only; split <;> rfl

@[simp] theorem addReport_threads (s : State) (p : Nat) (r : DistReport) : (addReport s p r).threads = s.threads := by
  unfold addReport; dsimp only; split
  · rfl
  · split
    · rfl
    · simp

@[simp] theorem report_threads (s : State) (t k r c q e p : Nat) : (report s t k r c q e p).threads = s.threads := by
  unfold report; simp only [addReport_threads]; split <;> rfl

@[simp] theorem reportReads_threads (s : State) (t : Nat) (l : List (BitVec 5)) : (reportReads s t l).threads = s.threads := by
  have fold : ∀ (l : List (BitVec 5)) (f : State → BitVec 5 → State), (∀ s r, (f s r).threads = s.threads) →
      ∀ s, (l.foldl f s).threads = s.threads := by
    intro l f hf
    induction l with
    | nil => intro s; rfl
    | cons a l ih => intro s; rw [List.foldl_cons, ih, hf]
  unfold reportReads; dsimp only
  split
  · rfl
  · refine fold _ _ (fun s r => ?_) s
    split
    · rfl
    · split <;> simp

@[simp] theorem setPan_pan_self (s : State) (p : Nat) (x : Pan) : (s.setPan p x).pan p = x :=
  AMap.at_put_self _ _ _ _

theorem setPan_pan_other (s : State) {p q : Nat} (x : Pan) (h : q ≠ p) : (s.setPan p x).pan q = s.pan q := by
  simp [State.pan, State.setPan, AMap.at_put, h]

@[simp] theorem countFirst_pan (s : State) (a b c d e q : Nat) : (countFirst s a b c d e).pan q = s.pan q := by
  unfold countFirst; dsimp only; split <;> rfl

/-- A report leaves the store buffers of every Pan. -/
@[simp] theorem addReport_buffers (s : State) (p q : Nat) (r : DistReport) :
    ((addReport s p r).pan q).buffers = (s.pan q).buffers := by
  have key : ∀ x : Pan, x.buffers = (s.pan p).buffers → ((s.setPan p x).pan q).buffers = (s.pan q).buffers := by
    intro x hx
    by_cases h : q = p
    · subst h; simp [hx]
    · rw [setPan_pan_other s x h]
  unfold addReport; dsimp only
  split
  · exact key _ rfl
  · split
    · exact key _ rfl
    · rw [countFirst_pan]; exact key _ rfl

@[simp] theorem report_buffers (s : State) (t k r c q e p n : Nat) :
    ((report s t k r c q e p).pan n).buffers = (s.pan n).buffers := by
  unfold report; simp only [addReport_buffers]; split <;> rfl

@[simp] theorem reportReads_buffers (s : State) (t : Nat) (l : List (BitVec 5)) (n : Nat) :
    ((reportReads s t l).pan n).buffers = (s.pan n).buffers := by
  have fold : ∀ (l : List (BitVec 5)) (f : State → BitVec 5 → State),
      (∀ s r, ((f s r).pan n).buffers = (s.pan n).buffers) →
      ∀ s, ((l.foldl f s).pan n).buffers = (s.pan n).buffers := by
    intro l f hf
    induction l with
    | nil => intro s; rfl
    | cons a l ih => intro s; rw [List.foldl_cons, ih, hf]
  unfold reportReads; dsimp only
  split
  · rfl
  · refine fold _ _ (fun s r => ?_) s
    split
    · rfl
    · split <;> simp

/-- The reports of an instruction's reads leave the store buffer of its core. -/
@[simp] theorem reportReads_ccBuffer (s : State) (t u : Nat) (l : List (BitVec 5)) :
    ccBuffer (reportReads s t l) u = ccBuffer s u := by
  simp only [ccBuffer, reportReads_buffers]

@[simp] theorem reportReads_thread (s : State) (t u : Nat) (l : List (BitVec 5)) :
    (reportReads s t l).thread u = s.thread u := by
  unfold State.thread; rw [reportReads_threads]

@[simp] theorem perfAdd_threads (s : State) (pan key n : Nat) : (perfAdd s pan key n).threads = s.threads := by
  unfold perfAdd; dsimp only; split <;> rfl

@[simp] theorem perfPick_threads (s : State) (t source n i : Nat) : (perfPick s t source n i).threads = s.threads := by
  unfold perfPick; dsimp only; split <;> simp

/-- Counting performance items leaves the threads. -/
@[simp] theorem perfItems_threads (s : State) (t source n : Nat) : (perfItems s t source n).threads = s.threads := by
  simp [perfItems]

/-- What an instruction counts as it issues leaves the threads. -/
@[simp] theorem issued_threads (s : State) (t : Nat) (l : List (BitVec 5)) : (issued s t l).threads = s.threads := by
  unfold issued perfCount; split <;> simp

@[simp] theorem issued_thread (s : State) (t u : Nat) (l : List (BitVec 5)) : (issued s t l).thread u = s.thread u := by
  unfold State.thread; rw [issued_threads]

/-- A count of performance leaves the store buffers of every Pan. -/
@[simp] theorem perfAdd_buffers (s : State) (pan key n q : Nat) : ((perfAdd s pan key n).pan q).buffers = (s.pan q).buffers := by
  have put : ∀ x : Pan, x.buffers = (s.pan pan).buffers → ((s.setPan pan x).pan q).buffers = (s.pan q).buffers := by
    intro x hx
    by_cases h : q = pan
    · subst h; simp [hx]
    · rw [setPan_pan_other s x h]
  unfold perfAdd; dsimp only
  split
  · exact put _ rfl
  · exact put _ rfl

@[simp] theorem perfPick_buffers (s : State) (t source n i q : Nat) :
    ((perfPick s t source n i).pan q).buffers = (s.pan q).buffers := by
  unfold perfPick; dsimp only; split <;> simp

@[simp] theorem perfItems_buffers (s : State) (t source n q : Nat) :
    ((perfItems s t source n).pan q).buffers = (s.pan q).buffers := by
  simp [perfItems]

/-- What an instruction counts as it issues leaves the store buffer of its core. -/
@[simp] theorem issued_ccBuffer (s : State) (t u : Nat) (l : List (BitVec 5)) : ccBuffer (issued s t l) u = ccBuffer s u := by
  unfold issued perfCount ccBuffer; split <;> simp

/-- A ready instruction's body runs on the machine that its issue leaves. -/
theorem issue_ready {s : State} {t : Nat} {slotOk : Bool} {srcs : List (BitVec 5)} (h : Ready s t slotOk srcs)
    (word cost : Nat) (body : State → Thread → Eff) :
    issue t slotOk word srcs cost s body =
      .next (finish (applyEff (issued s t srcs) t cost (body (issued s t srcs) (s.thread t)))) := by
  obtain ⟨h1, h2, h0, h3, h4, h5⟩ := h
  have hd : ((s.thread t).dslot && !slotOk) = false := by
    cases hb : (s.thread t).dslot
    · rfl
    · simp [h4 hb]
  have hg : (if guarded (s.thread t) then inFlight (s.thread t) srcs else none) = none := by
    split
    · exact h5 ‹_›
    · rfl
  simp [issue, issueState, checked, h0, h1, h2, h3, hd, hg]

/-- An instruction that is refused before its registers are read faults with no other effect. -/
theorem issueLegal_bad {s : State} {t : Nat} {slotOk : Bool} (h : Ready s t slotOk []) (word cost : Nat)
    (srcs : List (BitVec 5)) (f : Nat × Word) (body : State → Thread → Eff) :
    issueLegal t slotOk word srcs cost s (some f) body = faults t f.1 f.2 (issued s t []) := by
  simp only [issueLegal, issue_ready h, applyEff, faults]

/-- A ready instruction that is not refused runs its body. -/
theorem issueLegal_ready {s : State} {t : Nat} {slotOk : Bool} {srcs : List (BitVec 5)} (h : Ready s t slotOk srcs)
    (word cost : Nat) (body : State → Thread → Eff) :
    issueLegal t slotOk word srcs cost s none body =
      .next (finish (applyEff (issued s t srcs) t cost (body (issued s t srcs) (s.thread t)))) := by
  simp only [issueLegal, issue_ready h]

theorem alu_ready {s : State} {t : Nat} {srcs : List (BitVec 5)} (h : Ready s t true srcs) (a : BitVec 5)
    (f : Thread → Word) : alu t a srcs s f = gives s t srcs a (f (s.thread t)) 1 0 := by
  simp only [alu, issue_ready h, applyEff, gives, completes]

theorem alu3_ready {s : State} {t : Nat} {b c : BitVec 5} (h : Ready s t true [b, c]) (a : BitVec 5)
    (f : Word → Word → Word) :
    alu3 t a b c s f = gives s t [b, c] a (f ((s.thread t).reg b) ((s.thread t).reg c)) 1 0 := by
  simp only [alu3, alu_ready h]

theorem aluI_ready {s : State} {t : Nat} {b : BitVec 5} (h : Ready s t true [b]) (a : BitVec 5) (imm : Word)
    (f : Word → Word → Word) : aluI t a b imm s f = gives s t [b] a (f ((s.thread t).reg b) imm) 1 0 := by
  simp only [aluI, alu_ready h]

theorem longOp_ready {s : State} {t : Nat} {b c : BitVec 5} (h : Ready s t true [b, c]) (a : BitVec 5) (d : Nat)
    (f : Word → Word → Word × Nat) :
    longOp t a b c s d f = gives s t [b, c] a (f ((s.thread t).reg b) ((s.thread t).reg c)).1 d
      (f ((s.thread t).reg b) ((s.thread t).reg c)).2 := by
  simp only [longOp, issue_ready h, applyEff, gives, completes]

theorem trap3_ready {s : State} {t : Nat} {b c : BitVec 5} (h : Ready s t true [b, c]) (a : BitVec 5) (d : Nat)
    (f : Int → Int → Int) :
    trap3 t a b c s d f =
      if fitsSigned (f ((s.thread t).reg b).toInt ((s.thread t).reg c).toInt) then
        gives s t [b, c] a (BitVec.ofInt 64 (f ((s.thread t).reg b).toInt ((s.thread t).reg c).toInt)) d 0
      else faults t 9 ((s.thread t).reg b) (issued s t [b, c]) := by
  simp only [trap3, issue_ready h]
  split <;> rfl

end Sys2Proof.Machine
end

