-- ==== Sys2Proof/Laws/Memory.lean ====
section
/-! SUPPORT. Memories: read after write, and the canonical form that every write keeps and reset has. -/

namespace Sys2Proof.Machine

theorem Memory.get_set (m : Memory) (a c : Nat) (b : Byte) : (m.set a b).get c = if c = a then b else m.get c := by
  unfold Memory.set Memory.get
  split
  · rw [AMap.at_del]; split <;> simp_all
  · rw [AMap.at_put]

/-- The canonical form, said of the entries: rising addresses and no zero byte. -/
theorem Memory.wf_iff (m : Memory) : m.wf = true ↔ AMap.Rising m ∧ ∀ p ∈ m, p.2 ≠ 0 := by
  induction m with
  | nil => simp [Memory.wf, AMap.Rising]
  | cons p m ih =>
    obtain ⟨a, b⟩ := p
    cases m with
    | nil => simp [Memory.wf, AMap.Rising]
    | cons q m =>
      obtain ⟨a', b'⟩ := q
      rw [Memory.wf]
      simp only [Bool.and_eq_true, ih, bne_iff_ne, ne_eq, decide_eq_true_eq]
      constructor
      · rintro ⟨⟨hb, ha⟩, hr, hz⟩
        refine ⟨List.pairwise_cons.2 ⟨fun p hp => ?_, hr⟩, ?_⟩
        · rcases List.mem_cons.1 hp with h | h
          · rw [h]; exact ha
          · exact Nat.lt_trans ha ((List.pairwise_cons.1 hr).1 p h)
        · intro p hp
          rcases List.mem_cons.1 hp with h | h
          · rw [h]; exact hb
          · exact hz p h
      · rintro ⟨hr, hz⟩
        obtain ⟨h1, h2⟩ := List.pairwise_cons.1 hr
        exact ⟨⟨hz (a, b) (by simp), h1 (a', b') (by simp)⟩, h2, fun p hp => hz p (List.mem_cons_of_mem _ hp)⟩

theorem Memory.set_wf {m : Memory} (h : m.wf = true) (a : Nat) (b : Byte) : (m.set a b).wf = true := by
  obtain ⟨hr, hz⟩ := (Memory.wf_iff m).1 h
  refine (Memory.wf_iff _).2 ?_
  unfold Memory.set
  split
  · exact ⟨AMap.del_rising hr a, fun p hp => hz p (List.mem_filter.1 hp).1⟩
  · refine ⟨AMap.put_rising hr a b, fun p hp => ?_⟩
    rcases AMap.mem_put hp with h | h
    · rw [h]; assumption
    · exact hz p h

theorem Memory.setBytes_wf (l : List Byte) {m : Memory} (h : m.wf = true) (a : Nat) : (m.setBytes a l).wf = true := by
  induction l generalizing m a with
  | nil => exact h
  | cons b l ih => exact ih (Memory.set_wf h a b) (a + 1)

/-- Every memory of the machine after reset is empty, hence in canonical form. -/
theorem State.reset_memories :
    (∀ p, (State.reset.pan p).sram.wf = true) ∧ (∀ t, (State.reset.thread t).store.wf = true) ∧
      (∀ t, (AMap.at State.reset.dram.content t []).wf = true) ∧ State.reset.meridian.ctxs = [] :=
  ⟨fun _ => rfl, fun _ => rfl, fun _ => rfl, rfl⟩

end Sys2Proof.Machine
end

