-- ==== Sys2Proof/Laws/State.lean ====
section
/-! SUPPORT. What each update of the state changes and what it leaves. -/

namespace Sys2Proof.Machine

@[simp] theorem State.setPower_ident (s : State) (p : Power) : (s.setPower p).ident = s.ident := rfl
@[simp] theorem State.setPower_power (s : State) (p : Power) : (s.setPower p).power = p := rfl
@[simp] theorem State.setPower_trust (s : State) (p : Power) : (s.setPower p).trust = s.trust := rfl
@[simp] theorem State.setPower_legend (s : State) (p : Power) : (s.setPower p).legend = s.legend := rfl
@[simp] theorem State.setPower_events (s : State) (p : Power) : (s.setPower p).events = s.events := rfl
@[simp] theorem State.setPower_contain (s : State) (p : Power) : (s.setPower p).contain = s.contain := rfl
@[simp] theorem State.setPower_ports (s : State) (p : Power) : (s.setPower p).ports = s.ports := rfl
@[simp] theorem State.setPower_sluice (s : State) (p : Power) : (s.setPower p).sluice = s.sluice := rfl
@[simp] theorem State.setPower_cote (s : State) (p : Power) : (s.setPower p).cote = s.cote := rfl
@[simp] theorem State.setPower_meridian (s : State) (p : Power) : (s.setPower p).meridian = s.meridian := rfl
@[simp] theorem State.setPower_pans (s : State) (p : Power) : (s.setPower p).pans = s.pans := rfl
@[simp] theorem State.setPower_threads (s : State) (p : Power) : (s.setPower p).threads = s.threads := rfl
@[simp] theorem State.setPower_gaz (s : State) (p : Power) : (s.setPower p).gaz = s.gaz := rfl
@[simp] theorem State.setPower_dram (s : State) (p : Power) : (s.setPower p).dram = s.dram := rfl
@[simp] theorem State.setPower_stk (s : State) (p : Power) : (s.setPower p).stk = s.stk := rfl
@[simp] theorem State.setPower_host (s : State) (p : Power) : (s.setPower p).host = s.host := rfl
@[simp] theorem State.setPower_survey (s : State) (p : Power) : (s.setPower p).survey = s.survey := rfl
@[simp] theorem State.setPower_digests (s : State) (p : Power) : (s.setPower p).digests = s.digests := rfl
@[simp] theorem State.setPower_free (s : State) (p : Power) : (s.setPower p).free = s.free := rfl
@[simp] theorem State.setPower_pending (s : State) (p : Power) : (s.setPower p).pending = s.pending := rfl

@[simp] theorem State.setTrust_ident (s : State) (t : Trust) : (s.setTrust t).ident = s.ident := rfl
@[simp] theorem State.setTrust_power (s : State) (t : Trust) : (s.setTrust t).power = s.power := rfl
@[simp] theorem State.setTrust_trust (s : State) (t : Trust) : (s.setTrust t).trust = t := rfl
@[simp] theorem State.setTrust_legend (s : State) (t : Trust) : (s.setTrust t).legend = s.legend := rfl
@[simp] theorem State.setTrust_events (s : State) (t : Trust) : (s.setTrust t).events = s.events := rfl
@[simp] theorem State.setTrust_contain (s : State) (t : Trust) : (s.setTrust t).contain = s.contain := rfl
@[simp] theorem State.setTrust_ports (s : State) (t : Trust) : (s.setTrust t).ports = s.ports := rfl
@[simp] theorem State.setTrust_sluice (s : State) (t : Trust) : (s.setTrust t).sluice = s.sluice := rfl
@[simp] theorem State.setTrust_cote (s : State) (t : Trust) : (s.setTrust t).cote = s.cote := rfl
@[simp] theorem State.setTrust_meridian (s : State) (t : Trust) : (s.setTrust t).meridian = s.meridian := rfl
@[simp] theorem State.setTrust_pans (s : State) (t : Trust) : (s.setTrust t).pans = s.pans := rfl
@[simp] theorem State.setTrust_threads (s : State) (t : Trust) : (s.setTrust t).threads = s.threads := rfl
@[simp] theorem State.setTrust_gaz (s : State) (t : Trust) : (s.setTrust t).gaz = s.gaz := rfl
@[simp] theorem State.setTrust_dram (s : State) (t : Trust) : (s.setTrust t).dram = s.dram := rfl
@[simp] theorem State.setTrust_stk (s : State) (t : Trust) : (s.setTrust t).stk = s.stk := rfl
@[simp] theorem State.setTrust_host (s : State) (t : Trust) : (s.setTrust t).host = s.host := rfl
@[simp] theorem State.setTrust_survey (s : State) (t : Trust) : (s.setTrust t).survey = s.survey := rfl
@[simp] theorem State.setTrust_digests (s : State) (t : Trust) : (s.setTrust t).digests = s.digests := rfl
@[simp] theorem State.setTrust_free (s : State) (t : Trust) : (s.setTrust t).free = s.free := rfl
@[simp] theorem State.setTrust_pending (s : State) (t : Trust) : (s.setTrust t).pending = s.pending := rfl

@[simp] theorem State.setContain_ident (s : State) (k : Contain) : (s.setContain k).ident = s.ident := rfl
@[simp] theorem State.setContain_power (s : State) (k : Contain) : (s.setContain k).power = s.power := rfl
@[simp] theorem State.setContain_trust (s : State) (k : Contain) : (s.setContain k).trust = s.trust := rfl
@[simp] theorem State.setContain_legend (s : State) (k : Contain) : (s.setContain k).legend = s.legend := rfl
@[simp] theorem State.setContain_events (s : State) (k : Contain) : (s.setContain k).events = s.events := rfl
@[simp] theorem State.setContain_contain (s : State) (k : Contain) : (s.setContain k).contain = k := rfl
@[simp] theorem State.setContain_ports (s : State) (k : Contain) : (s.setContain k).ports = s.ports := rfl
@[simp] theorem State.setContain_sluice (s : State) (k : Contain) : (s.setContain k).sluice = s.sluice := rfl
@[simp] theorem State.setContain_cote (s : State) (k : Contain) : (s.setContain k).cote = s.cote := rfl
@[simp] theorem State.setContain_meridian (s : State) (k : Contain) : (s.setContain k).meridian = s.meridian := rfl
@[simp] theorem State.setContain_pans (s : State) (k : Contain) : (s.setContain k).pans = s.pans := rfl
@[simp] theorem State.setContain_threads (s : State) (k : Contain) : (s.setContain k).threads = s.threads := rfl
@[simp] theorem State.setContain_gaz (s : State) (k : Contain) : (s.setContain k).gaz = s.gaz := rfl
@[simp] theorem State.setContain_dram (s : State) (k : Contain) : (s.setContain k).dram = s.dram := rfl
@[simp] theorem State.setContain_stk (s : State) (k : Contain) : (s.setContain k).stk = s.stk := rfl
@[simp] theorem State.setContain_host (s : State) (k : Contain) : (s.setContain k).host = s.host := rfl
@[simp] theorem State.setContain_survey (s : State) (k : Contain) : (s.setContain k).survey = s.survey := rfl
@[simp] theorem State.setContain_digests (s : State) (k : Contain) : (s.setContain k).digests = s.digests := rfl
@[simp] theorem State.setContain_free (s : State) (k : Contain) : (s.setContain k).free = s.free := rfl
@[simp] theorem State.setContain_pending (s : State) (k : Contain) : (s.setContain k).pending = s.pending := rfl

@[simp] theorem State.setLegend_ident (s : State) (l : Legend) : (s.setLegend l).ident = s.ident := rfl
@[simp] theorem State.setLegend_power (s : State) (l : Legend) : (s.setLegend l).power = s.power := rfl
@[simp] theorem State.setLegend_trust (s : State) (l : Legend) : (s.setLegend l).trust = s.trust := rfl
@[simp] theorem State.setLegend_legend (s : State) (l : Legend) : (s.setLegend l).legend = l := rfl
@[simp] theorem State.setLegend_events (s : State) (l : Legend) : (s.setLegend l).events = s.events := rfl
@[simp] theorem State.setLegend_contain (s : State) (l : Legend) : (s.setLegend l).contain = s.contain := rfl
@[simp] theorem State.setLegend_ports (s : State) (l : Legend) : (s.setLegend l).ports = s.ports := rfl
@[simp] theorem State.setLegend_sluice (s : State) (l : Legend) : (s.setLegend l).sluice = s.sluice := rfl
@[simp] theorem State.setLegend_cote (s : State) (l : Legend) : (s.setLegend l).cote = s.cote := rfl
@[simp] theorem State.setLegend_meridian (s : State) (l : Legend) : (s.setLegend l).meridian = s.meridian := rfl
@[simp] theorem State.setLegend_pans (s : State) (l : Legend) : (s.setLegend l).pans = s.pans := rfl
@[simp] theorem State.setLegend_threads (s : State) (l : Legend) : (s.setLegend l).threads = s.threads := rfl
@[simp] theorem State.setLegend_gaz (s : State) (l : Legend) : (s.setLegend l).gaz = s.gaz := rfl
@[simp] theorem State.setLegend_dram (s : State) (l : Legend) : (s.setLegend l).dram = s.dram := rfl
@[simp] theorem State.setLegend_stk (s : State) (l : Legend) : (s.setLegend l).stk = s.stk := rfl
@[simp] theorem State.setLegend_host (s : State) (l : Legend) : (s.setLegend l).host = s.host := rfl
@[simp] theorem State.setLegend_survey (s : State) (l : Legend) : (s.setLegend l).survey = s.survey := rfl
@[simp] theorem State.setLegend_digests (s : State) (l : Legend) : (s.setLegend l).digests = s.digests := rfl
@[simp] theorem State.setLegend_free (s : State) (l : Legend) : (s.setLegend l).free = s.free := rfl
@[simp] theorem State.setLegend_pending (s : State) (l : Legend) : (s.setLegend l).pending = s.pending := rfl

@[simp] theorem State.setPorts_ident (s : State) (p : Ports) : (s.setPorts p).ident = s.ident := rfl
@[simp] theorem State.setPorts_power (s : State) (p : Ports) : (s.setPorts p).power = s.power := rfl
@[simp] theorem State.setPorts_trust (s : State) (p : Ports) : (s.setPorts p).trust = s.trust := rfl
@[simp] theorem State.setPorts_legend (s : State) (p : Ports) : (s.setPorts p).legend = s.legend := rfl
@[simp] theorem State.setPorts_events (s : State) (p : Ports) : (s.setPorts p).events = s.events := rfl
@[simp] theorem State.setPorts_contain (s : State) (p : Ports) : (s.setPorts p).contain = s.contain := rfl
@[simp] theorem State.setPorts_ports (s : State) (p : Ports) : (s.setPorts p).ports = p := rfl
@[simp] theorem State.setPorts_sluice (s : State) (p : Ports) : (s.setPorts p).sluice = s.sluice := rfl
@[simp] theorem State.setPorts_cote (s : State) (p : Ports) : (s.setPorts p).cote = s.cote := rfl
@[simp] theorem State.setPorts_meridian (s : State) (p : Ports) : (s.setPorts p).meridian = s.meridian := rfl
@[simp] theorem State.setPorts_pans (s : State) (p : Ports) : (s.setPorts p).pans = s.pans := rfl
@[simp] theorem State.setPorts_threads (s : State) (p : Ports) : (s.setPorts p).threads = s.threads := rfl
@[simp] theorem State.setPorts_gaz (s : State) (p : Ports) : (s.setPorts p).gaz = s.gaz := rfl
@[simp] theorem State.setPorts_dram (s : State) (p : Ports) : (s.setPorts p).dram = s.dram := rfl
@[simp] theorem State.setPorts_stk (s : State) (p : Ports) : (s.setPorts p).stk = s.stk := rfl
@[simp] theorem State.setPorts_host (s : State) (p : Ports) : (s.setPorts p).host = s.host := rfl
@[simp] theorem State.setPorts_survey (s : State) (p : Ports) : (s.setPorts p).survey = s.survey := rfl
@[simp] theorem State.setPorts_digests (s : State) (p : Ports) : (s.setPorts p).digests = s.digests := rfl
@[simp] theorem State.setPorts_free (s : State) (p : Ports) : (s.setPorts p).free = s.free := rfl
@[simp] theorem State.setPorts_pending (s : State) (p : Ports) : (s.setPorts p).pending = s.pending := rfl

@[simp] theorem State.setSluice_ident (s : State) (x : Sluice) : (s.setSluice x).ident = s.ident := rfl
@[simp] theorem State.setSluice_power (s : State) (x : Sluice) : (s.setSluice x).power = s.power := rfl
@[simp] theorem State.setSluice_trust (s : State) (x : Sluice) : (s.setSluice x).trust = s.trust := rfl
@[simp] theorem State.setSluice_legend (s : State) (x : Sluice) : (s.setSluice x).legend = s.legend := rfl
@[simp] theorem State.setSluice_events (s : State) (x : Sluice) : (s.setSluice x).events = s.events := rfl
@[simp] theorem State.setSluice_contain (s : State) (x : Sluice) : (s.setSluice x).contain = s.contain := rfl
@[simp] theorem State.setSluice_ports (s : State) (x : Sluice) : (s.setSluice x).ports = s.ports := rfl
@[simp] theorem State.setSluice_sluice (s : State) (x : Sluice) : (s.setSluice x).sluice = x := rfl
@[simp] theorem State.setSluice_cote (s : State) (x : Sluice) : (s.setSluice x).cote = s.cote := rfl
@[simp] theorem State.setSluice_meridian (s : State) (x : Sluice) : (s.setSluice x).meridian = s.meridian := rfl
@[simp] theorem State.setSluice_pans (s : State) (x : Sluice) : (s.setSluice x).pans = s.pans := rfl
@[simp] theorem State.setSluice_threads (s : State) (x : Sluice) : (s.setSluice x).threads = s.threads := rfl
@[simp] theorem State.setSluice_gaz (s : State) (x : Sluice) : (s.setSluice x).gaz = s.gaz := rfl
@[simp] theorem State.setSluice_dram (s : State) (x : Sluice) : (s.setSluice x).dram = s.dram := rfl
@[simp] theorem State.setSluice_stk (s : State) (x : Sluice) : (s.setSluice x).stk = s.stk := rfl
@[simp] theorem State.setSluice_host (s : State) (x : Sluice) : (s.setSluice x).host = s.host := rfl
@[simp] theorem State.setSluice_survey (s : State) (x : Sluice) : (s.setSluice x).survey = s.survey := rfl
@[simp] theorem State.setSluice_digests (s : State) (x : Sluice) : (s.setSluice x).digests = s.digests := rfl
@[simp] theorem State.setSluice_free (s : State) (x : Sluice) : (s.setSluice x).free = s.free := rfl
@[simp] theorem State.setSluice_pending (s : State) (x : Sluice) : (s.setSluice x).pending = s.pending := rfl

@[simp] theorem State.setMeridian_ident (s : State) (m : Meridian) : (s.setMeridian m).ident = s.ident := rfl
@[simp] theorem State.setMeridian_power (s : State) (m : Meridian) : (s.setMeridian m).power = s.power := rfl
@[simp] theorem State.setMeridian_trust (s : State) (m : Meridian) : (s.setMeridian m).trust = s.trust := rfl
@[simp] theorem State.setMeridian_legend (s : State) (m : Meridian) : (s.setMeridian m).legend = s.legend := rfl
@[simp] theorem State.setMeridian_events (s : State) (m : Meridian) : (s.setMeridian m).events = s.events := rfl
@[simp] theorem State.setMeridian_contain (s : State) (m : Meridian) : (s.setMeridian m).contain = s.contain := rfl
@[simp] theorem State.setMeridian_ports (s : State) (m : Meridian) : (s.setMeridian m).ports = s.ports := rfl
@[simp] theorem State.setMeridian_sluice (s : State) (m : Meridian) : (s.setMeridian m).sluice = s.sluice := rfl
@[simp] theorem State.setMeridian_cote (s : State) (m : Meridian) : (s.setMeridian m).cote = s.cote := rfl
@[simp] theorem State.setMeridian_meridian (s : State) (m : Meridian) : (s.setMeridian m).meridian = m := rfl
@[simp] theorem State.setMeridian_pans (s : State) (m : Meridian) : (s.setMeridian m).pans = s.pans := rfl
@[simp] theorem State.setMeridian_threads (s : State) (m : Meridian) : (s.setMeridian m).threads = s.threads := rfl
@[simp] theorem State.setMeridian_gaz (s : State) (m : Meridian) : (s.setMeridian m).gaz = s.gaz := rfl
@[simp] theorem State.setMeridian_dram (s : State) (m : Meridian) : (s.setMeridian m).dram = s.dram := rfl
@[simp] theorem State.setMeridian_stk (s : State) (m : Meridian) : (s.setMeridian m).stk = s.stk := rfl
@[simp] theorem State.setMeridian_host (s : State) (m : Meridian) : (s.setMeridian m).host = s.host := rfl
@[simp] theorem State.setMeridian_survey (s : State) (m : Meridian) : (s.setMeridian m).survey = s.survey := rfl
@[simp] theorem State.setMeridian_digests (s : State) (m : Meridian) : (s.setMeridian m).digests = s.digests := rfl
@[simp] theorem State.setMeridian_free (s : State) (m : Meridian) : (s.setMeridian m).free = s.free := rfl
@[simp] theorem State.setMeridian_pending (s : State) (m : Meridian) : (s.setMeridian m).pending = s.pending := rfl

@[simp] theorem State.setDram_ident (s : State) (d : Dram) : (s.setDram d).ident = s.ident := rfl
@[simp] theorem State.setDram_power (s : State) (d : Dram) : (s.setDram d).power = s.power := rfl
@[simp] theorem State.setDram_trust (s : State) (d : Dram) : (s.setDram d).trust = s.trust := rfl
@[simp] theorem State.setDram_legend (s : State) (d : Dram) : (s.setDram d).legend = s.legend := rfl
@[simp] theorem State.setDram_events (s : State) (d : Dram) : (s.setDram d).events = s.events := rfl
@[simp] theorem State.setDram_contain (s : State) (d : Dram) : (s.setDram d).contain = s.contain := rfl
@[simp] theorem State.setDram_ports (s : State) (d : Dram) : (s.setDram d).ports = s.ports := rfl
@[simp] theorem State.setDram_sluice (s : State) (d : Dram) : (s.setDram d).sluice = s.sluice := rfl
@[simp] theorem State.setDram_cote (s : State) (d : Dram) : (s.setDram d).cote = s.cote := rfl
@[simp] theorem State.setDram_meridian (s : State) (d : Dram) : (s.setDram d).meridian = s.meridian := rfl
@[simp] theorem State.setDram_pans (s : State) (d : Dram) : (s.setDram d).pans = s.pans := rfl
@[simp] theorem State.setDram_threads (s : State) (d : Dram) : (s.setDram d).threads = s.threads := rfl
@[simp] theorem State.setDram_gaz (s : State) (d : Dram) : (s.setDram d).gaz = s.gaz := rfl
@[simp] theorem State.setDram_dram (s : State) (d : Dram) : (s.setDram d).dram = d := rfl
@[simp] theorem State.setDram_stk (s : State) (d : Dram) : (s.setDram d).stk = s.stk := rfl
@[simp] theorem State.setDram_host (s : State) (d : Dram) : (s.setDram d).host = s.host := rfl
@[simp] theorem State.setDram_survey (s : State) (d : Dram) : (s.setDram d).survey = s.survey := rfl
@[simp] theorem State.setDram_digests (s : State) (d : Dram) : (s.setDram d).digests = s.digests := rfl
@[simp] theorem State.setDram_free (s : State) (d : Dram) : (s.setDram d).free = s.free := rfl
@[simp] theorem State.setDram_pending (s : State) (d : Dram) : (s.setDram d).pending = s.pending := rfl

@[simp] theorem State.setStk_ident (s : State) (k : Stk) : (s.setStk k).ident = s.ident := rfl
@[simp] theorem State.setStk_power (s : State) (k : Stk) : (s.setStk k).power = s.power := rfl
@[simp] theorem State.setStk_trust (s : State) (k : Stk) : (s.setStk k).trust = s.trust := rfl
@[simp] theorem State.setStk_legend (s : State) (k : Stk) : (s.setStk k).legend = s.legend := rfl
@[simp] theorem State.setStk_events (s : State) (k : Stk) : (s.setStk k).events = s.events := rfl
@[simp] theorem State.setStk_contain (s : State) (k : Stk) : (s.setStk k).contain = s.contain := rfl
@[simp] theorem State.setStk_ports (s : State) (k : Stk) : (s.setStk k).ports = s.ports := rfl
@[simp] theorem State.setStk_sluice (s : State) (k : Stk) : (s.setStk k).sluice = s.sluice := rfl
@[simp] theorem State.setStk_cote (s : State) (k : Stk) : (s.setStk k).cote = s.cote := rfl
@[simp] theorem State.setStk_meridian (s : State) (k : Stk) : (s.setStk k).meridian = s.meridian := rfl
@[simp] theorem State.setStk_pans (s : State) (k : Stk) : (s.setStk k).pans = s.pans := rfl
@[simp] theorem State.setStk_threads (s : State) (k : Stk) : (s.setStk k).threads = s.threads := rfl
@[simp] theorem State.setStk_gaz (s : State) (k : Stk) : (s.setStk k).gaz = s.gaz := rfl
@[simp] theorem State.setStk_dram (s : State) (k : Stk) : (s.setStk k).dram = s.dram := rfl
@[simp] theorem State.setStk_stk (s : State) (k : Stk) : (s.setStk k).stk = k := rfl
@[simp] theorem State.setStk_host (s : State) (k : Stk) : (s.setStk k).host = s.host := rfl
@[simp] theorem State.setStk_survey (s : State) (k : Stk) : (s.setStk k).survey = s.survey := rfl
@[simp] theorem State.setStk_digests (s : State) (k : Stk) : (s.setStk k).digests = s.digests := rfl
@[simp] theorem State.setStk_free (s : State) (k : Stk) : (s.setStk k).free = s.free := rfl
@[simp] theorem State.setStk_pending (s : State) (k : Stk) : (s.setStk k).pending = s.pending := rfl

@[simp] theorem State.setSurvey_ident (s : State) (v : Survey) : (s.setSurvey v).ident = s.ident := rfl
@[simp] theorem State.setSurvey_power (s : State) (v : Survey) : (s.setSurvey v).power = s.power := rfl
@[simp] theorem State.setSurvey_trust (s : State) (v : Survey) : (s.setSurvey v).trust = s.trust := rfl
@[simp] theorem State.setSurvey_legend (s : State) (v : Survey) : (s.setSurvey v).legend = s.legend := rfl
@[simp] theorem State.setSurvey_events (s : State) (v : Survey) : (s.setSurvey v).events = s.events := rfl
@[simp] theorem State.setSurvey_contain (s : State) (v : Survey) : (s.setSurvey v).contain = s.contain := rfl
@[simp] theorem State.setSurvey_ports (s : State) (v : Survey) : (s.setSurvey v).ports = s.ports := rfl
@[simp] theorem State.setSurvey_sluice (s : State) (v : Survey) : (s.setSurvey v).sluice = s.sluice := rfl
@[simp] theorem State.setSurvey_cote (s : State) (v : Survey) : (s.setSurvey v).cote = s.cote := rfl
@[simp] theorem State.setSurvey_meridian (s : State) (v : Survey) : (s.setSurvey v).meridian = s.meridian := rfl
@[simp] theorem State.setSurvey_pans (s : State) (v : Survey) : (s.setSurvey v).pans = s.pans := rfl
@[simp] theorem State.setSurvey_threads (s : State) (v : Survey) : (s.setSurvey v).threads = s.threads := rfl
@[simp] theorem State.setSurvey_gaz (s : State) (v : Survey) : (s.setSurvey v).gaz = s.gaz := rfl
@[simp] theorem State.setSurvey_dram (s : State) (v : Survey) : (s.setSurvey v).dram = s.dram := rfl
@[simp] theorem State.setSurvey_stk (s : State) (v : Survey) : (s.setSurvey v).stk = s.stk := rfl
@[simp] theorem State.setSurvey_host (s : State) (v : Survey) : (s.setSurvey v).host = s.host := rfl
@[simp] theorem State.setSurvey_survey (s : State) (v : Survey) : (s.setSurvey v).survey = v := rfl
@[simp] theorem State.setSurvey_digests (s : State) (v : Survey) : (s.setSurvey v).digests = s.digests := rfl
@[simp] theorem State.setSurvey_free (s : State) (v : Survey) : (s.setSurvey v).free = s.free := rfl
@[simp] theorem State.setSurvey_pending (s : State) (v : Survey) : (s.setSurvey v).pending = s.pending := rfl

@[simp] theorem State.setPan_ident (s : State) (i : Nat) (x : Pan) : (s.setPan i x).ident = s.ident := rfl
@[simp] theorem State.setPan_power (s : State) (i : Nat) (x : Pan) : (s.setPan i x).power = s.power := rfl
@[simp] theorem State.setPan_trust (s : State) (i : Nat) (x : Pan) : (s.setPan i x).trust = s.trust := rfl
@[simp] theorem State.setPan_legend (s : State) (i : Nat) (x : Pan) : (s.setPan i x).legend = s.legend := rfl
@[simp] theorem State.setPan_events (s : State) (i : Nat) (x : Pan) : (s.setPan i x).events = s.events := rfl
@[simp] theorem State.setPan_contain (s : State) (i : Nat) (x : Pan) : (s.setPan i x).contain = s.contain := rfl
@[simp] theorem State.setPan_ports (s : State) (i : Nat) (x : Pan) : (s.setPan i x).ports = s.ports := rfl
@[simp] theorem State.setPan_sluice (s : State) (i : Nat) (x : Pan) : (s.setPan i x).sluice = s.sluice := rfl
@[simp] theorem State.setPan_cote (s : State) (i : Nat) (x : Pan) : (s.setPan i x).cote = s.cote := rfl
@[simp] theorem State.setPan_meridian (s : State) (i : Nat) (x : Pan) : (s.setPan i x).meridian = s.meridian := rfl
@[simp] theorem State.setPan_pans (s : State) (i : Nat) (x : Pan) : (s.setPan i x).pans = AMap.put s.pans i x := rfl
@[simp] theorem State.setPan_threads (s : State) (i : Nat) (x : Pan) : (s.setPan i x).threads = s.threads := rfl
@[simp] theorem State.setPan_gaz (s : State) (i : Nat) (x : Pan) : (s.setPan i x).gaz = s.gaz := rfl
@[simp] theorem State.setPan_dram (s : State) (i : Nat) (x : Pan) : (s.setPan i x).dram = s.dram := rfl
@[simp] theorem State.setPan_stk (s : State) (i : Nat) (x : Pan) : (s.setPan i x).stk = s.stk := rfl
@[simp] theorem State.setPan_host (s : State) (i : Nat) (x : Pan) : (s.setPan i x).host = s.host := rfl
@[simp] theorem State.setPan_survey (s : State) (i : Nat) (x : Pan) : (s.setPan i x).survey = s.survey := rfl
@[simp] theorem State.setPan_digests (s : State) (i : Nat) (x : Pan) : (s.setPan i x).digests = s.digests := rfl
@[simp] theorem State.setPan_free (s : State) (i : Nat) (x : Pan) : (s.setPan i x).free = s.free := rfl
@[simp] theorem State.setPan_pending (s : State) (i : Nat) (x : Pan) : (s.setPan i x).pending = s.pending := rfl

@[simp] theorem State.setThread_ident (s : State) (i : Nat) (x : Thread) : (s.setThread i x).ident = s.ident := rfl
@[simp] theorem State.setThread_power (s : State) (i : Nat) (x : Thread) : (s.setThread i x).power = s.power := rfl
@[simp] theorem State.setThread_trust (s : State) (i : Nat) (x : Thread) : (s.setThread i x).trust = s.trust := rfl
@[simp] theorem State.setThread_legend (s : State) (i : Nat) (x : Thread) : (s.setThread i x).legend = s.legend := rfl
@[simp] theorem State.setThread_events (s : State) (i : Nat) (x : Thread) : (s.setThread i x).events = s.events := rfl
@[simp] theorem State.setThread_contain (s : State) (i : Nat) (x : Thread) : (s.setThread i x).contain = s.contain := rfl
@[simp] theorem State.setThread_ports (s : State) (i : Nat) (x : Thread) : (s.setThread i x).ports = s.ports := rfl
@[simp] theorem State.setThread_sluice (s : State) (i : Nat) (x : Thread) : (s.setThread i x).sluice = s.sluice := rfl
@[simp] theorem State.setThread_cote (s : State) (i : Nat) (x : Thread) : (s.setThread i x).cote = s.cote := rfl
@[simp] theorem State.setThread_meridian (s : State) (i : Nat) (x : Thread) : (s.setThread i x).meridian = s.meridian := rfl
@[simp] theorem State.setThread_pans (s : State) (i : Nat) (x : Thread) : (s.setThread i x).pans = s.pans := rfl
@[simp] theorem State.setThread_threads (s : State) (i : Nat) (x : Thread) : (s.setThread i x).threads = AMap.put s.threads i x := rfl
@[simp] theorem State.setThread_gaz (s : State) (i : Nat) (x : Thread) : (s.setThread i x).gaz = s.gaz := rfl
@[simp] theorem State.setThread_dram (s : State) (i : Nat) (x : Thread) : (s.setThread i x).dram = s.dram := rfl
@[simp] theorem State.setThread_stk (s : State) (i : Nat) (x : Thread) : (s.setThread i x).stk = s.stk := rfl
@[simp] theorem State.setThread_host (s : State) (i : Nat) (x : Thread) : (s.setThread i x).host = s.host := rfl
@[simp] theorem State.setThread_survey (s : State) (i : Nat) (x : Thread) : (s.setThread i x).survey = s.survey := rfl
@[simp] theorem State.setThread_digests (s : State) (i : Nat) (x : Thread) : (s.setThread i x).digests = s.digests := rfl
@[simp] theorem State.setThread_free (s : State) (i : Nat) (x : Thread) : (s.setThread i x).free = s.free := rfl
@[simp] theorem State.setThread_pending (s : State) (i : Nat) (x : Thread) : (s.setThread i x).pending = s.pending := rfl

@[simp] theorem State.setCtx_ident (s : State) (i : Nat) (x : Ctx) : (s.setCtx i x).ident = s.ident := rfl
@[simp] theorem State.setCtx_power (s : State) (i : Nat) (x : Ctx) : (s.setCtx i x).power = s.power := rfl
@[simp] theorem State.setCtx_trust (s : State) (i : Nat) (x : Ctx) : (s.setCtx i x).trust = s.trust := rfl
@[simp] theorem State.setCtx_legend (s : State) (i : Nat) (x : Ctx) : (s.setCtx i x).legend = s.legend := rfl
@[simp] theorem State.setCtx_events (s : State) (i : Nat) (x : Ctx) : (s.setCtx i x).events = s.events := rfl
@[simp] theorem State.setCtx_contain (s : State) (i : Nat) (x : Ctx) : (s.setCtx i x).contain = s.contain := rfl
@[simp] theorem State.setCtx_ports (s : State) (i : Nat) (x : Ctx) : (s.setCtx i x).ports = s.ports := rfl
@[simp] theorem State.setCtx_sluice (s : State) (i : Nat) (x : Ctx) : (s.setCtx i x).sluice = s.sluice := rfl
@[simp] theorem State.setCtx_cote (s : State) (i : Nat) (x : Ctx) : (s.setCtx i x).cote = s.cote := rfl
@[simp] theorem State.setCtx_meridian (s : State) (i : Nat) (x : Ctx) : (s.setCtx i x).meridian = { s.meridian with ctxs := AMap.put s.meridian.ctxs i x } := rfl
@[simp] theorem State.setCtx_pans (s : State) (i : Nat) (x : Ctx) : (s.setCtx i x).pans = s.pans := rfl
@[simp] theorem State.setCtx_threads (s : State) (i : Nat) (x : Ctx) : (s.setCtx i x).threads = s.threads := rfl
@[simp] theorem State.setCtx_gaz (s : State) (i : Nat) (x : Ctx) : (s.setCtx i x).gaz = s.gaz := rfl
@[simp] theorem State.setCtx_dram (s : State) (i : Nat) (x : Ctx) : (s.setCtx i x).dram = s.dram := rfl
@[simp] theorem State.setCtx_stk (s : State) (i : Nat) (x : Ctx) : (s.setCtx i x).stk = s.stk := rfl
@[simp] theorem State.setCtx_host (s : State) (i : Nat) (x : Ctx) : (s.setCtx i x).host = s.host := rfl
@[simp] theorem State.setCtx_survey (s : State) (i : Nat) (x : Ctx) : (s.setCtx i x).survey = s.survey := rfl
@[simp] theorem State.setCtx_digests (s : State) (i : Nat) (x : Ctx) : (s.setCtx i x).digests = s.digests := rfl
@[simp] theorem State.setCtx_free (s : State) (i : Nat) (x : Ctx) : (s.setCtx i x).free = s.free := rfl
@[simp] theorem State.setCtx_pending (s : State) (i : Nat) (x : Ctx) : (s.setCtx i x).pending = s.pending := rfl

@[simp] theorem State.setDom_ident (s : State) (i : Nat) (x : Domain) : (s.setDom i x).ident = s.ident := rfl
@[simp] theorem State.setDom_power (s : State) (i : Nat) (x : Domain) : (s.setDom i x).power = s.power := rfl
@[simp] theorem State.setDom_trust (s : State) (i : Nat) (x : Domain) : (s.setDom i x).trust = s.trust := rfl
@[simp] theorem State.setDom_legend (s : State) (i : Nat) (x : Domain) : (s.setDom i x).legend = s.legend := rfl
@[simp] theorem State.setDom_events (s : State) (i : Nat) (x : Domain) : (s.setDom i x).events = s.events := rfl
@[simp] theorem State.setDom_contain (s : State) (i : Nat) (x : Domain) : (s.setDom i x).contain = s.contain := rfl
@[simp] theorem State.setDom_ports (s : State) (i : Nat) (x : Domain) : (s.setDom i x).ports = s.ports := rfl
@[simp] theorem State.setDom_sluice (s : State) (i : Nat) (x : Domain) : (s.setDom i x).sluice = s.sluice := rfl
@[simp] theorem State.setDom_cote (s : State) (i : Nat) (x : Domain) : (s.setDom i x).cote = s.cote := rfl
@[simp] theorem State.setDom_meridian (s : State) (i : Nat) (x : Domain) : (s.setDom i x).meridian = { s.meridian with domains := AMap.put s.meridian.domains i x } := rfl
@[simp] theorem State.setDom_pans (s : State) (i : Nat) (x : Domain) : (s.setDom i x).pans = s.pans := rfl
@[simp] theorem State.setDom_threads (s : State) (i : Nat) (x : Domain) : (s.setDom i x).threads = s.threads := rfl
@[simp] theorem State.setDom_gaz (s : State) (i : Nat) (x : Domain) : (s.setDom i x).gaz = s.gaz := rfl
@[simp] theorem State.setDom_dram (s : State) (i : Nat) (x : Domain) : (s.setDom i x).dram = s.dram := rfl
@[simp] theorem State.setDom_stk (s : State) (i : Nat) (x : Domain) : (s.setDom i x).stk = s.stk := rfl
@[simp] theorem State.setDom_host (s : State) (i : Nat) (x : Domain) : (s.setDom i x).host = s.host := rfl
@[simp] theorem State.setDom_survey (s : State) (i : Nat) (x : Domain) : (s.setDom i x).survey = s.survey := rfl
@[simp] theorem State.setDom_digests (s : State) (i : Nat) (x : Domain) : (s.setDom i x).digests = s.digests := rfl
@[simp] theorem State.setDom_free (s : State) (i : Nat) (x : Domain) : (s.setDom i x).free = s.free := rfl
@[simp] theorem State.setDom_pending (s : State) (i : Nat) (x : Domain) : (s.setDom i x).pending = s.pending := rfl

@[simp] theorem State.setSlot_ident (s : State) (i : Nat) (x : Slot) : (s.setSlot i x).ident = s.ident := rfl
@[simp] theorem State.setSlot_power (s : State) (i : Nat) (x : Slot) : (s.setSlot i x).power = s.power := rfl
@[simp] theorem State.setSlot_trust (s : State) (i : Nat) (x : Slot) : (s.setSlot i x).trust = { s.trust with slots := AMap.put s.trust.slots i x } := rfl
@[simp] theorem State.setSlot_legend (s : State) (i : Nat) (x : Slot) : (s.setSlot i x).legend = s.legend := rfl
@[simp] theorem State.setSlot_events (s : State) (i : Nat) (x : Slot) : (s.setSlot i x).events = s.events := rfl
@[simp] theorem State.setSlot_contain (s : State) (i : Nat) (x : Slot) : (s.setSlot i x).contain = s.contain := rfl
@[simp] theorem State.setSlot_ports (s : State) (i : Nat) (x : Slot) : (s.setSlot i x).ports = s.ports := rfl
@[simp] theorem State.setSlot_sluice (s : State) (i : Nat) (x : Slot) : (s.setSlot i x).sluice = s.sluice := rfl
@[simp] theorem State.setSlot_cote (s : State) (i : Nat) (x : Slot) : (s.setSlot i x).cote = s.cote := rfl
@[simp] theorem State.setSlot_meridian (s : State) (i : Nat) (x : Slot) : (s.setSlot i x).meridian = s.meridian := rfl
@[simp] theorem State.setSlot_pans (s : State) (i : Nat) (x : Slot) : (s.setSlot i x).pans = s.pans := rfl
@[simp] theorem State.setSlot_threads (s : State) (i : Nat) (x : Slot) : (s.setSlot i x).threads = s.threads := rfl
@[simp] theorem State.setSlot_gaz (s : State) (i : Nat) (x : Slot) : (s.setSlot i x).gaz = s.gaz := rfl
@[simp] theorem State.setSlot_dram (s : State) (i : Nat) (x : Slot) : (s.setSlot i x).dram = s.dram := rfl
@[simp] theorem State.setSlot_stk (s : State) (i : Nat) (x : Slot) : (s.setSlot i x).stk = s.stk := rfl
@[simp] theorem State.setSlot_host (s : State) (i : Nat) (x : Slot) : (s.setSlot i x).host = s.host := rfl
@[simp] theorem State.setSlot_survey (s : State) (i : Nat) (x : Slot) : (s.setSlot i x).survey = s.survey := rfl
@[simp] theorem State.setSlot_digests (s : State) (i : Nat) (x : Slot) : (s.setSlot i x).digests = s.digests := rfl
@[simp] theorem State.setSlot_free (s : State) (i : Nat) (x : Slot) : (s.setSlot i x).free = s.free := rfl
@[simp] theorem State.setSlot_pending (s : State) (i : Nat) (x : Slot) : (s.setSlot i x).pending = s.pending := rfl

@[simp] theorem State.setRing_ident (s : State) (i : Nat) (x : Ring) : (s.setRing i x).ident = s.ident := rfl
@[simp] theorem State.setRing_power (s : State) (i : Nat) (x : Ring) : (s.setRing i x).power = s.power := rfl
@[simp] theorem State.setRing_trust (s : State) (i : Nat) (x : Ring) : (s.setRing i x).trust = s.trust := rfl
@[simp] theorem State.setRing_legend (s : State) (i : Nat) (x : Ring) : (s.setRing i x).legend = s.legend := rfl
@[simp] theorem State.setRing_events (s : State) (i : Nat) (x : Ring) : (s.setRing i x).events = s.events := rfl
@[simp] theorem State.setRing_contain (s : State) (i : Nat) (x : Ring) : (s.setRing i x).contain = s.contain := rfl
@[simp] theorem State.setRing_ports (s : State) (i : Nat) (x : Ring) : (s.setRing i x).ports = s.ports := rfl
@[simp] theorem State.setRing_sluice (s : State) (i : Nat) (x : Ring) : (s.setRing i x).sluice = s.sluice := rfl
@[simp] theorem State.setRing_cote (s : State) (i : Nat) (x : Ring) : (s.setRing i x).cote = s.cote := rfl
@[simp] theorem State.setRing_meridian (s : State) (i : Nat) (x : Ring) : (s.setRing i x).meridian = s.meridian := rfl
@[simp] theorem State.setRing_pans (s : State) (i : Nat) (x : Ring) : (s.setRing i x).pans = s.pans := rfl
@[simp] theorem State.setRing_threads (s : State) (i : Nat) (x : Ring) : (s.setRing i x).threads = s.threads := rfl
@[simp] theorem State.setRing_gaz (s : State) (i : Nat) (x : Ring) : (s.setRing i x).gaz = s.gaz := rfl
@[simp] theorem State.setRing_dram (s : State) (i : Nat) (x : Ring) : (s.setRing i x).dram = s.dram := rfl
@[simp] theorem State.setRing_stk (s : State) (i : Nat) (x : Ring) : (s.setRing i x).stk = { s.stk with rings := AMap.put s.stk.rings i x } := rfl
@[simp] theorem State.setRing_host (s : State) (i : Nat) (x : Ring) : (s.setRing i x).host = s.host := rfl
@[simp] theorem State.setRing_survey (s : State) (i : Nat) (x : Ring) : (s.setRing i x).survey = s.survey := rfl
@[simp] theorem State.setRing_digests (s : State) (i : Nat) (x : Ring) : (s.setRing i x).digests = s.digests := rfl
@[simp] theorem State.setRing_free (s : State) (i : Nat) (x : Ring) : (s.setRing i x).free = s.free := rfl
@[simp] theorem State.setRing_pending (s : State) (i : Nat) (x : Ring) : (s.setRing i x).pending = s.pending := rfl

@[simp] theorem State.setLport_ident (s : State) (i : Nat) (x : LPort) : (s.setLport i x).ident = s.ident := rfl
@[simp] theorem State.setLport_power (s : State) (i : Nat) (x : LPort) : (s.setLport i x).power = s.power := rfl
@[simp] theorem State.setLport_trust (s : State) (i : Nat) (x : LPort) : (s.setLport i x).trust = s.trust := rfl
@[simp] theorem State.setLport_legend (s : State) (i : Nat) (x : LPort) : (s.setLport i x).legend = s.legend := rfl
@[simp] theorem State.setLport_events (s : State) (i : Nat) (x : LPort) : (s.setLport i x).events = s.events := rfl
@[simp] theorem State.setLport_contain (s : State) (i : Nat) (x : LPort) : (s.setLport i x).contain = s.contain := rfl
@[simp] theorem State.setLport_sluice (s : State) (i : Nat) (x : LPort) : (s.setLport i x).sluice = s.sluice := rfl
@[simp] theorem State.setLport_cote (s : State) (i : Nat) (x : LPort) : (s.setLport i x).cote = s.cote := rfl
@[simp] theorem State.setLport_meridian (s : State) (i : Nat) (x : LPort) : (s.setLport i x).meridian = s.meridian := rfl
@[simp] theorem State.setLport_pans (s : State) (i : Nat) (x : LPort) : (s.setLport i x).pans = s.pans := rfl
@[simp] theorem State.setLport_threads (s : State) (i : Nat) (x : LPort) : (s.setLport i x).threads = s.threads := rfl
@[simp] theorem State.setLport_gaz (s : State) (i : Nat) (x : LPort) : (s.setLport i x).gaz = s.gaz := rfl
@[simp] theorem State.setLport_dram (s : State) (i : Nat) (x : LPort) : (s.setLport i x).dram = s.dram := rfl
@[simp] theorem State.setLport_stk (s : State) (i : Nat) (x : LPort) : (s.setLport i x).stk = s.stk := rfl
@[simp] theorem State.setLport_host (s : State) (i : Nat) (x : LPort) : (s.setLport i x).host = s.host := rfl
@[simp] theorem State.setLport_survey (s : State) (i : Nat) (x : LPort) : (s.setLport i x).survey = s.survey := rfl
@[simp] theorem State.setLport_digests (s : State) (i : Nat) (x : LPort) : (s.setLport i x).digests = s.digests := rfl
@[simp] theorem State.setLport_free (s : State) (i : Nat) (x : LPort) : (s.setLport i x).free = s.free := rfl
@[simp] theorem State.setLport_pending (s : State) (i : Nat) (x : LPort) : (s.setLport i x).pending = s.pending := rfl

@[simp] theorem State.setEngine_ident (s : State) (i : Nat) (x : Engine) : (s.setEngine i x).ident = s.ident := rfl
@[simp] theorem State.setEngine_power (s : State) (i : Nat) (x : Engine) : (s.setEngine i x).power = s.power := rfl
@[simp] theorem State.setEngine_trust (s : State) (i : Nat) (x : Engine) : (s.setEngine i x).trust = s.trust := rfl
@[simp] theorem State.setEngine_legend (s : State) (i : Nat) (x : Engine) : (s.setEngine i x).legend = s.legend := rfl
@[simp] theorem State.setEngine_events (s : State) (i : Nat) (x : Engine) : (s.setEngine i x).events = s.events := rfl
@[simp] theorem State.setEngine_contain (s : State) (i : Nat) (x : Engine) : (s.setEngine i x).contain = s.contain := rfl
@[simp] theorem State.setEngine_ports (s : State) (i : Nat) (x : Engine) : (s.setEngine i x).ports = { s.ports with engines := AMap.put s.ports.engines i x } := rfl
@[simp] theorem State.setEngine_sluice (s : State) (i : Nat) (x : Engine) : (s.setEngine i x).sluice = s.sluice := rfl
@[simp] theorem State.setEngine_cote (s : State) (i : Nat) (x : Engine) : (s.setEngine i x).cote = s.cote := rfl
@[simp] theorem State.setEngine_meridian (s : State) (i : Nat) (x : Engine) : (s.setEngine i x).meridian = s.meridian := rfl
@[simp] theorem State.setEngine_pans (s : State) (i : Nat) (x : Engine) : (s.setEngine i x).pans = s.pans := rfl
@[simp] theorem State.setEngine_threads (s : State) (i : Nat) (x : Engine) : (s.setEngine i x).threads = s.threads := rfl
@[simp] theorem State.setEngine_gaz (s : State) (i : Nat) (x : Engine) : (s.setEngine i x).gaz = s.gaz := rfl
@[simp] theorem State.setEngine_dram (s : State) (i : Nat) (x : Engine) : (s.setEngine i x).dram = s.dram := rfl
@[simp] theorem State.setEngine_stk (s : State) (i : Nat) (x : Engine) : (s.setEngine i x).stk = s.stk := rfl
@[simp] theorem State.setEngine_host (s : State) (i : Nat) (x : Engine) : (s.setEngine i x).host = s.host := rfl
@[simp] theorem State.setEngine_survey (s : State) (i : Nat) (x : Engine) : (s.setEngine i x).survey = s.survey := rfl
@[simp] theorem State.setEngine_digests (s : State) (i : Nat) (x : Engine) : (s.setEngine i x).digests = s.digests := rfl
@[simp] theorem State.setEngine_free (s : State) (i : Nat) (x : Engine) : (s.setEngine i x).free = s.free := rfl
@[simp] theorem State.setEngine_pending (s : State) (i : Nat) (x : Engine) : (s.setEngine i x).pending = s.pending := rfl

@[simp] theorem State.setLane_ident (s : State) (i : Nat) (x : Lane) : (s.setLane i x).ident = s.ident := rfl
@[simp] theorem State.setLane_power (s : State) (i : Nat) (x : Lane) : (s.setLane i x).power = s.power := rfl
@[simp] theorem State.setLane_trust (s : State) (i : Nat) (x : Lane) : (s.setLane i x).trust = s.trust := rfl
@[simp] theorem State.setLane_legend (s : State) (i : Nat) (x : Lane) : (s.setLane i x).legend = s.legend := rfl
@[simp] theorem State.setLane_events (s : State) (i : Nat) (x : Lane) : (s.setLane i x).events = s.events := rfl
@[simp] theorem State.setLane_contain (s : State) (i : Nat) (x : Lane) : (s.setLane i x).contain = s.contain := rfl
@[simp] theorem State.setLane_ports (s : State) (i : Nat) (x : Lane) : (s.setLane i x).ports = { s.ports with lanes := AMap.put s.ports.lanes i x } := rfl
@[simp] theorem State.setLane_sluice (s : State) (i : Nat) (x : Lane) : (s.setLane i x).sluice = s.sluice := rfl
@[simp] theorem State.setLane_cote (s : State) (i : Nat) (x : Lane) : (s.setLane i x).cote = s.cote := rfl
@[simp] theorem State.setLane_meridian (s : State) (i : Nat) (x : Lane) : (s.setLane i x).meridian = s.meridian := rfl
@[simp] theorem State.setLane_pans (s : State) (i : Nat) (x : Lane) : (s.setLane i x).pans = s.pans := rfl
@[simp] theorem State.setLane_threads (s : State) (i : Nat) (x : Lane) : (s.setLane i x).threads = s.threads := rfl
@[simp] theorem State.setLane_gaz (s : State) (i : Nat) (x : Lane) : (s.setLane i x).gaz = s.gaz := rfl
@[simp] theorem State.setLane_dram (s : State) (i : Nat) (x : Lane) : (s.setLane i x).dram = s.dram := rfl
@[simp] theorem State.setLane_stk (s : State) (i : Nat) (x : Lane) : (s.setLane i x).stk = s.stk := rfl
@[simp] theorem State.setLane_host (s : State) (i : Nat) (x : Lane) : (s.setLane i x).host = s.host := rfl
@[simp] theorem State.setLane_survey (s : State) (i : Nat) (x : Lane) : (s.setLane i x).survey = s.survey := rfl
@[simp] theorem State.setLane_digests (s : State) (i : Nat) (x : Lane) : (s.setLane i x).digests = s.digests := rfl
@[simp] theorem State.setLane_free (s : State) (i : Nat) (x : Lane) : (s.setLane i x).free = s.free := rfl
@[simp] theorem State.setLane_pending (s : State) (i : Nat) (x : Lane) : (s.setLane i x).pending = s.pending := rfl

@[simp] theorem State.setFunc_ident (s : State) (i : Nat) (x : HFunc) : (s.setFunc i x).ident = s.ident := rfl
@[simp] theorem State.setFunc_power (s : State) (i : Nat) (x : HFunc) : (s.setFunc i x).power = s.power := rfl
@[simp] theorem State.setFunc_trust (s : State) (i : Nat) (x : HFunc) : (s.setFunc i x).trust = s.trust := rfl
@[simp] theorem State.setFunc_legend (s : State) (i : Nat) (x : HFunc) : (s.setFunc i x).legend = s.legend := rfl
@[simp] theorem State.setFunc_events (s : State) (i : Nat) (x : HFunc) : (s.setFunc i x).events = s.events := rfl
@[simp] theorem State.setFunc_contain (s : State) (i : Nat) (x : HFunc) : (s.setFunc i x).contain = s.contain := rfl
@[simp] theorem State.setFunc_ports (s : State) (i : Nat) (x : HFunc) : (s.setFunc i x).ports = s.ports := rfl
@[simp] theorem State.setFunc_sluice (s : State) (i : Nat) (x : HFunc) : (s.setFunc i x).sluice = s.sluice := rfl
@[simp] theorem State.setFunc_cote (s : State) (i : Nat) (x : HFunc) : (s.setFunc i x).cote = s.cote := rfl
@[simp] theorem State.setFunc_meridian (s : State) (i : Nat) (x : HFunc) : (s.setFunc i x).meridian = s.meridian := rfl
@[simp] theorem State.setFunc_pans (s : State) (i : Nat) (x : HFunc) : (s.setFunc i x).pans = s.pans := rfl
@[simp] theorem State.setFunc_threads (s : State) (i : Nat) (x : HFunc) : (s.setFunc i x).threads = s.threads := rfl
@[simp] theorem State.setFunc_gaz (s : State) (i : Nat) (x : HFunc) : (s.setFunc i x).gaz = s.gaz := rfl
@[simp] theorem State.setFunc_dram (s : State) (i : Nat) (x : HFunc) : (s.setFunc i x).dram = s.dram := rfl
@[simp] theorem State.setFunc_stk (s : State) (i : Nat) (x : HFunc) : (s.setFunc i x).stk = s.stk := rfl
@[simp] theorem State.setFunc_survey (s : State) (i : Nat) (x : HFunc) : (s.setFunc i x).survey = s.survey := rfl
@[simp] theorem State.setFunc_digests (s : State) (i : Nat) (x : HFunc) : (s.setFunc i x).digests = s.digests := rfl
@[simp] theorem State.setFunc_free (s : State) (i : Nat) (x : HFunc) : (s.setFunc i x).free = s.free := rfl
@[simp] theorem State.setFunc_pending (s : State) (i : Nat) (x : HFunc) : (s.setFunc i x).pending = s.pending := rfl

@[simp] theorem State.setLink_ident (s : State) (i : Nat) (x : HLink) : (s.setLink i x).ident = s.ident := rfl
@[simp] theorem State.setLink_power (s : State) (i : Nat) (x : HLink) : (s.setLink i x).power = s.power := rfl
@[simp] theorem State.setLink_trust (s : State) (i : Nat) (x : HLink) : (s.setLink i x).trust = s.trust := rfl
@[simp] theorem State.setLink_legend (s : State) (i : Nat) (x : HLink) : (s.setLink i x).legend = s.legend := rfl
@[simp] theorem State.setLink_events (s : State) (i : Nat) (x : HLink) : (s.setLink i x).events = s.events := rfl
@[simp] theorem State.setLink_contain (s : State) (i : Nat) (x : HLink) : (s.setLink i x).contain = s.contain := rfl
@[simp] theorem State.setLink_ports (s : State) (i : Nat) (x : HLink) : (s.setLink i x).ports = s.ports := rfl
@[simp] theorem State.setLink_sluice (s : State) (i : Nat) (x : HLink) : (s.setLink i x).sluice = s.sluice := rfl
@[simp] theorem State.setLink_cote (s : State) (i : Nat) (x : HLink) : (s.setLink i x).cote = s.cote := rfl
@[simp] theorem State.setLink_meridian (s : State) (i : Nat) (x : HLink) : (s.setLink i x).meridian = s.meridian := rfl
@[simp] theorem State.setLink_pans (s : State) (i : Nat) (x : HLink) : (s.setLink i x).pans = s.pans := rfl
@[simp] theorem State.setLink_threads (s : State) (i : Nat) (x : HLink) : (s.setLink i x).threads = s.threads := rfl
@[simp] theorem State.setLink_gaz (s : State) (i : Nat) (x : HLink) : (s.setLink i x).gaz = s.gaz := rfl
@[simp] theorem State.setLink_dram (s : State) (i : Nat) (x : HLink) : (s.setLink i x).dram = s.dram := rfl
@[simp] theorem State.setLink_stk (s : State) (i : Nat) (x : HLink) : (s.setLink i x).stk = s.stk := rfl
@[simp] theorem State.setLink_survey (s : State) (i : Nat) (x : HLink) : (s.setLink i x).survey = s.survey := rfl
@[simp] theorem State.setLink_digests (s : State) (i : Nat) (x : HLink) : (s.setLink i x).digests = s.digests := rfl
@[simp] theorem State.setLink_free (s : State) (i : Nat) (x : HLink) : (s.setLink i x).free = s.free := rfl
@[simp] theorem State.setLink_pending (s : State) (i : Nat) (x : HLink) : (s.setLink i x).pending = s.pending := rfl

@[simp] theorem State.setUsb_ident (s : State) (i : Nat) (x : UIface) : (s.setUsb i x).ident = s.ident := rfl
@[simp] theorem State.setUsb_power (s : State) (i : Nat) (x : UIface) : (s.setUsb i x).power = s.power := rfl
@[simp] theorem State.setUsb_trust (s : State) (i : Nat) (x : UIface) : (s.setUsb i x).trust = s.trust := rfl
@[simp] theorem State.setUsb_legend (s : State) (i : Nat) (x : UIface) : (s.setUsb i x).legend = s.legend := rfl
@[simp] theorem State.setUsb_events (s : State) (i : Nat) (x : UIface) : (s.setUsb i x).events = s.events := rfl
@[simp] theorem State.setUsb_contain (s : State) (i : Nat) (x : UIface) : (s.setUsb i x).contain = s.contain := rfl
@[simp] theorem State.setUsb_ports (s : State) (i : Nat) (x : UIface) : (s.setUsb i x).ports = s.ports := rfl
@[simp] theorem State.setUsb_sluice (s : State) (i : Nat) (x : UIface) : (s.setUsb i x).sluice = s.sluice := rfl
@[simp] theorem State.setUsb_cote (s : State) (i : Nat) (x : UIface) : (s.setUsb i x).cote = s.cote := rfl
@[simp] theorem State.setUsb_meridian (s : State) (i : Nat) (x : UIface) : (s.setUsb i x).meridian = s.meridian := rfl
@[simp] theorem State.setUsb_pans (s : State) (i : Nat) (x : UIface) : (s.setUsb i x).pans = s.pans := rfl
@[simp] theorem State.setUsb_threads (s : State) (i : Nat) (x : UIface) : (s.setUsb i x).threads = s.threads := rfl
@[simp] theorem State.setUsb_gaz (s : State) (i : Nat) (x : UIface) : (s.setUsb i x).gaz = s.gaz := rfl
@[simp] theorem State.setUsb_dram (s : State) (i : Nat) (x : UIface) : (s.setUsb i x).dram = s.dram := rfl
@[simp] theorem State.setUsb_stk (s : State) (i : Nat) (x : UIface) : (s.setUsb i x).stk = s.stk := rfl
@[simp] theorem State.setUsb_survey (s : State) (i : Nat) (x : UIface) : (s.setUsb i x).survey = s.survey := rfl
@[simp] theorem State.setUsb_digests (s : State) (i : Nat) (x : UIface) : (s.setUsb i x).digests = s.digests := rfl
@[simp] theorem State.setUsb_free (s : State) (i : Nat) (x : UIface) : (s.setUsb i x).free = s.free := rfl
@[simp] theorem State.setUsb_pending (s : State) (i : Nat) (x : UIface) : (s.setUsb i x).pending = s.pending := rfl

@[simp] theorem State.setSvyQueue_ident (s : State) (i : Nat) (x : SvyQueue) : (s.setSvyQueue i x).ident = s.ident := rfl
@[simp] theorem State.setSvyQueue_power (s : State) (i : Nat) (x : SvyQueue) : (s.setSvyQueue i x).power = s.power := rfl
@[simp] theorem State.setSvyQueue_trust (s : State) (i : Nat) (x : SvyQueue) : (s.setSvyQueue i x).trust = s.trust := rfl
@[simp] theorem State.setSvyQueue_legend (s : State) (i : Nat) (x : SvyQueue) : (s.setSvyQueue i x).legend = s.legend := rfl
@[simp] theorem State.setSvyQueue_events (s : State) (i : Nat) (x : SvyQueue) : (s.setSvyQueue i x).events = s.events := rfl
@[simp] theorem State.setSvyQueue_contain (s : State) (i : Nat) (x : SvyQueue) : (s.setSvyQueue i x).contain = s.contain := rfl
@[simp] theorem State.setSvyQueue_ports (s : State) (i : Nat) (x : SvyQueue) : (s.setSvyQueue i x).ports = s.ports := rfl
@[simp] theorem State.setSvyQueue_sluice (s : State) (i : Nat) (x : SvyQueue) : (s.setSvyQueue i x).sluice = s.sluice := rfl
@[simp] theorem State.setSvyQueue_cote (s : State) (i : Nat) (x : SvyQueue) : (s.setSvyQueue i x).cote = s.cote := rfl
@[simp] theorem State.setSvyQueue_meridian (s : State) (i : Nat) (x : SvyQueue) : (s.setSvyQueue i x).meridian = s.meridian := rfl
@[simp] theorem State.setSvyQueue_pans (s : State) (i : Nat) (x : SvyQueue) : (s.setSvyQueue i x).pans = s.pans := rfl
@[simp] theorem State.setSvyQueue_threads (s : State) (i : Nat) (x : SvyQueue) : (s.setSvyQueue i x).threads = s.threads := rfl
@[simp] theorem State.setSvyQueue_gaz (s : State) (i : Nat) (x : SvyQueue) : (s.setSvyQueue i x).gaz = s.gaz := rfl
@[simp] theorem State.setSvyQueue_dram (s : State) (i : Nat) (x : SvyQueue) : (s.setSvyQueue i x).dram = s.dram := rfl
@[simp] theorem State.setSvyQueue_stk (s : State) (i : Nat) (x : SvyQueue) : (s.setSvyQueue i x).stk = s.stk := rfl
@[simp] theorem State.setSvyQueue_host (s : State) (i : Nat) (x : SvyQueue) : (s.setSvyQueue i x).host = s.host := rfl
@[simp] theorem State.setSvyQueue_digests (s : State) (i : Nat) (x : SvyQueue) : (s.setSvyQueue i x).digests = s.digests := rfl
@[simp] theorem State.setSvyQueue_free (s : State) (i : Nat) (x : SvyQueue) : (s.setSvyQueue i x).free = s.free := rfl
@[simp] theorem State.setSvyQueue_pending (s : State) (i : Nat) (x : SvyQueue) : (s.setSvyQueue i x).pending = s.pending := rfl

@[simp] theorem State.setSvyAsm_ident (s : State) (i : Nat) (x : SvyAsm) : (s.setSvyAsm i x).ident = s.ident := rfl
@[simp] theorem State.setSvyAsm_power (s : State) (i : Nat) (x : SvyAsm) : (s.setSvyAsm i x).power = s.power := rfl
@[simp] theorem State.setSvyAsm_trust (s : State) (i : Nat) (x : SvyAsm) : (s.setSvyAsm i x).trust = s.trust := rfl
@[simp] theorem State.setSvyAsm_legend (s : State) (i : Nat) (x : SvyAsm) : (s.setSvyAsm i x).legend = s.legend := rfl
@[simp] theorem State.setSvyAsm_events (s : State) (i : Nat) (x : SvyAsm) : (s.setSvyAsm i x).events = s.events := rfl
@[simp] theorem State.setSvyAsm_contain (s : State) (i : Nat) (x : SvyAsm) : (s.setSvyAsm i x).contain = s.contain := rfl
@[simp] theorem State.setSvyAsm_ports (s : State) (i : Nat) (x : SvyAsm) : (s.setSvyAsm i x).ports = s.ports := rfl
@[simp] theorem State.setSvyAsm_sluice (s : State) (i : Nat) (x : SvyAsm) : (s.setSvyAsm i x).sluice = s.sluice := rfl
@[simp] theorem State.setSvyAsm_cote (s : State) (i : Nat) (x : SvyAsm) : (s.setSvyAsm i x).cote = s.cote := rfl
@[simp] theorem State.setSvyAsm_meridian (s : State) (i : Nat) (x : SvyAsm) : (s.setSvyAsm i x).meridian = s.meridian := rfl
@[simp] theorem State.setSvyAsm_pans (s : State) (i : Nat) (x : SvyAsm) : (s.setSvyAsm i x).pans = s.pans := rfl
@[simp] theorem State.setSvyAsm_threads (s : State) (i : Nat) (x : SvyAsm) : (s.setSvyAsm i x).threads = s.threads := rfl
@[simp] theorem State.setSvyAsm_gaz (s : State) (i : Nat) (x : SvyAsm) : (s.setSvyAsm i x).gaz = s.gaz := rfl
@[simp] theorem State.setSvyAsm_dram (s : State) (i : Nat) (x : SvyAsm) : (s.setSvyAsm i x).dram = s.dram := rfl
@[simp] theorem State.setSvyAsm_stk (s : State) (i : Nat) (x : SvyAsm) : (s.setSvyAsm i x).stk = s.stk := rfl
@[simp] theorem State.setSvyAsm_host (s : State) (i : Nat) (x : SvyAsm) : (s.setSvyAsm i x).host = s.host := rfl
@[simp] theorem State.setSvyAsm_digests (s : State) (i : Nat) (x : SvyAsm) : (s.setSvyAsm i x).digests = s.digests := rfl
@[simp] theorem State.setSvyAsm_free (s : State) (i : Nat) (x : SvyAsm) : (s.setSvyAsm i x).free = s.free := rfl
@[simp] theorem State.setSvyAsm_pending (s : State) (i : Nat) (x : SvyAsm) : (s.setSvyAsm i x).pending = s.pending := rfl

@[simp] theorem State.setSession_ident (s : State) (i : Nat) (x : Session) : (s.setSession i x).ident = s.ident := rfl
@[simp] theorem State.setSession_power (s : State) (i : Nat) (x : Session) : (s.setSession i x).power = s.power := rfl
@[simp] theorem State.setSession_trust (s : State) (i : Nat) (x : Session) : (s.setSession i x).trust = s.trust := rfl
@[simp] theorem State.setSession_legend (s : State) (i : Nat) (x : Session) : (s.setSession i x).legend = { s.legend with sessions := AMap.put s.legend.sessions i x } := rfl
@[simp] theorem State.setSession_events (s : State) (i : Nat) (x : Session) : (s.setSession i x).events = s.events := rfl
@[simp] theorem State.setSession_contain (s : State) (i : Nat) (x : Session) : (s.setSession i x).contain = s.contain := rfl
@[simp] theorem State.setSession_ports (s : State) (i : Nat) (x : Session) : (s.setSession i x).ports = s.ports := rfl
@[simp] theorem State.setSession_sluice (s : State) (i : Nat) (x : Session) : (s.setSession i x).sluice = s.sluice := rfl
@[simp] theorem State.setSession_cote (s : State) (i : Nat) (x : Session) : (s.setSession i x).cote = s.cote := rfl
@[simp] theorem State.setSession_meridian (s : State) (i : Nat) (x : Session) : (s.setSession i x).meridian = s.meridian := rfl
@[simp] theorem State.setSession_pans (s : State) (i : Nat) (x : Session) : (s.setSession i x).pans = s.pans := rfl
@[simp] theorem State.setSession_threads (s : State) (i : Nat) (x : Session) : (s.setSession i x).threads = s.threads := rfl
@[simp] theorem State.setSession_gaz (s : State) (i : Nat) (x : Session) : (s.setSession i x).gaz = s.gaz := rfl
@[simp] theorem State.setSession_dram (s : State) (i : Nat) (x : Session) : (s.setSession i x).dram = s.dram := rfl
@[simp] theorem State.setSession_stk (s : State) (i : Nat) (x : Session) : (s.setSession i x).stk = s.stk := rfl
@[simp] theorem State.setSession_host (s : State) (i : Nat) (x : Session) : (s.setSession i x).host = s.host := rfl
@[simp] theorem State.setSession_survey (s : State) (i : Nat) (x : Session) : (s.setSession i x).survey = s.survey := rfl
@[simp] theorem State.setSession_digests (s : State) (i : Nat) (x : Session) : (s.setSession i x).digests = s.digests := rfl
@[simp] theorem State.setSession_free (s : State) (i : Nat) (x : Session) : (s.setSession i x).free = s.free := rfl
@[simp] theorem State.setSession_pending (s : State) (i : Nat) (x : Session) : (s.setSession i x).pending = s.pending := rfl

@[simp] theorem State.setEntry_ident (s : State) (i : Nat) (x : Entry) : (s.setEntry i x).ident = s.ident := rfl
@[simp] theorem State.setEntry_power (s : State) (i : Nat) (x : Entry) : (s.setEntry i x).power = s.power := rfl
@[simp] theorem State.setEntry_trust (s : State) (i : Nat) (x : Entry) : (s.setEntry i x).trust = s.trust := rfl
@[simp] theorem State.setEntry_legend (s : State) (i : Nat) (x : Entry) : (s.setEntry i x).legend = { s.legend with flight := AMap.put s.legend.flight i x } := rfl
@[simp] theorem State.setEntry_events (s : State) (i : Nat) (x : Entry) : (s.setEntry i x).events = s.events := rfl
@[simp] theorem State.setEntry_contain (s : State) (i : Nat) (x : Entry) : (s.setEntry i x).contain = s.contain := rfl
@[simp] theorem State.setEntry_ports (s : State) (i : Nat) (x : Entry) : (s.setEntry i x).ports = s.ports := rfl
@[simp] theorem State.setEntry_sluice (s : State) (i : Nat) (x : Entry) : (s.setEntry i x).sluice = s.sluice := rfl
@[simp] theorem State.setEntry_cote (s : State) (i : Nat) (x : Entry) : (s.setEntry i x).cote = s.cote := rfl
@[simp] theorem State.setEntry_meridian (s : State) (i : Nat) (x : Entry) : (s.setEntry i x).meridian = s.meridian := rfl
@[simp] theorem State.setEntry_pans (s : State) (i : Nat) (x : Entry) : (s.setEntry i x).pans = s.pans := rfl
@[simp] theorem State.setEntry_threads (s : State) (i : Nat) (x : Entry) : (s.setEntry i x).threads = s.threads := rfl
@[simp] theorem State.setEntry_gaz (s : State) (i : Nat) (x : Entry) : (s.setEntry i x).gaz = s.gaz := rfl
@[simp] theorem State.setEntry_dram (s : State) (i : Nat) (x : Entry) : (s.setEntry i x).dram = s.dram := rfl
@[simp] theorem State.setEntry_stk (s : State) (i : Nat) (x : Entry) : (s.setEntry i x).stk = s.stk := rfl
@[simp] theorem State.setEntry_host (s : State) (i : Nat) (x : Entry) : (s.setEntry i x).host = s.host := rfl
@[simp] theorem State.setEntry_survey (s : State) (i : Nat) (x : Entry) : (s.setEntry i x).survey = s.survey := rfl
@[simp] theorem State.setEntry_digests (s : State) (i : Nat) (x : Entry) : (s.setEntry i x).digests = s.digests := rfl
@[simp] theorem State.setEntry_free (s : State) (i : Nat) (x : Entry) : (s.setEntry i x).free = s.free := rfl
@[simp] theorem State.setEntry_pending (s : State) (i : Nat) (x : Entry) : (s.setEntry i x).pending = s.pending := rfl

@[simp] theorem State.setTask_ident (s : State) (p i : Nat) (x : PTask) : (s.setTask p i x).ident = s.ident := rfl
@[simp] theorem State.setTask_power (s : State) (p i : Nat) (x : PTask) : (s.setTask p i x).power = s.power := rfl
@[simp] theorem State.setTask_trust (s : State) (p i : Nat) (x : PTask) : (s.setTask p i x).trust = s.trust := rfl
@[simp] theorem State.setTask_legend (s : State) (p i : Nat) (x : PTask) : (s.setTask p i x).legend = s.legend := rfl
@[simp] theorem State.setTask_events (s : State) (p i : Nat) (x : PTask) : (s.setTask p i x).events = s.events := rfl
@[simp] theorem State.setTask_contain (s : State) (p i : Nat) (x : PTask) : (s.setTask p i x).contain = s.contain := rfl
@[simp] theorem State.setTask_ports (s : State) (p i : Nat) (x : PTask) : (s.setTask p i x).ports = s.ports := rfl
@[simp] theorem State.setTask_sluice (s : State) (p i : Nat) (x : PTask) : (s.setTask p i x).sluice = s.sluice := rfl
@[simp] theorem State.setTask_cote (s : State) (p i : Nat) (x : PTask) : (s.setTask p i x).cote = s.cote := rfl
@[simp] theorem State.setTask_meridian (s : State) (p i : Nat) (x : PTask) : (s.setTask p i x).meridian = s.meridian := rfl
@[simp] theorem State.setTask_threads (s : State) (p i : Nat) (x : PTask) : (s.setTask p i x).threads = s.threads := rfl
@[simp] theorem State.setTask_gaz (s : State) (p i : Nat) (x : PTask) : (s.setTask p i x).gaz = s.gaz := rfl
@[simp] theorem State.setTask_dram (s : State) (p i : Nat) (x : PTask) : (s.setTask p i x).dram = s.dram := rfl
@[simp] theorem State.setTask_stk (s : State) (p i : Nat) (x : PTask) : (s.setTask p i x).stk = s.stk := rfl
@[simp] theorem State.setTask_host (s : State) (p i : Nat) (x : PTask) : (s.setTask p i x).host = s.host := rfl
@[simp] theorem State.setTask_survey (s : State) (p i : Nat) (x : PTask) : (s.setTask p i x).survey = s.survey := rfl
@[simp] theorem State.setTask_digests (s : State) (p i : Nat) (x : PTask) : (s.setTask p i x).digests = s.digests := rfl
@[simp] theorem State.setTask_free (s : State) (p i : Nat) (x : PTask) : (s.setTask p i x).free = s.free := rfl
@[simp] theorem State.setTask_pending (s : State) (p i : Nat) (x : PTask) : (s.setTask p i x).pending = s.pending := rfl

@[simp] theorem State.setQueue_ident (s : State) (p i : Nat) (x : EQueue) : (s.setQueue p i x).ident = s.ident := rfl
@[simp] theorem State.setQueue_power (s : State) (p i : Nat) (x : EQueue) : (s.setQueue p i x).power = s.power := rfl
@[simp] theorem State.setQueue_trust (s : State) (p i : Nat) (x : EQueue) : (s.setQueue p i x).trust = s.trust := rfl
@[simp] theorem State.setQueue_legend (s : State) (p i : Nat) (x : EQueue) : (s.setQueue p i x).legend = s.legend := rfl
@[simp] theorem State.setQueue_events (s : State) (p i : Nat) (x : EQueue) : (s.setQueue p i x).events = s.events := rfl
@[simp] theorem State.setQueue_contain (s : State) (p i : Nat) (x : EQueue) : (s.setQueue p i x).contain = s.contain := rfl
@[simp] theorem State.setQueue_sluice (s : State) (p i : Nat) (x : EQueue) : (s.setQueue p i x).sluice = s.sluice := rfl
@[simp] theorem State.setQueue_cote (s : State) (p i : Nat) (x : EQueue) : (s.setQueue p i x).cote = s.cote := rfl
@[simp] theorem State.setQueue_meridian (s : State) (p i : Nat) (x : EQueue) : (s.setQueue p i x).meridian = s.meridian := rfl
@[simp] theorem State.setQueue_pans (s : State) (p i : Nat) (x : EQueue) : (s.setQueue p i x).pans = s.pans := rfl
@[simp] theorem State.setQueue_threads (s : State) (p i : Nat) (x : EQueue) : (s.setQueue p i x).threads = s.threads := rfl
@[simp] theorem State.setQueue_gaz (s : State) (p i : Nat) (x : EQueue) : (s.setQueue p i x).gaz = s.gaz := rfl
@[simp] theorem State.setQueue_dram (s : State) (p i : Nat) (x : EQueue) : (s.setQueue p i x).dram = s.dram := rfl
@[simp] theorem State.setQueue_stk (s : State) (p i : Nat) (x : EQueue) : (s.setQueue p i x).stk = s.stk := rfl
@[simp] theorem State.setQueue_host (s : State) (p i : Nat) (x : EQueue) : (s.setQueue p i x).host = s.host := rfl
@[simp] theorem State.setQueue_survey (s : State) (p i : Nat) (x : EQueue) : (s.setQueue p i x).survey = s.survey := rfl
@[simp] theorem State.setQueue_digests (s : State) (p i : Nat) (x : EQueue) : (s.setQueue p i x).digests = s.digests := rfl
@[simp] theorem State.setQueue_free (s : State) (p i : Nat) (x : EQueue) : (s.setQueue p i x).free = s.free := rfl
@[simp] theorem State.setQueue_pending (s : State) (p i : Nat) (x : EQueue) : (s.setQueue p i x).pending = s.pending := rfl

end Sys2Proof.Machine
end

