-- ==== Sys2Proof/Laws/Ops.lean ====
section
/-! SUPPORT. What each shared operation of `Ops` can do: which field it writes, and that it leaves the rest. -/

namespace Sys2Proof.Machine

/-- `checked` answers a next state exactly where the units exist. -/
theorem checked_next {ok : Bool} {s t : State} : checked ok s = .next t ↔ ok = true ∧ t = s := by
  cases ok <;> simp [checked, eq_comm]

theorem checked_fault {ok : Bool} {s : State} {f : Fault} : checked ok s = .fault f ↔ ok = false ∧ f = .noSuchUnit := by
  cases ok <;> simp [checked, eq_comm]

@[simp] theorem checked_true (s : State) : checked true s = .next s := rfl
@[simp] theorem checked_false (s : State) : checked false s = .fault .noSuchUnit := rfl

/-- A statistics counter never falls, and never passes the largest value. -/
theorem Stat.bump_le (c : Stat) (n : Nat) (h : c.value ≤ statMax) : c.value ≤ (c.bump n).value ∧ (c.bump n).value ≤ statMax := by
  unfold Stat.bump; split <;> simp <;> omega

@[simp] theorem count_ident (s : State) (id n : Nat) : (count s id n).ident = s.ident := rfl
@[simp] theorem count_power (s : State) (id n : Nat) : (count s id n).power = s.power := rfl
@[simp] theorem count_trust (s : State) (id n : Nat) : (count s id n).trust = s.trust := rfl
@[simp] theorem count_legend (s : State) (id n : Nat) : (count s id n).legend = s.legend := rfl
@[simp] theorem count_contain (s : State) (id n : Nat) : (count s id n).contain = s.contain := rfl
@[simp] theorem count_ports (s : State) (id n : Nat) : (count s id n).ports = s.ports := rfl
@[simp] theorem count_sluice (s : State) (id n : Nat) : (count s id n).sluice = s.sluice := rfl
@[simp] theorem count_cote (s : State) (id n : Nat) : (count s id n).cote = s.cote := rfl
@[simp] theorem count_meridian (s : State) (id n : Nat) : (count s id n).meridian = s.meridian := rfl
@[simp] theorem count_pans (s : State) (id n : Nat) : (count s id n).pans = s.pans := rfl
@[simp] theorem count_gaz (s : State) (id n : Nat) : (count s id n).gaz = s.gaz := rfl
@[simp] theorem count_dram (s : State) (id n : Nat) : (count s id n).dram = s.dram := rfl
@[simp] theorem count_stk (s : State) (id n : Nat) : (count s id n).stk = s.stk := rfl
@[simp] theorem count_host (s : State) (id n : Nat) : (count s id n).host = s.host := rfl
@[simp] theorem count_survey (s : State) (id n : Nat) : (count s id n).survey = s.survey := rfl
@[simp] theorem count_digests (s : State) (id n : Nat) : (count s id n).digests = s.digests := rfl
@[simp] theorem count_free (s : State) (id n : Nat) : (count s id n).free = s.free := rfl
@[simp] theorem count_pending (s : State) (id n : Nat) : (count s id n).pending = s.pending := rfl

@[simp] theorem raise_ident (s : State) (a b c d : Nat) : (raise s a b c d).ident = s.ident := rfl
@[simp] theorem raise_power (s : State) (a b c d : Nat) : (raise s a b c d).power = s.power := rfl
@[simp] theorem raise_trust (s : State) (a b c d : Nat) : (raise s a b c d).trust = s.trust := rfl
@[simp] theorem raise_legend (s : State) (a b c d : Nat) : (raise s a b c d).legend = s.legend := rfl
@[simp] theorem raise_contain (s : State) (a b c d : Nat) : (raise s a b c d).contain = s.contain := rfl
@[simp] theorem raise_ports (s : State) (a b c d : Nat) : (raise s a b c d).ports = s.ports := rfl
@[simp] theorem raise_sluice (s : State) (a b c d : Nat) : (raise s a b c d).sluice = s.sluice := rfl
@[simp] theorem raise_cote (s : State) (a b c d : Nat) : (raise s a b c d).cote = s.cote := rfl
@[simp] theorem raise_meridian (s : State) (a b c d : Nat) : (raise s a b c d).meridian = s.meridian := rfl
@[simp] theorem raise_pans (s : State) (a b c d : Nat) : (raise s a b c d).pans = s.pans := rfl
@[simp] theorem raise_gaz (s : State) (a b c d : Nat) : (raise s a b c d).gaz = s.gaz := rfl
@[simp] theorem raise_dram (s : State) (a b c d : Nat) : (raise s a b c d).dram = s.dram := rfl
@[simp] theorem raise_stk (s : State) (a b c d : Nat) : (raise s a b c d).stk = s.stk := rfl
@[simp] theorem raise_host (s : State) (a b c d : Nat) : (raise s a b c d).host = s.host := rfl
@[simp] theorem raise_survey (s : State) (a b c d : Nat) : (raise s a b c d).survey = s.survey := rfl
@[simp] theorem raise_digests (s : State) (a b c d : Nat) : (raise s a b c d).digests = s.digests := rfl
@[simp] theorem raise_free (s : State) (a b c d : Nat) : (raise s a b c d).free = s.free := rfl
@[simp] theorem raise_pending (s : State) (a b c d : Nat) : (raise s a b c d).pending = s.pending := rfl

@[simp] theorem raiseDev_ident (s : State) (a b c : Nat) : (raiseDev s a b c).ident = s.ident := rfl
@[simp] theorem raiseDev_power (s : State) (a b c : Nat) : (raiseDev s a b c).power = s.power := rfl
@[simp] theorem raiseDev_trust (s : State) (a b c : Nat) : (raiseDev s a b c).trust = s.trust := rfl
@[simp] theorem raiseDev_legend (s : State) (a b c : Nat) : (raiseDev s a b c).legend = s.legend := rfl
@[simp] theorem raiseDev_contain (s : State) (a b c : Nat) : (raiseDev s a b c).contain = s.contain := rfl
@[simp] theorem raiseDev_ports (s : State) (a b c : Nat) : (raiseDev s a b c).ports = s.ports := rfl
@[simp] theorem raiseDev_sluice (s : State) (a b c : Nat) : (raiseDev s a b c).sluice = s.sluice := rfl
@[simp] theorem raiseDev_cote (s : State) (a b c : Nat) : (raiseDev s a b c).cote = s.cote := rfl
@[simp] theorem raiseDev_meridian (s : State) (a b c : Nat) : (raiseDev s a b c).meridian = s.meridian := rfl
@[simp] theorem raiseDev_pans (s : State) (a b c : Nat) : (raiseDev s a b c).pans = s.pans := rfl
@[simp] theorem raiseDev_gaz (s : State) (a b c : Nat) : (raiseDev s a b c).gaz = s.gaz := rfl
@[simp] theorem raiseDev_dram (s : State) (a b c : Nat) : (raiseDev s a b c).dram = s.dram := rfl
@[simp] theorem raiseDev_stk (s : State) (a b c : Nat) : (raiseDev s a b c).stk = s.stk := rfl
@[simp] theorem raiseDev_host (s : State) (a b c : Nat) : (raiseDev s a b c).host = s.host := rfl
@[simp] theorem raiseDev_survey (s : State) (a b c : Nat) : (raiseDev s a b c).survey = s.survey := rfl
@[simp] theorem raiseDev_digests (s : State) (a b c : Nat) : (raiseDev s a b c).digests = s.digests := rfl
@[simp] theorem raiseDev_free (s : State) (a b c : Nat) : (raiseDev s a b c).free = s.free := rfl
@[simp] theorem raiseDev_pending (s : State) (a b c : Nat) : (raiseDev s a b c).pending = s.pending := rfl

@[simp] theorem raiseCopy_ident (s : State) (a b c : Nat) : (raiseCopy s a b c).ident = s.ident := rfl
@[simp] theorem raiseCopy_power (s : State) (a b c : Nat) : (raiseCopy s a b c).power = s.power := rfl
@[simp] theorem raiseCopy_trust (s : State) (a b c : Nat) : (raiseCopy s a b c).trust = s.trust := rfl
@[simp] theorem raiseCopy_legend (s : State) (a b c : Nat) : (raiseCopy s a b c).legend = s.legend := rfl
@[simp] theorem raiseCopy_contain (s : State) (a b c : Nat) : (raiseCopy s a b c).contain = s.contain := rfl
@[simp] theorem raiseCopy_ports (s : State) (a b c : Nat) : (raiseCopy s a b c).ports = s.ports := rfl
@[simp] theorem raiseCopy_sluice (s : State) (a b c : Nat) : (raiseCopy s a b c).sluice = s.sluice := rfl
@[simp] theorem raiseCopy_cote (s : State) (a b c : Nat) : (raiseCopy s a b c).cote = s.cote := rfl
@[simp] theorem raiseCopy_meridian (s : State) (a b c : Nat) : (raiseCopy s a b c).meridian = s.meridian := rfl
@[simp] theorem raiseCopy_pans (s : State) (a b c : Nat) : (raiseCopy s a b c).pans = s.pans := rfl
@[simp] theorem raiseCopy_threads (s : State) (a b c : Nat) : (raiseCopy s a b c).threads = s.threads := rfl
@[simp] theorem raiseCopy_gaz (s : State) (a b c : Nat) : (raiseCopy s a b c).gaz = s.gaz := rfl
@[simp] theorem raiseCopy_dram (s : State) (a b c : Nat) : (raiseCopy s a b c).dram = s.dram := rfl
@[simp] theorem raiseCopy_stk (s : State) (a b c : Nat) : (raiseCopy s a b c).stk = s.stk := rfl
@[simp] theorem raiseCopy_host (s : State) (a b c : Nat) : (raiseCopy s a b c).host = s.host := rfl
@[simp] theorem raiseCopy_survey (s : State) (a b c : Nat) : (raiseCopy s a b c).survey = s.survey := rfl
@[simp] theorem raiseCopy_digests (s : State) (a b c : Nat) : (raiseCopy s a b c).digests = s.digests := rfl
@[simp] theorem raiseCopy_free (s : State) (a b c : Nat) : (raiseCopy s a b c).free = s.free := rfl
@[simp] theorem raiseCopy_pending (s : State) (a b c : Nat) : (raiseCopy s a b c).pending = s.pending := rfl

@[simp] theorem fresh_ident (s : State) : (fresh s).2.ident = s.ident := rfl
@[simp] theorem fresh_power (s : State) : (fresh s).2.power = s.power := rfl
@[simp] theorem fresh_trust (s : State) : (fresh s).2.trust = s.trust := rfl
@[simp] theorem fresh_legend (s : State) : (fresh s).2.legend = s.legend := rfl
@[simp] theorem fresh_contain (s : State) : (fresh s).2.contain = s.contain := rfl
@[simp] theorem fresh_ports (s : State) : (fresh s).2.ports = s.ports := rfl
@[simp] theorem fresh_sluice (s : State) : (fresh s).2.sluice = s.sluice := rfl
@[simp] theorem fresh_cote (s : State) : (fresh s).2.cote = s.cote := rfl
@[simp] theorem fresh_meridian (s : State) : (fresh s).2.meridian = s.meridian := rfl
@[simp] theorem fresh_pans (s : State) : (fresh s).2.pans = s.pans := rfl
@[simp] theorem fresh_gaz (s : State) : (fresh s).2.gaz = s.gaz := rfl
@[simp] theorem fresh_dram (s : State) : (fresh s).2.dram = s.dram := rfl
@[simp] theorem fresh_stk (s : State) : (fresh s).2.stk = s.stk := rfl
@[simp] theorem fresh_host (s : State) : (fresh s).2.host = s.host := rfl
@[simp] theorem fresh_survey (s : State) : (fresh s).2.survey = s.survey := rfl
@[simp] theorem fresh_digests (s : State) : (fresh s).2.digests = s.digests := rfl
@[simp] theorem fresh_free (s : State) : (fresh s).2.free = s.free + 1 := rfl
@[simp] theorem fresh_pending (s : State) : (fresh s).2.pending = s.pending := rfl
@[simp] theorem fresh_events (s : State) : (fresh s).2.events = s.events := rfl

@[simp] theorem countLport_ident (s : State) (a b c : Nat) : (countLport s a b c).ident = s.ident := rfl
@[simp] theorem countLport_power (s : State) (a b c : Nat) : (countLport s a b c).power = s.power := rfl
@[simp] theorem countLport_trust (s : State) (a b c : Nat) : (countLport s a b c).trust = s.trust := rfl
@[simp] theorem countLport_legend (s : State) (a b c : Nat) : (countLport s a b c).legend = s.legend := rfl
@[simp] theorem countLport_contain (s : State) (a b c : Nat) : (countLport s a b c).contain = s.contain := rfl
@[simp] theorem countLport_ports (s : State) (a b c : Nat) : (countLport s a b c).ports = s.ports := rfl
@[simp] theorem countLport_sluice (s : State) (a b c : Nat) : (countLport s a b c).sluice = s.sluice := rfl
@[simp] theorem countLport_cote (s : State) (a b c : Nat) : (countLport s a b c).cote = s.cote := rfl
@[simp] theorem countLport_meridian (s : State) (a b c : Nat) : (countLport s a b c).meridian = s.meridian := rfl
@[simp] theorem countLport_pans (s : State) (a b c : Nat) : (countLport s a b c).pans = s.pans := rfl
@[simp] theorem countLport_threads (s : State) (a b c : Nat) : (countLport s a b c).threads = s.threads := rfl
@[simp] theorem countLport_gaz (s : State) (a b c : Nat) : (countLport s a b c).gaz = s.gaz := rfl
@[simp] theorem countLport_dram (s : State) (a b c : Nat) : (countLport s a b c).dram = s.dram := rfl
@[simp] theorem countLport_stk (s : State) (a b c : Nat) : (countLport s a b c).stk = s.stk := rfl
@[simp] theorem countLport_host (s : State) (a b c : Nat) : (countLport s a b c).host = s.host := rfl
@[simp] theorem countLport_survey (s : State) (a b c : Nat) : (countLport s a b c).survey = s.survey := rfl
@[simp] theorem countLport_digests (s : State) (a b c : Nat) : (countLport s a b c).digests = s.digests := rfl
@[simp] theorem countLport_free (s : State) (a b c : Nat) : (countLport s a b c).free = s.free := rfl
@[simp] theorem countLport_pending (s : State) (a b c : Nat) : (countLport s a b c).pending = s.pending := rfl

@[simp] theorem countTenant_ident (s : State) (a b : Nat) : (countTenant s a b).ident = s.ident := rfl
@[simp] theorem countTenant_power (s : State) (a b : Nat) : (countTenant s a b).power = s.power := rfl
@[simp] theorem countTenant_trust (s : State) (a b : Nat) : (countTenant s a b).trust = s.trust := rfl
@[simp] theorem countTenant_legend (s : State) (a b : Nat) : (countTenant s a b).legend = s.legend := rfl
@[simp] theorem countTenant_contain (s : State) (a b : Nat) : (countTenant s a b).contain = s.contain := rfl
@[simp] theorem countTenant_ports (s : State) (a b : Nat) : (countTenant s a b).ports = s.ports := rfl
@[simp] theorem countTenant_sluice (s : State) (a b : Nat) : (countTenant s a b).sluice = s.sluice := rfl
@[simp] theorem countTenant_cote (s : State) (a b : Nat) : (countTenant s a b).cote = s.cote := rfl
@[simp] theorem countTenant_meridian (s : State) (a b : Nat) : (countTenant s a b).meridian = s.meridian := rfl
@[simp] theorem countTenant_pans (s : State) (a b : Nat) : (countTenant s a b).pans = s.pans := rfl
@[simp] theorem countTenant_threads (s : State) (a b : Nat) : (countTenant s a b).threads = s.threads := rfl
@[simp] theorem countTenant_gaz (s : State) (a b : Nat) : (countTenant s a b).gaz = s.gaz := rfl
@[simp] theorem countTenant_dram (s : State) (a b : Nat) : (countTenant s a b).dram = s.dram := rfl
@[simp] theorem countTenant_stk (s : State) (a b : Nat) : (countTenant s a b).stk = s.stk := rfl
@[simp] theorem countTenant_host (s : State) (a b : Nat) : (countTenant s a b).host = s.host := rfl
@[simp] theorem countTenant_survey (s : State) (a b : Nat) : (countTenant s a b).survey = s.survey := rfl
@[simp] theorem countTenant_digests (s : State) (a b : Nat) : (countTenant s a b).digests = s.digests := rfl
@[simp] theorem countTenant_free (s : State) (a b : Nat) : (countTenant s a b).free = s.free := rfl
@[simp] theorem countTenant_pending (s : State) (a b : Nat) : (countTenant s a b).pending = s.pending := rfl

@[simp] theorem countPort_ident (s : State) (a b : Nat) : (countPort s a b).ident = s.ident := rfl
@[simp] theorem countPort_power (s : State) (a b : Nat) : (countPort s a b).power = s.power := rfl
@[simp] theorem countPort_trust (s : State) (a b : Nat) : (countPort s a b).trust = s.trust := rfl
@[simp] theorem countPort_legend (s : State) (a b : Nat) : (countPort s a b).legend = s.legend := rfl
@[simp] theorem countPort_contain (s : State) (a b : Nat) : (countPort s a b).contain = s.contain := rfl
@[simp] theorem countPort_ports (s : State) (a b : Nat) : (countPort s a b).ports = s.ports := rfl
@[simp] theorem countPort_sluice (s : State) (a b : Nat) : (countPort s a b).sluice = s.sluice := rfl
@[simp] theorem countPort_cote (s : State) (a b : Nat) : (countPort s a b).cote = s.cote := rfl
@[simp] theorem countPort_meridian (s : State) (a b : Nat) : (countPort s a b).meridian = s.meridian := rfl
@[simp] theorem countPort_pans (s : State) (a b : Nat) : (countPort s a b).pans = s.pans := rfl
@[simp] theorem countPort_threads (s : State) (a b : Nat) : (countPort s a b).threads = s.threads := rfl
@[simp] theorem countPort_gaz (s : State) (a b : Nat) : (countPort s a b).gaz = s.gaz := rfl
@[simp] theorem countPort_dram (s : State) (a b : Nat) : (countPort s a b).dram = s.dram := rfl
@[simp] theorem countPort_stk (s : State) (a b : Nat) : (countPort s a b).stk = s.stk := rfl
@[simp] theorem countPort_host (s : State) (a b : Nat) : (countPort s a b).host = s.host := rfl
@[simp] theorem countPort_survey (s : State) (a b : Nat) : (countPort s a b).survey = s.survey := rfl
@[simp] theorem countPort_digests (s : State) (a b : Nat) : (countPort s a b).digests = s.digests := rfl
@[simp] theorem countPort_free (s : State) (a b : Nat) : (countPort s a b).free = s.free := rfl
@[simp] theorem countPort_pending (s : State) (a b : Nat) : (countPort s a b).pending = s.pending := rfl

theorem count_events (s : State) (id n : Nat) : (count s id n).events = s.events.count id n := rfl
theorem raise_events (s : State) (a b c d : Nat) : (raise s a b c d).events = s.events.note ⟨a, b, c, d, false⟩ := rfl

@[simp] theorem countFirst_ident (s : State) (a b c d e : Nat) : (countFirst s a b c d e).ident = s.ident := by
  unfold countFirst; dsimp only; split <;> rfl
@[simp] theorem countFirst_power (s : State) (a b c d e : Nat) : (countFirst s a b c d e).power = s.power := by
  unfold countFirst; dsimp only; split <;> rfl
@[simp] theorem countFirst_trust (s : State) (a b c d e : Nat) : (countFirst s a b c d e).trust = s.trust := by
  unfold countFirst; dsimp only; split <;> rfl
@[simp] theorem countFirst_legend (s : State) (a b c d e : Nat) : (countFirst s a b c d e).legend = s.legend := by
  unfold countFirst; dsimp only; split <;> rfl
@[simp] theorem countFirst_contain (s : State) (a b c d e : Nat) : (countFirst s a b c d e).contain = s.contain := by
  unfold countFirst; dsimp only; split <;> rfl
@[simp] theorem countFirst_ports (s : State) (a b c d e : Nat) : (countFirst s a b c d e).ports = s.ports := by
  unfold countFirst; dsimp only; split <;> rfl
@[simp] theorem countFirst_sluice (s : State) (a b c d e : Nat) : (countFirst s a b c d e).sluice = s.sluice := by
  unfold countFirst; dsimp only; split <;> rfl
@[simp] theorem countFirst_cote (s : State) (a b c d e : Nat) : (countFirst s a b c d e).cote = s.cote := by
  unfold countFirst; dsimp only; split <;> rfl
@[simp] theorem countFirst_meridian (s : State) (a b c d e : Nat) : (countFirst s a b c d e).meridian = s.meridian := by
  unfold countFirst; dsimp only; split <;> rfl
@[simp] theorem countFirst_pans (s : State) (a b c d e : Nat) : (countFirst s a b c d e).pans = s.pans := by
  unfold countFirst; dsimp only; split <;> rfl
@[simp] theorem countFirst_gaz (s : State) (a b c d e : Nat) : (countFirst s a b c d e).gaz = s.gaz := by
  unfold countFirst; dsimp only; split <;> rfl
@[simp] theorem countFirst_dram (s : State) (a b c d e : Nat) : (countFirst s a b c d e).dram = s.dram := by
  unfold countFirst; dsimp only; split <;> rfl
@[simp] theorem countFirst_stk (s : State) (a b c d e : Nat) : (countFirst s a b c d e).stk = s.stk := by
  unfold countFirst; dsimp only; split <;> rfl
@[simp] theorem countFirst_host (s : State) (a b c d e : Nat) : (countFirst s a b c d e).host = s.host := by
  unfold countFirst; dsimp only; split <;> rfl
@[simp] theorem countFirst_survey (s : State) (a b c d e : Nat) : (countFirst s a b c d e).survey = s.survey := by
  unfold countFirst; dsimp only; split <;> rfl
@[simp] theorem countFirst_digests (s : State) (a b c d e : Nat) : (countFirst s a b c d e).digests = s.digests := by
  unfold countFirst; dsimp only; split <;> rfl
@[simp] theorem countFirst_free (s : State) (a b c d e : Nat) : (countFirst s a b c d e).free = s.free := by
  unfold countFirst; dsimp only; split <;> rfl
@[simp] theorem countFirst_pending (s : State) (a b c d e : Nat) : (countFirst s a b c d e).pending = s.pending := by
  unfold countFirst; dsimp only; split <;> rfl

@[simp] theorem writeCompletion_ident (s : State) (c : Completion) (b : Nat) : (writeCompletion s c b).ident = s.ident := by
  unfold writeCompletion; dsimp only; split <;> rfl
@[simp] theorem writeCompletion_power (s : State) (c : Completion) (b : Nat) : (writeCompletion s c b).power = s.power := by
  unfold writeCompletion; dsimp only; split <;> rfl
@[simp] theorem writeCompletion_trust (s : State) (c : Completion) (b : Nat) : (writeCompletion s c b).trust = s.trust := by
  unfold writeCompletion; dsimp only; split <;> rfl
@[simp] theorem writeCompletion_legend (s : State) (c : Completion) (b : Nat) : (writeCompletion s c b).legend = s.legend := by
  unfold writeCompletion; dsimp only; split <;> rfl
@[simp] theorem writeCompletion_contain (s : State) (c : Completion) (b : Nat) : (writeCompletion s c b).contain = s.contain := by
  unfold writeCompletion; dsimp only; split <;> rfl
@[simp] theorem writeCompletion_ports (s : State) (c : Completion) (b : Nat) : (writeCompletion s c b).ports = s.ports := by
  unfold writeCompletion; dsimp only; split <;> rfl
@[simp] theorem writeCompletion_sluice (s : State) (c : Completion) (b : Nat) : (writeCompletion s c b).sluice = s.sluice := by
  unfold writeCompletion; dsimp only; split <;> rfl
@[simp] theorem writeCompletion_cote (s : State) (c : Completion) (b : Nat) : (writeCompletion s c b).cote = s.cote := by
  unfold writeCompletion; dsimp only; split <;> rfl
@[simp] theorem writeCompletion_meridian (s : State) (c : Completion) (b : Nat) : (writeCompletion s c b).meridian = s.meridian := by
  unfold writeCompletion; dsimp only; split <;> rfl
@[simp] theorem writeCompletion_pans (s : State) (c : Completion) (b : Nat) : (writeCompletion s c b).pans = s.pans := by
  unfold writeCompletion; dsimp only; split <;> rfl
@[simp] theorem writeCompletion_threads (s : State) (c : Completion) (b : Nat) : (writeCompletion s c b).threads = s.threads := by
  unfold writeCompletion; dsimp only; split <;> rfl
@[simp] theorem writeCompletion_gaz (s : State) (c : Completion) (b : Nat) : (writeCompletion s c b).gaz = s.gaz := by
  unfold writeCompletion; dsimp only; split <;> rfl
@[simp] theorem writeCompletion_dram (s : State) (c : Completion) (b : Nat) : (writeCompletion s c b).dram = s.dram := by
  unfold writeCompletion; dsimp only; split <;> rfl
@[simp] theorem writeCompletion_stk (s : State) (c : Completion) (b : Nat) : (writeCompletion s c b).stk = s.stk := by
  unfold writeCompletion; dsimp only; split <;> rfl
@[simp] theorem writeCompletion_host (s : State) (c : Completion) (b : Nat) : (writeCompletion s c b).host = s.host := by
  unfold writeCompletion; dsimp only; split <;> rfl
@[simp] theorem writeCompletion_survey (s : State) (c : Completion) (b : Nat) : (writeCompletion s c b).survey = s.survey := by
  unfold writeCompletion; dsimp only; split <;> rfl
@[simp] theorem writeCompletion_digests (s : State) (c : Completion) (b : Nat) : (writeCompletion s c b).digests = s.digests := by
  unfold writeCompletion; dsimp only; split <;> rfl
@[simp] theorem writeCompletion_free (s : State) (c : Completion) (b : Nat) : (writeCompletion s c b).free = s.free := by
  unfold writeCompletion; dsimp only; split <;> rfl
@[simp] theorem writeCompletion_pending (s : State) (c : Completion) (b : Nat) : (writeCompletion s c b).pending = s.pending := by
  unfold writeCompletion; dsimp only; split <;> rfl

/-- A device counter that advances changes the event fabric alone (R498). -/
theorem devCount_events (s : State) (unit source inst tenant n : Nat) :
    ∃ e, devCount s unit source inst tenant n = { s with events := e } := by
  unfold devCount
  generalize s.events.devSelect = l
  induction l generalizing s with
  | nil => exact ⟨_, rfl⟩
  | cons x l ih =>
    rw [List.foldl_cons]
    dsimp only
    split
    · split <;> (obtain ⟨e, h⟩ := ih _; exact ⟨e, h⟩)
    · exact ih s

theorem countOccupied_events (s : State) : ∃ e, countOccupied s = { s with events := e } := by
  unfold countOccupied
  generalize meridianCycles s = k
  generalize s.meridian.ctxs = l
  induction l generalizing s with
  | nil => exact ⟨_, rfl⟩
  | cons x l ih =>
    obtain ⟨e, h⟩ := devCount_events s 2 6 (x.1 / 4096) x.2.desc.tenant k
    obtain ⟨e', h'⟩ := ih (devCount s 2 6 (x.1 / 4096) x.2.desc.tenant k)
    exact ⟨e', by rw [List.foldl_cons, h', h]⟩

/-- An idle step moves the run clock and counts the occupied contexts, nothing else. -/
theorem idle_cases (s : State) :
    (s.power.phase = .off ∧ idle s = s) ∨
    (s.power.phase ≠ .off ∧
      idle s = { countOccupied s with power := { s.power with clock := s.power.clock + clockStep s } }) := by
  by_cases h : s.power.phase = .off
  · exact .inl ⟨h, by simp [idle, powered, h]⟩
  · exact .inr ⟨h, by simp [idle, powered, h]⟩

end Sys2Proof.Machine
end

