-- ==== Sys2Proof/Machine/Clocks.lean ====
section
/-! DEFINITION. The clocks that Intake derives (R483, R484): which PLL runs in a state of the machine, at what frequency, and
whether it is locked. -/

namespace Sys2Proof.Machine

/-- The clocks of R483; each optical engine has a port PLL. -/
inductive Clock where
  | alwaysOn | time | management | pcie | traffic | engine | tcam | port (engine : Nat) | dram | flash
  deriving DecidableEq, Repr

/-- Longest lock time in µs; none for the oscillator (R483). -/
def Clock.lockUs : Clock → Option Nat
  | .alwaysOn => none
  | .pcie => some 100
  | .port _ => some 200
  | .dram => some 100
  | _ => some 50

/-- Whether the clock is derived from REFCLK (R483). -/
def Clock.ofRefclk : Clock → Bool
  | .alwaysOn => false
  | .pcie => false
  | _ => true

/-- Whether the management domain is powered: once the fast clocks have started, through a restart and a flush, which Legend's
control cores and Stockpile outlive (R470, R476, R477). -/
def mgmtPowered (s : State) : Bool := powered s && s.power.timeLocked

/-- Whether a clock runs: a PLL is started only when a domain that uses it is powered (R483): the traffic, port, Pan 1–15 and TCAM
domains from traffic-ready on, not in STANDBY (R476, R481), the DRAM stacks and the host port not in a flush (R470). -/
def clockRuns (s : State) : Clock → Bool
  | .alwaysOn => powered s
  | .time => mgmtPowered s
  | .management => mgmtPowered s
  | .pcie => mgmtRuns s && s.host.links.any (fun l => l.2.up)
  | .dram => mgmtRuns s && s.power.state != .off
  | .flash => mgmtPowered s && s.ident.flash
  | _ => trafficUp s

/-- Frequency in kHz of a clock that has one fixed frequency (R479, R483); none for a rate that a link, a lane or the NAND
gives. The DRAM PLL's figure is bits per pin. -/
def clockKHz (s : State) : Clock → Option Nat
  | .alwaysOn => some 4000
  | .time => some 1000000
  | .management => some (if s.power.state == .standby then 250000 else 2000000)
  | .traffic => some 1250000
  | .engine => some 2000000
  | .tcam => some 1000000
  | .dram => some 9375000
  | _ => none

/-- Whether a running PLL is locked to its source: without REFCLK the port PLLs lose lock, and every other one holds its last
frequency (R484). -/
def clockTracks (s : State) (k : Clock) : Bool := clockRuns s k && (!k.ofRefclk || s.power.refclk)

/-- Whether a running clock gives its frequency (R484). -/
def clockGood (s : State) (k : Clock) : Bool :=
  clockRuns s k && match k with | .port _ => s.power.pllLocked | _ => true

end Sys2Proof.Machine
end

