-- ==== Sys2Proof/Machine/Crypt.lean ====
section
/-! DEFINITION. What leaves the die, and under which key: the data units of Benchmark's inline AES-XTS engines (R354, R362), the
vault entries and the key tables (R355, R356). State holds these contents as they are inside the die; what stands outside it
is here (assumption 95). -/

namespace Sys2Proof.Machine

/-- A data unit of the table of R362. -/
inductive XtsUnit where
  | ownerLine (owner line : Nat)            -- a 64-byte line of an owner's DRAM allocation
  | tableLine (owner table line : Nat)      -- a 64-byte line of an owner's table in DRAM
  | deviceLine (line : Nat)                 -- of the far buffer, the device tables, the device reserve, Legend's store
  | coldRecord (owner table kh : Nat)
  | capturePage (owner ring page : Nat)
  | telemetryPage (owner page : Nat)        -- of a tenant's or the operator's part
  | devicePage (region page : Nat)          -- device telemetry and journal: regions 0 and 1
  deriving DecidableEq, Repr

/-- The XTS key of a data unit (R362): none where Benchmark holds it no more. -/
def XtsUnit.key (t : Trust) : XtsUnit → Option (BitVec 512)
  | .ownerLine o _ => AMap.find t.omk o
  | .tableLine o _ _ => AMap.find t.omk o
  | .deviceLine _ => t.dmk
  | .coldRecord o _ _ => (AMap.find t.osk o).map flashKey
  | .capturePage o _ _ => (AMap.find t.osk o).map flashKey
  | .telemetryPage o _ => (AMap.find t.osk o).map flashKey
  | .devicePage _ _ => some (deviceFlashKey t)

/-- Bytes of a data unit (R362). -/
def XtsUnit.size : XtsUnit → Nat
  | .ownerLine _ _ => 64
  | .tableLine _ _ _ => 64
  | .deviceLine _ => 64
  | .coldRecord _ _ _ => 128
  | _ => 4096

/-- The tweak of a data unit (R362); how the two numbers of a tweak lie in its 128 bits is the model's (assumption 95). -/
def XtsUnit.tweak : XtsUnit → BitVec 128
  | .ownerLine _ line => BitVec.ofNat 128 line
  | .tableLine o table line => BitVec.ofNat 128 (Config.tableLine o table + line)
  | .deviceLine line => BitVec.ofNat 128 line
  | .coldRecord _ table kh => BitVec.ofNat 128 (table * 2 ^ 32 + kh)
  | .capturePage _ ring page => BitVec.ofNat 128 (ring * 2 ^ 64 + page)
  | .telemetryPage owner page => BitVec.ofNat 128 (owner * 2 ^ 64 + page)
  | .devicePage region page => BitVec.ofNat 128 (region * 2 ^ 64 + page)

/-- A number of bytes from an offset of a list, with zeros past its end. -/
def pageOf (bytes : List Byte) (off n : Nat) : List Byte :=
  let l := (bytes.drop off).take n
  l ++ List.replicate (n - l.length) 0

/-- Content of a telemetry part (R338). -/
def partBytes (s : State) (owner : Nat) : List Byte := ((AMap.at s.stk.telemetry owner ⟨[], 0⟩).recs.map teleBytes).flatten

/-- A line of a table's records (R239): two lines hold one record. -/
def recordLine (s : State) (owner table line : Nat) : Option (List Byte) :=
  match AMap.find s.gaz.tables table with
  | none => none
  | some t => if t.owner != owner || t.sram then none else some (((wordBytes (recordOf t (line / 2))).drop (64 * (line % 2))).take 64)

/-- A line of the far buffer: four to a cell, from the first cell on (R275, R276; assumption 95). -/
def farLineBytes (s : State) (line : Nat) : Option (List Byte) :=
  (AMap.find s.cote.cells (bufferBase true + line / 4)).map (fun c => pageOf c.data (64 * (line % 4)) 64)

/-- The journal region's entries, each from a page of its own (R341; assumption 95). -/
def journalRegion (s : State) : List Byte :=
  (s.stk.journal.map (fun x => match x with
    | .entry _ e =>
      let b := journalBytes e
      pageOf b 0 (4096 * ceilDiv b.length 4096)
    | _ => [])).flatten

/-- A data unit's content inside the die, for the contents that State holds as bytes or records; the spec lays out no bytes
of the others, and of the journal region only its entries. -/
def XtsUnit.plain (s : State) : XtsUnit → Option (List Byte)
  | .ownerLine o line => some (readBytes s (.dram o (64 * line)) 64)
  | .tableLine o table line => recordLine s o table line
  | .deviceLine line => farLineBytes s line
  | .coldRecord o table kh =>
    (s.stk.cold.find? (fun r => r.owner == o && r.table == table && r.kh == kh && !r.staged)).map (fun r => wordBytes r.words)
  | .capturePage o ring page =>
    (match AMap.find s.stk.rings ring with
      | none => none
      | some x => if fld x.cfg 0 12 != o then none
        else some (pageOf ((x.recs.filter (fun r => r.flash)).map capRecBytes).flatten (4096 * page) 4096))
  | .telemetryPage o page => some (pageOf (partBytes s o) (4096 * page) 4096)
  | .devicePage region page => some (pageOf (if region == 0 then partBytes s deviceId else journalRegion s) (4096 * page) 4096)

/-- A data unit under its key: what the XTS engines send out for its content (R362). -/
def XtsUnit.seal (u : XtsUnit) (key : BitVec 512) (plain : List Byte) : List Byte :=
  (List.range u.size).map (fun i => Config.xtsByte true key u.tweak i plain)

/-- And what they make of what comes back. -/
def XtsUnit.unseal (u : XtsUnit) (key : BitVec 512) (text : List Byte) : List Byte :=
  (List.range u.size).map (fun i => Config.xtsByte false key u.tweak i text)

/-- What stands outside the die of a data unit: its content under its key, and no plain text ever (R30, R362). -/
def XtsUnit.leaves (s : State) (u : XtsUnit) : Option (List Byte) :=
  match u.key s.trust, u.plain s with
  | some key, some plain => some (u.seal key plain)
  | _, _ => none

/-! ### What Benchmark wraps -/

/-- A value wrapped with AES-256-GCM: its text and its tag. -/
def wrapped (key : BitVec 256) (nonce : BitVec 96) (plain : List Byte) : List Byte :=
  gcmText key nonce plain ++ beBytes 16 (Config.gcmTag key nonce [] plain).toNat

/-- A vault entry as it stands in the boot flash: the OSK and the owner key, wrapped under the VK of its fuse count (R355). -/
def VaultEntry.leaves (o : Nat) (v : VaultEntry) : List Byte :=
  wrapped (vaultKeyOf v.gen) (Config.wrapNonce o 65536) (beBytes 32 v.osk.toNat ++ beBytes 96 v.key.toNat)

/-- An entry of an owner's key table as it stands in the device reserve of DRAM, under the OWK (R356). -/
def keyEntryLeaves (t : Trust) (o index : Nat) : Option (List Byte) :=
  match AMap.find t.osk o, AMap.find (AMap.at t.keys o []) index with
  | some osk, some key => some (wrapped (wrapKey osk) (Config.wrapNonce o index) (beBytes 64 key.toNat))
  | _, _ => none

end Sys2Proof.Machine
end

