-- ==== Sys2Proof/Machine/Envelope.lean ====
section
/-! DEFINITION. The planning figures (R513–R520, R539, R541, R547, R548) and the capacity sums over a state (R520). No step
depends on them: they bound what a run of the module can show. -/

namespace Sys2Proof.Machine

/-- Frames per second of the line at a mean size of S bytes (R513): 16 ports of 800 Gb/s, 20 bytes beside each frame. -/
def lineRate (size : Nat) : Nat := 12800000000000 / (8 * (size + 20))

/-- Packets per second by issue (R513): 480 PEs at 2.0 GHz, 36 cycles beside I instructions. -/
def issueRate (instrs : Nat) : Nat := 960000000000 / (instrs + 36)

/-- Packets per second by threads (R513, R514): b blocked cycles; under wheel issue a blocked thread's slots idle. -/
def threadRate (urgent : Bool) (instrs blocked : Nat) : Nat :=
  7620000000000 / ((if urgent then 1 else 8) * (instrs + 36) + blocked)

/-- Egress frames per second that Cote builds (R515). -/
def egressRate : Nat := 8000000000

/-- The sustained forwarding rate in packets per second (R513): the least of the four. -/
def forwardingRate (size instrs blocked : Nat) : Nat :=
  min (min (lineRate size) (issueRate instrs)) (min (threadRate true instrs blocked) egressRate)

/-- Nanoseconds that bound an express packet (R517): R25 as stated, or with one DRAM access at urgency 7 in place of the SRAM
lookup; a watch Pan that may be gated and is found asleep adds its wake. -/
def expressBound (dram : Bool) (asleep : PanPower) : Ns :=
  (if dram then 1090 else 640) + (match asleep with | .clockGated => 400 | .powerGated => 6000 | _ => 0)

/-- Typical input power in mW by state and traffic, in percent of 12.8 Tb/s (R479, R519): linear between the shares of the table. -/
def typicalPower (x : OpState) (share : Nat) : Nat :=
  let row : List Nat := match x with
    | .run => [430, 510, 590, 670, 750]
    | .doze => [210, 345, 480, 615, 750]
    | .nap => [140, 293, 445, 598, 750]
    | .standby => [9, 9, 9, 9, 9]
    | .off => [0, 0, 0, 0, 0]
  let k := min 3 (share / 25)
  let a := row.getD k 0
  1000 * a + (row.getD (k + 1) 0 - a) * (share - 25 * k) * 40

/-- Input power that no state exceeds, in W (R519). -/
def powerMax : Nat := 1150

/-- Input current in mA at a power in mW and a VIN in mV (R539). -/
def inputCurrent (mW mV : Nat) : Nat := mW * 1000 / mV

/-- Error in mV of a reading of VIN (R541). -/
def vinError (mV : Nat) : Nat := mV / 200 + 50

/-- Rise in mK of a spot above the lid at a module power in W (R547): 0 the die, 1 the input stage, 2 an optical engine, else a
DRAM stack. -/
def spotRise (i power : Nat) : Nat :=
  (match i with | 0 => 28000 | 1 => 40000 | 2 => 4000 | _ => 22000) * power / 1150

/-- The hottest lid in mK above 0 °C at a power in W and a coolant inlet in °C (R526, R547). -/
def lidMax (power inlet : Nat) : Nat := 1000 * inlet + 18 * power

/-- Whether the capacities that a state uses fit their device totals (R520). -/
def withinCapacity (s : State) : Bool :=
  decide (((s.meridian.ctxs.filter (fun c => !c.2.express)).length) ≤ 64512) &&
  decide (((s.meridian.ctxs.filter (fun c => c.2.express)).length) ≤ 1024) &&
  decide (s.trust.slots.length ≤ 513) && decide (s.legend.sessions.length ≤ 2048) &&
  decide (s.sluice.scopeRules.length ≤ 4096) && decide (s.cote.cells.length ≤ 655360 + farGib s * 2 ^ 22) &&
  s.pans.all (fun p => decide (p.2.tasks.length ≤ 1024))

end Sys2Proof.Machine
end

