-- ==== Sys2Proof/Machine/Jtag.lean ====
section
/-! DEFINITION. The JTAG port: boundary scan at all times, and the debug functions of a debug unlock (R30, R371). The opcode
table has no row for the port: a debugger's access is an input from outside the commands (assumption 96). -/

namespace Sys2Proof.Machine

/-- An engine register of 64 bits that State holds: a thread's registers, its PC and its CSRs, and the configuration records. -/
inductive EngineReg where
  | reg (tid : Nat) (n : BitVec 5)
  | pc (tid : Nat)
  | csr (tid n : Nat)
  | sched (pan : Nat) (high : Bool)
  | meridian (high : Bool)
  | peIssue (pan pe : Nat)
  | ccMode (pan cc : Nat)
  | sluice
  | gaz
  | cote
  | pool (n : Nat)
  | ingress (group : Nat)
  | dram
  | dramPort (port : Nat)
  | stk
  | port (lport : Nat)
  | queue (queue : Nat)
  | queueBuf (queue : Nat)
  | inband (lport : Nat)
  | optics (port : Nat)
  deriving DecidableEq, Repr

/-- A function of the port. -/
inductive JtagFn where
  | boundaryScan
  | halt (pan : Nat)
  | readReg (r : EngineReg)
  | writeReg (r : EngineReg) (v : BitVec 64)
  | readSram (pan off : Nat)
  | writeSram (pan off : Nat) (b : Byte)
  | readPort (lport : Nat)
  | readLane (lane : Nat)
  | readEngine (engine : Nat)
  | readQueue (queue : Nat)
  | readChan (n : Nat)
  | readTable (table : Nat)
  | readBank (bank : Nat)
  | readSearch (n : Nat)
  deriving DecidableEq, Repr

/-- What a function shifts out. -/
inductive JtagOut where
  | none
  | levels (l : List Bool)         -- of the lands, in the order of `landLevels`
  | word (v : BitVec 64)
  | byte (b : Byte)
  | port (p : LPort)
  | lane (l : Lane)
  | engine (e : Engine)
  | queue (q : EQueue)
  | chan (c : Option SecChan)
  | search (x : Option Search)
  | table (t : Option Table)
  | bank (b : Bank)
  deriving DecidableEq, Repr

/-- Levels of the lands that State holds, in the order of R531: PCIE_WAKE_N, PERST_N[0–3], USB_VBUS, SVY_TERM and SVY_ADDR[0–5] as
sampled, SYNC_OUT, PWR_EN, PGOOD, SUPPLY_ALERT_N, HOLDUP_N, RESET_N, THERM_N, FAULT_N, BOOT_SEL[0–1] as sampled, LASER_EN_N,
GPIO[0–1] as sampled, PRSNT_N; a field of an active-low land is true while it is low, but for RESET_N and LASER_EN_N. -/
def landLevels (s : State) : List Bool :=
  let p := s.power
  [!s.host.wakeN] ++ (List.range 4).map (fun h => !(s.link h).perst) ++ [s.host.usbVbus, !p.lands.svyTerm] ++
    (List.range 6).map p.lands.svyAddr.getLsbD ++
    [p.syncOut, p.pwrEn, p.pgood, !p.supplyAlert, !p.holdup, p.resetN, !p.therm, !p.fault] ++
    (List.range 2).map p.lands.bootSel.getLsbD ++ [s.ports.laserEnN] ++ (List.range 2).map p.lands.gpio.getLsbD ++ [false]

/-- One half of a record of 128 bits. -/
def halfOf (v : BitVec 128) (high : Bool) : BitVec 64 := BitVec.ofNat 64 (fld v (if high then 64 else 0) 64)
/-- One half of a record of 128 bits replaced. -/
def setHalf (v : BitVec 128) (high : Bool) (w : BitVec 64) : BitVec 128 := setFld v (if high then 64 else 0) 64 w.toNat

/-- A secure channel as a debugger reads it: no land reads the key store back (R50). -/
def withoutKeys (c : SecChan) : SecChan := { c with sas := c.sas.map (fun a => (a.1, { a.2 with key := 0 })) }

/-- The value of an engine register. -/
def EngineReg.read (s : State) : EngineReg → BitVec 64
  | .reg t n => if n = 0 then 0 else AMap.at (s.thread t).regs n.toNat 0
  | .pc t => BitVec.ofNat 64 (s.thread t).pc
  | .csr t n => (s.thread t).csr n
  | .sched p h => halfOf (s.pan p).sched h
  | .meridian h => halfOf s.meridian.cfg h
  | .peIssue p e => AMap.at (s.pan p).peIssue e 0
  | .ccMode p c => AMap.at (s.pan p).ccMode c 0
  | .sluice => s.sluice.cfg
  | .gaz => s.gaz.cfg
  | .cote => s.cote.cfg
  | .pool n => (AMap.at s.cote.pools n .reset).cfg
  | .ingress g => (AMap.at s.cote.groups g .reset).cfg
  | .dram => s.dram.cfg
  | .dramPort p => AMap.at s.dram.ports p (dramPortReset p)
  | .stk => s.stk.cfg
  | .port l => (s.lport l).cfg
  | .queue q => (AMap.at s.ports.queues q (EQueue.reset (q % 8))).cfg
  | .queueBuf q => (AMap.at s.ports.queues q (EQueue.reset (q % 8))).buf
  | .inband l => (s.lport l).inband
  | .optics n => AMap.at s.ports.thresh n (opticsThreshReset n)

/-- An engine register written. -/
def EngineReg.write (s : State) (v : BitVec 64) : EngineReg → State
  | .reg t n => if n = 0 then s else s.setThread t { s.thread t with regs := AMap.put (s.thread t).regs n.toNat v }
  | .pc t => s.setThread t { s.thread t with pc := v.toNat, npc := v.toNat + 4 }
  | .csr t n => s.setThread t { s.thread t with csrs := AMap.put (s.thread t).csrs n (v &&& csrMask n) }
  | .sched p h => s.setPan p { s.pan p with sched := setHalf (s.pan p).sched h v }
  | .meridian h => s.setMeridian { s.meridian with cfg := setHalf s.meridian.cfg h v }
  | .peIssue p e => s.setPan p { s.pan p with peIssue := AMap.put (s.pan p).peIssue e v }
  | .ccMode p c => s.setPan p { s.pan p with ccMode := AMap.put (s.pan p).ccMode c v }
  | .sluice => { s with sluice := { s.sluice with cfg := v } }
  | .gaz => { s with gaz := { s.gaz with cfg := v } }
  | .cote => { s with cote := { s.cote with cfg := v } }
  | .pool n => { s with cote := { s.cote with pools := AMap.put s.cote.pools n { AMap.at s.cote.pools n .reset with cfg := v } } }
  | .ingress g => { s with cote := { s.cote with groups := AMap.put s.cote.groups g { AMap.at s.cote.groups g .reset with cfg := v } } }
  | .dram => s.setDram { s.dram with cfg := v }
  | .dramPort p => s.setDram { s.dram with ports := AMap.put s.dram.ports p v }
  | .stk => s.setStk { s.stk with cfg := v }
  | .port l => s.setLport l { s.lport l with cfg := v }
  | .queue q =>
    s.setPorts { s.ports with queues := AMap.put s.ports.queues q { AMap.at s.ports.queues q (EQueue.reset (q % 8)) with cfg := v } }
  | .queueBuf q =>
    s.setPorts { s.ports with queues := AMap.put s.ports.queues q { AMap.at s.ports.queues q (EQueue.reset (q % 8)) with buf := v } }
  | .inband l => s.setLport l { s.lport l with inband := v }
  | .optics n => s.setPorts { s.ports with thresh := AMap.put s.ports.thresh n v }

/-- A function of the JTAG port: what it shifts out and what it leaves, or nothing where the port refuses it. Boundary scan is
always there; the debug functions need a debug unlock, and none names Benchmark, its keys, the fuses or the XTS engines
(R371). -/
def jtag (f : JtagFn) (s : State) : Option (JtagOut × State) :=
  match f with
  | .boundaryScan => some (.levels (landLevels s), s)
  | f =>
    if !s.trust.debugUnlocked then none
    else match f with
      | .boundaryScan => some (.levels (landLevels s), s)
      | .halt p => some (.none, s.setPan p { s.pan p with halted := true })
      | .readReg r => some (.word (r.read s), s)
      | .writeReg r v => some (.none, r.write s v)
      | .readSram p off => some (.byte (readByte s (sramHome s p off)), s)
      | .writeSram p off b => some (.none, writeByte s (sramHome s p off) b)
      | .readPort l => some (.port (s.lport l), s)
      | .readLane l => some (.lane (AMap.at s.ports.lanes l .reset), s)
      | .readEngine e => some (.engine (AMap.at s.ports.engines e .reset), s)
      | .readQueue q => some (.queue (AMap.at s.ports.queues q (EQueue.reset (q % 8))), s)
      | .readChan n => some (.chan (s.ports.chans[n]?.map withoutKeys), s)
      | .readSearch n => some (.search s.gaz.searches[n]?, s)
      | .readTable t => some (.table (AMap.find s.gaz.tables t), s)
      | .readBank b => some (.bank (AMap.at s.gaz.banks b .reset), s)

end Sys2Proof.Machine
end

