-- ==== Sys2Proof/Machine/Lands.lean ====
section
/-! DEFINITION. The land field (R530–R532, R534, R543–R546): which signal a land carries, its direction and type, what the module
drives on its outputs in a state, and how an input reads a level or a pulse. -/

namespace Sys2Proof.Machine

/-- The signals of R531; a reserved land carries none (R533). -/
inductive Signal where
  | vin | vrtn | reserved
  | pcieTxP (lane : Nat) | pcieTxN (lane : Nat) | pcieRxP (lane : Nat) | pcieRxN (lane : Nat)
  | pcieRefclkP | pcieRefclkN | perstN (link : Nat) | pcieWakeN
  | refclkP | refclkN | usbDp | usbDm | usbVbus
  | svyP | svyN | svyTerm | svyAddr (bit : Nat) | syncIn | syncOut
  | pwrEn | pgood | supplyAlertN | holdupN | resetN | thermN | faultN
  | dbgTck | dbgTms | dbgTdi | dbgTdo | dbgTrstN | bootSel (bit : Nat)
  | zeroizeN | tamperA | tamperB | laserEnN | gpio (bit : Nat) | prsntN
  deriving DecidableEq, Repr

/-- The lands of a pair of PCIe rows: lanes `k` to `k + 3`, each pair between ground lands (R530). -/
def laneRow (p n : Nat → Signal) (k : Nat) : List Signal :=
  ((List.range 4).map (fun i => [Signal.vrtn, p (k + i), n (k + i), .vrtn])).flatten

/-- A row of one signal (R530). -/
def plainRow (x : Signal) : List Signal := List.replicate 16 x

/-- The land field, rows A to T in the order of R522, columns 1 to 16 (R530). -/
def landMap : List (List Signal) :=
  [plainRow .vin, plainRow .vin, plainRow .vin, plainRow .vrtn,
   laneRow .pcieTxP .pcieTxN 0, laneRow .pcieTxP .pcieTxN 4, plainRow .vrtn,
   laneRow .pcieRxP .pcieRxN 0, laneRow .pcieRxP .pcieRxN 4] ++
  [[.vrtn, .pcieRefclkP, .pcieRefclkN, .vrtn, .perstN 0, .perstN 1, .perstN 2, .perstN 3, .pcieWakeN, .vrtn, .refclkP, .refclkN,
    .vrtn, .usbDp, .usbDm, .vrtn],
   [.vrtn, .svyP, .svyN, .vrtn, .svyTerm, .svyAddr 0, .svyAddr 1, .svyAddr 2, .svyAddr 3, .svyAddr 4, .svyAddr 5, .vrtn, .usbVbus,
    .vrtn, .syncIn, .syncOut],
   [.pwrEn, .pgood, .supplyAlertN, .holdupN, .resetN, .thermN, .faultN, .vrtn, .dbgTck, .dbgTms, .dbgTdi, .dbgTdo, .dbgTrstN,
    .vrtn, .bootSel 0, .bootSel 1],
   [.zeroizeN, .tamperA, .tamperB, .vrtn, .laserEnN, .vrtn, .gpio 0, .gpio 1, .gpio 2, .gpio 3, .gpio 4, .gpio 5, .gpio 6, .gpio 7,
    .vrtn, .prsntN]] ++
  [[.vrtn] ++ List.replicate 14 .reserved ++ [.vrtn],
   ((List.range 8).map (fun _ => [Signal.vrtn, .reserved])).flatten,
   plainRow .vrtn]

/-- Position of a land in µm from the corner next to A1, by its row in `landMap` and its column from 1 on (R522). -/
def landPosition (row column : Nat) : Nat × Nat := (7000 + 2000 * row, 40000 + 2000 * (column - 1))

/-- Direction of a signal, seen from the module (R531). -/
inductive Direction where
  | input | output | both | power
  deriving DecidableEq, Repr

/-- Direction of each signal (R531); a reserved land has none of its own. -/
def Signal.direction : Signal → Direction
  | .vin | .vrtn | .reserved => .power
  | .pcieTxP _ | .pcieTxN _ | .pcieWakeN | .syncOut | .pgood | .supplyAlertN | .holdupN | .thermN | .faultN | .dbgTdo | .prsntN => .output
  | .usbDp | .usbDm | .svyP | .svyN => .both
  | _ => .input

/-- Whether a logic output is open drain (R531). -/
def Signal.openDrain : Signal → Bool
  | .pcieWakeN | .supplyAlertN | .holdupN | .thermN | .faultN => true
  | _ => false

/-- What an output does on its land. -/
inductive Drive where
  | low | high | released
  deriving DecidableEq, Repr

/-- An open-drain output, low where its condition holds. -/
def sinks (on : Bool) : Drive := if on then .low else .released

/-- A push-pull output. -/
def pushes (on : Bool) : Drive := if on then .high else .low

/-- What the module drives on a logic output (R426, R467, R470, R473, R475, R487, R507, R531): none for other signals. PRSNT_N is
joined to VRTN, and DBG_TDO is released while no debugger shifts. -/
def drives (s : State) : Signal → Option Drive
  | .pgood => some (pushes s.power.pgood)
  | .syncOut => some (pushes s.power.syncOut)
  | .supplyAlertN => some (sinks s.power.supplyAlert)
  | .holdupN => some (sinks s.power.holdup)
  | .thermN => some (sinks s.power.therm)
  | .faultN => some (sinks s.power.fault)
  | .pcieWakeN => some (sinks s.host.wakeN)
  | .dbgTdo => some .released
  | .prsntN => some .low
  | _ => none

/-- The pull that an input or strap has inside the module: its level while the tray leaves it open (R531, R534); none where it has
no pull. -/
def Signal.pull : Signal → Option Bool
  | .perstN _ | .syncIn | .pwrEn | .dbgTck | .dbgTrstN => some false
  | .gpio k => some (k == 7)
  | .svyTerm | .svyAddr _ | .resetN | .dbgTms | .dbgTdi | .bootSel _ | .zeroizeN | .tamperA | .tamperB | .laserEnN => some true
  | _ => none

/-- How an LVCMOS input reads a level in mV (R543): nothing is promised between the two thresholds. -/
def readsLevel (mV : Nat) : Option Bool := if mV ≤ 800 then some false else if mV ≥ 2000 then some true else none

/-- How a comparator input of the always-on domain reads a level in mV (R544): whether the loop is open. -/
def readsOpen (mV : Nat) : Option Bool := if mV ≤ 800 then some false else if mV ≥ 1600 then some true else none

/-- How such an input reads a loop of a resistance in Ω (R544). -/
def loopOpen (ohms : Nat) : Option Bool := if ohms ≤ 1000 then some false else if ohms ≥ 50000 then some true else none

/-- Whether a pulse of a land acts, by its length in ns (R545): PWR_EN, RESET_N, ZEROIZE_N and GPIO[7] low, a tamper input open;
nothing is promised between the two figures of an always-on input. -/
def pulseActs (x : Signal) (ns : Ns) : Option Bool :=
  match x with
  | .pwrEn => some (decide (1000000 ≤ ns))
  | .resetN => some (decide (10000 ≤ ns))
  | .gpio 7 => some (decide (10000 ≤ ns))
  | .zeroizeN => if ns ≤ 5000 then some false else if ns ≥ 10000 then some true else none
  | .tamperA | .tamperB => if ns ≤ 50000 then some false else if ns ≥ 100000 then some true else none
  | _ => none

/-- Whether REFCLK counts as present, by its swing in mV peak to peak (R546). -/
def refclkPresent (mV : Nat) : Bool := decide (mV ≥ 200)

end Sys2Proof.Machine
end

