-- ==== Sys2Proof/Machine/SurveyBits.lean ====
section
/-! DEFINITION. The Survey Bus below a frame: bits, characters, arbitration and the length of an exchange (R438–R445, R448–R451,
R458, R461, R465). The commands bring whole frames; this is what a frame is on the pair. -/

namespace Sys2Proof.Machine

/-- Levels of the pair: true is recessive, which is logic 1; the pair is a wired AND of what the nodes send (R434). -/
def wired (nodes : List Bool) : Bool := nodes.all (fun b => b)

/-- Value of bit `i` of a character, of its samples from the start edge: the majority of samples 7, 8 and 9 (R438, R440). -/
def bitValue (samples : List Bool) (i : Nat) : Bool :=
  let at_ (k : Nat) : Bool := samples.getD (16 * i + k) true
  (at_ 7 && at_ 8) || (at_ 7 && at_ 9) || (at_ 8 && at_ 9)

/-- What a receiver makes of the samples from a start edge on (R441, R442). -/
inductive CharOut where
  | glitch                                  -- the start bit reads recessive: counted as NOISE
  | framing                                 -- the stop bit reads dominant
  | char (data : Byte) (mark : Bool)
  deriving DecidableEq, Repr

/-- A character received: start, data least significant bit first, mark, stop (R441). -/
def receiveChar (samples : List Bool) : CharOut :=
  if bitValue samples 0 then .glitch
  else if !bitValue samples 10 then .framing
  else .char (BitVec.ofNat 8 (placeFields ((List.range 8).map (fun k => (k, b2n (bitValue samples (k + 1))))))) (bitValue samples 9)

/-- The next start edge: the first dominant sample from sample 9 of the stop bit on (R442). -/
def nextEdge (samples : List Bool) : Option Nat := ((samples.drop 169).findIdx? (fun b => !b)).map (· + 169)

/-- The 11 bits of a character as they are sent (R441). -/
def charBits (data : Byte) (mark : Bool) : List Bool := [false] ++ (List.range 8).map (bit data) ++ [mark, true]

/-- The bits of a frame, its first character marked, sent back to back (R442, R445). -/
def frameBits : List Byte → List Bool
  | [] => []
  | b :: rest => charBits b true ++ (rest.map (fun x => charBits x false)).flatten

/-- The samples that a receiver takes of bits sent in time. -/
def samplesOf (bits : List Bool) : List Bool := (bits.map (List.replicate 16)).flatten

/-- Where a sender loses the arbitration: the first bit that it sends recessive and samples dominant (R451). -/
def losesAt (sent bus : List Bool) : Option Nat := (List.zip sent bus).findIdx? (fun p => p.1 && !p.2)

/-- Nanoseconds of a bit-time at a rate code (R443, R465). -/
def bitTime : Nat → Nat
  | 0 => 1000
  | 1 => 400
  | 2 => 200
  | _ => 100

/-- Bit-times of a request and of a response with a payload of `len` bytes (R445). -/
def requestBits (len : Nat) : Nat := 11 * (6 + len)
/-- Bit-times of a response (R445). -/
def responseBits (len : Nat) : Nat := 11 * (5 + len)

/-- Recessive bit-times after which a controller may begin a frame (R449). -/
def idleBits : Nat := 12

/-- The end E of an exchange after its request: a response at the latest gap of 6, or a response that is missing, or none due
(R448, R450). -/
def exchangeEnd (len : Nat) (response : Option (Option Nat)) : Nat :=
  match response with
  | none => requestBits len
  | some none => requestBits len + 10
  | some (some r) => requestBits len + 6 + responseBits r

/-- The alert slot follows PING, WRITE, READ and ASSIGN, and no SEARCH or RATE (R458). -/
def hasSlot (type : Nat) : Bool := [1, 2, 3, 5].contains type

/-- Bit-times of an exchange with its alert slot and the idle that follows it (R465): the idle begins with the slot's end. -/
def exchangeBits (type len : Nat) (response : Option (Option Nat)) : Nat :=
  exchangeEnd len response + (if hasSlot type then 2 else 0) + idleBits

/-- Bit-times of a SEARCH from bit N on with its IDENT (R461, R465): 4 to the first sync bit, 4 a step. -/
def searchBits (n : Nat) : Nat := requestBits 10 + 4 + 4 * (64 - n) + 6 + responseBits 11 + idleBits

/-- Bit-times of a SEARCH that is lost after some whole steps: its last step has the sync bit only (R462, R465). -/
def lostSearchBits (steps : Nat) : Nat := requestBits 10 + 4 + 4 * steps + 1 + idleBits

end Sys2Proof.Machine
end

