-- ==== Sys2Proof/Tests/Slice0.lean ====
section
/-! SUPPORT. The model's own tests: ill-formed commands that the check refuses, states that meet the hypotheses of the
statements, and results of single steps worked out from the spec. -/

namespace Sys2Proof.Tests

-- One check at a time: each waiting check holds a thread.
set_option Elab.async false

open Sys2Proof Sys2Proof.Machine

/-- A quota record with every field at its highest value (R350). -/
def fullQuota (owner : Nat) : BitVec 1024 :=
  (quotaTable true).foldl (fun r q => setQuota r q.1 q.2.1 q.2.2.1) (setQuota (setQuota 0 0 2 owner) 2 1 0xFF)

/-- The module with traffic up, the operator claimed, and nothing else: time 100 s. -/
def up : State :=
  { State.reset with
    power := { Power.reset with
      phase := .trafficReady, state := .run, clock := 100000000000, vin := 48000, vinMin := 48000, bank := 48000,
      bankReady := true, refclk := true, pwrEn := true, pgood := true, pllLocked := true, dramReady := true, epoch := 1, epochL := 1 }
    dram := { Dram.reset with trained := true }
    trust := { Trust.reset with slots := [(operatorId, { Slot.free with state := .claimed, quota := fullQuota operatorId, key := some 7 })] } }

/-- What a step left; the state at shipment where it stopped. -/
def after : Out → State
  | .next s => s
  | _ => State.reset

/-- A persistent task's thread at its third instruction. -/
def worker : Thread :=
  { Thread.idle with task := .persistent 0 0, first := true, size := 4096, pc := 8, npc := 12, prio := 5 }

/-- The module with one thread running, the first of PE 0 of Pan 0. -/
def alone (x : Thread) : State := { up with threads := [(0, x)] }

/-- The decidable parts of `Ready`. -/
theorem ready_of {s : State} {t : Nat} {slotOk : Bool} {srcs : List (BitVec 5)}
    (h : okTid t = true ∧ canIssue s t = true ∧ (s.thread t).issuedRegs = none ∧ fetchBad s t = false ∧
      (s.thread t).dslot = false ∧ guarded (s.thread t) = false) : Ready s t slotOk srcs :=
  ⟨h.1, h.2.1, h.2.2.1, h.2.2.2.1, fun k => absurd k (by rw [h.2.2.2.2.1]; decide), fun k => absurd k (by rw [h.2.2.2.2.2]; decide)⟩

theorem witness_ready (srcs : List (BitVec 5)) (slotOk : Bool) : Ready (alone worker) 0 slotOk srcs :=
  ready_of (by decide +kernel)

/-- The operator's session. -/
def opSession : Session :=
  { owner := some operatorId, established := true, reqKey := 1, rspKey := 2, reqIv := 3, rspIv := 4, high := 1, window := 1,
    notif := 0, kept := [], log := [], via := .usb 0, lastMessage := 0, transcript := 0 }

/-- A command packet of session 1, waiting. -/
def request (opcode tenant : Nat) : Entry :=
  { session := 1, seq := 1, opcode := opcode, flags := 0, tenant := tenant, version := 1, cookie := 0, limit := 0, deadline := 0,
    acceptedAt := 0, via := .usb 0, payload := [], heir := none, ack := none, extended := false, progressAt := 0, stage := .waiting,
    committed := false, orphan := false }

/-- The packet's number. -/
def ref : CmdRef := ⟨1, false⟩

/-- A machine in which the operator's session has one command waiting. -/
def asked (opcode : Nat) (s : State) : State :=
  { s with legend := { s.legend with sessions := [(1, opSession)], flight := [(1, request opcode operatorId)] } }

/-- The decidable parts of `Served`, for a packet without CHAINED. -/
theorem served_of {s : State} {c : CmdRef} {opcode : Nat} {e : Entry}
    (h : AMap.find s.legend.flight c.acc = some e ∧ e.opcode = opcode ∧ e.stage = .waiting ∧ s.trust.zeroizing = none ∧
      s.power.phase ≠ .flushing ∧ chainWaits s e = false ∧ startsBefore s c.acc e = false ∧ Nat.testBit e.flags 2 = false ∧ headCheck s e true = none ∧
      stateCheck s c.acc e = none ∧ c.malformed = false ∧ e.limit = 0 ∧ e.seq ≠ 0xFFFFFFFF) : Served s c opcode e := by
  obtain ⟨a, b, d, f, p, g, i, k, l, m, n, q, o⟩ := h
  exact ⟨a, b, d, f, p, g, i, fun j => absurd j (by rw [k]; decide), l, m, n, by simp [pastDeadline, q], .inl o⟩

/-- Every command that the operator may send, on the machine that only runs. -/
theorem witness_served : ∀ o ∈ [0x0002, 0x0004, 0x0005, 0x0006, 0x0100, 0x0101, 0x0102, 0x0103, 0x0104, 0x0105, 0x0106, 0x0107,
    0x0108, 0x0109, 0x010A, 0x0200, 0x0210, 0x0300, 0x030B, 0x0400, 0x040B, 0x0500, 0x050D, 0x0600, 0x0604, 0x0700, 0x0702,
    0x0800, 0x080A, 0x0900, 0x0909, 0x0A00, 0x0A06, 0x0B00, 0x0B07, 0x0C00, 0x0C05],
    Served (asked o up) ref o (request o operatorId) := by
  intro o h
  refine served_of ⟨rfl, rfl, rfl, rfl, by simp [asked, up], ?_, ?_, by simp [request], ?_, ?_, rfl, rfl, by simp [request]⟩ <;> revert o <;> decide +kernel

/-- The same, whatever the rest of the machine holds: a statement's further hypotheses are met beside it. -/
theorem witness_served_with {s : State} (hp : s.power = up.power) (ht : s.trust = up.trust) (o : Nat)
    (h : o ∈ [0x0002, 0x0004, 0x0005, 0x0006] ∨ (0x0100 ≤ o ∧ o < 0x0D00)) :
    Served (asked o s) ref o (request o operatorId) := by
  have k : maskHas (opcodeRoles o) 0 = true := by
    simp only [opcodeRoles]
    split
    · rfl
    · split
      · rename_i a
        simp at a
        rcases h with h | h
        · simp at h; omega
        · omega
      · repeat (split; rfl)
        rfl
  refine served_of ⟨rfl, rfl, rfl, by rw [show (asked o s).trust = up.trust from ht]; rfl, by rw [show (asked o s).power = up.power from hp]; decide,
    ?_, ?_, by simp [request], ?_, ?_, rfl, rfl, by simp [request]⟩
  · simp [chainWaits, request, maskHas]
  · simp [startsBefore, objectBusy, asked, ref]
  · simp [headCheck, request, labelOk, ownerOf, asked, State.session, AMap.find, opSession, bootServes, hp, ht, roleBit, k]
    exact fun a => absurd a (by decide +kernel)
  · simp [stateCheck, slotBusy, request, standbyBars, standbyHolds, ownerOf, asked, State.session, AMap.find, opSession, hp, ht, show up.power.state = .run from rfl,
      show up.power.transition = none from rfl, show up.power.phase = .trafficReady from rfl]
    decide +kernel

/-- A frame's descriptor: a 64-byte frame of tenant 3 on logical port 0, nothing of it kept. -/
def desc : Desc :=
  { lport := 0, len := 64, cells := [], guaranteed := false, parse := 0, cls := 0, tenant := 3, named := true, priority := 1, domain := 9,
    program := 1, reason := 0, copies := [], command := false, headSince := 0, taken := 0, time := 0 }

/-- A packet context that runs at the head of its domain. -/
def context : Ctx :=
  { state := .runNonspec, desc := desc, express := false, seq := 0, taken := 0, lifeEnd := 200000000000, replays := 0,
    serial := false, serialRun := false, reads := [], recs := [], egress := 0, policed := false, dropReason := none, failed := none, parkedOn := none,
    partly := false, insertFailed := false, learned := [], sent := 0, lost := 0, lostQuota := 0, lostReason := 0,
    waitEgress := false, window := [], dirty := [], pktLen := 60, bound := true, gens := [], progVersion := 0, entry := 0 }

/-- A thread that processes the packet of context 1. -/
def packetWorker : Thread := { worker with task := .packet 1, tenant := 3 }

/-- The module with one packet thread; its context is at the head of its domain, or behind context 2. -/
def packetAlone (x : Thread) (k : Ctx) (behind : Bool) : State :=
  { alone x with meridian := { (alone x).meridian with
      ctxs := [(1, k)], domains := [(k.key, { Domain.reset with next := 2, flight := if behind then [2, 1] else [1] })] } }

theorem witness_step_runs_front :
    ({ up with pending := [.laserLight, .commandReady []] } : State).pending = .laserLight :: [.commandReady []] ∧
    up.pending = [] ∧ up.power.phase ≠ .off ∧ State.reset.pending = [] ∧ State.reset.power.phase = .off := by decide +kernel

theorem witness_divide : ∀ x ∈ [{ worker with regs := [(2, 5)] }, { worker with regs := [(2, 5), (3, 2)] },
      { worker with regs := [(2, 0x8000000000000000#64), (3, -1)] }],
    (Ready (alone x) 0 true [2, 3]) ∧ (x.reg 3 = 0 ∨ (x.reg 2).toInt = -0x8000000000000000 ∧ (x.reg 3).toInt = -1 ∨ x.reg 3 = 2) := by
  intro x h
  refine ⟨ready_of ?_, ?_⟩ <;> revert x <;> decide +kernel

theorem witness_trapping :
    (Ready (alone { worker with regs := [(2, 0x7FFFFFFFFFFFFFFF#64), (3, 1)] }) 0 true [2, 3] ∧ (0x7FFFFFFFFFFFFFFF#64).toInt + (1 : Word).toInt = 2 ^ 63) ∧
    (Ready (alone { worker with regs := [(2, 0x7FFFFFFFFFFFFFFF#64), (3, 0)] }) 0 true [2, 3] ∧ (0x7FFFFFFFFFFFFFFF#64).toInt + (0 : Word).toInt < 2 ^ 63) :=
  ⟨⟨ready_of (by decide +kernel), by decide⟩, ready_of (by decide +kernel), by decide⟩

theorem witness_bounds_check :
    Ready (packetAlone packetWorker context false) 0 true [1] ∧
    (packetAlone packetWorker context false).thread 0 = packetWorker ∧ packetWorker.task = .packet 1 ∧
    (packetAlone packetWorker context false).ctx? 1 = some context ∧ ((alone worker).thread 0).ctxId = none :=
  ⟨ready_of (by decide +kernel), by decide +kernel⟩

theorem witness_branches :
    (Ready (alone worker) 0 false [] ∧ worker.level = 2) ∧
    (Ready (alone { worker with level := 1 }) 0 false [] ∧ ({ worker with level := 1 } : Thread).level = 1) :=
  ⟨⟨ready_of (by decide +kernel), by decide +kernel⟩, ready_of (by decide +kernel), by decide +kernel⟩

/-- Places of a packet thread: its local store, the packet window, the parse record, a hole; a Pan SRAM word of level 0. -/
theorem witness_loads_and_stores :
    let s := packetAlone packetWorker context false
    Ready s 0 true [1, 2] ∧ place s packetWorker 0 64 8 false = .ref (.localStore 0 64) ∧
    place s packetWorker 0 0x100200 8 false = .ref (.window 1 0x200) ∧ place s packetWorker 0 0xFFFC0 4 false = .record 0 ∧
    place s packetWorker 0 0xFFFC0 4 true = .bad 6 ∧ place s packetWorker 0 0x200000 8 false = .bad 5 ∧
    place s worker 0 0x100200 8 false = .bad 0x15 ∧ place s { worker with level := 0 } 0 0x1000008 8 true = .ref (.sram 0 8) ∧
    touchesLock s (.sram 0 8) 8 = false ∧ packetWorker.spec s = false ∧
    packetWorker.spec (packetAlone packetWorker context true) = true ∧ forwardFrom 0 (.sram 0 8) 8 [] 0 .none = .none ∧
    forwardFrom 0 (.sram 0 8) 8 [⟨0, .sram 0 8, 8, 7⟩] 0 .none = .value 7 ∧
    forwardFrom 0 (.sram 0 8) 8 [⟨1, .sram 0 8, 8, 7⟩] 0 .none = .none ∧
    forwardFrom 0 (.sram 0 8) 8 [⟨0, .sram 0 12, 4, 7⟩] 0 .none = .after 1 ∧ packetWorker.ctxId = some 1 ∧
    onCc 0 = false ∧ onCc 240 = true ∧ okTid 240 = true ∧ deterministic s 240 = false :=
  ⟨ready_of (by decide +kernel), by decide +kernel⟩

/-- A CC's store buffer, results in flight of several distances, an access that comes back. -/
theorem witness_atomics_and_landings :
    let w (x : Thread) (l : List BufStore) : State := setCcBuffer { up with threads := [(240, x)] } 240 l
    let x := { worker with flights := [⟨3, 9, 4, 0, 18, 30⟩, ⟨3, 8, 5, 0, 3, 20⟩, ⟨4, 9, 6, 1, 18, 30⟩], landed := [(4, 7)] }
    let y := { worker with block := .access (.load 4 true) (.sram 0 16) 0x1000010 3 }
    let e : BufStore := ⟨240, .sram 0 8, 8, 7⟩
    Ready (w worker [e]) 240 true [1, 2] ∧ ccBuffer (reportReads (w worker [e]) 240 [1, 2]) 240 = [e] ∧ ccBuffer (w worker [e]) 240 = [e] ∧
    (∀ v ∈ [240, 241], ((writeMem (setCcBuffer (w worker [e]) 240 []) e.place e.size e.value.toNat).thread v).block = .none) ∧
    okTid 0 = true ∧ x.flights.find? (fun f => f.num == 5) = some ⟨3, 8, 5, 0, 3, 20⟩ ∧
    (∀ g ∈ x.flights.takeWhile (fun g => g.num != 5), g.reg = 3 → 3 < g.dist) ∧ AMap.find x.landed 3 = none ∧
    x.flights.find? (fun f => f.num == 6) = some ⟨4, 9, 6, 1, 18, 30⟩ ∧ AMap.find x.landed 4 = some 7 ∧ x.block = .none ∧
    ((alone y).thread 0).block = .access (.load 4 true) (.sram 0 16) 0x1000010 3 ∧ poisoned (alone y) (.sram 0 16) 4 = false ∧
    touchesLock (alone y) (.sram 0 16) 8 = false ∧
    place (alone worker) { worker with level := 0 } 0 0x1000008 8 true = .ref (.sram 0 8) :=
  ⟨ready_of (by decide +kernel), by decide +kernel⟩

theorem witness_system :
    csrExists 0 = true ∧ csrExists 0x30 = true ∧ csrExists 4 = true ∧ csrExists 0xFFF = false ∧ 2 ≤ csrReadLevel 0 ∧
    csrWriteLevel 0 = some 2 ∧ csrWriteLevel 4 = some 2 ∧ csrSync 0 = false ∧ (∃ n < 0x60, csrSync n = true ∧ csrWriteLevel n ≠ none) ∧
    (∃ n < 0x60, csrExists n = true ∧ csrWriteLevel n = none) ∧ (∃ n < 0x60, ∃ l < 2, csrExists n = true ∧ csrWriteLevel n = some l) ∧
    worker.flights = [] ∧ ccBuffer (reportReads (alone worker) 0 []) 0 = [] ∧ worker.spec (alone worker) = false ∧ (0xFC000000 : BitVec 32).toNat / 2 ^ 26 = 0x3F ∧
    (0x03FFFFFF : BitVec 32).toNat / 2 ^ 26 < 0x3E ∧ legalWord (0x03FFFFFF : BitVec 32).toNat = false := by decide +kernel

theorem witness_issue :
    canIssue (alone { worker with block := .delay }) 0 = false ∧ fetchBad (alone { worker with pc := 4096 }) 0 = true ∧
    fetchBad (alone { worker with pc := 4096, level := 1 }) 0 = true ∧
    canIssue (alone { worker with pc := 4096 }) 0 = true ∧ canIssue (alone { worker with dslot := true }) 0 = true ∧
    fetchBad (alone { worker with dslot := true }) 0 = false ∧ guarded { worker with csrs := [(9, 1)] } = true ∧
    producing { worker with flights := [⟨3, 0, 7, 0, 18, 20⟩], prod := [(3, ⟨7, 18, 0, 0⟩)] } 3 = true ∧
    producing { worker with flights := [⟨3, 0, 7, 0, 18, 20⟩], prod := [(3, ⟨8, 1, 0, 0⟩)] } 3 = false := by
  decide +kernel

theorem witness_locks :
    let x := { worker with level := 0, regs := [(2, 0x1000008)] }
    let l : Lock :=
      { place := .sram 0 8, addr := 0x1000008, held := true, owner := 0, ownerRun := 0, prio := 5, tag := 0, broken := false,
        brokenBefore := false, leaseEnd := 0, waiters := [⟨1, 0x1000008, 5, 100, false⟩], inTable := true }
    let s (l : Lock) : State := { alone x with pans := [(0, { Pan.reset with locks := [l] })] }
    let free : Lock := { l with held := false }
    let others : List Lock := (List.range 128).map (fun k => { free with place := .sram 0 (8 * k + 16) })
    let full : State := { alone x with pans := [(0, { Pan.reset with locks := { free with inTable := false } :: others })] }
    Ready (alone x) 0 true [2] ∧ lockPlace (alone x) x 0 (x.reg 2) = .inl (.sram 0 8) ∧ holdsLock (alone x) 0 (.sram 0 8) = false ∧
    ccBuffer (reportReads (alone x) 0 [2]) 0 = [] ∧ (lockEntry (alone x) (.sram 0 8)).held = false ∧ tableFull (alone x) (.sram 0 8) = false ∧
    (lockEntry (s l) (.sram 0 8)).held = true ∧ (!(lockEntry full (.sram 0 8)).inTable && tableFull full (.sram 0 8)) = true ∧
    holdsLock (s l) 0 (.sram 0 8) = true ∧ findLock (s l) (.sram 0 8) = some l ∧
    findLock (s free) (.sram 0 8) = some free ∧ free.waiters ≠ [] ∧
    findLock (s { free with inTable := false }) (.sram 0 8) = some { free with inTable := false } ∧
    tableFull (s { free with inTable := false }) (.sram 0 8) = false ∧
    findLock full (.sram 0 8) = some { free with inTable := false } ∧ l.leaseEnd ≤ now (s l) ∧
    (let freed := releaseLock (s l) l true
     let granted := match findLock freed (.sram 0 8) with | none => freed | some k => grantNext freed k
     let u := panCount granted 0 14
     ((u.thread 0).held = false ∧ (u.thread 0).task ≠ .none ∧ (u.thread 0).block = .none)) :=
  ⟨ready_of (by decide +kernel), rfl, by decide +kernel⟩

theorem witness_channels :
    let x := { worker with responses := [(0, [(7, false)])], chanMap := 5 + 2 * 2 ^ 16 + 3 * 2 ^ 32 }
    let s := { alone x with
      threads := [(0, x), (1, { worker with first := false })],
      pans := [(0, { Pan.reset with
        links := [(linkKey 1 0, [⟨4, true⟩])], faultQueue := [(9, 0)], held := [⟨.persistent 0 0, [2], 0⟩],
        msgqs := [(0, { owner := operatorId, depth := 4, entries := [⟨3, true⟩], held := [] })] })] }
    Ready s 0 true [1] ∧ AMap.at x.responses 0 [] = [(7, false)] ∧ AMap.at x.responses 1 [] = [] ∧ chanOf x 8 = .sibling 1 ∧
    linkOf s (linkKey (0 / 8 * 8 + 1) 0) = [⟨4, true⟩] ∧ siblingOurs s 0 1 = true ∧ chanOf x 9 = .readEnd 0 ∧ chanOf x 10 = .writeEnd 0 ∧
    chanOf x 15 = .unconnected ∧ (msgqOf s 0 0).isSome = true ∧ (∀ m, msgqOf s 0 0 = some m → (takeMsg s 0 0 m 0).isSome = true) ∧
    chanOf { x with task := .supervisor 0 } 14 = .faultQueue ∧ chanOf { x with task := .supervisor 0 } 15 = .control ∧
    (takeFaultWord s 0).isSome = true ∧ channelReady s x 0 8 = some 1 ∧ channelReady s x 0 15 = none ∧ x.spec s = false ∧
    (s.pan 0).held.find? (fun h => h.tids.contains 2) = some ⟨.persistent 0 0, [2], 0⟩ ∧ 0 + 1000 * fld (s.pan 0).sched 40 16 ≤ now s :=
  ⟨ready_of (by decide +kernel), by decide +kernel⟩

/-- A persistent task of the operator: slot 0 of Pan 0, which runs program 1 at priority 5 with a period of 4 ticks. -/
def task : PTask :=
  { gen := 0, owner := operatorId, ownerKey := 1, desc := BitVec.ofNat 384 (1 + 0xFFF * 2 ^ 32 + 4 * 2 ^ 352), state := .running, flags := 3,
    pendingAct := false, deleting := false, waiters := [] }

/-- The module with that task and its thread. -/
def tasked (k : PTask) (x : Thread) : State := { alone x with pans := [(0, { Pan.reset with tasks := [(0, k)] })] }

theorem witness_threads :
    let x := { worker with children := [1], exited := [(2, 8)], tenant := 0xFFF, regs := [(1, 1), (2, 2), (3, 9)] }
    Ready (tasked task x) 0 false [1, 2] ∧ (pool (alone x) 0).head? = some 1 ∧ ({ x with parent := some 1 } : Thread).parent = some 1 ∧
    AMap.find x.exited 2 = some 8 ∧ AMap.find x.exited 1 = none ∧ 1 ∈ x.children ∧ 9 ∉ x.children ∧ x.parent = none ∧
    (tasked task x).task? 0 0 = some task ∧ taskByHandle (tasked task x) 0 = some (0, 0, task) ∧
    taskTenant task = x.tenant ∧ taskByHandle (tasked task x) 1 = none ∧ x.ctxId = none ∧
    speculative (packetAlone packetWorker context false) 1 = false ∧ speculative (packetAlone packetWorker context true) 1 = true ∧
    packetWorker.task = .packet 1 ∧ egressValid (packetAlone packetWorker context false) 0 0 60 = true ∧
    egressValid (packetAlone packetWorker context false) 512 0 60 = false ∧ context.egress < 8 ∧ furtherUsed context < 32 ∧
    ({ tasked task x with pans := [(0, { Pan.reset with efs := [(0, 4, 1)], tasks := [(0, task)] })] } : State).pans.any
      (fun p => p.2.efs.find? (fun e => e.1 == 0 && e.2.1 == 4) == some (0, 4, 1)) = true :=
  ⟨ready_of (by decide +kernel), by decide +kernel⟩

theorem witness_full_pool :
    pool { alone worker with threads := (List.range 8).map (fun t => (t, worker)) } 0 = [] := by decide +kernel

theorem witness_coprocessors :
    let x := { worker with csrs := [(8, 0x777)], regs := [(1, 64), (2, 16)] }
    let y := { x with cp0 := CpCtx.reset.sets [(1, 0), (2, 0), (3, 16)], cp1 := { CpCtx.reset with cmds := [⟨3, 0, 0, 0, []⟩] } }
    Ready (alone x) 0 true [1, 2] ∧ cpEnabled x 0 = true ∧ cpEnabled x 1 = true ∧ cpEnabled x 2 = true ∧ cpEnabled worker 0 = false ∧
    crDefined 0 11 = true ∧ crDefined 1 23 = true ∧ crDefined 2 4 = true ∧ cpReadOnly 0 10 = true ∧ cpReadOnly 0 11 = false ∧
    x.cp0.pendingRegs.testBit 1 = false ∧ cipherBad x.cp0 4 = true ∧ cipherBad y.cp0 2 = false ∧
    cipherFault y 0 y.cp0 2 = none ∧ cipherBad (y.cp0.set 1 0x4000) 2 = false ∧ cipherFault y 0 (y.cp0.set 1 0x4000) 2 = some 0x4000 ∧
    (cpRange x 0 64 16).isSome = true ∧ cpRange x 0 0x200000 16 = none ∧ 64 + saveBytes 1 ≤ localSize 0 ∧ (x.cp 1).cmds = [] ∧
    ((alone y).thread 0).cp1.cmds = [⟨3, 0, 0, 0, []⟩] ∧ okTid 0 = true ∧ okUnit 1 = true ∧ ((alone y).pan 0).lateCp = [] ∧
    (let z : State := { alone { x with cp0 := { CpCtx.reset with cmds := [⟨6, 0, 0, 0, []⟩] } } with
       pans := [(0, { Pan.reset with cpBusy := [(0, 0)], lateCp := [(0, 1)] })] }
     (z.thread 0).cp0.cmds = [⟨6, 0, 0, 0, []⟩] ∧ AMap.find (z.pan 0).cpBusy (cp0Key 0) = some 0 ∧
     (z.pan 0).lateCp.contains (0, 0) = false ∧ (z.pan 0).lateCp.contains (0, 1) = true) ∧ ccBuffer (alone x) 0 = [] :=
  ⟨ready_of (by decide +kernel), by decide +kernel⟩

theorem witness_tally :
    let x := { worker with level := 0, csrs := [(8, 0x777)] }
    let k := { packetWorker with level := 0, csrs := [(8, 0x777)] }
    Ready (alone x) 0 true [1, 2] ∧ cpEnabled x 2 = true ∧ onCc 0 = false ∧ x.ctxId = none ∧ x.cp2.cmds.length < 16 ∧
    (tallyPlace (alone x) x 0 0x1000020 32 32 true).getLeft? = some (.sram 0 32) ∧ (tallyPlace (alone x) x 0 0x1000020 16 16 false).getLeft? = some (.sram 0 32) ∧
    poisoned (alone x) (.sram 0 32) 32 = false ∧ x.spec (alone x) = false ∧ (meterUpdate 0 1000 64 0).isSome = true ∧
    k.ctxId = some 1 ∧ k.spec (packetAlone k context true) = true ∧ speculative (packetAlone k context false) 1 = false ∧
    (tallyPlace (packetAlone k context true) k 0 0x1000020 16 16 true).getLeft? = some (.sram 0 32) ∧
    ((applyTally (packetAlone k context false) 1 0 (.sram 0 32) 64 0).1.ctx? 1).isSome = true :=
  ⟨ready_of (by decide +kernel), by decide +kernel⟩

/-- An ARRAY table of 16 records and a FLOW table, of the operator. -/
def array : Table := { Table.empty with kind := 4, size := 16 }

theorem witness_tables :
    let x := { worker with binding := [(2, 70)], regs := [(1, 2), (2, 8)] }
    let s := { alone x with gaz := { Gaz.reset with tables := [(70, array)] } }
    let lpm := { Table.empty with kind := 1, width := 1 }
    let u := { s with gaz := { s.gaz with tables := [(70, lpm)] } }
    let q : Search :=
      { num := 4, tid := 0, ctx := none, channel := 1, table := 70, tableNo := 2, key := [], issued := 0, deadline := 1, result := 6,
        data := [], timedOut := false, aborted := false }
    let v := { u with gaz := { u.gaz with searches := [q] } }
    Ready s 0 true [1, 2] ∧ stateTarget s x 2 2 3 false = .inl (70, array) ∧ stateTarget s x 2 2 3 true = .inl (70, array) ∧
    stateTarget s x 2 3 3 false = .inr 3 ∧ x.ctxId = none ∧ ownWrite context 70 8 3 = none ∧ setFull context (.record 70 8) = false ∧
    boundTable u x 2 = some (70, lpm) ∧ boundTable u x 3 = none ∧ (x.reg 1).toNat % 256 = 2 ∧ (x.reg 1).toNat / 256 = 0 ∧
    8 + searchKeyBytes lpm ≤ localSize 0 ∧ (AMap.at x.responses 1 []).length + AMap.at x.reserved 1 0 + resultEntries lpm ≤ 16 ∧
    v.gaz.searches.find? (fun q => q.num == 4) = some q ∧ olderSearch v q = false ∧ q.deadline ≤ now v :=
  ⟨ready_of (by decide +kernel), rfl, rfl, rfl, by decide +kernel⟩

/-- The record accesses of a packet: its own buffered write, a record held only in the flash tier, a plain record. -/
theorem witness_packet_records :
    let x := { packetWorker with binding := [(2, 70)], regs := [(1, 2), (2, 8)] }
    let flow : Table := { Table.empty with kind := 3, size := 16, quarantine := [⟨8, [1], some [9]⟩] }
    let s (b : Bool) : State := { packetAlone x context b with gaz := { Gaz.reset with tables := [(70, array)] } }
    let cold : State := { s false with
      gaz := { Gaz.reset with tables := [(70, flow)] }, stk := { (s false).stk with cold := [⟨70, operatorId, 0, [9], ⟨0, 0⟩, false, []⟩] } }
    (∀ b, Ready (s b) 0 true [1, 2] ∧ Ready (s b) 0 true [2]) ∧ x.ctxId = some 1 ∧
    stateTarget (s true) x 2 2 3 false = .inl (70, array) ∧ stateTarget (s true) x 2 2 3 true = .inl (70, array) ∧
    (s true).ctx? 1 = some context ∧ speculative (s true) 1 = true ∧ speculative (s false) 1 = false ∧
    ownWrite { context with recs := [.write 70 8 3 5] } 70 8 3 = some 5 ∧ ownWrite context 70 8 3 = none ∧
    flashOnly (s true) 70 8 = none ∧ flashOnly cold 70 8 = some [9] :=
  ⟨fun b => by cases b <;> exact ⟨ready_of (by decide +kernel), ready_of (by decide +kernel)⟩, rfl, rfl, rfl, by decide +kernel⟩

theorem witness_search_runs :
    (match runSearch (alone worker) 0 worker 1 2 0 70 { Table.empty with kind := 1, width := 1 } (List.replicate 8 0) with
      | .next _ => true
      | _ => false) = true := by decide +kernel

theorem witness_scheduling :
    let k (st : CtxState) : Ctx := { context with state := st, lifeEnd := 0 }
    let s (st : CtxState) : State := packetAlone packetWorker (k st) false
    let e : ReadyEntry := ⟨.packet 1, false, 0, false⟩
    let waits : State := { up with
      meridian := { up.meridian with domains := [(domKey false 9, { Domain.reset with waiting := [desc] })] },
      sluice := { up.sluice with queues := [(1, [desc])] } }
    serves up = true ∧ okDomain 9 = true ∧ (waits.dom (domKey false 9)).waiting = [desc] ∧ desc.taken + parkNs waits ≤ now waits ∧
    soq waits (8 * 0 + 1) = [desc] ∧ desc.headSince + parkNs waits ≤ now waits ∧ okCtx 1 = true ∧
    (s .runSpec).ctx? 1 = some (k .runSpec) ∧ (k .runSpec).lifeEnd ≤ now (s .runSpec) ∧ (s .unwind).ctx? 1 = some (k .unwind) ∧
    ((s .done).dom (domKey false 9)).flight = [1] ∧ (s .done).ctx? 1 = some (k .done) ∧ (k .done).failed = none ∧
    panAwake up 0 = true ∧ panServes up 0 = true ∧
    dispatchable { up with pans := [(0, { Pan.reset with ready := [(1, [e])] })] } 0 = true ∧ earlierThreads 0 = [] ∧
    AMap.at ({ up with pans := [(15, { Pan.reset with ready := [(0, [e])] })] }.pan (watchPan up)).ready 0 [] = [e] ∧
    urgentThread up = some 3840 ∧
    ({ up with pans := [(3, { Pan.reset with power := .waking 0 400 })] }.pan 3).power = .waking 0 400 ∧ 0 + 400 ≤ now up ∧
    gateOf { up with power := { up.power with state := .doze } } 3 = some (.clockGated, 2000) ∧ (up.pan 3).power = .awake ∧
    panIdle up 3 = true ∧ (up.pan 3).idleSince + 2000 ≤ now up := by decide +kernel

theorem witness_dispatch :
    let s := packetAlone Thread.idle { context with state := .ready } false
    let e : ReadyEntry := ⟨.packet 1, false, 0, false⟩
    firstEntry { s with pans := [(0, { Pan.reset with ready := [(1, [e])] })] } 0 (onCc 0) = some e := by decide +kernel

theorem witness_timers :
    let e : ReadyEntry := ⟨.packet 1, false, 0, false⟩
    let s := { tasked task worker with pans := [(0, { Pan.reset with tasks := [(0, task)], ready := [(4, [e])] })] }
    okPan 0 = true ∧ trafficUp s = true ∧ (s.pan 0).tickAt + (s.pan 0).tickNs ≤ now s ∧ s.task? 0 0 = some task ∧ delayDue (s.pan 0) = false ∧
    (let due := s.setPan 0 { s.pan 0 with delays := [⟨.period 0, 0, 5⟩] }
     (due.pan 0).delays = [⟨.period 0, 0, 5⟩] ∧ due.task? 0 0 = some task ∧ 0 ≤ (due.pan 0).tick) ∧ (AMap.at (s.pan 0).ready 4 [])[0]? = some e ∧ fld (s.pan 0).sched 24 16 ≠ 0 ∧
    0 + fld (s.pan 0).sched 24 16 * 1000 < now s := by decide +kernel

/-- Logical port 0 lit and up. -/
def portUp (p : LPort → LPort) : State :=
  setLasers (up.setLport 0 (p { up.lport 0 with linkUp := true, aligned := true })) [0, 1, 2, 3] true

/-- A frame at the head of a queue of logical port 0. -/
def queued (staged : Bool) : EgressFrame :=
  { len := 64, segs := [], tenant := 3, program := 1, express := false, domain := 9, seq := 0, ctx := 1, priority := 1, staged := staged }

theorem witness_links :
    let p (f : LPort → LPort) : State := portUp f
    let down := setLasers (up.setLport 0 { up.lport 0 with cfg := setFld (up.lport 0).cfg 2 1 1 }) [0, 1, 2, 3] true
    okLport 0 = true ∧ ((p id).lport 0).linkUp = true ∧ trafficUp (p id) = true ∧ (p id).contain.core = none ∧
    ({ p id with contain := { up.contain with core := some ⟨4, 255, 1, 0, false⟩ } } : State).contain.core ≠ none ∧
    AMap.find ((p (fun x => { x with pauses := [(3, ⟨0, true⟩)] })).lport 0).pauses 3 = some ⟨0, true⟩ ∧ okPcp 3 = true ∧ 0 ≤ nowPs up ∧
    AMap.find ((p (fun x => { x with xoff := 8, xoffRepeat := [(3, 5)] })).lport 0).xoffRepeat 3 = some 5 ∧ 5 ≤ nowPs up ∧
    (down.lport 0).linkUp = false ∧ lportExists down 0 = true ∧ adminUp (down.lport 0) = true ∧ laserOn down 0 = true ∧
    down.power.pllLocked = true ∧ okEngine 7 = true ∧ powered up = true ∧ (up.ports.laserEnN = true ∨ up.ports.laserEnN = false) ∧
    (((p id).setQueue 0 1 { (p id).queue 0 1 with frames := [queued false] }).queue 0 1).frames = [queued false] ∧
    (∀ k < 8, (((p id).setQueue 0 1 { (p id).queue 0 1 with frames := [queued false] }).queue 0 k).frames.all (fun g => !g.staged) = true) ∧
    ({ up with cote := { up.cote with pools := [(2, { Pool.reset with reads := 1, ring := 600 })] } }.cote.pool 2).reads ≠ 0 := by
  decide +kernel

/-- The operator's command with an opcode waits on a machine that holds `s` else. -/
def OpAsks (o : Nat) (s : State) : Prop := Served (asked o s) ref o (request o operatorId)

/-- Each record as its read shows it, or with a value of its range, is one that its write accepts. -/
theorem witness_port_commands :
    (∀ o, 0x0200 ≤ o → o ≤ 0x020A → OpAsks o (portUp id)) ∧
    (let s := portUp id
     lportExists s 0 = true ∧ firstBad (portBad 0 (s.lport 0).cfg) = none ∧ s.ports.chans = [] ∧
     (let v : BitVec 320 := BitVec.ofNat 320 (0x88E5 + 0x020000000001 * 2 ^ 64)
      fld v 20 4 = 0 ∧ fld v 48 16 = 0 ∧ fld v 112 16 = 0 ∧ 0x0600 ≤ fld v 0 16 ∧ fld v 64 48 ≠ 0 ∧ v.getLsbD 104 = false) ∧
     (let v := (s.queue 0 7).cfg
      fld v 1 7 = 0 ∧ fld v 56 8 = 0 ∧ fld v 16 16 ≤ lportRate s 0 ∧ 16 ≤ fld v 32 16 ∧ fld v 32 16 ≤ 4096 ∧ fld v 8 8 ≠ 0 ∧
      (let strict (k : Nat) : Bool := if k == 7 then bit v 0 else bit (s.queue 0 k).cfg 0
       strict 0 = true ∧ strictPrefix ((List.range 8).map strict) = true)) ∧
     (∀ n < 16, firstBad (threshBad n (threshOf s n)) = none) ∧ (∀ k < 8, (s.engine k).dark = false) ∧
     (let v : BitVec 64 := BitVec.ofNat 64 (0x88B5 * 2 ^ 16 + 10000 * 2 ^ 32)
      fld v 4 12 = 0 ∧ fld v 46 18 = 0 ∧ 0x0600 ≤ fld v 16 16 ∧ fld v 16 16 ∉ knownEtherTypes (s.lport 0) ∧ 0 < fld v 32 14 ∧ fld v 32 14 ≤ 10000)) :=
  ⟨fun o a b => witness_served_with rfl rfl o (.inr ⟨by omega, by omega⟩), by decide +kernel⟩

theorem witness_macsec_commands :
    let x : ScSpec :=
      { sci := 1, lport := 0, transmit := true, xpn := false, offset := 0, integrityOnly := false, sciMode := 0, replay := false, window := 0,
        pnThresh := 0 }
    let o := newChan x operatorId
    let k := { o with owner := 5 }
    let with_ (l : List SecChan) : State := { portUp id with ports := { (portUp id).ports with chans := l } }
    let keyed (s : State) : State := asked 0x020D { s with trust := { s.trust with keys := [(operatorId, [(4, 9)])] } }
    (∀ op, 0x020B ≤ op → op ≤ 0x0210 → OpAsks op (with_ [o]) ∧ OpAsks op (with_ [k]) ∧ OpAsks op (with_ [])) ∧
    Served (keyed (with_ [o])) ref 0x020D (request 0x020D operatorId) ∧
    lportExists (with_ []) 0 = true ∧ x.offset ∈ [0, 30, 50] ∧ o.pnThresh < o.pnEnd ∧ chanNamed (with_ []) 1 0 true = none ∧
    chanNamed (with_ [o]) 1 0 true = some o ∧ o.owner = actor (asked 0x020D (with_ [o])) (request 0x020D operatorId) ∧
    o.sameAs (newChan x operatorId) = true ∧ chanNamed (with_ [k]) 1 0 true = some k ∧ k.owner ≠ operatorId ∧
    keyEntry (keyed (with_ [o])) operatorId 4 = some 9 ∧ AMap.has o.sas 3 = false ∧
    AMap.has ({ o with sas := [(3, ⟨0, 0, 0, 1, true, false, false⟩)] } : SecChan).sas 3 = true ∧ 0 < 0xFFFFFFFF ∧ 0xFFFFFFFF < o.pnEnd :=
  ⟨fun op a b => ⟨witness_served_with rfl rfl op (.inr ⟨by omega, by omega⟩), witness_served_with rfl rfl op (.inr ⟨by omega, by omega⟩),
    witness_served_with rfl rfl op (.inr ⟨by omega, by omega⟩)⟩, served_of (by decide +kernel), by decide +kernel⟩

/-- A program of the operator. -/
def program : Prog :=
  { owner := operatorId, digest := 1, image := [0, 0, 0, 0], cc := false, pans := 2, binding := [], entry := 0, env := 0, chanMap := 0,
    guard := false, guardSelected := false, cpen := 0, express := false, allowDram := false, version := 0 }

theorem witness_classifier_commands :
    let s := { up with legend := { up.legend with programs := [(1, program)] } }
    let call : Call := ⟨1, operatorId, true, request 0x0302 operatorId⟩
    let scope : RuleRec := { id := 5, tenant := operatorId, profile := 0, prio := 1, width := 10, action := 3, value := 0, mask := 0 }
    let rule : RuleRec :=
      { id := 5, tenant := operatorId, profile := 0, prio := 1, width := 10 * profileUnits s 0, action := 1,
        value := 0x0FFF, mask := 0xFFFF }
    let r := ruleFrom rule 0
    let ruled := s.setSluice { s.sluice with rules := [r], scopeRules := [ruleFrom scope 0], order := 1 }
    (∀ o, 0x0300 ≤ o → o ≤ 0x030B → OpAsks o s ∧ OpAsks o ruled) ∧
    firstBad (recordBad call scope) = none ∧ firstBad (actionReserved 10 scope.action [(17, 15), (32, 96)]) = none ∧
    fld scope.action 0 12 ≤ 511 ∧ s.sluice.scopeRules = [] ∧ (ruleFrom scope 0).asRecord scope = true ∧
    profileBuilt s 0 = true ∧ firstBad (recordBad call rule ++ actionBad s operatorId rule.width rule.action ++ prefixBad operatorId rule) = none ∧
    s.sluice.rules = [] ∧ tcamUnits (s.setSluice { s.sluice with rules := [r], order := 1 }) operatorId ≤ ownerQuota s operatorId 8 4 ∧
    rulesTake (s.setSluice { s.sluice with rules := [r], order := 1 }) ≤ ruleBanks s ∧
    ruled.sluice.rules.find? (fun r => r.isOf operatorId 5) = some r ∧ r.asRecord rule = true ∧
    firstBad ([(0x00000002 : BitVec 32)].zipIdx.map (fun k => extractorBad k.1 k.2)).flatten = none ∧ profileUsed s 8 = false ∧
    (∀ i < 8, profileBuilt s (fld (0 : BitVec 32) (4 * i) 4) = true) ∧
    (let v : BitVec 64 := BitVec.ofNat 64 (0x0FFF + 64 * 2 ^ 32)
     fld v 23 1 = 0 ∧ fld v 46 18 = 0 ∧ 64 ≤ fld v 32 14 ∧ fld v 0 12 = fld (mirrorOf s 3) 0 12 ∧ fld v 12 2 ≠ 2) ∧
    (fld (BitVec.ofNat 64 (7 + 9216 * 2 ^ 32)) 0 12 ≠ fld (mirrorOf s 3) 0 12 ∧ sessionNamed s 3 = false) ∧
    (let v : BitVec 128 := BitVec.ofNat 128 (50000 + 65536 * 2 ^ 16 + 7 * 2 ^ 33)
     fld v 36 4 = 0 ∧ fld v 65 63 = 0 ∧ fld v 0 16 ≤ 50000 ∧ 0 < fld v 16 17 ∧ fld v 16 17 ≤ 65536 ∧ fld v 33 3 ≠ 0 ∧ fld v 60 5 ≤ 20 ∧
     rangeOk (fld v 40 20) (fld v 60 5) = true) ∧
    (let v : BitVec 64 := BitVec.ofNat 64 (10000 + 65536 * 2 ^ 16)
     fld v 14 2 = 0 ∧ fld v 33 31 = 0 ∧ fld v 0 14 ≤ 10000 ∧ 0 < fld v 16 17 ∧ fld v 16 17 ≤ 65536) ∧
    (let v : BitVec 64 := 4789
     fld v 48 16 = 0 ∧ fld v 0 16 ≠ fld v 16 16 ∧ fld v 16 16 = 0 ∧ fld v 0 16 ≠ fld v 32 16) ∧
    (∀ k < 7, 0 < classifierCount k ∧ (classifierData s call k 0).isSome = true) ∧
    (∀ o ∈ [0, 1, 2, 3, operatorId], slotBusy s o = false ∧ slotBusy ruled o = false) :=
  ⟨fun o a b => ⟨witness_served_with rfl rfl o (.inr ⟨by omega, by omega⟩), witness_served_with rfl rfl o (.inr ⟨by omega, by omega⟩)⟩,
    by decide +kernel⟩

/-- A machine with one table, 70. -/
def tabled (t : Table) (s : State) : State := { s with gaz := { s.gaz with tables := [(70, t)] } }

/-- A FLOW table of 1,024 records with one-word keys and a cold filter. -/
def flow : Table := { Table.empty with kind := 3, cfg := BitVec.ofNat 128 (10 + 2 ^ 5 + 2 ^ 10 + 1000 * 2 ^ 16 + 20 * 2 ^ 51), fresh := 1 }

/-- A FLOW table with one key in its stash. -/
def stashed : Table := { flow with stash := [{ key := List.replicate 8 1, index := 0, age := 0 }] }

theorem witness_table_commands :
    let lpm := { Table.empty with kind := 1 }
    let direct := { Table.empty with kind := 2, indexBits := 4 }
    let spec : TableSpec :=
      { kind := 1, width := 1, tagPos := 0, rows := 10, indexBits := 0, entryWords := 2, checkEn := false, sram := false, size := 0, cfg := 0,
        autoRehash := false }
    (∀ t ∈ [lpm, direct, flow, stashed, array], ∀ o, 0x0500 ≤ o → o ≤ 0x050D → OpAsks o (tabled t up)) ∧
    (∀ o, 0x0500 ≤ o → o ≤ 0x050D → OpAsks o up) ∧
    AMap.find up.gaz.tables 70 = none ∧ firstBad (specBad up spec) = none ∧ firstBad (specBad up { spec with kind := 3, cfg := flow.cfg }) = none ∧
    max 1 (ceilDiv (spec.rows * spec.width) 4096) ≤ ((freeBanks up (ruleBanks up)).take 1).length ∧
    firstBad (growTests up operatorId .empty (tableFrom operatorId spec 0)) = none ∧
    firstBad (growTests (tabled flow up) operatorId flow { flow with rehash := some ⟨1, 2, [], none⟩ }) = none ∧
    lpm.owner = operatorId ∧ direct.owner = operatorId ∧ flow.owner = operatorId ∧ direct.entryWords = 2 ∧ fld (0 : Word) 1 23 = 0 ∧
    keyWords flow = 1 ∧ flowFind stashed (List.replicate 8 1) ≠ none ∧ flowFind stashed (List.replicate 8 2) = none ∧
    firstBad (flowCfgBad up flow.cfg 8) = none ∧ recordLive flow 0 = true ∧ 0 < tableSize flow ∧ tableSize flow = 1024 ∧
    flow.rehash = none ∧ flow.poison = [] ∧
    (let v := up.gaz.cfg
     fld v 3 1 = 0 ∧ fld v 14 2 = 0 ∧ fld v 26 6 = 0 ∧ fld v 46 2 = 0 ∧ 1 ≤ fld v 0 3 ∧ fld v 0 3 ≤ 5 ∧ 1 ≤ fld v 4 10 ∧
     fld v 4 10 ≤ fld v 16 10 ∧ fld v 16 10 ≤ 1000 ∧ 10 ≤ fld v 32 14 ∧ fld v 32 14 ≤ 10000 ∧ rulesTake up ≤ fld v 0 3 ∧
     fld v 0 3 = ruleBanks up ∧ fld (setFld v 0 3 5) 0 3 ≠ ruleBanks up ∧ firstUnmovable (64 - partitionBanks 5) up.gaz.tables 0 = none) :=
  ⟨fun t _ o a b => witness_served_with rfl rfl o (.inr ⟨by omega, by omega⟩), fun o a b => witness_served_with rfl rfl o (.inr ⟨by omega, by omega⟩),
    by decide +kernel⟩

theorem witness_table_events :
    let row : TEntry :=
      { id := 1, value := 0, mask := 0, tag := 63, owner := operatorId, prio := 0, result := 0, plen := 0, isGlobal := true, order := 0, row := 0,
        bad := some [⟨1, 0, 0, false, 0, false⟩], image := none, shadowLost := false, dead := false }
    let view : View := { entries := [row], direct := [] }
    let lpm := { Table.empty with kind := 1, slot0 := view, slot1 := view, banks := [63], batch := [.delete 1 1] }
    let rehashing := { flow with rehash := some ⟨1, 2, [], none⟩ }
    let s := tabled lpm up
    AMap.find s.gaz.tables 70 = some lpm ∧ viewHeld s lpm = false ∧
    lpm.batch.all (fun x => (AMap.find s.legend.flight x.acc).isNone) = true ∧ okBank 63 = true ∧ partitionBanks (ruleBanks s) ≤ 63 ∧
    bankOwner s 63 = some (70, lpm, 0) ∧ (physicalRows lpm).find? (fun e => e.row == 0 * perBank lpm + 0) = some row ∧ row.bad ≠ none ∧
    (imageOf lpm row).isSome = true ∧ imageOf lpm { row with image := some none } = none ∧ 0 < perBank lpm ∧
    0 < fld s.gaz.cfg 48 16 ∧ bankUsed s 63 ≠ 0 ∧ bankPinned s 63 = false ∧ (AMap.at s.gaz.banks 63 .reset).asleep = false ∧
    (AMap.at s.gaz.banks 63 .reset).lastSearch + 1000 * fld s.gaz.cfg 48 16 ≤ now s ∧
    moveAll rehashing ⟨1, 2, [], none⟩ (storedWays rehashing) [] = some [] ∧ coldEn rehashing = true ∧ filterLog rehashing ≠ 0 ∧
    coldEn { rehashing with cfg := setFld flow.cfg 10 1 0 } = false := by decide +kernel

theorem witness_program_commands :
    let x : ProgSpec :=
      { id := 1, digest := 1, image := [0, 0, 0, 0], pans := 1, cc := false, binding := [], entry := 0, env := 0, chanMap := 0, guard := false,
        cpen := 0, express := false, allowDram := false }
    let s := { up with legend := { up.legend with programs := [(1, { program with pans := 1 })] } }
    let d : BitVec 384 := BitVec.ofNat 384 (1 + 8 * 2 ^ 16)
    let t (st : TaskState) : State := { s with pans := [(0, { Pan.reset with tasks := [(0, { task with state := st })] })] }
    let q := setMsgq s 0 3 { owner := operatorId, depth := 4, entries := [], held := [] }
    (∀ o, 0x0400 ≤ o → o ≤ 0x040B → OpAsks o up ∧ OpAsks o s ∧ OpAsks o q ∧ ∀ st, OpAsks o (t st)) ∧ OpAsks 0x0C03 s ∧
    AMap.find up.legend.programs 1 = none ∧ firstBad (programBad up operatorId x) = none ∧
    AMap.find s.legend.programs 1 = some { program with pans := 1 } ∧ firstBad (programBad s operatorId { x with digest := 2 }) = none ∧
    programUsed s 1 = false ∧ envForeign s operatorId 0 0 = false ∧ firstBad (envBad (List.replicate 12 0)) = none ∧
    envRunning s 0 0 = false ∧ taskByKey s operatorId 7 = none ∧ firstBad (descBad s operatorId 0 d ++ taskLimits s operatorId 0) = none ∧
    taskByKey (t .idle) operatorId 1 = some (0, 0, { task with state := .idle }) ∧
    (∀ st ∈ [TaskState.idle, .ready, .running, .faulted, .disabled], taskByHandle (t st) 0 = some (0, 0, { task with state := st })) ∧
    task.flags &&& wakeMask task = 0 ∧ task.flags &&& wakeMask { task with desc := setFld task.desc 320 32 1 } ≠ 0 ∧
    msgqOf s 0 3 = none ∧ msgqEntries ((s.pan 0).msgqs.filter (fun x => x.2.owner == operatorId)) + 256 ≤ ownerQuota s operatorId 60 2 ∧
    msgqEntries (s.pan 0).msgqs + 256 ≤ 16384 ∧ (msgqOf q 0 3).isSome = true ∧ queueBound q 0 3 = false :=
  ⟨fun o a b => ⟨witness_served_with rfl rfl o (.inr ⟨by omega, by omega⟩), witness_served_with rfl rfl o (.inr ⟨by omega, by omega⟩),
      witness_served_with rfl rfl o (.inr ⟨by omega, by omega⟩), fun _ => witness_served_with rfl rfl o (.inr ⟨by omega, by omega⟩)⟩,
    witness_served_with rfl rfl 0x0C03 (by decide), by decide +kernel⟩

theorem witness_dram_events :
    let q : DramReq :=
      { port := 1, owner := 3, offset := 0, bytes := 64, write := false, data := [], arrival := 0, express := false, row := 1 }
    let taken := advanceCopy (setStack up 5 { stackAt up 5 with lastRequest := now up, refresh := .active })
    let due (at_ : Ns) : State := setStack up 5 { stackAt up 5 with refreshAt := [(0, at_)] }
    let i := refreshInterval up 5
    let nap := { up with power := { up.power with state := .nap }, dram := { up.dram with cfg := setFld up.dram.cfg 0 14 5 } }
    let leaving := setStack up 2 { stackAt up 2 with refresh := .exiting 0 }
    let moving (t : Option Nat) : State := up.setDram { up.dram with move := some ⟨3, t, 0, 0⟩ }
    let pends := setRank (moving none) 3 { rankAt up 3 with state := .retirePending }
    let fits := setRank up 3 { rankAt up 3 with state := .retirePending }
    let boots := { up with power := { up.power with phase := .booting, dramReady := false } }
    okStack 5 = true ∧ [q].all (fun q => decide (q.port < 24)) = true ∧ up.dram.trained = true ∧ (stackAt up 5).refresh = .active ∧
    chooseReq taken (stackAt up 5) 0 [q] = some q ∧
    AMap.at (stackAt (due (now up + 8 * i)) 5).refreshAt 0 ((stackAt (due (now up + 8 * i)) 5).refreshBase + i) ≤ now up + 8 * i ∧ AMap.at (stackAt (due 0) 5).refreshAt 0 ((stackAt (due 0) 5).refreshBase + i) + 8 * i ≤ now up ∧
    now up < AMap.at (stackAt (due (now up)) 5).refreshAt 0 ((stackAt (due (now up)) 5).refreshBase + i) + 8 * i ∧ (stackAt (due 0) 5).refresh = .active ∧ scrubNext up 0 0 0 = true ∧ scrubDue up ≤ now up ∧
    okStack (191 / 32) = true ∧ AMap.at up.dram.calibrated 191 0 + 100000000 ≤ now up ∧
    (stackAt nap 2).refresh = .active ∧ fld nap.dram.cfg 0 14 ≠ 0 ∧ (stackAt nap 2).lastRequest + 1000 * fld nap.dram.cfg 0 14 ≤ now nap ∧
    (stackAt leaving 2).refresh = .exiting 0 ∧ 0 + 1500 ≤ now leaving ∧ (rankAt up 17).state ≠ .retired ∧ (rankAt up 17).state ≠ .failed ∧
    (moving (some 8)).dram.move = some ⟨3, some 8, 0, 0⟩ ∧ (moving none).dram.move = some ⟨3, none, 0, 0⟩ ∧
    (rankAt pends 3).state = .retirePending ∧ pends.dram.move ≠ none ∧ (rankAt pends 3).pendingAt + 60000000000 ≤ now pends ∧
    (rankAt fits 3).state = .retirePending ∧ fits.dram.move = none ∧ fitsOneFewer fits = true ∧
    boots.power.dramReady = false ∧ boots.power.phase = .booting := by decide +kernel

theorem witness_buffer_commands :
    let pooled := { up with cote := { up.cote with pools := [(0, { Pool.reset with cfg := BitVec.ofNat 64 (655360 * 2 ^ 8) })] } }
    (∀ o, 0x0600 ≤ o → o ≤ 0x0604 → OpAsks o up) ∧ OpAsks 0x0602 pooled ∧ (∀ o, 0x0700 ≤ o → o ≤ 0x0702 → OpAsks o up) ∧
    (let v := up.cote.cfg
     fld v 6 2 = 0 ∧ fld v 24 40 = 0 ∧ fld v 0 6 ≤ 32 ∧ 0 < fld v 8 16 ∧ fld v 0 6 = farGib up) ∧
    firstBad (poolBad up 5 (BitVec.ofNat 64 (4096 * 2 ^ 8))) = none ∧
    (let v : BitVec 64 := BitVec.ofNat 64 (100 * 2 ^ 24 + 50 * 2 ^ 40)
     firstBad (igBad pooled 0 v) = none) ∧
    (let v : BitVec 64 := BitVec.ofNat 64 (100 * 2 ^ 8)
     fld v 6 2 = 0 ∧ fld v 36 28 = 0 ∧ fld v 8 24 ≠ 0 ∧ poolFar (up.cote.pool 0) = false) ∧
    (let v : BitVec 64 := BitVec.ofNat 64 (10000 + 168 * 2 ^ 16)
     fld v 14 2 = 0 ∧ fld v 24 40 = 0 ∧ 5 ≤ fld v 0 14 ∧ fld v 0 14 ≤ 10000 ∧ 1 ≤ fld v 16 8 ∧ fld v 16 8 ≤ 168) ∧
    (let v := dramPort up 23
     fld v 3 1 = 0 ∧ fld v 17 3 = 0 ∧ fld v 43 21 = 0 ∧ portGbw v ≤ 7200 ∧ 500 ≤ portTarget v ∧ portTarget v ≤ 1000000 ∧
     admission (peakNow up) (portsWith up 23 v) = none) :=
  ⟨fun o a b => witness_served_with rfl rfl o (.inr ⟨by omega, by omega⟩), witness_served_with rfl rfl 0x0602 (by decide),
    fun o a b => witness_served_with rfl rfl o (.inr ⟨by omega, by omega⟩), by decide +kernel⟩

/-- A capture ring of the operator, and a cold record of the table `flow`. -/
def ring : Ring :=
  { cfg := BitVec.ofNat 64 (0xFFF + 4 * 2 ^ 16 + 2 ^ 45), state := .armed, recs := [], seq := 0, since := 0, trigNext := false, gapNext := false }
def cold (staged : Bool) : ColdRec :=
  { table := 70, owner := operatorId, kh := 1, key := List.replicate 8 1, demoted := ⟨1, 0⟩, staged := staged, words := [] }
def promotion : Promotion := { table := 70, kh := 1, key := List.replicate 8 1, gone := false, step := 8, deletes := [], late := false }

/-- The module with that ring, that record and, if wanted, its promotion. -/
def stocked (staged : Bool) (ps : List Promotion) : State :=
  { tabled flow up with stk := { up.stk with rings := [(3, ring)], cold := [cold staged], promotions := ps } }

theorem witness_flash :
    let key := List.replicate 8 (1 : Byte)
    let s := stocked false []
    let p : PendCap := { ring := 3, session := 1, owner := operatorId, ruleId := 5, frameLen := 64, inPort := 0, len := 60, cells := [], time := ⟨1, 0⟩ }
    (∀ o, 0x0800 ≤ o → o ≤ 0x080A → OpAsks o (stocked false []) ∧ OpAsks o (stocked false [promotion]) ∧ OpAsks o up) ∧
    s.ident.flash = true ∧ (tabled flow up).stk.promotions = [] ∧ AMap.find s.gaz.tables 70 = some flow ∧
    (stocked false [promotion]).stk.promotions.find? (fun p => p.table == 70 && p.key == key) = some promotion ∧
    coldFind s 70 key = some (cold false) ∧ promotion.step < 9 ∧ coldFind (stocked true []) 70 key = some (cold true) ∧
    stkState s ≠ .failed ∧ s.stk.state = .normal ∧ ({ flow with filterNew := some [] } : Table).filterNew = some [] ∧ flow.rehash = none ∧
    ({ s with stk := { s.stk with captures := [p] } } : State).stk.captures.findIdx? (fun p => p.ring == 3) = some 0 ∧
    AMap.find s.stk.rings 3 = some ring ∧ fld ring.cfg 0 12 = operatorId ∧ ring.state ≠ .disabled ∧ ringSizes s 3 (some operatorId) + 32768 ≤ ownerQuota s operatorId 52 4 ∧
    ringSizes s 3 none + 16 * 1024 ≤ captureUnits s * 1024 ∧
    (let v := s.stk.cfg
     fld v 6 2 = 0 ∧ fld v 27 37 = 0 ∧ fld v 0 6 ≤ 32 ∧ 365 ≤ fld v 8 12 ∧ fld v 8 12 ≤ 3652 ∧ 5 ≤ fld v 20 7 ∧ fld v 20 7 ≤ 100 ∧
     fld v 0 6 = captureUnits s) ∧
    (let v := ring.cfg
     fld v 14 2 = 0 ∧ fld v 52 12 = 0 ∧ fld v 12 2 ≠ 3 ∧ fld v 16 16 ≤ 32768 ∧ fld v 32 2 = 0 ∧ 1 ≤ fld v 45 7 ∧ fld v 45 7 ≤ 100) ∧
    stkOpen s = true ∧ onNand s 70 key = true ∧ ladderStep s 70 key < 10 ∧ s.stk.lostChannels = 0 ∧
    (stocked false []).stk.promotions.find? (fun p => p.table == 70 && p.key == key) = none ∧
    [4, 5].find? (fun q => decide (10 ≤ ladderStep (setLadder s (ringPlace 3) (beBytes 4 5) 10) (ringPlace 3) (beBytes 4 q))) = some 5 ∧
    coldFind up 70 key = none ∧ (stocked false [promotion]).stk.promotions.any (fun p => p.table == 70 && p.key == key && !p.gone) = true ∧
    flow.filterNew = none ∧ coldEn flow = true ∧ filterLog flow ≠ 0 ∧ ((startRebuild s 70).table 70).filterNew ≠ none :=
  ⟨fun o a b => ⟨witness_served_with rfl rfl o (.inr ⟨by omega, by omega⟩), witness_served_with rfl rfl o (.inr ⟨by omega, by omega⟩),
    witness_served_with rfl rfl o (.inr ⟨by omega, by omega⟩)⟩, by decide +kernel⟩

theorem witness_event_commands :
    let s := { up with legend := { up.legend with snaps := [(5, ⟨1, [1, 2], 0⟩)] } }
    let call : Call := ⟨1, operatorId, true, request 0x0A02 operatorId⟩
    (∀ o, 0x0A00 ≤ o → o ≤ 0x0A06 → OpAsks o s) ∧ (∀ o, 0x0C00 ≤ o → o ≤ 0x0C02 → OpAsks o s) ∧
    okSource 2047 = true ∧ powered s = true ∧ AMap.find s.legend.snaps 5 = some ⟨1, [1, 2], 0⟩ ∧ 0 + 60000000000 ≤ now s ∧
    firstBad (routeBad s (BitVec.ofNat 64 (3 + 511 * 2 ^ 5))) = none ∧ firstBad (coreSelectBad s call 2047 19) = none ∧
    firstBad (devSelectBad 0) = none ∧ snapsOf s 1 < 16 ∧ s.legend.snaps.length < 1024 ∧ instExists s 5 511 = true ∧ instSeen s 3 5 3 = true ∧
    (⟨1, [1, 2], 0⟩ : Snap).session = (request 0x0A04 operatorId).session :=
  ⟨fun o a b => witness_served_with rfl rfl o (.inr ⟨by omega, by omega⟩), fun o a b => witness_served_with rfl rfl o (.inr ⟨by omega, by omega⟩),
    by decide +kernel⟩

theorem witness_input_and_power :
    let s (p : Phase) : State := { up with power := { up.power with phase := p } }
    let moves (r : Option Ns) : State :=
      { up with power := { up.power with transition := some { target := .standby, acc := none, since := 0, grace := false, railsAt := r } } }
    let sleeps := { up with power := { up.power with state := .standby, pstate := BitVec.ofNat 64 (8 + 5 * 2 ^ 4) } }
    (OpAsks 0x0103 up ∧ OpAsks 0x0104 up ∧ OpAsks 0x0105 up) ∧ powered up = true ∧ up.power.warning = false ∧
    33999 < 34000 ∧ up.power.vin ≤ 47000 + 1000 ∧ fld up.power.intake 4 11 < 1151 ∧ up.power.refclk = true ∧ up.power.syncLast = none ∧
    causeHolds up 1 31999 = true ∧ causeHolds up 1 32000 = false ∧ causeHolds up 2 48000 = true ∧ (s .flushing).power.phase = .flushing ∧
    causeHolds (s .flushing) 1 31999 = true ∧
    (s .off).power.offHeld = false ∧ up.power.transition = none ∧ fld (BitVec.ofNat 64 4) 0 3 ≤ 4 ∧
    (moves none).power.transition ≠ none ∧ 0 + 10000000 ≤ now (moves none) ∧ 7 ≤ now (moves (some 7)) ∧
    inStandby sleeps = true ∧ fld sleeps.power.pstate 3 1 = 1 ∧ fld sleeps.power.pstate 4 24 ≠ 0 ∧
    sleeps.power.standbyAt + fld sleeps.power.pstate 4 24 * 1000000 ≤ now sleeps ∧ mgmtRuns up = true ∧ up.trust.zeroizing = none ∧
    (s .booting).power.dramReady = true ∧ (s .commandReady).power.phase = .commandReady ∧ (s .restarting).power.phase = .restarting :=
  ⟨⟨witness_served_with rfl rfl _ (by decide), witness_served_with rfl rfl _ (by decide), witness_served_with rfl rfl _ (by decide)⟩,
    by decide +kernel⟩

theorem witness_tenants :
    let record := setQuota (fullQuota 4) 24 8 0
    let record := setQuota (setQuota record 32 8 0) 2 1 0xFF
    let quota := setQuota record 64 48 0
    let made := { up with trust := { up.trust with slots := up.trust.slots ++ [] } }
    let s (st : SlotState) : State := made.setSlot 4 { Slot.free with state := st, quota := keptQuota true record }
    quotaField record 0 2 = 4 ∧ firstBad (quotaBad up record) = none ∧ (up.slot 4).state = .free ∧ firstBad (dramFits up 4 record) = none ∧
    firstBad (quotaSlotBad quota) = none ∧ ((s .created).slot 4).state = .created ∧ ((s .created).slot 4).quota = keptQuota up.ident.flash record ∧
    ((s .zeroizing).slot 4).state = .zeroizing ∧ slotBusy (s .zeroizing) 4 = true ∧ slotBusy (s .created) 4 = false ∧
    (∀ o ∈ [0x0900, 0x0901, 0x0903, 0x0904, 0x0902], headCheck (asked o (s .created)) (request o operatorId) true = none) := by
  decide +kernel

theorem witness_tenants_served (o : Nat) (h : 0x0900 ≤ o ∧ o ≤ 0x0909 ∨ o = 0x0C04 ∨ o = 0x0C05) : OpAsks o up :=
  witness_served_with rfl rfl o (.inr (by omega))

/-- Signatures are functions without a value: what else the statement asks for is met beside one that verifies. -/
theorem witness_firmware (signature : List Byte) (_ : Config.sigOk 4 (Config.hash384 (manifestBytes 15 [List.replicate 6 0])) signature = true) :
    (∀ o, 0x0B00 ≤ o → o ≤ 0x0B07 → OpAsks o up) ∧ slotHeld up.trust 3 1 = false ∧ (slotMap 3).1 ≥ 4096 ∧
    setVerifies up.trust [0, 0, 0, 0, 0, 0] = true ∧ misfit up.ident (setImages up.trust [0, 0, 0, 0, 0, 0]) = none ∧ up.trust.manifestSeq < 15 ∧
    signerUsed up.trust 2 = false ∧ (runSet up.trust [0, 0, 0, 0, 0, 0]).runningImages ≠ [] ∧
    (runSet up.trust [0, 0, 0, 0, 0, 0]).runningImages.all (fun i => decide (i.svn ≤ 63)) = true :=
  ⟨fun o a b => witness_served_with rfl rfl o (.inr ⟨by omega, by omega⟩), by decide +kernel⟩

/-- A session of an owner, or of no owner, with one command waiting. -/
def sessionAsked (owner : Option Nat) (via : Via) (opcode : Nat) (s : State) : State :=
  { s with legend := { s.legend with
      sessions := [(1, { opSession with owner := owner, via := via })],
      flight := [(1, { request opcode (owner.getD operatorId) with via := via })] } }

theorem witness_sessions :
    let free := { up with trust := { up.trust with slots := [] } }
    let made := up.setSlot 4 { Slot.free with state := .created }
    let spdm (o : Option Nat) : Entry := { request 0 (o.getD operatorId) with session := 0 }
    let outside : State := { up with legend := { up.legend with
      sessions := [(1, { opSession with established := false })], flight := [(1, spdm none)] } }
    let ownerless : State := { up with legend := { up.legend with
      sessions := [(1, { opSession with owner := none, established := false })], flight := [(1, spdm none)] } }
    Served outside ref 0 (spdm none) ∧ Served ownerless ref 0 (spdm none) ∧
    Served (sessionAsked none (.usb 0) 0x0001 free) ref 0x0001 (request 0x0001 operatorId) ∧
    Served (sessionAsked none (.pcie 5) 0x0003 made) ref 0x0003 { request 0x0003 operatorId with via := .pcie 5 } ∧
    mayClaimDevice (.usb 0) = true ∧ operatorAdmits free 9 = true ∧ sealingOff free operatorId = false ∧
    mayClaimTenant (.pcie 5) 4 = true ∧ (made.slot 4).state = .created ∧ (made.slot 4).expect = 0 ∧ sealingOff made 4 = false ∧
    sessionsFull outside none = false ∧ (ownerless.session 1).isSome = true :=
  ⟨served_of (by decide +kernel), served_of (by decide +kernel), served_of (by decide +kernel), served_of (by decide +kernel),
    by decide +kernel⟩

theorem witness_session_spdm (o : Nat) (h : o = 0) :
    Served (asked o up) ref 0 (request o operatorId) := by subst h; exact served_of (by decide +kernel)

theorem witness_session_events :
    let e : Entry := { request 0x0006 operatorId with flags := 4, seq := 9, limit := 5, deadline := 5000 }
    let s : State := { up with legend := { up.legend with sessions := [(1, opSession)], flight := [(1, e)] } }
    let k : Entry := { e with flags := 0 }
    let t : State := { up with legend := { up.legend with sessions := [(1, opSession)], flight := [(1, k)] } }
    let c := { context with state := .ready, desc := { desc with command := true } }
    let p : Partial := { lport := 0, mac := 1, tag := 7, count := 2, next := 1, bytes := [], since := 0 }
    s.session 1 = some opSession ∧ powered s = true ∧ opSession.lastMessage + 100000000000 ≤ now s ∧
    ({ s with power := { s.power with clock := 120000000000 } } : State).power.clock = 120000000000 ∧
    takesPackets s (.usb 0) = true ∧ e.ack = none ∧ e.acceptedAt + 1000000 ≤ now s ∧ e.stage = .waiting ∧ chainOpen s e = true ∧
    e.acceptedAt + min 1000000000 (e.limit * 1000) ≤ now s ∧ k.deadline ≤ now t ∧ k.committed = false ∧ chainOpen t k = false ∧
    knownOpcode 0x0D00 = false ∧ (packetAlone packetWorker c false).ctx? 1 = some c ∧ c.desc.command = true ∧ legendUp s = true ∧
    ((packetAlone packetWorker c false).dom c.key).flight.head? = some 1 ∧
    ({ up with legend := { up.legend with partials := [p] } } : State).legend.partials.find? (fun p => p.is 0 1 7) = some p ∧
    p.since + 2000000 ≤ now up := by decide +kernel

/-- R542: of two causes in one 250 ns cycle the journal records the lower; a cause of a later cycle changes nothing. -/
theorem test_shutdown_causes :
    let e : JournalEntry := { latchEntry up 2 with time := ⟨0, 250⟩ }
    let s (t : Nat) : State :=
      { up with power := { up.power with phase := .flushing, clock := t }, stk := { up.stk with flushing := some e } }
    let cause (r : Host.Outcome State Fault Refusal) : Option Nat :=
      match r with | .next t => t.stk.flushing.map (·.cause) | _ => none
    cause (exec (.shutdownDecision 1 31999) (s 499)) = some 1 ∧ cause (exec (.shutdownDecision 1 31999) (s 500)) = some 2 ∧
      cause (exec (.shutdownDecision 2 48000) (s 499)) = some 2 := by
  decide +kernel

/-- Link 0 up, its PF with a command ring of 64 entries, a reply ring of 4 KiB buffers and a completion ring. -/
def hosted (f : HFunc → HFunc) : State :=
  let ring (log4K : Nat) : HRing := { HRing.reset with ctl := BitVec.ofNat 32 (6 + 16 + log4K * 2 ^ 8) }
  let base : HFunc := { HFunc.reset with cmd := ring 0, rbuf := { ring 1 with tail := 8 }, cpl := ring 0, busMaster := true }
  let u := { up with host := { up.host with links := [(0, { HLink.reset with perst := false, config := true, up := true })] } }
  u.setFunc 0 (f base)

theorem witness_host_port :
    let s := hosted id
    let f := s.func 0
    let job : PktRead := { index := 0, addr := 0x1000, len := 48, stopping := false, partly := false, error := 0 }
    let reads := hosted (fun f => { f with reads := [job] })
    let waits := hosted (fun f => { f with out := [⟨[1, 2], 0, 1, 1, true⟩] })
    okFn 0 = true ∧ okFn (1024 * 3 + 512) = true ∧ mgmtRuns s = true ∧ fnReached s 0 = true ∧ f.cmd.runs = true ∧ f.cmd.size = 64 ∧ f.rbuf.runs = true ∧
    f.cpl.runs = true ∧ ringEn (f.cmd.control 0 22).ctl = true ∧ ringEn (f.cmd.control 0 0).ctl = false ∧ 511 < vectorsOf s 0 ∧
    (reads.func 0).reads = [job] ∧ dmaRuns reads 0 = true ∧ (waits.func 0).out = [⟨[1, 2], 0, 1, 1, true⟩] ∧
    buffersFor (waits.func 0) 2 = some 1 ∧ (waits.func 0).cplRoom = true ∧ 1 ≤ (waits.func 0).rbuf.size - (waits.func 0).rbuf.head ∧
    1 ≤ (waits.func 0).rbuf.count ∧ 0 + 100000000 ≤ now waits ∧ okLink 0 = true ∧ linkUsed s 0 = true ∧
    ((s.setLink 0 .reset).link 0).perst = true := by decide +kernel

theorem witness_usb :
    let p : OutPkt := { bytes := [1], since := 0, session := 1, seq := 7, isFinal := true }
    let s (u : UIface) : State := { up with host := { up.host with usbConnected := true, usb := [(1, u)] } }
    (s .reset).host.usbConnected = true ∧ fld (1 : BitVec 16) 0 8 < 2 ∧ fld (1 : BitVec 16) 8 8 = 0 ∧
    fld (0x8010 : BitVec 16) 5 10 = 0 ∧ fld (0x8010 : BitVec 16) 0 5 ≤ 16 ∧
    ((nextTransfer (s { UIface.reset with out := [{ p with since := 100000000000 }] })).usbIf 1).out = [{ p with since := 100000000000 }] ∧
    ((nextTransfer (s .reset)).usbIf 1).out = [] ∧ orphanNamed ((nextTransfer (s { UIface.reset with orphan := some p })).usbIf 1) 7 = some p := by
  decide +kernel

theorem witness_survey :
    let s := { up with survey := { up.survey with assigned := some 5, pendingRate := some 2 } }
    let a : SvyAsm := { SvyAsm.reset with live := true }
    svyRuns s = true ∧ s.survey.locked = false ∧ svyForMe (svyHear s 3) 5 0x87 = true ∧ svyForMe (svyHear s 3) 0xFF 0x80 = true ∧
    svyForMe (svyHear s 3) 5 0x88 = false ∧ s.survey.pendingRate = some 2 ∧ okCtrl 7 = true ∧ ((s.setSvyAsm 7 a).svyAsm 7).live = true ∧
    a.lastWrite + 1000000000 ≤ now s := by decide +kernel

theorem witness_device_commands :
    let s := { up with meridian := { up.meridian with cfg := setFld up.meridian.cfg 0 1 0 } }
    (∀ o, 0x0100 ≤ o → o ≤ 0x010A → OpAsks o up ∧ OpAsks o s) ∧ firstBad (meridianBad up.meridian.cfg) = none ∧
    up.meridian.ctxs.any (fun c => c.2.express) = false ∧ expressEn up = true ∧ expressEn s = false ∧ watchPan up = 15 ∧
    (let v := schedReset
     firstBad (reservedBad v [(23, 1), (58, 6), (77, 3), (96, 32)] 8) = none ∧ 250 ≤ fld v 0 20 ∧ fld v 0 20 ≤ 1000000 ∧ fld v 20 3 ≤ 6 ∧
     10 ≤ fld v 40 16 ∧ fld v 40 16 ≤ 10000 ∧ fld v 56 2 ≤ 2 ∧ fld v 80 4 ≤ fld v 84 4) ∧
    (let v := intakeRecord up.power
     firstBad (reservedBad v [(3, 1), (15, 1), (23, 9), (40, 8), (95, 1), (113, 15)] 8) = none ∧ 100 ≤ fld v 4 11 ∧ fld v 4 11 ≤ 1150 ∧
     fld v 32 8 = 0 ∧ firstBad (intakeLiveBad up.power v) = none) ∧
    (∀ id ∈ [1, 2, 3, 4, 5, 6], firstBad (selectorBad id 0) = none) ∧ firstBad (selectorBad 3 479) = none ∧ firstBad (selectorBad 3 480) ≠ none :=
  ⟨fun o a b => ⟨witness_served_with rfl rfl o (.inr ⟨by omega, by omega⟩), witness_served_with rfl rfl o (.inr ⟨by omega, by omega⟩)⟩,
    by decide +kernel⟩

theorem witness_zeroize_and_containment :
    let armed := { up with trust := { up.trust with tamperArmed := [(1, true)] } }
    let zero (p : Phase) : State :=
      { up with trust := { up.trust with zeroizing := some ⟨5, ⟨1, 0⟩, [], false⟩ }, power := { up.power with phase := p } }
    OpAsks 0x0106 up ∧ up.power.phase ≠ .off ∧ AMap.at armed.trust.tamperArmed 1 false = true ∧ (zero .trafficReady).trust.zeroizing ≠ none ∧
    restarts (zero .trafficReady) = true ∧ (zero .starting).power.phase = .starting ∧ trafficUp up = true ∧ panServes up 3 = true ∧
    ((up.setPan 3 { up.pan 3 with supervisorFaulted := true }).pan 3).supervisorFaulted = true ∧ legendUp up = true ∧
    up.contain.core = none ∧ 3 ∉ up.contain.outOfService ∧
    (let acting : State := { up with contain := { up.contain with pans := [(3, ⟨2, 3, 1, 0, false⟩)] } }
     trafficUp acting = true ∧ acting.contain.core = none ∧ AMap.find acting.contain.pans 3 = some ⟨2, 3, 1, 0, false⟩ ∧ panServes acting 3 = false) ∧
    (let acting : State := { up with contain := { up.contain with core := some ⟨4, 255, 1, 0, false⟩ } }
     trafficUp acting = true ∧ acting.contain.core = some ⟨4, 255, 1, 0, false⟩ ∧ serves acting = false) ∧
    ({ up with contain := { up.contain with guardedUntil := [(3, 5)] } } : State).contain.guardedUntil = [(3, 5)] :=
  ⟨witness_served_with rfl rfl _ (by decide), by decide +kernel⟩

/-- A region that ends at the last byte a program may reach, and the access just past it. -/
theorem witness_bounds :
    let x : Thread := { worker with csrs := [(0x30, BitVec.ofNat 64 (0x3B0000 * 2 ^ 23 + 2 ^ 46))] }
    x.level = 2 ∧ 0x1000000 ≤ 0x13AFFF8 ∧ 0x13AFFF8 + 8 ≤ 0x13B0000 ∧ place (alone x) x 0 0x13AFFF8 8 false = .ref (.sram 0 0x3AFFF8) ∧
    place (alone x) x 0 0x13AFFF8 8 true = .bad 5 := by decide +kernel

theorem witness_restore :
    let x : Thread :=
      { worker with csrs := [(8, 0x777)], regs := [(1, 64)], tenant := 3, store := [(64, 0), (65, 1), (66, 4), (67, 0), (68, 0), (69, 0), (70, 0), (71, 0)] }
    Ready (alone x) 0 true [1] ∧ readMem (alone x) (.localStore 0 64) 8 = 0x40100 ∧ 0x40100 / 2 ^ 16 % 2 ^ 12 ≠ x.tenant ∧ cpEnabled x 0 = true ∧
    (x.reg 1).toNat % 64 = 0 ∧ 64 + saveBytes 0 ≤ localSize 0 ∧ (x.cp 0).cmds = [] :=
  ⟨ready_of (by decide +kernel), by decide +kernel⟩

theorem witness_stores_frame :
    let x := { worker with level := 0 }
    place (alone x) x 0 0x1000008 8 true = .ref (.sram 0 8) ∧ x.spec (alone x) = false ∧ ccBuffer (alone x) 0 = [] ∧
    place (alone x) x 0 8 8 true = .ref (.localStore 0 8) ∧ touchesLock (alone x) (.sram 0 8) 8 = false ∧
    ((packetAlone packetWorker context false).ctx? 1).isSome = true := by decide +kernel

theorem witness_reads_end : ∀ o ∈ [0x0100, 0x0104, 0x010A, 0x0004, 0x0005, 0x0006, 0x0904, 0x0908, 0x0B01, 0x0B07, 0x0801, 0x0807],
    OpAsks o up := by
  intro o h
  refine witness_served_with rfl rfl o ?_
  revert o
  decide

/-- The window at its edge: 64 behind is stale, 63 behind and never accepted is fresh, the highest one is not. -/
theorem witness_sequence :
    let x := { opSession with high := 100, window := 1 }
    seqFresh x 100 = false ∧ seqFresh x 37 = true ∧ seqFresh x 36 = false ∧ seqStale x 36 = true ∧ seqFresh x 101 = true ∧
    seqFresh (acceptSeq x 37 (.usb 0) 0) 37 = false := by decide +kernel

theorem witness_refused :
    let unclaimed := { up with trust := { up.trust with slots := [] } }
    let sleeps := asked 0x0800 { up with power := { up.power with state := .standby } }
    (∀ o ∈ [0x0101, 0x0106, 0x0800, 0x0903, 0x0906, 0x0A01, 0x0B00, 0x0B05, 0x0109],
      headCheck (asked o unclaimed) (request o operatorId) true = some (plain 0x0200 false)) ∧
    headCheck (sessionAsked (some 3) (.pcie 4) 0x0002 up) { request 0x0002 3 with via := .pcie 4 } true = some (plain 0x0201 false) ∧
    headCheck sleeps (request 0x0800 operatorId) true = none ∧
    stateCheck sleeps 1 (request 0x0800 operatorId) = some (failWith 0x0503 3 3) := by decide +kernel

theorem witness_fuses : FuseInv State.reset ∧ State.reset.power.phase = .off ∧ State.reset.power.offHeld = false :=
  ⟨⟨by decide, by decide, by decide, by decide, fun _ => Nat.zero_le _, by decide⟩, by decide⟩

/-- A Pan action stops the Pan's service until its end; a second trigger joins it (R508, R511). -/
theorem test_pan_action_joins :
    let acting : State := { up with contain := { up.contain with pans := [(3, ⟨2, 3, 1, 0, false⟩)] } }
    (match execPanContainment 3 (some 4) true acting with
     | .next t => decide (AMap.find t.contain.pans 3 = some ⟨2, 3, 1, 1, false⟩)
     | _ => false) = true := by decide +kernel

/-- The forms of the flash tier's events, each beside a state in which its rule lets it run. -/
theorem witness_flash_events :
    let key := List.replicate 8 (1 : Byte)
    let rehashing : Table := { flow with rehash := some ⟨1, 2, [], none⟩ }
    let switching (t : Table) : State := tabled { t with filterNew := some [3] } up
    let late : State := stocked false [{ promotion with step := 9 }]
    let tier (st : StkState) (lost : Nat) : State := { up with stk := { up.stk with state := st, lostChannels := lost } }
    let p : PendCap := { ring := 3, session := 1, owner := operatorId, ruleId := 5, frameLen := 64, inPort := 0, len := 60, cells := [], time := ⟨1, 0⟩ }
    let captures : State := { stocked false [] with stk := { (stocked false []).stk with captures := [p] } }
    AMap.find (tabled flow up).gaz.tables 70 = some flow ∧ flow.kind = 3 ∧ flow.rehash = none ∧
    AMap.find (tabled rehashing up).gaz.tables 70 = some rehashing ∧ rehashing.kind = 3 ∧ rehashing.rehash ≠ none ∧
    late.stk.promotions.find? (fun p => p.table == 70 && p.key == key) = some { promotion with step := 9 } ∧
    coldFind late 70 key = some (cold false) ∧ (cold false).staged = false ∧
    (stocked false []).stk.promotions.find? (fun p => p.table == 70 && p.key == key) = none ∧ onNand (stocked false []) 70 key = true ∧
    coldFind (stocked true []) 70 key = some (cold true) ∧ (cold true).staged = true ∧ stkState (stocked true []) ≠ .failed ∧
    stkOpen (stocked true []) = true ∧ (tabled { flow with filterNew := some [3] } up).table 70 = { flow with filterNew := some [3] } ∧
    AMap.find (switching flow).gaz.tables 70 = some { flow with filterNew := some [3] } ∧ up.ident.flash = true ∧
    1 ≤ (tier .degraded 1).stk.lostChannels ∧ (tier .normal 0).stk.state = .normal ∧ (tier .normal 0).stk.lostChannels = 0 ∧
    (tier .degraded 1).stk.state = .degraded ∧ stkOpen captures = true ∧ AMap.find captures.stk.rings 3 = some ring ∧
    captures.stk.captures.find? (fun p => p.ring == 3) = some p ∧ captures.stk.captures.findIdx? (fun p => p.ring == 3) = some 0 := by
  decide +kernel

/-- A ring of tenant 3, as the operator's RING_READ finds it. -/
theorem witness_flash_readers :
    let other : Ring := { ring with cfg := BitVec.ofNat 64 (3 + 4 * 2 ^ 16 + 2 ^ 45) }
    let s : State := { up with stk := { up.stk with rings := [(4, other)] } }
    OpAsks 0x0806 s ∧ AMap.find s.stk.rings 4 = some other ∧ fld other.cfg 0 12 ≠ actor (asked 0x0806 s) (request 0x0806 operatorId) ∧
    ownerOf (asked 0x0806 s) (request 0x0806 operatorId) = some operatorId :=
  ⟨witness_served_with rfl rfl _ (by decide), by decide +kernel⟩

/-- A store and an atomic that come back, a word of DRAM, and an instruction that is only half done. -/
theorem witness_accesses :
    let busy (op : AccessOp) : State := alone { worker with block := .access op (.sram 0 16) 0x1000010 3 }
    let mapped : Thread :=
      { worker with tenant := 3, csrs := [(0x40, BitVec.ofNat 64 3), (0x41, BitVec.ofNat 64 4096)] }
    let s : State := { alone mapped with dram := { (alone mapped).dram with alloc := [(3, 2 ^ 30)] } }
    (∀ op ∈ [AccessOp.load 4 true, .store 8 5, .add 5],
      ((busy op).thread 0).block = .access op (.sram 0 16) 0x1000010 3 ∧ accessServed (busy op) op (.sram 0 16) = true ∧
        poisoned (busy op) (.sram 0 16) 8 = false ∧ touchesLock (busy op) (.sram 0 16) 8 = false) ∧
    place s mapped 0 0x100000000 8 true = .ref (.dram 3 0) ∧ touchesLock s (.dram 3 0) 8 = false ∧ onCc 0 = false ∧ mapped.spec s = false ∧
    (alone worker |>.thread 0).issuedRegs = none ∧ canIssue (alone { worker with dslot := true }) 0 = true ∧
    ((alone { worker with dslot := true }).thread 0).issuedRegs = none := by decide +kernel

theorem witness_supply :
    let held : State := { up with power := { up.power with warning := true } }
    let fell : State := { up with power := { up.power with vin := 45000, vinFell := true } }
    let dark : State := { up with power := { up.power with refclk := false } }
    let soon : State := { up with power := { up.power with syncLast := some 99999999500 } }
    let hot : State := { up with power := { up.power with temps := [(0, 110)], hotSince := [(0, 0)] } }
    let s (p : Phase) : State := { up with power := { up.power with phase := p } }
    let graced (g : Bool) : State :=
      { up with power := { up.power with transition := some { target := .standby, acc := none, since := 0, grace := g, railsAt := none } } }
    let unready : State := { s .commandReady with dram := { up.dram with noRank := true } }
    powered held = true ∧ held.power.warning = true ∧ 33999 < 34000 ∧ 35000 ≤ 35000 ∧
    fell.power.phase ≠ .flushing ∧ ¬(fell.power.vin ≤ 40000 + 1000 ∧ 40000 ≤ fell.power.vin + 1000) ∧ 35000 < 40000 ∧ fell.power.vinFell = true ∧
    powered dark = true ∧ dark.power.refclk = false ∧ dark.power.phase ≠ .starting ∧ soon.power.syncLast = some 99999999500 ∧
    now soon < 99999999500 + 1000 ∧ causeHolds hot 3 48000 = true ∧
    (∀ g, (graced g).power.transition = some { target := .standby, acc := none, since := 0, grace := g, railsAt := none } ∧ 0 + 10000000 ≤ now (graced g)) ∧
    unready.power.phase = .commandReady ∧ unready.dram.noRank = true ∧ (s .commandReady).dram.noRank = false ∧
    mgmtRuns (up.setPower { up.power with resetN := false }) = true ∧ (s .starting).power.phase = .starting := by decide +kernel

theorem witness_keys :
    (∀ o, 0x0905 ≤ o → o ≤ 0x0909 → OpAsks o up) ∧ 5 < ownerQuota up operatorId 20 4 ∧ sealingOff up operatorId = false ∧
    AMap.has (AMap.at up.trust.keys operatorId []) 5 = false ∧ 0 < (slotMap 1).1 ∧ (request 0x0B00 operatorId).session ≠ 0 ∧
    be16At (request 0x0101 operatorId).payload 2 = 0 ∧
    (∀ x ∈ up.trust.slots, x.1 < 512 → x.2.state ≠ .claimed ∧ x.2.state ≠ .zeroizing) :=
  ⟨fun o a b => witness_served_with rfl rfl o (.inr ⟨by omega, by omega⟩), by decide +kernel⟩

/-- A packet handed to a host whose completion ring owes nothing; a survey frame at the rate heard; a predecessor that never came. -/
theorem witness_hosts_and_frames :
    let frame : SvyFrame := { rate := 2, len := 132, lost := false }
    let heard : State := { up with survey := { up.survey with locked := true, rate := 2 } }
    let waits := hosted (fun f => { f with out := [⟨[1, 2], 0, 1, 1, true⟩] })
    let e : Entry := { request 0x0006 operatorId with flags := 4, seq := 9 }
    let s : State := { up with legend := { up.legend with sessions := [(1, opSession)], flight := [(1, e)] } }
    (waits.func 0).owed = [] ∧ dmaRuns waits 0 = true ∧ (hosted id |>.func 0).cmd.runs = true ∧
    frame.rate ≤ 3 ∧ frame.len ≤ 132 ∧ up.survey.locked = false ∧ heard.survey.locked = true ∧ heard.survey.rate = frame.rate ∧
    svyRuns heard = true ∧ svyForMe (svyHear heard frame.rate) 0xFF 0x80 = true ∧
    e.limit = 0 ∧ e.stage = .waiting ∧ chainOpen s e = true ∧ e.acceptedAt + 1000000000 ≤ now s := by decide +kernel

/-- R373: the regions of the boot flash follow one another without a gap and fill its 512 MiB. -/
theorem test_boot_flash_regions :
    bootFlashMap.foldl (fun at_ r => if r.1 = at_ then at_ + r.2 else 0) 0 = 512 * 2 ^ 20 := by
  decide +kernel

/-- One ill-formed command for each check of `wellFormed`: a unit number one past the last. -/
theorem test_ill_formed_ports :
    (Instr.frameReceive 64 [] [] true true).wellFormed = false ∧ (Instr.pauseExpiry 0 9).wellFormed = false ∧
    (Instr.queueExpired 16 0).wellFormed = false ∧ (Instr.queueExpired 0 8).wellFormed = false ∧
    (Instr.farStagingRead 64 0).wellFormed = false ∧ (Instr.opticsEvaluation 8 0 [] []).wellFormed = false := by decide

theorem test_ill_formed_threads :
    (Instr.panWake 16).wellFormed = false ∧ (Instr.taskDispatch 4096).wellFormed = false ∧
    (Instr.add (8 * 30 + 2) 0 0 0).wellFormed = false ∧ (Instr.add (8 * 30 + 1) 0 0 0).wellFormed = true ∧
    (Instr.resultLand 4096 0).wellFormed = false ∧ (Instr.coprocessorResult 0 3).wellFormed = false ∧
    (Instr.periodExpiry 0 1024).wellFormed = false ∧ (Instr.starved 0 16 0).wellFormed = false ∧
    (Instr.commit false (2 ^ 20)).wellFormed = false ∧ (Instr.unwindComplete (2 ^ 16)).wellFormed = false := by decide

theorem test_ill_formed_memories :
    (Instr.bankSleep 64).wellFormed = false ∧ (Instr.ringRefill 64).wellFormed = false ∧
    (Instr.refresh 6 0 false).wellFormed = false ∧ (Instr.calibration 192).wellFormed = false ∧
    (Instr.retirePendingReminder 18).wellFormed = false ∧ (Instr.dramTrained [18] []).wellFormed = false := by decide

theorem test_ill_formed_module :
    (Instr.shutdownDecision 0 0).wellFormed = false ∧ (Instr.shutdownDecision 4 0).wellFormed = false ∧
    (Instr.tamperTrip 2).wellFormed = false ∧ (Instr.holdoffExpiry 2048 0).wellFormed = false ∧
    (Instr.panContainment 0 (some 0) true).wellFormed = false ∧ (Instr.trafficCoreContainment (some 6) true).wellFormed = false ∧
    (Instr.surveyFrameError 3).wellFormed = false ∧ (Instr.flashChannelFault 3).wellFormed = false ∧ (Instr.surveyAssemblyTimeout 8).wellFormed = false := by decide

theorem test_ill_formed_functions :
    (Instr.ringControlWrite 0 3 0).wellFormed = false ∧ (Instr.funcStatsRead 0 8).wellFormed = false ∧
    (Instr.rbufStarved 513).wellFormed = false ∧ (Instr.rbufStarved (1024 * 4)).wellFormed = false ∧
    (Instr.linkReset 4 0).wellFormed = false ∧ (Instr.linkReset 0 4).wellFormed = false ∧
    (Instr.vfFlr 0 0).wellFormed = false ∧ (Instr.vfFlr 0 513).wellFormed = false := by decide

/-- Such a command faults by name and changes nothing. -/
theorem test_ill_formed_faults :
    exec (.add 4096 3 1 2) up = .fault .noSuchUnit ∧ exec (.bankSleep 64) up = .fault .noSuchUnit ∧
    exec (.vfFlr 0 0) up = .fault .noSuchUnit := ⟨rfl, rfl, rfl⟩

/-- The check value that R445 gives for the Survey Bus CRC, over the ASCII digits 1 to 9. -/
theorem test_survey_crc : crc16 [0x31, 0x32, 0x33, 0x34, 0x35, 0x36, 0x37, 0x38, 0x39] = 0x29B1 := by decide +kernel

/-- The published check value of CRC-32C over the same bytes (R268, R411). -/
theorem test_crc32c : crc32c [0x31, 0x32, 0x33, 0x34, 0x35, 0x36, 0x37, 0x38, 0x39] = 0xE3069283 := by decide +kernel

/-- The published check value of the Ethernet FCS over the same bytes, in the order of transmission (R39). -/
theorem test_fcs : fcsOf [0x31, 0x32, 0x33, 0x34, 0x35, 0x36, 0x37, 0x38, 0x39] = [0x26, 0x39, 0xF4, 0xCB] := by decide +kernel

/-- The instruction words of chapter 05's worked case. -/
theorem test_instruction_words :
    wordI 0x0C 4 0 0x000F = 0x3080000F ∧ wordI 0x0B 4 4 0xFFC0 = 0x2C84FFC0 ∧ wordI 0x20 5 4 8 = 0x80A40008 ∧
    wordI 0x13 5 0 4 = 0x4CA00004 ∧ wordA 0 7 6 5 0x01 = 0x00E62801 ∧ wordI 0x2C 8 7 0x0202 = 0xB1070202 := by decide

/-- Chapter 05's worked case, cycle 0: SETQ1 w4, w0, 0x000F. -/
theorem test_setq1 : ((after (exec (.setq1 0 4 0 0x000F) (alone worker))).thread 0).reg 4 = 0x000F0000 := by decide +kernel

/-- Cycle 1: SETQ0 w4, w4, 0xFFC0. -/
theorem test_setq0 :
    ((after (exec (.setq0 0 4 4 0xFFC0) (alone { worker with regs := [(4, 0x000F0000)] }))).thread 0).reg 4 = 0x000FFFC0 := by
  decide +kernel

/-- Cycle 6: LPW16 reads the port 443 at frame offset 126, in network order. -/
theorem test_lpw16 :
    (((after (exec (.lpw16 0 8 7 0x0202)
      (packetAlone { packetWorker with regs := [(7, 0x0010007C)] }
        { context with window := [(638, 0x01), (639, 0xBB)], pktLen := 1156 } false))).thread 0).flights.map (fun l => l.value)) = [443] := by
  decide +kernel

/-- The example of R154: a divide and then an add name w5; the register keeps the add's result. -/
theorem test_last_write_wins :
    let s := after (exec (.div 0 5 1 2) (alone { worker with regs := [(1, 12), (2, 3), (5, 99)] }))
    let u := after (exec (.add 0 5 1 2) s)
    ((s.thread 0).reg 5, (u.thread 0).reg 5, ((after (exec (.resultLand 0 0) u)).thread 0).reg 5) = (99, 15, 15) := by
  decide +kernel

/-- The frame of chapter 03's worked case. -/
def geneveFrame : List Byte :=
  List.replicate 12 0x02 ++ [0x81, 0x00, 0x60, 0x64, 0x86, 0xDD] ++
  [0x60, 0, 0, 0, 0x04, 0x4A, 17, 64] ++ List.replicate 32 0x20 ++
  [0x30, 0x39, 0x17, 0xC1, 0x04, 0x4A, 0x12, 0x34] ++
  [0x04, 0, 0x65, 0x58, 0x00, 0x1A, 0x2B, 0] ++ List.replicate 16 0 ++
  List.replicate 12 0x04 ++ [0x08, 0x00] ++
  [0x45, 0, 0x04, 0x1C, 0, 0, 0, 0, 64, 6, 0x5B, 0xCD, 10, 1, 0, 5, 10, 1, 7, 9] ++
  [0x9C, 0x40, 0x01, 0xBB, 0, 0, 0, 1, 0, 0, 0, 0, 0x80, 0x10, 0xFF, 0xFF, 0, 0, 0, 0] ++ List.replicate 12 1 ++
  List.replicate 1000 0x55

/-- What the parser makes of it. -/
def geneveParse : PRec :=
  parseFrame { bytes := geneveFrame, tpidAlt := 0x88A8, vxlan := 4789, geneve := 6081, roce := 4791,
               inPort := 12, inPri := 4, frameLen := 1160, unverified := false }

/-- Its parse record, as that case's table gives it. -/
theorem test_geneve_offsets :
    [geneveParse.tag0, geneveParse.tag1, geneveParse.mpls, geneveParse.l3, geneveParse.l4, geneveParse.tun, geneveParse.il2,
     geneveParse.il3, geneveParse.il4, geneveParse.offEnd, geneveParse.failOff] =
      [12, 0xFF, 0xFF, 18, 58, 66, 90, 104, 124, 156, 0xFF] := by decide +kernel

theorem test_geneve_types :
    [geneveParse.tagCount, geneveParse.itagCount, geneveParse.mplsDepth, geneveParse.l3t, geneveParse.l4t, geneveParse.tunt,
     geneveParse.il3t, geneveParse.il4t, geneveParse.iproto, geneveParse.iiproto, geneveParse.etype, geneveParse.ietype,
     geneveParse.gopt, geneveParse.flags, geneveParse.reason, geneveParse.vid0, geneveParse.vni] =
      [1, 0, 0, 2, 2, 2, 1, 1, 17, 6, 0x86DD, 0x0800, 4, 0x8100, 0, 100, 0x1A2B] := by decide +kernel

/-- An image for chapter 13's worked case. -/
def stamped (kind : Nat) (provides requires : List (Nat × Nat × Nat)) : Nat × Image :=
  (kind, { kind := kind, signer := 0, svn := 0, build := 0, provides := provides, requires := requires, digest := 0 })

/-- The set of that case with LGD 91 in slot B and a PRT image that provides 0x0005 at a minor. -/
def mixedSet (minor : Nat) : List (Nat × Image) :=
  [stamped 1 [(2, 1, 0)] [(1, 2, 0)], stamped 2 [(3, 3, 2)] [(1, 2, 0), (2, 1, 0)],
   stamped 3 [(4, 5, 1), (8, 1, 0)] [(3, 3, 1), (5, 2, 4), (6, 1, 0), (7, 4, 0)], stamped 4 [(7, 4, 1)] [(3, 3, 0), (4, 5, 0)],
   stamped 5 [(6, 1, 3)] [(3, 3, 0), (4, 5, 0)], stamped 6 [(5, 2, minor)] [(3, 3, 0), (4, 5, 1)]]

/-- Its steps 1 and 3: incompatible at interface 0x0005 between LGD and PRT, then compatible. -/
theorem test_firmware_pair :
    misfit { State.reset.ident with stepLetter := 2, stepDigit := 0 } (mixedSet 3) = some (5, 3, 6) ∧
    misfit { State.reset.ident with stepLetter := 2, stepDigit := 0 } (mixedSet 4) = none := by decide +kernel

/-- The case of R154: a divide and then a multiply name w5; the multiply lands first, and the divide's result is discarded. -/
theorem test_younger_lands_first :
    let s := after (exec (.div 0 5 1 2) (alone { worker with regs := [(1, 12), (2, 3), (5, 99)] }))
    let u := after (exec (.mul 0 5 1 2) s)
    let v := after (exec (.resultLand 0 1) u)
    ((v.thread 0).reg 5, ((after (exec (.resultLand 0 0) v)).thread 0).reg 5) = (36, 36) := by decide +kernel

/-- R438, R441: what one node sends, a receiver on time reads; a short dominant pulse is a glitch. -/
theorem test_survey_characters :
    (∀ d ∈ [0x00, 0x55, 0x80, 0xFF], receiveChar (samplesOf (charBits d true)) = .char d true ∧
      receiveChar (samplesOf (charBits d false)) = .char d false) ∧
    receiveChar (List.replicate 8 false ++ List.replicate 168 true) = .glitch ∧
    receiveChar (List.replicate 176 false) = .framing := by decide +kernel

/-- The bit-times of chapter 16's Timing table: PING alone and addressed, WRITE, READ, SEARCH, and a lost SEARCH. -/
theorem test_survey_times :
    exchangeBits 1 1 none = 91 ∧ exchangeBits 1 1 (some (some 14)) = 306 ∧ exchangeBits 2 132 (some (some 4)) = 1637 ∧
    exchangeBits 3 6 (some (some 139)) = 1736 ∧ searchBits 0 = 630 ∧ searchBits 1 = 626 ∧ lostSearchBits 0 = 193 ∧
    lostSearchBits 1 = 197 := by decide +kernel

/-- Module A of chapter 16's enumeration, low bits 0b0010: chosen 0, 1, 0, 0 it votes each bit and stays; chosen 1 first it
leaves. -/
theorem test_survey_votes :
    searchVotes 2 0 [some false, some true, some false] = [false, true, false] ∧ searchStays 2 0 [some false, some true, some false] = true ∧
    searchVotes 2 0 [some true, some true] = [false] ∧ searchStays 2 0 [some true] = false := by decide +kernel

theorem test_add_wraps :
    ((after (exec (.add 0 3 1 2) (alone { worker with regs := [(1, -1), (2, 3)] }))).thread 0).reg 3 = 2 := by decide +kernel

/-- The counts that R530 gives of its own grid, and the places of two lands (R522). -/
theorem test_land_map :
    landMap.length = 16 ∧ landMap.all (fun r => r.length == 16) = true ∧ landMap.flatten.count .vin = 48 ∧
    landMap.flatten.count .vrtn = 104 ∧ landMap.flatten.count .reserved = 22 ∧ (landMap[11]?.bind (·[6]?)) = some .faultN ∧
    landPosition 0 1 = (7000, 40000) ∧ landPosition 15 16 = (37000, 70000) := by decide +kernel

/-- In OFF no output is driven high (R532). -/
theorem test_off_outputs :
    [Signal.pgood, .syncOut, .supplyAlertN, .holdupN, .thermN, .faultN, .pcieWakeN, .dbgTdo].all
      (fun x => drives .reset x != some .high && (!x.openDrain || drives .reset x == some .released)) = true := by decide +kernel

/-- Figures of chapters 19 and 21: R516's table at S = 240, I = 120 and S = 64, I = 480; R519 at 50 % in DOZE; R539 at 36 V;
R547 and R548 at 1,150 W and 45 °C. -/
theorem test_envelope :
    forwardingRate 240 120 900 / 10000000 = 615 ∧ forwardingRate 64 480 0 / 10000000 = 186 ∧ typicalPower .doze 50 = 480000 ∧
    typicalPower .run 10 = 462000 ∧ inputCurrent 1150000 36000 / 100 = 319 ∧ lidMax 1150 45 = 65700 ∧
    lidMax 1150 45 + spotRise 0 1150 = 93700 ∧ withinCapacity up = true := by decide +kernel

end Sys2Proof.Tests
end

section
/-! What lasts through a command: the identity, the queue, the run clock, the epoch and the fuses. Every operation of the
model keeps them but for the few at the end, so that the statements about them rest on one rule per operation. A rule's proof
unfolds the operation, splits its branches and rewrites with the rules of what it calls; `disch` splits the branches inside a
loop's body. -/
namespace Sys2Proof.Machine

/-- The part of the power state that POWER_UP alone sets: the run clock and the epoch (R15, R485, R486). -/
structure Epochs where
  clock : Ns
  epochF : Nat
  epochL : Nat
  epoch : Nat
  saturated : Bool
  skipped : Bool

def Power.epochs (p : Power) : Epochs := ⟨p.clock, p.epochF, p.epochL, p.epoch, p.saturated, p.skipped⟩

/-- The fuses besides the epoch's: vault generations, minimum SVNs, revoked signers (R355, R380, R381). -/
structure Fuses where
  vaultGen : Nat
  minSvn : AMap Nat
  revoked : Nat

def Trust.fuses (t : Trust) : Fuses := ⟨t.vaultGen, t.minSvn, t.revoked⟩

/-- What the fuses hold is legal (R355, R380, R381). -/
def Fuses.Legal (f : Fuses) : Prop := f.vaultGen ≤ 16 ∧ (∀ k, AMap.at f.minSvn k 0 ≤ 63) ∧ f.revoked < 16

/-- Fuses are blown only, never mended, and legal ones stay legal. -/
def Fuses.Burns (f g : Fuses) : Prop :=
  (f.Legal → g.Legal) ∧ f.vaultGen ≤ g.vaultGen ∧ (∀ k, AMap.at f.minSvn k 0 ≤ AMap.at g.minSvn k 0) ∧
    (∀ k, Nat.testBit f.revoked k = true → Nat.testBit g.revoked k = true)

theorem Fuses.Burns.refl (f : Fuses) : f.Burns f := ⟨id, Nat.le_refl _, fun _ => Nat.le_refl _, fun _ => id⟩

/-- What no operation but the fuse-blowing ones and POWER_UP changes. -/
structure Lasting where
  ident : Ident
  pending : List Instr
  epochs : Epochs
  fuses : Fuses

def State.lasting (s : State) : Lasting := ⟨s.ident, s.pending, s.power.epochs, s.trust.fuses⟩

@[simp] theorem Power.epochs_eq_iff (p q : Power) :
    p.epochs = q.epochs ↔ p.clock = q.clock ∧ p.epochF = q.epochF ∧ p.epochL = q.epochL ∧ p.epoch = q.epoch ∧
      p.saturated = q.saturated ∧ p.skipped = q.skipped := by
  simp [Power.epochs]

@[simp] theorem Trust.fuses_eq_iff (t v : Trust) :
    t.fuses = v.fuses ↔ t.vaultGen = v.vaultGen ∧ t.minSvn = v.minSvn ∧ t.revoked = v.revoked := by
  simp [Trust.fuses]

@[simp] theorem State.lasting_mk (u : State) (p : Power) (t : Trust) (a b c d e f g h i j k l m n o q)
    (hp : p.epochs = u.power.epochs) (ht : t.fuses = u.trust.fuses) :
    State.lasting ⟨u.ident, p, t, a, b, c, d, e, f, g, h, i, j, k, l, m, n, o, q, u.pending⟩ = u.lasting := by
  simp only [State.lasting, hp, ht]

@[simp] theorem State.lasting_ite (c : Prop) [Decidable c] (a b : State) :
    (if c then a else b).lasting = if c then a.lasting else b.lasting := apply_ite _ _ _ _

@[simp] theorem lasting_foldl {α : Type} {f : State → α → State}
    (h : ∀ u x, (f u x).lasting = u.lasting) (l : List α) (s : State) :
    (l.foldl f s).lasting = s.lasting := by
  induction l generalizing s with
  | nil => rfl
  | cons x l ih => rw [List.foldl_cons, ih, h]

theorem fuses_of_lasting {s u : State} (h : u.lasting = s.lasting) : u.trust.fuses = s.trust.fuses :=
  congrArg Lasting.fuses h

theorem epochs_of_lasting {s u : State} (h : u.lasting = s.lasting) : u.power.epochs = s.power.epochs :=
  congrArg Lasting.epochs h

/-- What lasts of the state that an instruction's effect leaves; a fault has no effect of its own. -/
def Eff.lasting (a : Lasting) : Eff → Lasting
  | .next s | .timed s _ | .slot s _ _ | .goto s _ | .wait s _ | .left s => s.lasting
  | .trap _ _ => a

@[simp] theorem Eff.lasting_next (a : Lasting) (s : State) : (Eff.next s).lasting a = s.lasting := rfl

@[simp] theorem Eff.lasting_timed (a : Lasting) (s : State) (n : Nat) : (Eff.timed s n).lasting a = s.lasting := rfl

@[simp] theorem Eff.lasting_slot (a : Lasting) (s : State) (n : Nat) (b : Bool) : (Eff.slot s n b).lasting a = s.lasting := rfl

@[simp] theorem Eff.lasting_goto (a : Lasting) (s : State) (n : Nat) : (Eff.goto s n).lasting a = s.lasting := rfl

@[simp] theorem Eff.lasting_wait (a : Lasting) (s : State) (b : Block) : (Eff.wait s b).lasting a = s.lasting := rfl

@[simp] theorem Eff.lasting_left (a : Lasting) (s : State) : (Eff.left s).lasting a = s.lasting := rfl

@[simp] theorem Eff.lasting_trap (a : Lasting) (n : Nat) (v : Word) : (Eff.trap n v).lasting a = a := rfl

@[simp] theorem Eff.lasting_ite (a : Lasting) (c : Prop) [Decidable c] (d e : Eff) :
    (if c then d else e).lasting a = if c then d.lasting a else e.lasting a := apply_ite (Eff.lasting a) _ _ _

theorem Eff.lasting_of_ite {a b : Lasting} {c : Prop} [Decidable c] {d e : Eff} (hd : d.lasting a = b) (he : e.lasting a = b) :
    (if c then d else e).lasting a = b := by
  split
  · exact hd
  · exact he

@[simp] theorem fst_ite {α β : Type} (c : Prop) [Decidable c] (a b : α × β) :
    (if c then a else b).1 = if c then a.1 else b.1 := apply_ite _ _ _ _

theorem lasting_of_eq_pair {α : Type} {r : State × α} {u : State} {a : α}
    (h : r = (u, a)) : u.lasting = r.1.lasting := by rw [h]

/-- If the outcome of a command on `s` is a next state, what lasts there is what lasted in `s`. -/
def Keeps (s : State) (o : Out) : Prop := ∀ u, o = .next u → u.lasting = s.lasting

@[simp] theorem keeps_next (s u : State) : Keeps s (.next u) ↔ u.lasting = s.lasting := by
  simp [Keeps]

@[simp] theorem keeps_fault (s : State) (r : Fault) : Keeps s (.fault r) := by simp [Keeps]

@[simp] theorem keeps_checked (s u : State) (ok : Bool) (h : u.lasting = s.lasting) : Keeps s (checked ok u) := by
  unfold checked; split <;> simp [h]

end Sys2Proof.Machine
end

section
/-! What lasts through the operations of Sys2Proof/Machine/Ops.lean. -/
namespace Sys2Proof.Machine

@[simp] theorem lasting_fresh (s) : (fresh s).2.lasting = s.lasting := by simp [fresh]

@[simp] theorem lasting_count (s id n) : (count s id n).lasting = s.lasting := by simp [count]

@[simp] theorem lasting_raise (s source owner code data) : (raise s source owner code data).lasting = s.lasting := by
  simp [raise]

@[simp] theorem lasting_raiseCopy (s source code data) : (raiseCopy s source code data).lasting = s.lasting := by
  simp [raiseCopy]

@[simp] theorem lasting_raiseDev (s source code data) : (raiseDev s source code data).lasting = s.lasting := by
  simp [raiseDev]

@[simp] theorem lasting_countFirst (s id source owner code data) :
    (countFirst s id source owner code data).lasting = s.lasting := by
  simp [countFirst]

@[simp] theorem lasting_countTenant (s tenant code) : (countTenant s tenant code).lasting = s.lasting := by simp [countTenant]

@[simp] theorem lasting_countPort (s lport code) : (countPort s lport code).lasting = s.lasting := by simp [countPort]

@[simp] theorem lasting_countLport (s lport index n) : (countLport s lport index n).lasting = s.lasting := by
  simp [countLport]

@[simp] theorem lasting_writeCompletion (s c bytes) : (writeCompletion s c bytes).lasting = s.lasting := by
  simp [writeCompletion]

@[simp] theorem lasting_devCount (s unit source inst tenant n) :
    (devCount s unit source inst tenant n).lasting = s.lasting := by
  simp [devCount]

end Sys2Proof.Machine
end

section
/-! What lasts through the operations of Sys2Proof/Machine/DramPorts.lean. -/
namespace Sys2Proof.Machine

@[simp] theorem lasting_setDram (s d) : (State.setDram s d).lasting = s.lasting := by simp [State.setDram]

@[simp] theorem lasting_poisonDrop (s owner off) : (poisonDrop s owner off).lasting = s.lasting := by simp [poisonDrop]

@[simp] theorem lasting_setStack (s k x) : (setStack s k x).lasting = s.lasting := by simp [setStack]

@[simp] theorem lasting_setDramPort (s p v) : (setDramPort s p v).lasting = s.lasting := by simp [setDramPort]

@[simp] theorem lasting_servePort (s port owner bytes arrival asleep express) :
    (servePort s port owner bytes arrival asleep express).lasting = s.lasting := by
  simp [servePort]

@[simp] theorem lasting_countLate (s stack n) : (countLate s stack n).lasting = s.lasting := by simp [countLate]

@[simp] theorem lasting_arrive (s stack) : (arrive s stack).lasting = s.lasting := by simp [arrive]

@[simp] theorem lasting_requestTo (s port owner off bytes) : (requestTo s port owner off bytes).lasting = s.lasting := by
  simp [requestTo]

@[simp] theorem lasting_clientRequest (s port owner bytes) : (clientRequest s port owner bytes).lasting = s.lasting := by
  simp [clientRequest]

@[simp] theorem lasting_zeroFill (s owner bytes) : (zeroFill s owner bytes).lasting = s.lasting := by simp [zeroFill]

end Sys2Proof.Machine
end

section
/-! What lasts through the operations of Sys2Proof/Machine/Cells.lean. -/
namespace Sys2Proof.Machine

@[simp] theorem lasting_setLport (s l p) : (State.setLport s l p).lasting = s.lasting := by simp [State.setLport]

@[simp] theorem lasting_setQueue (s l q e) : (State.setQueue s l q e).lasting = s.lasting := by simp [State.setQueue]

@[simp] theorem lasting_syncXoff (s gi) : (syncXoff s gi).lasting = s.lasting := by simp [syncXoff]

@[simp] theorem lasting_writeBack (s pi) : (writeBack s pi).lasting = s.lasting := by simp [writeBack]

@[simp] theorem lasting_syncPool (s pi) : (syncPool s pi).lasting = s.lasting := by simp [syncPool]

@[simp] theorem lasting_releaseCell (s h) : (releaseCell s h).lasting = s.lasting := by unfold releaseCell; split <;> simp

@[simp] theorem lasting_releaseCells (s hs) : (releaseCells s hs).lasting = s.lasting := by simp [releaseCells]

@[simp] theorem lasting_discardDesc (s d code) : (discardDesc s d code).lasting = s.lasting := by simp [discardDesc]

@[simp] theorem lasting_shareCell (s h) : (shareCell s h).lasting = s.lasting := by unfold shareCell; split <;> simp

@[simp] theorem lasting_writeFar (s h n) : (writeFar s h n).lasting = s.lasting := by simp [writeFar]

@[simp] theorem lasting_newCell (s pool tenant data) : (newCell s pool tenant data).1.lasting = s.lasting := by simp [newCell]

@[simp] theorem lasting_newCells (s pool tenant a) : (newCells s pool tenant a).1.lasting = s.lasting := by
  induction a generalizing s pool tenant with
  | nil => rfl
  | cons x l ih => simp [newCells, ih]

@[simp] theorem lasting_egressRecord (s f reason) : (egressRecord s f reason).lasting = s.lasting := by simp [egressRecord]

@[simp] theorem lasting_dropFrame (reason s f) : (dropFrame reason s f).lasting = s.lasting := by simp [dropFrame]

@[simp] theorem lasting_countQueueDrop (s l q) : (countQueueDrop s l q).lasting = s.lasting := by simp [countQueueDrop]

@[simp] theorem lasting_enqueueFrame (s l q f) : (enqueueFrame s l q f).lasting = s.lasting := by simp [enqueueFrame]

@[simp] theorem lasting_drainQueues (reason s l) : (drainQueues reason s l).lasting = s.lasting := by simp [drainQueues]

@[simp] theorem lasting_sendLegendFrame (s l q bytes) : (sendLegendFrame s l q bytes).lasting = s.lasting := by
  unfold sendLegendFrame; dsimp only; split <;> simp

end Sys2Proof.Machine
end

section
/-! What lasts through the operations of Sys2Proof/Machine/Packets.lean. -/
namespace Sys2Proof.Machine

@[simp] theorem lasting_setFunc (s f x) : (State.setFunc s f x).lasting = s.lasting := by simp [State.setFunc]

@[simp] theorem lasting_setLink (s h x) : (State.setLink s h x).lasting = s.lasting := by simp [State.setLink]

@[simp] theorem lasting_setUsb (s i x) : (State.setUsb s i x).lasting = s.lasting := by simp [State.setUsb]

@[simp] theorem lasting_setSvyQueue (s c q) : (State.setSvyQueue s c q).lasting = s.lasting := by simp [State.setSvyQueue]

@[simp] theorem lasting_release (s via p) : (release s via p).lasting = s.lasting := by unfold release; split <;> simp

@[simp] theorem lasting_setSession (s id x) : (State.setSession s id x).lasting = s.lasting := by simp [State.setSession]

@[simp] theorem lasting_setEntry (s acc e) : (State.setEntry s acc e).lasting = s.lasting := by simp [State.setEntry]

@[simp] theorem lasting_acknowledge (s acc e) : (acknowledge s acc e).lasting = s.lasting := by simp [acknowledge]

@[simp] theorem lasting_deliverReply (s acc e p) : (deliverReply s acc e p).lasting = s.lasting := by
  unfold deliverReply; split <;> simp

@[simp] theorem lasting_clearOrphan (s acc e) : (clearOrphan s acc e).lasting = s.lasting := by
  unfold clearOrphan; split <;> simp

@[simp] theorem lasting_endCommand (s acc w data) : (endCommand s acc w data).lasting = s.lasting := by
  simp only [endCommand]; repeat' split
  all_goals simp

@[simp] theorem lasting_notify (s id x opcode cookie payload) :
    (notify s id x opcode cookie payload).lasting = s.lasting := by
  simp [notify]

end Sys2Proof.Machine
end

section
/-! What lasts through the operations of Sys2Proof/Machine/Fabric.lean. -/
namespace Sys2Proof.Machine

@[simp] theorem lasting_signalMsix (s fn v) : (signalMsix s fn v).lasting = s.lasting := by simp [signalMsix]

@[simp] theorem lasting_setPan (s p x) : (State.setPan s p x).lasting = s.lasting := by simp [State.setPan]

@[simp] theorem lasting_telemetryWrite (s owner kind source payload) :
    (telemetryWrite s owner kind source payload).lasting = s.lasting := by
  simp [telemetryWrite]

@[simp] theorem lasting_notifyOwner (s owner r) : (notifyOwner s owner r).lasting = s.lasting := by
  simp (disch := (intros; (repeat' split) <;> simp)) [notifyOwner]

@[simp] theorem lasting_postSupervisor (s pan owner r) : (postSupervisor s pan owner r).lasting = s.lasting := by
  simp [postSupervisor]

@[simp] theorem lasting_operatorTargets (s r) : (operatorTargets s r).lasting = s.lasting := by simp [operatorTargets]

@[simp] theorem lasting_tenantTargets (s r) : (tenantTargets s r).lasting = s.lasting := by
  simp only [tenantTargets]; repeat' split
  all_goals simp

@[simp] theorem lasting_emitRecord (s r) : (emitRecord s r).lasting = s.lasting := by simp [emitRecord]

@[simp] theorem lasting_triggerRing (s ring) : (triggerRing s ring).lasting = s.lasting := by
  unfold triggerRing; split <;> simp

@[simp] theorem lasting_programEvent (s owner n data) : (programEvent s owner n data).lasting = s.lasting := by
  simp [programEvent]

@[simp] theorem lasting_handleRaising (s r) : (handleRaising s r).lasting = s.lasting := by
  unfold handleRaising; dsimp only; split <;> simp

@[simp] theorem lasting_settleRounds (a s) : (settleRounds a s).lasting = s.lasting := by
  induction a generalizing s with
  | zero => rfl
  | succ n ih =>
    unfold settleRounds; dsimp only; repeat' split
    all_goals simp [ih]

@[simp] theorem lasting_recordTelemetry (s c) : (recordTelemetry s c).lasting = s.lasting := by simp [recordTelemetry]

@[simp] theorem lasting_settle (s) : (settle s).lasting = s.lasting := by simp [settle]

@[simp] theorem lasting_endHoldoff (s source owner) : (endHoldoff s source owner).lasting = s.lasting := by
  unfold endHoldoff; dsimp only; split <;> simp

end Sys2Proof.Machine
end

section
/-! What lasts through the operations of Sys2Proof/Machine/Mem.lean. -/
namespace Sys2Proof.Machine

@[simp] theorem lasting_setThread (s t x) : (State.setThread s t x).lasting = s.lasting := by simp [State.setThread]

@[simp] theorem lasting_setCtx (s c x) : (State.setCtx s c x).lasting = s.lasting := by simp [State.setCtx]

@[simp] theorem lasting_setMeridian (s m) : (State.setMeridian s m).lasting = s.lasting := by simp [State.setMeridian]

@[simp] theorem lasting_writeByte (s r b) : (writeByte s r b).lasting = s.lasting := by
  unfold writeByte; repeat' split
  all_goals simp

@[simp] theorem lasting_writeBytes (s r a) : (writeBytes s r a).lasting = s.lasting := by
  induction a generalizing s r with
  | nil => rfl
  | cons x l ih => simp [writeBytes, ih]

@[simp] theorem lasting_writeMem (s r n v) : (writeMem s r n v).lasting = s.lasting := by simp [writeMem]

@[simp] theorem lasting_setLockList (s r l) : (setLockList s r l).lasting = s.lasting := by
  unfold setLockList; split <;> simp

@[simp] theorem lasting_panRequest (s t r bytes) : (panRequest s t r bytes).lasting = s.lasting := by
  unfold panRequest; split <;> simp

@[simp] theorem lasting_memRequest (s port r bytes) : (memRequest s port r bytes).lasting = s.lasting := by
  unfold memRequest; split <;> simp

end Sys2Proof.Machine
end

section
/-! What lasts through the operations of Sys2Proof/Machine/Threads.lean. -/
namespace Sys2Proof.Machine

@[simp] theorem lasting_setDom (s k d) : (State.setDom s k d).lasting = s.lasting := by simp [State.setDom]

@[simp] theorem lasting_markDomain (s k) : (markDomain s k).lasting = s.lasting := by simp [markDomain]

@[simp] theorem lasting_setTask (s pan slot k) : (State.setTask s pan slot k).lasting = s.lasting := by simp [State.setTask]

@[simp] theorem lasting_panCount (s pan index) : (panCount s pan index).lasting = s.lasting := by simp [panCount]

@[simp] theorem lasting_traceAdd (s pan r) : (traceAdd s pan r).lasting = s.lasting := by simp [traceAdd]

@[simp] theorem lasting_traceThread (s t kind cause wait) : (traceThread s t kind cause wait).lasting = s.lasting := by
  simp [traceThread]

@[simp] theorem lasting_perfAdd (s pan key n) : (perfAdd s pan key n).lasting = s.lasting := by simp [perfAdd]

@[simp] theorem lasting_perfPick (s t source n i) : (perfPick s t source n i).lasting = s.lasting := by simp [perfPick]

@[simp] theorem lasting_perfItems (s t source n) : (perfItems s t source n).lasting = s.lasting := by simp [perfItems]

@[simp] theorem lasting_perfCount (s t source) : (perfCount s t source).lasting = s.lasting := by simp [perfCount]

@[simp] theorem lasting_countCancelled (s t) : (countCancelled s t).lasting = s.lasting := by simp [countCancelled]

@[simp] theorem lasting_clearLinks (s pan ts) : (clearLinks s pan ts).lasting = s.lasting := by simp [clearLinks]

@[simp] theorem lasting_startRun (s t r) : (startRun s t r).lasting = s.lasting := by simp [startRun]

@[simp] theorem lasting_putLock (s l) : (putLock s l).lasting = s.lasting := by simp [putLock]

@[simp] theorem lasting_setRaise (s t r raise) : (setRaise s t r raise).lasting = s.lasting := by simp [setRaise]

@[simp] theorem lasting_setLockPrio (s l p) : (setLockPrio s l p).lasting = s.lasting := by simp [setLockPrio]

@[simp] theorem lasting_passOn (n s k) : (passOn n s k).lasting = s.lasting := by
  induction n generalizing s k with
  | zero =>
    unfold passOn; refine lasting_foldl (fun u t => ?_) _ _
    dsimp only; repeat' split
    all_goals simp
  | succ n ih =>
    unfold passOn; refine lasting_foldl (fun u t => ?_) _ _
    dsimp only; repeat' split
    all_goals simp [ih]

@[simp] theorem lasting_signalPrio (s l p) : (signalPrio s l p).lasting = s.lasting := by simp [signalPrio]

@[simp] theorem lasting_dropRaise (s t r) : (dropRaise s t r).lasting = s.lasting := by simp [dropRaise]

@[simp] theorem lasting_recompute (s l) : (recompute s l).lasting = s.lasting := by simp [recompute]

@[simp] theorem lasting_withdrawWait (s t) : (withdrawWait s t).lasting = s.lasting := by
  unfold withdrawWait; repeat' split
  all_goals simp

@[simp] theorem lasting_releaseLock (s l broken) : (releaseLock s l broken).lasting = s.lasting := by simp [releaseLock]

@[simp] theorem lasting_wake (s t dst v) : (wake s t dst v).lasting = s.lasting := by simp [wake]

@[simp] theorem lasting_unblock (s t) : (unblock s t).lasting = s.lasting := by simp [unblock]

@[simp] theorem lasting_setCcBuffer (s t l) : (setCcBuffer s t l).lasting = s.lasting := by simp [setCcBuffer]

@[simp] theorem lasting_bufferServe (s t) : (bufferServe s t).lasting = s.lasting := by unfold bufferServe; split <;> simp

@[simp] theorem lasting_bufferMoved (s t) : (bufferMoved s t).lasting = s.lasting := by simp [bufferMoved]

@[simp] theorem lasting_afterDrain (s owner t) : (afterDrain s owner t).lasting = s.lasting := by
  unfold afterDrain; split <;> simp

@[simp] theorem lasting_drainOne (s t) : (drainOne s t).lasting = s.lasting := by unfold drainOne; split <;> simp

@[simp] theorem lasting_drainAll (a s b) : (drainAll a s b).lasting = s.lasting := by
  induction a generalizing s b with
  | zero => rfl
  | succ n ih => simp [drainAll, ih]

@[simp] theorem lasting_dropStores (s t) : (dropStores s t).lasting = s.lasting := by unfold dropStores; split <;> simp

@[simp] theorem lasting_grantLock (s l) : (grantLock s l).lasting = s.lasting := by
  unfold grantLock; split
  · simp
  · dsimp only
    rw [State.lasting_ite, lasting_signalPrio, ite_self, lasting_foldl]
    · split <;> simp
    · intro u v; split <;> simp

@[simp] theorem lasting_releaseLocks (s t squash) : (releaseLocks s t squash).lasting = s.lasting := by simp [releaseLocks]

@[simp] theorem lasting_abortSearches (s t squash) : (abortSearches s t squash).lasting = s.lasting := by simp [abortSearches]

@[simp] theorem lasting_cp0Serve (s pan key) : (cp0Serve s pan key).lasting = s.lasting := by
  unfold cp0Serve; split <;> simp

@[simp] theorem lasting_cp0Free (s t) : (cp0Free s t).lasting = s.lasting := by simp [cp0Free]

@[simp] theorem lasting_abortCps (s t squash) : (abortCps s t squash).lasting = s.lasting := by simp [abortCps]

@[simp] theorem lasting_dropDelay (s t) : (dropDelay s t).lasting = s.lasting := by simp [dropDelay]

@[simp] theorem lasting_dropWaiter (s t) : (dropWaiter s t).lasting = s.lasting := by
  unfold dropWaiter; repeat' split
  all_goals simp

@[simp] theorem lasting_applyCcMode (s pan core) : (applyCcMode s pan core).lasting = s.lasting := by
  unfold applyCcMode; dsimp only; split <;> simp

@[simp] theorem lasting_freeThread (s t) : (freeThread s t).lasting = s.lasting := by simp [freeThread]

@[simp] theorem lasting_emptyTaskLinks (s pan ts) : (emptyTaskLinks s pan ts).lasting = s.lasting := by simp [emptyTaskLinks]

@[simp] theorem lasting_stopThreads (s k squash cause) : (stopThreads s k squash cause).lasting = s.lasting := by
  unfold stopThreads; dsimp only; split <;> simp

@[simp] theorem lasting_readyAdd (s pan level front e) : (readyAdd s pan level front e).lasting = s.lasting := by
  simp [readyAdd]

@[simp] theorem lasting_readyDrop (s pan k) : (readyDrop s pan k).lasting = s.lasting := by simp [readyDrop]

@[simp] theorem lasting_activate (s pan slot k) : (activate s pan slot k).lasting = s.lasting := by simp [activate]

@[simp] theorem lasting_dropTask (s pan slot k) : (dropTask s pan slot k).lasting = s.lasting := by simp [dropTask]

@[simp] theorem lasting_endActivation (s pan slot yielded) : (endActivation s pan slot yielded).lasting = s.lasting := by
  unfold endActivation; split <;> simp

@[simp] theorem lasting_setFlags (s pan slot flags) : (setFlags s pan slot flags).lasting = s.lasting := by
  unfold setFlags; split
  · rfl
  · dsimp only; split
    · split <;> simp
    · split
      · rw [lasting_foldl]
        · simp
        · intro u w; split
          · rfl
          · split <;> simp
      · simp

end Sys2Proof.Machine
end

section
/-! What lasts through the operations of Sys2Proof/Machine/Queues.lean. -/
namespace Sys2Proof.Machine

@[simp] theorem lasting_setLinkTo (s k l) : (setLinkTo s k l).lasting = s.lasting := by simp [setLinkTo]

@[simp] theorem lasting_setMsgq (s pan q x) : (setMsgq s pan q x).lasting = s.lasting := by simp [setMsgq]

@[simp] theorem lasting_writerGoes (s pan q t x) : (writerGoes s pan q t x).lasting = s.lasting := by
  unfold writerGoes; split <;> simp

@[simp] theorem lasting_serveWriters (n s pan q) : (serveWriters n s pan q).lasting = s.lasting := by
  induction n generalizing s with
  | zero => rfl
  | succ n ih =>
    unfold serveWriters; repeat' split
    all_goals simp [ih]

theorem lasting_of_takeMsg {s pan q x t r} (h : takeMsg s pan q x t = some r) : r.2.lasting = s.lasting := by
  unfold takeMsg at h; split at h
  · simp only [Option.ite_none_left_eq_some, Option.some.injEq] at h
    rw [← h.2]; simp
  · cases h

@[simp] theorem lasting_serveReaders (n s pan q) : (serveReaders n s pan q).lasting = s.lasting := by
  induction n generalizing s with
  | zero => simp [serveReaders]
  | succ n ih =>
    unfold serveReaders; split
    · split
      · rename_i h _; simpa [ih] using lasting_of_takeMsg h
      · simp
    · simp

@[simp] theorem lasting_serveQueue (s pan q) : (serveQueue s pan q).lasting = s.lasting := by simp [serveQueue]

@[simp] theorem lasting_serveLink (s k) : (serveLink s k).lasting = s.lasting := by
  simp only [serveLink]; repeat' split
  all_goals simp

theorem lasting_of_takeFaultWord {s pan r} (h : takeFaultWord s pan = some r) : r.2.lasting = s.lasting := by
  unfold takeFaultWord at h; dsimp only at h; split at h
  · cases h
  · cases h; simp

@[simp] theorem lasting_wakeSupervisor (s pan) : (wakeSupervisor s pan).lasting = s.lasting := by
  unfold wakeSupervisor; dsimp only; split
  · split
    · split
      · rfl
      · rename_i h; simpa using lasting_of_takeFaultWord h
    · rfl
  · rfl

end Sys2Proof.Machine
end

section
/-! What lasts through the operations of Sys2Proof/Machine/Contexts.lean. -/
namespace Sys2Proof.Machine

@[simp] theorem lasting_setSluice (s x) : (State.setSluice s x).lasting = s.lasting := by simp [State.setSluice]

@[simp] theorem lasting_setSoq (s k q) : (setSoq s k q).lasting = s.lasting := by simp [setSoq]

@[simp] theorem lasting_enterSoq (s d) : (enterSoq s d).lasting = s.lasting := by simp [enterSoq]

@[simp] theorem lasting_wakePan (s p) : (wakePan s p).lasting = s.lasting := by unfold wakePan; split <;> simp

@[simp] theorem lasting_wakeForLoad (s pans) : (wakeForLoad s pans).lasting = s.lasting := by
  unfold wakeForLoad; split <;> simp

@[simp] theorem lasting_readyCtx (s c x front) : (readyCtx s c x front).lasting = s.lasting := by simp [readyCtx]

@[simp] theorem lasting_takeContext (s d express c) : (takeContext s d express c).lasting = s.lasting := by simp [takeContext]

theorem lasting_of_tryTake {s d express u} (h : tryTake s d express = some u) : u.lasting = s.lasting := by
  unfold tryTake at h; dsimp only at h
  split at h
  · cases h
  · split at h
    · cases h
    · split at h
      · cases h
      · cases h; simp

@[simp] theorem lasting_drainWait (n s) : (drainWait n s).lasting = s.lasting := by
  induction n generalizing s with
  | zero => rfl
  | succ n ih =>
    unfold drainWait; dsimp only; split
    · rfl
    · rename_i h
      obtain ⟨k, -, hk⟩ := List.exists_of_findSome?_eq_some h
      split at hk
      · cases hk
      · obtain ⟨u, hu, he⟩ := Option.map_eq_some_iff.1 hk
        cases he; simpa [ih] using lasting_of_tryTake hu

@[simp] theorem lasting_mirrorToPort (s c x session) : (mirrorToPort s c x session).lasting = s.lasting := by
  simp [mirrorToPort]

@[simp] theorem lasting_copyToSlow (s x len w) : (copyToSlow s x len w).lasting = s.lasting := by
  unfold copyToSlow; split <;> simp

@[simp] theorem lasting_releaseCopy (c x s k) : (releaseCopy c x s k).lasting = s.lasting := by
  unfold releaseCopy; repeat' split
  all_goals simp

@[simp] theorem lasting_returnHeld (s c) : (returnHeld s c).lasting = s.lasting := by simp [returnHeld]

@[simp] theorem lasting_keepHeld (s c) : (keepHeld s c).lasting = s.lasting := by simp [keepHeld]

@[simp] theorem lasting_setTable (s t x) : (State.setTable s t x).lasting = s.lasting := by simp [State.setTable]

@[simp] theorem lasting_dropProvisional (s t i) : (dropProvisional s t i).lasting = s.lasting := by simp [dropProvisional]

@[simp] theorem lasting_discardRecs (s x) : (discardRecs s x).lasting = s.lasting := by
  unfold discardRecs; refine lasting_foldl (fun u x => ?_) _ _; split <;> simp

@[simp] theorem lasting_undoRun (s c x squash cause) : (undoRun s c x squash cause).lasting = s.lasting := by
  unfold undoRun; dsimp only; split <;> simp

@[simp] theorem lasting_squash (s c) : (squash s c).lasting = s.lasting := by
  simp only [squash]; repeat' split
  all_goals simp

@[simp] theorem lasting_park (s c on) : (park s c on).lasting = s.lasting := by
  unfold park; split
  · rfl
  · dsimp only; split
    · simp
    · rw [lasting_foldl]
      · simp
      · intro u d; split
        · rfl
        · split <;> simp

@[simp] theorem lasting_refreshParking (s key) : (refreshParking s key).lasting = s.lasting := by simp [refreshParking]

@[simp] theorem lasting_failCtx (s c reason hold cause) : (failCtx s c reason hold cause).lasting = s.lasting := by
  simp only [failCtx]; repeat' split
  all_goals simp

@[simp] theorem lasting_endCtx (s c x outcome reason flags) : (endCtx s c x outcome reason flags).lasting = s.lasting := by
  simp [endCtx]

end Sys2Proof.Machine
end

section
/-! What lasts through the operations of Sys2Proof/Machine/Control.lean. -/
namespace Sys2Proof.Machine

@[simp] theorem lasting_breakChains (s e) : (breakChains s e).lasting = s.lasting := by simp [breakChains]

@[simp] theorem lasting_takeIn (s e) : (takeIn s e).lasting = s.lasting := by unfold takeIn; dsimp only; split <;> simp

@[simp] theorem lasting_resend (s via id x q) : (resend s via id x q).lasting = s.lasting := by
  unfold resend; repeat' split
  all_goals simp

@[simp] theorem lasting_requestSeen (s via) : (requestSeen s via).lasting = s.lasting := by
  unfold requestSeen; split <;> simp

@[simp] theorem lasting_offer (s via bytes orphan) : (offer s via bytes orphan).lasting = s.lasting := by
  simp only [offer]; repeat' split
  all_goals simp

@[simp] theorem lasting_conclude (acc) (r : State × Ending) : (conclude acc r).lasting = r.1.lasting := by
  unfold conclude; repeat' split
  all_goals simp

@[simp] theorem lasting_extendDeadline (cause s acc) : (extendDeadline cause s acc).lasting = s.lasting := by
  simp only [extendDeadline]; repeat' split
  all_goals simp

theorem runBody_lasting_cases (s c e known) (body : Call → State → State × Ending) :
    (runBody s c e known body).lasting = s.lasting ∨ ∃ k, (runBody s c e known body).lasting = (body k s).1.lasting := by
  unfold runBody; dsimp only; repeat' split
  all_goals simp
  all_goals exact .inr ⟨_, rfl⟩

@[simp] theorem lasting_runBody (s c e known) (body : Call → State → State × Ending)
    (h : ∀ k, (body k s).1.lasting = s.lasting) :
    (runBody s c e known body).lasting = s.lasting := by
  obtain h' | ⟨k, h'⟩ := runBody_lasting_cases s c e known body
  · exact h'
  · exact h'.trans (h k)

theorem runCommand_lasting_cases (s c opcode) (body : Call → State → State × Ending) :
    (runCommand s c opcode body).lasting = s.lasting ∨ ∃ k, (runCommand s c opcode body).lasting = (body k s).1.lasting := by
  unfold runCommand
  split
  · exact .inl rfl
  · split
    · simpa using runBody_lasting_cases s c _ true body
    · exact .inl rfl

@[simp] theorem lasting_runCommand (s c opcode) (body : Call → State → State × Ending)
    (h : ∀ k, (body k s).1.lasting = s.lasting) :
    (runCommand s c opcode body).lasting = s.lasting := by
  obtain h' | ⟨k, h'⟩ := runCommand_lasting_cases s c opcode body
  · exact h'
  · exact h'.trans (h k)

theorem keeps_runCommand {s c opcode} {body : Call → State → State × Ending} (h : ∀ k, (body k s).1.lasting = s.lasting) :
    Keeps s (.next (runCommand s c opcode body)) := by simp [h]

@[simp] theorem lasting_okDone (s) : (okDone s).1.lasting = s.lasting := by simp [okDone]

@[simp] theorem lasting_okRead (s data) : (okRead s data).1.lasting = s.lasting := by simp [okRead]

@[simp] theorem lasting_okData (s data) : (okData s data).1.lasting = s.lasting := by simp [okData]

@[simp] theorem lasting_ends (s w) : (ends s w).1.lasting = s.lasting := by simp [ends]

@[simp] theorem lasting_endsCode (s code) : (endsCode s code).1.lasting = s.lasting := by simp [endsCode]

@[simp] theorem lasting_unlessBad (s) (tests : List (Bool × Status)) (go : State × Ending) (hgo : go.1.lasting = s.lasting) :
    (unlessBad s tests go).1.lasting = s.lasting := by
  unfold unlessBad; split <;> simp [hgo]

end Sys2Proof.Machine
end

section
/-! What lasts through the operations of Sys2Proof/Machine/Quotas.lean. -/
namespace Sys2Proof.Machine

@[simp] theorem lasting_tableRequest (s port table bytes) : (tableRequest s port table bytes).lasting = s.lasting := by
  simp [tableRequest]

end Sys2Proof.Machine
end

section
/-! What lasts through the operations of Sys2Proof/Machine/Flow.lean. -/
namespace Sys2Proof.Machine

@[simp] theorem lasting_tableCount (s table index) : (tableCount s table index).lasting = s.lasting := by simp [tableCount]

@[simp] theorem lasting_squashHolders (s domain e) : (squashHolders s domain e).lasting = s.lasting := by simp [squashHolders]

@[simp] theorem lasting_requestRehash (s table) : (requestRehash s table).lasting = s.lasting := by simp [requestRehash]

@[simp] theorem lasting_applyInsert (s domain table key i) : (applyInsert s domain table key i).1.lasting = s.lasting := by
  simp only [applyInsert]; repeat' split
  all_goals simp

@[simp] theorem lasting_applyDelete (s domain table key cause) :
    (applyDelete s domain table key cause).lasting = s.lasting := by
  unfold applyDelete; dsimp only; split <;> simp

@[simp] theorem lasting_writeRecord (s table i) (ws : List (Nat × Word)) :
    (writeRecord s table i ws).lasting = s.lasting := by
  simp [writeRecord]

end Sys2Proof.Machine
end

section
/-! What lasts through the operations of Sys2Proof/Machine/Tally.lean. -/
namespace Sys2Proof.Machine

@[simp] theorem lasting_applyTally (s cmd pan r len colour) : (applyTally s cmd pan r len colour).1.lasting = s.lasting := by
  simp only [applyTally]; repeat' split
  all_goals simp

end Sys2Proof.Machine
end

section
/-! What lasts through the operations of Sys2Proof/Machine/Commit.lean. -/
namespace Sys2Proof.Machine

@[simp] theorem lasting_buildChain (s pool tenant l) : (buildChain s pool tenant l).1.lasting = s.lasting := by
  induction l generalizing s with
  | nil => rfl
  | cons p l ih => cases p <;> simp [buildChain, ih]

theorem lasting_of_applyEgress {s c x l q start len u}
    (h : applyEgress s c x l q start len = .sent u) : u.lasting = s.lasting := by
  unfold applyEgress at h; dsimp only at h; split at h
  · split at h <;> cases h
  · cases h; simp

@[simp] theorem lasting_commitEgress (c n s) : (commitEgress c n s).lasting = s.lasting := by
  induction n generalizing s with
  | zero => rfl
  | succ n ih =>
    unfold commitEgress; split
    · rfl
    · split
      · split
        · rename_i h; simpa [ih] using lasting_of_applyEgress h
        · simp [ih]
        · simp
      · rfl

@[simp] theorem lasting_applyRec (s c x r) : (applyRec s c x r).lasting = s.lasting := by
  simp only [applyRec]; repeat' split
  all_goals simp

@[simp] theorem lasting_applyRecs (c x l done s) : (applyRecs c x l done s).lasting = s.lasting := by
  induction l generalizing done s with
  | nil => rfl
  | cons r l ih =>
    cases r <;> simp only [applyRecs, ih]
    case write => split <;> simp [ih]
    case insert => repeat' split
                   all_goals simp
    all_goals simp

@[simp] theorem lasting_applyHeld (s c) : (applyHeld s c).lasting = s.lasting := by unfold applyHeld; split <;> simp

@[simp] theorem lasting_commit (s c) : (commit s c).lasting = s.lasting := by
  simp only [commit]; repeat' split
  all_goals simp

@[simp] theorem lasting_endFaulted (s k disable keepFlags) : (endFaulted s k disable keepFlags).lasting = s.lasting := by
  simp only [endFaulted]; repeat' split
  all_goals simp

@[simp] theorem lasting_actFault (s t code value at_) (since : Option (Nat × Ns)) :
    (actFault s t code value at_ since).lasting = s.lasting := by
  unfold actFault; extract_lets moment y x pan s₁ q
  have h₁ : s₁.lasting = s.lasting := by simp [s₁]
  clear_value s₁ q x
  split
  · exact h₁
  · simp [h₁]
  · extract_lets r k' s₂ s₃ s₄ s₅ p s₆
    have h₂ : s₂.lasting = s.lasting := by simp [s₂, h₁]
    have h₄ : s₄.lasting = s.lasting := by simp [s₄, s₃, h₂]
    clear_value s₄ r
    have h₅ : s₅.lasting = s.lasting := by
      simp only [s₅]
      split
      · simp [h₄]
      · split <;> simp [h₄]
      · exact h₄
    clear_value s₅
    split <;> simp [s₆, h₅]

@[simp] theorem lasting_actDeferred (s c t) : (actDeferred s c t).lasting = s.lasting := by
  unfold actDeferred; split <;> simp

@[simp] theorem lasting_unpark (s c) : (unpark s c).lasting = s.lasting := by unfold unpark; split <;> simp

@[simp] theorem lasting_readyAhead (s c) : (readyAhead s c).lasting = s.lasting := by unfold readyAhead; split <;> simp

@[simp] theorem lasting_releaseGroup (s parked doms) : (releaseGroup s parked doms).lasting = s.lasting := by
  simp [releaseGroup]

@[simp] theorem lasting_releaseBehind (s key) : (releaseBehind s key).lasting = s.lasting := by simp [releaseBehind]

@[simp] theorem lasting_driveOnce (s key) : (driveOnce s key).1.lasting = s.lasting := by
  simp only [driveOnce]; repeat' split
  all_goals simp

@[simp] theorem lasting_driveDomain (a s b) : (driveDomain a s b).lasting = s.lasting := by
  induction a generalizing s b with
  | zero => rfl
  | succ n ih =>
    unfold driveDomain; dsimp only; repeat' split
    all_goals simp [ih]

@[simp] theorem lasting_driveDue (a s) : (driveDue a s).lasting = s.lasting := by
  induction a generalizing s with
  | zero => rfl
  | succ n ih =>
    unfold driveDue; dsimp only; repeat' split
    all_goals simp [ih]

@[simp] theorem lasting_endOk (s acc) : (endOk s acc).lasting = s.lasting := by unfold endOk; split <;> simp

@[simp] theorem lasting_insertRecord (s table key record acc) :
    (insertRecord s table key record acc).lasting = s.lasting := by
  simp only [insertRecord]; repeat' split
  all_goals simp

@[simp] theorem lasting_withdraw (s acc) : (withdraw s acc).lasting = s.lasting := by simp [withdraw]

@[simp] theorem lasting_expireLate (s acc) : (expireLate s acc).lasting = s.lasting := by
  unfold expireLate; split <;> simp

@[simp] theorem lasting_tryCmdWrite (s w) : (tryCmdWrite s w).lasting = s.lasting := by
  unfold tryCmdWrite; split
  · cases w.acc <;> simp
  · split <;> split <;> simp

@[simp] theorem lasting_wakeReady (s pan) : (wakeReady s pan).lasting = s.lasting := by simp [wakeReady]

@[simp] theorem lasting_finish (s) : (finish s).lasting = s.lasting := by simp [finish]

@[simp] theorem lasting_lockRule (s c) : (lockRule s c).lasting = s.lasting := by simp [lockRule]

end Sys2Proof.Machine
end

section
/-! What lasts through the operations of Sys2Proof/Machine/Operands.lean. -/
namespace Sys2Proof.Machine

theorem keeps_finish_runCommand {s c opcode} {body : Call → State → State × Ending}
    (h : ∀ k, (body k s).1.lasting = s.lasting) :
    Keeps s (.next (finish (runCommand s c opcode body))) := by simp [h]

@[simp] theorem lasting_writeReg (s t r v distance flags) : (writeReg s t r v distance flags).lasting = s.lasting := by
  simp [writeReg]

end Sys2Proof.Machine
end

section
/-! What lasts through the operations of Sys2Proof/Machine/Flags.lean. -/
namespace Sys2Proof.Machine

@[simp] theorem lasting_addReport (s pan r) : (addReport s pan r).lasting = s.lasting := by simp [addReport]

@[simp] theorem lasting_report (s t kind reg csr required sep producer) :
    (report s t kind reg csr required sep producer).lasting = s.lasting := by
  simp [report]

@[simp] theorem lasting_reportReads (s t srcs) : (reportReads s t srcs).lasting = s.lasting := by
  unfold reportReads; dsimp only; split
  · rfl
  · refine lasting_foldl (fun u r => ?_) _ _
    split
    · rfl
    · split <;> simp

@[simp] theorem lasting_issued (s t srcs) : (issued s t srcs).lasting = s.lasting := by simp [issued]

end Sys2Proof.Machine
end

section
/-! What lasts through the operations of Sys2Proof/Machine/Issue.lean. -/
namespace Sys2Proof.Machine

@[simp] theorem lasting_faultThread (s t code value at_) : (faultThread s t code value at_).lasting = s.lasting := by
  simp [faultThread]

@[simp] theorem lasting_accessArrives (s b) : (accessArrives s b).lasting = s.lasting := by
  unfold accessArrives; repeat' split
  all_goals simp

@[simp] theorem lasting_blockThread (s t b) : (blockThread s t b).lasting = s.lasting := by
  simp only [blockThread]; repeat' split
  all_goals simp

@[simp] theorem lasting_applyEff (s t cost) (e : Eff) (h : e.lasting s.lasting = s.lasting) :
    (applyEff s t cost e).lasting = s.lasting := by
  unfold applyEff; split
  all_goals simpa using h

@[simp] theorem lasting_issueState (s t slotOk word srcs cost) {body : State → Thread → Eff}
    (h : ∀ u x, (body u x).lasting u.lasting = u.lasting) :
    (issueState s t slotOk word srcs cost body).lasting = s.lasting := by
  have run := fun u x => lasting_applyEff u t cost _ (h u x)
  unfold issueState; dsimp only; split
  · rfl
  · repeat' split
    all_goals simp [run]

@[simp] theorem keeps_issue {t slotOk word srcs cost s} {body : State → Thread → Eff}
    (h : ∀ u x, (body u x).lasting u.lasting = u.lasting) : Keeps s (issue t slotOk word srcs cost s body) := by
  simp [issue, h]

@[simp] theorem keeps_issueLegal {t slotOk word srcs cost s bad} {body : State → Thread → Eff}
    (h : ∀ u x, (body u x).lasting u.lasting = u.lasting) : Keeps s (issueLegal t slotOk word srcs cost s bad body) := by
  unfold issueLegal; split
  · exact keeps_issue (by simp)
  · exact keeps_issue h

@[simp] theorem keeps_alu (t a srcs s) (f : Thread → Word) : Keeps s (alu t a srcs s f) := by simp [alu]

@[simp] theorem keeps_alu3 (t a b c s) (f : Word → Word → Word) : Keeps s (alu3 t a b c s f) := by simp [alu3]

@[simp] theorem keeps_trap3 (t a b c s distance) (f : Int → Int → Int) : Keeps s (trap3 t a b c s distance f) := by
  simp (disch := (intros; (repeat' split) <;> simp)) [trap3]

end Sys2Proof.Machine
end

section
/-! What lasts through the operations of Sys2Proof/Machine/Access.lean. -/
namespace Sys2Proof.Machine

@[simp] theorem lasting_accessTrap (code word addr a) : (accessTrap code word addr).lasting a = a := by simp [accessTrap]

@[simp] theorem lasting_loadFrom (s t a addr size signed r) : (loadFrom s t a addr size signed r).lasting s.lasting = s.lasting := by
  unfold loadFrom; repeat' split
  all_goals simp

@[simp] theorem keeps_loadOp (t major a b disp size signed s) : Keeps s (loadOp t major a b disp size signed s) := by
  unfold loadOp; refine keeps_issue fun u x => ?_; dsimp only; repeat' split
  all_goals simp

@[simp] theorem lasting_storeTo (s x t addr size v r) : (storeTo s x t addr size v r).lasting s.lasting = s.lasting := by
  simp only [storeTo]; repeat' split
  all_goals simp

@[simp] theorem keeps_storeOp (t major a b disp size s) : Keeps s (storeOp t major a b disp size s) := by
  unfold storeOp; refine keeps_issue fun u x => ?_; dsimp only; repeat' split
  all_goals simp

@[simp] theorem keeps_windowLoad (t major a b disp size s) : Keeps s (windowLoad t major a b disp size s) := by
  unfold windowLoad; refine keeps_issue fun u x => ?_; dsimp only; repeat' split
  all_goals simp

@[simp] theorem keeps_execLd8 (t a b disp s) : Keeps s (execLd8 t a b disp s) := by simp [execLd8]

@[simp] theorem keeps_execLd8s (t a b disp s) : Keeps s (execLd8s t a b disp s) := by simp [execLd8s]

@[simp] theorem keeps_execLd16 (t a b disp s) : Keeps s (execLd16 t a b disp s) := by simp [execLd16]

@[simp] theorem keeps_execLd16s (t a b disp s) : Keeps s (execLd16s t a b disp s) := by simp [execLd16s]

@[simp] theorem keeps_execLd32 (t a b disp s) : Keeps s (execLd32 t a b disp s) := by simp [execLd32]

@[simp] theorem keeps_execLd32s (t a b disp s) : Keeps s (execLd32s t a b disp s) := by simp [execLd32s]

@[simp] theorem keeps_execLd64 (t a b disp s) : Keeps s (execLd64 t a b disp s) := by simp [execLd64]

@[simp] theorem keeps_execSt8 (t a b disp s) : Keeps s (execSt8 t a b disp s) := by simp [execSt8]

@[simp] theorem keeps_execSt16 (t a b disp s) : Keeps s (execSt16 t a b disp s) := by simp [execSt16]

@[simp] theorem keeps_execSt32 (t a b disp s) : Keeps s (execSt32 t a b disp s) := by simp [execSt32]

@[simp] theorem keeps_execSt64 (t a b disp s) : Keeps s (execSt64 t a b disp s) := by simp [execSt64]

@[simp] theorem keeps_execLpw16 (t a b disp s) : Keeps s (execLpw16 t a b disp s) := by simp [execLpw16]

@[simp] theorem keeps_execLpw32 (t a b disp s) : Keeps s (execLpw32 t a b disp s) := by simp [execLpw32]

@[simp] theorem keeps_execLpw64 (t a b disp s) : Keeps s (execLpw64 t a b disp s) := by simp [execLpw64]

@[simp] theorem keeps_atomicOp (t a b c f srcs s) (op : Thread → AccessOp) : Keeps s (atomicOp t a b c f srcs s op) := by
  unfold atomicOp; refine keeps_issue fun u x => ?_; dsimp only; repeat' split
  all_goals simp

@[simp] theorem keeps_execAadd (t a b c s) : Keeps s (execAadd t a b c s) := by simp [execAadd]

@[simp] theorem keeps_execAcas (t a b c s) : Keeps s (execAcas t a b c s) := by simp [execAcas]

@[simp] theorem keeps_execAswp (t a b c s) : Keeps s (execAswp t a b c s) := by simp [execAswp]

@[simp] theorem keeps_execStoreBufferDrain (tid s) : Keeps s (execStoreBufferDrain tid s) := by simp [execStoreBufferDrain]

@[simp] theorem lasting_landResult (s t num) : (landResult s t num).lasting = s.lasting := by
  simp only [landResult]; repeat' split
  all_goals simp

@[simp] theorem keeps_execResultLand (tid num s) : Keeps s (execResultLand tid num s) := by simp [execResultLand]

end Sys2Proof.Machine
end

section
/-! What lasts through the operations of Sys2Proof/Machine/Retire.lean. -/
namespace Sys2Proof.Machine

@[simp] theorem lasting_setRank (s r x) : (setRank s r x).lasting = s.lasting := by simp [setRank]

@[simp] theorem lasting_changeRank (s r x) : (changeRank s r x).lasting = s.lasting := by simp [changeRank]

@[simp] theorem lasting_setClass (s demote c) : (setClass s demote c).lasting = s.lasting := by simp [setClass]

@[simp] theorem lasting_demoteClasses (s) : (demoteClasses s).lasting = s.lasting := by simp [demoteClasses]

@[simp] theorem lasting_readmitClasses (s) : (readmitClasses s).lasting = s.lasting := by
  unfold readmitClasses
  refine List.foldlRecOn (motive := fun r : State × Bool => r.1.lasting = s.lasting) _ _ rfl fun r hr c _ => ?_
  dsimp only; repeat' split
  all_goals simpa using hr

@[simp] theorem lasting_setCredited (s n) : (setCredited s n).lasting = s.lasting := by simp [setCredited]

@[simp] theorem lasting_startMove (s r cause spare) : (startMove s r cause spare).lasting = s.lasting := by
  unfold startMove; split <;> simp

@[simp] theorem lasting_queueRank (s r cause) : (queueRank s r cause).lasting = s.lasting := by simp [queueRank]

@[simp] theorem lasting_retireRank (s r cause) : (retireRank s r cause).lasting = s.lasting := by
  unfold retireRank; repeat' split
  all_goals simp

@[simp] theorem lasting_takeWaiting (a s) : (takeWaiting a s).lasting = s.lasting := by
  induction a generalizing s with
  | zero => rfl
  | succ n ih =>
    unfold takeWaiting; dsimp only; repeat' split
    all_goals simp [ih]

@[simp] theorem lasting_nextMove (s) : (nextMove s).lasting = s.lasting := by
  simp only [nextMove]; repeat' split
  all_goals simp

@[simp] theorem lasting_condemn (s r cause) : (condemn s r cause).lasting = s.lasting := by simp [condemn]

end Sys2Proof.Machine
end

section
/-! What lasts through the operations of Sys2Proof/Machine/Tables.lean. -/
namespace Sys2Proof.Machine

@[simp] theorem lasting_requestPromotion (s table kh key) : (requestPromotion s table kh key).lasting = s.lasting := by
  simp [requestPromotion]

@[simp] theorem lasting_coldPacket (s c k table key) : (coldPacket s c k table key).lasting = s.lasting := by
  simp [coldPacket]

@[simp] theorem keeps_execSld (t a b table word s) : Keeps s (execSld t a b table word s) := by
  unfold execSld; refine keeps_issue fun u x => ?_; dsimp only; repeat' split
  all_goals simp

@[simp] theorem lasting_writeNow (s c k id i w v) : (writeNow s c k id i w v).lasting = s.lasting := by simp [writeNow]

@[simp] theorem keeps_execSst (t a b table word s) : Keeps s (execSst t a b table word s) := by
  simp (disch := (intros; (repeat' split) <;> simp)) [execSst]

@[simp] theorem lasting_stateLoadDone (s t dst id i w) : (stateLoadDone s t dst id i w).lasting = s.lasting := by
  unfold stateLoadDone; dsimp only; split <;> simp

@[simp] theorem lasting_storeMem (s r n v) : (storeMem s r n v).lasting = s.lasting := by unfold storeMem; split <;> simp

@[simp] theorem lasting_accessDone (s t) : (accessDone s t).lasting = s.lasting := by
  simp only [accessDone]; repeat' split
  all_goals simp

@[simp] theorem keeps_execMemoryAccessComplete (tid s) : Keeps s (execMemoryAccessComplete tid s) := by
  simp [execMemoryAccessComplete]

@[simp] theorem lasting_searchBank (owner s b) : (searchBank owner s b).lasting = s.lasting := by simp [searchBank]

@[simp] theorem lasting_touchBanks (s t key) : (touchBanks s t key).lasting = s.lasting := by simp [touchBanks]

@[simp] theorem lasting_absentSeen (s table key c) : (absentSeen s table key c).lasting = s.lasting := by simp [absentSeen]

@[simp] theorem lasting_pushSearch (s t x ch table no key need word data) :
    (pushSearch s t x ch table no key need word data).lasting = s.lasting := by
  simp [pushSearch]

@[simp] theorem lasting_countFalses (s table n) : (countFalses s table n).lasting = s.lasting := by simp [countFalses]

@[simp] theorem lasting_countFound (s table f) : (countFound s table f).lasting = s.lasting := by
  unfold countFound; split <;> simp

@[simp] theorem lasting_learn (s x table t key) : (learn s x table t key).1.lasting = s.lasting := by
  simp only [learn]; repeat' split
  all_goals simp

@[simp] theorem lasting_programDelete (s x table key) : (programDelete s x table key).lasting = s.lasting := by
  unfold programDelete; split <;> simp

@[simp] theorem lasting_runSearch (s t x ch no op table tb key) :
    (runSearch s t x ch no op table tb key).lasting s.lasting = s.lasting := by
  unfold runSearch
  extract_lets knum need inPacket isFlow entry spec found missed hitAt cold learns deletes wantsSet wantsBuf
  clear_value inPacket found hitAt
  split
  · rfl
  · rename_i s₁ s₂ s₃ s₄ s₅ s₆ absent s₇ s₈ send zeros _
    have h₄ : s₄.lasting = s.lasting := by simp [s₄, s₃, s₂, s₁]
    have h₅ : s₅.lasting = s.lasting := by simp only [s₅]; split <;> simp [h₄]
    have h₆ : s₆.lasting = s.lasting := by simp only [s₆]; split <;> simp [h₅]
    have h₇ : s₇.lasting = s.lasting := by simp [s₇, h₆]
    have h₈ : s₈.lasting = s.lasting := by simp only [s₈]; split <;> simp [h₇]
    have sent : ∀ u n a b d v l, (send u n a b d v l).lasting s.lasting = u.lasting := by simp [send]
    clear_value s₈ send
    split
    · split <;> simp [sent, h₈]
    · split
      · split
        · rename_i h; simp [sent, lasting_of_eq_pair h, h₈]
        · rename_i h; simp [sent, lasting_of_eq_pair h, h₈]
      · split
        · split <;> simp [sent, h₈]
        all_goals simp [sent, h₈]

@[simp] theorem keeps_searchOp (t a b chan s) : Keeps s (searchOp t a b chan s) := by
  unfold searchOp; refine keeps_issue fun u x => ?_; dsimp only; repeat' split
  all_goals simp

@[simp] theorem keeps_execSrchSearch (t a b chan s) : Keeps s (execSrchSearch t a b chan s) := by simp [execSrchSearch]

@[simp] theorem keeps_execSearchOrLearn (t a b chan s) : Keeps s (execSearchOrLearn t a b chan s) := by
  simp [execSearchOrLearn]

@[simp] theorem keeps_execSrchDelete (t a b chan s) : Keeps s (execSrchDelete t a b chan s) := by simp [execSrchDelete]

@[simp] theorem lasting_takeResponse (s t dst) (e : Word × Bool) : (takeResponse s t dst e).lasting = s.lasting := by
  unfold takeResponse; dsimp only; split <;> simp

@[simp] theorem lasting_deliverResponse (s t ch word data) : (deliverResponse s t ch word data).lasting = s.lasting := by
  unfold deliverResponse; dsimp only; split <;> simp

@[simp] theorem lasting_dropSearch (s n) : (dropSearch s n).lasting = s.lasting := by simp [dropSearch]

@[simp] theorem keeps_execSearchResult (num s) : Keeps s (execSearchResult num s) := by
  unfold execSearchResult; split <;> simp

@[simp] theorem keeps_execSearchTimeout (num s) : Keeps s (execSearchTimeout num s) := by
  unfold execSearchTimeout; split <;> simp

end Sys2Proof.Machine
end

section
/-! What lasts through the operations of Sys2Proof/Machine/Gaz.lean. -/
namespace Sys2Proof.Machine

@[simp] theorem lasting_createTable (table x c s) : (createTable table x c s).1.lasting = s.lasting := by
  unfold createTable; dsimp only; split
  · simp
  · exact lasting_unlessBad _ _ _ (lasting_unlessBad _ _ _ (by simp))

@[simp] theorem keeps_execTableCreate (c table x s) : Keeps s (execTableCreate c table x s) := by simp [execTableCreate]

@[simp] theorem lasting_withTable (s c table kinds) (go : Table → State × Ending)
    (hgo : ∀ x0, (go x0).1.lasting = s.lasting) :
    (withTable s c table kinds go).1.lasting = s.lasting := by
  unfold withTable; split <;> simp [hgo]

@[simp] theorem lasting_endAll (s accs w) : (endAll s accs w).lasting = s.lasting := by simp [endAll]

@[simp] theorem lasting_removeTable (s table) : (removeTable s table).lasting = s.lasting := by simp [removeTable]

@[simp] theorem keeps_execTableDelete (c table s) : Keeps s (execTableDelete c table s) := by
  simp (disch := (intros; (repeat' split) <;> simp)) [execTableDelete]

@[simp] theorem lasting_joinBatch (s table t op) : (joinBatch s table t op).1.lasting = s.lasting := by simp [joinBatch]

@[simp] theorem keeps_execEntryWrite (c table x s) : Keeps s (execEntryWrite c table x s) := by
  unfold execEntryWrite
  exact keeps_runCommand fun k => lasting_withTable _ _ _ _ _ fun t => by split <;> simp

@[simp] theorem keeps_execEntryDelete (c table entry s) : Keeps s (execEntryDelete c table entry s) := by
  unfold execEntryDelete
  exact keeps_runCommand fun k => lasting_withTable _ _ _ _ _ fun t => by split <;> simp

@[simp] theorem lasting_powerBanks (s) : (powerBanks s).lasting = s.lasting := by simp [powerBanks]

@[simp] theorem lasting_setPresence (clear s table) : (setPresence clear s table).lasting = s.lasting := by simp [setPresence]

@[simp] theorem lasting_publishBatch (s table t) : (publishBatch s table t).lasting = s.lasting := by simp [publishBatch]

@[simp] theorem keeps_execViewPublish (table s) : Keeps s (execViewPublish table s) := by
  unfold execViewPublish; split <;> simp

@[simp] theorem lasting_setClsPresence (clear s) : (setClsPresence clear s).lasting = s.lasting := by simp [setClsPresence]

@[simp] theorem lasting_bankCount (s repair b) : (bankCount s repair b).lasting = s.lasting := by simp [bankCount]

@[simp] theorem lasting_shadowRepairs (s table n) : (shadowRepairs s table n).lasting = s.lasting := by simp [shadowRepairs]

@[simp] theorem lasting_reportDead (s table owner id) : (reportDead s table owner id).lasting = s.lasting := by
  simp [reportDead]

@[simp] theorem lasting_healEntry (table s e) : (healEntry table s e).lasting = s.lasting := by simp [healEntry]

@[simp] theorem lasting_setClsRules (s scope rs) : (setClsRules s scope rs).lasting = s.lasting := by simp [setClsRules]

@[simp] theorem lasting_setRule (s scope r) : (setRule s scope r).lasting = s.lasting := by simp [setRule]

@[simp] theorem lasting_healRule (k scope s r) : (healRule k scope s r).lasting = s.lasting := by simp [healRule]

@[simp] theorem keeps_execFalseHitRewrite (bank entry s) : Keeps s (execFalseHitRewrite bank entry s) := by
  simp only [execFalseHitRewrite]; repeat' split
  all_goals simp

@[simp] theorem lasting_sweepDirect (s table t) : (sweepDirect s table t).lasting = s.lasting := by simp [sweepDirect]

@[simp] theorem lasting_sweepTable (s table t) : (sweepTable s table t).lasting = s.lasting := by simp [sweepTable]

@[simp] theorem lasting_sweepReplica (scope s k) : (sweepReplica scope s k).lasting = s.lasting := by simp [sweepReplica]

@[simp] theorem lasting_sweepClassifier (s) : (sweepClassifier s).lasting = s.lasting := by simp [sweepClassifier]

@[simp] theorem keeps_execScrubSweep (table s) : Keeps s (execScrubSweep table s) := by
  unfold execScrubSweep; repeat' split
  all_goals simp

@[simp] theorem keeps_execBankSleep (bank s) : Keeps s (execBankSleep bank s) := by simp [execBankSleep]

@[simp] theorem keeps_execEntryRead (c table first count s) : Keeps s (execEntryRead c table first count s) := by
  simp [execEntryRead]

@[simp] theorem keeps_execTableCompare (c table first crcs s) : Keeps s (execTableCompare c table first crcs s) := by
  simp [execTableCompare]

@[simp] theorem keeps_execFlowInsert (c table key record s) : Keeps s (execFlowInsert c table key record s) := by
  unfold execFlowInsert; refine keeps_finish_runCommand fun k => ?_; dsimp only
  simp

@[simp] theorem keeps_execFlowDelete (c table key s) : Keeps s (execFlowDelete c table key s) := by
  unfold execFlowDelete; refine keeps_finish_runCommand fun k => ?_; dsimp only
  simp

@[simp] theorem keeps_execStateWrite (c table index word values s) :
    Keeps s (execStateWrite c table index word values s) := by
  unfold execStateWrite; refine keeps_finish_runCommand fun k => ?_; dsimp only
  simp

@[simp] theorem keeps_execStateRead (c table index word count s) : Keeps s (execStateRead c table index word count s) := by
  unfold execStateRead
  exact keeps_runCommand fun k => lasting_withTable _ _ _ _ _ fun t => by simp

@[simp] theorem keeps_execFlowCfgWrite (c table record s) : Keeps s (execFlowCfgWrite c table record s) := by
  unfold execFlowCfgWrite; refine keeps_runCommand fun k => ?_; dsimp only
  simp

@[simp] theorem keeps_execRehash (c table s) : Keeps s (execRehash c table s) := by
  unfold execRehash; refine keeps_runCommand fun k => ?_; dsimp only
  simp

@[simp] theorem lasting_startRebuild (s table) : (startRebuild s table).lasting = s.lasting := by
  simp only [startRebuild]; repeat' split
  all_goals simp

@[simp] theorem keeps_execRehashComplete (table s) : Keeps s (execRehashComplete table s) := by
  unfold execRehashComplete; repeat' split
  all_goals simp

@[simp] theorem keeps_execTableRead (c table s) : Keeps s (execTableRead c table s) := by
  simp (disch := (intros; (repeat' split) <;> simp)) [execTableRead]

@[simp] theorem keeps_execGazWrite (c record s) : Keeps s (execGazWrite c record s) := by
  unfold execGazWrite; refine keeps_runCommand fun k => ?_; dsimp only; repeat' split
  all_goals simp

end Sys2Proof.Machine
end

section
/-! What lasts through the operations of Sys2Proof/Machine/Flash.lean. -/
namespace Sys2Proof.Machine

@[simp] theorem lasting_setStk (s k) : (State.setStk s k).lasting = s.lasting := by simp [State.setStk]

@[simp] theorem lasting_accrue (s) : (accrue s).lasting = s.lasting := by simp [accrue]

@[simp] theorem lasting_charge (s bytes) : (charge s bytes).lasting = s.lasting := by simp [charge]

@[simp] theorem lasting_relocatePage (s) : (relocatePage s).lasting = s.lasting := by simp [relocatePage]

@[simp] theorem lasting_setStkState (s x) : (setStkState s x).lasting = s.lasting := by simp [setStkState]

@[simp] theorem lasting_raiseBoth (s source owner code data) : (raiseBoth s source owner code data).lasting = s.lasting := by
  simp [raiseBoth]

@[simp] theorem lasting_coldDrop (s table key) : (coldDrop s table key).lasting = s.lasting := by simp [coldDrop]

@[simp] theorem lasting_demote (s table key) : (demote s table key).lasting = s.lasting := by
  unfold demote; dsimp only; split <;> simp

@[simp] theorem lasting_demoteOrDelete (s table key) : (demoteOrDelete s table key).lasting = s.lasting := by
  unfold demoteOrDelete; dsimp only; split <;> simp

@[simp] theorem lasting_idleAction (s table key) : (idleAction s table key).lasting = s.lasting := by simp [idleAction]

@[simp] theorem lasting_reclaim (table l free s) : (reclaim table l free s).lasting = s.lasting := by
  induction l generalizing free s with
  | nil => rfl
  | cons e l ih => simp [reclaim, ih]

@[simp] theorem lasting_agePass (s table) : (agePass s table).lasting = s.lasting := by simp [agePass]

@[simp] theorem keeps_execAgingScan (table s) : Keeps s (execAgingScan table s) := by unfold execAgingScan; split <;> simp

@[simp] theorem lasting_autoRebuild (s table) : (autoRebuild s table).lasting = s.lasting := by simp [autoRebuild]

@[simp] theorem lasting_leftCold (s table key) : (leftCold s table key).lasting = s.lasting := by simp [leftCold]

@[simp] theorem lasting_insertPromoted (s p r) : (insertPromoted s p r).lasting = s.lasting := by
  simp only [insertPromoted]; repeat' split
  all_goals simp

@[simp] theorem lasting_releaseParked (s p) : (releaseParked s p).lasting = s.lasting := by simp [releaseParked]

@[simp] theorem lasting_failParked (s p) : (failParked s p).lasting = s.lasting := by simp [failParked]

@[simp] theorem lasting_placeAbsent (s p ctxs) : (placeAbsent s p ctxs).lasting = s.lasting := by simp [placeAbsent]

@[simp] theorem lasting_recordLost (s p) : (recordLost s p).lasting = s.lasting := by simp [recordLost]

@[simp] theorem lasting_coldDeleteNow (s table key acc) : (coldDeleteNow s table key acc).lasting = s.lasting := by
  unfold coldDeleteNow; repeat' split
  all_goals simp

@[simp] theorem lasting_endPromotion (s p) : (endPromotion s p).lasting = s.lasting := by
  simp only [endPromotion]; repeat' split
  all_goals simp

@[simp] theorem keeps_execPromotionEnd (table key s) : Keeps s (execPromotionEnd table key s) := by
  unfold execPromotionEnd; split <;> simp

@[simp] theorem lasting_extendParked (s p) : (extendParked s p).lasting = s.lasting := by
  unfold extendParked; refine lasting_foldl (fun u x => ?_) _ _; split <;> simp

@[simp] theorem lasting_setLadder (s place key step) : (setLadder s place key step).lasting = s.lasting := by simp [setLadder]

@[simp] theorem lasting_endLadder (s place key) : (endLadder s place key).lasting = s.lasting := by simp [endLadder]

@[simp] theorem lasting_climbFor (s acc n) : (climbFor s acc n).lasting = s.lasting := by simp [climbFor]

@[simp] theorem lasting_readNand (s acc place key) : (readNand s acc place key).lasting = s.lasting := by simp [readNand]

@[simp] theorem lasting_readRecords (s acc place seqs data) : (readRecords s acc place seqs data).1.lasting = s.lasting := by
  unfold readRecords; split <;> simp

@[simp] theorem lasting_lateRead (s acc place keys) : (lateRead s acc place keys).lasting = s.lasting := by simp [lateRead]

@[simp] theorem keeps_execReadRetryStep (table key s) : Keeps s (execReadRetryStep table key s) := by
  unfold execReadRetryStep; split <;> simp

@[simp] theorem keeps_execStagedRecordWrite (table key ok s) : Keeps s (execStagedRecordWrite table key ok s) := by
  unfold execStagedRecordWrite; split <;> simp

@[simp] theorem keeps_execFilterRebuildSwitch (table s) : Keeps s (execFilterRebuildSwitch table s) := by
  unfold execFilterRebuildSwitch; split <;> simp

@[simp] theorem keeps_execFilterRebuild (c table s) : Keeps s (execFilterRebuild c table s) := by simp [execFilterRebuild]

@[simp] theorem keeps_execFlashChannelFault (kind s) : Keeps s (execFlashChannelFault kind s) := by
  simp [execFlashChannelFault]

@[simp] theorem keeps_execStripeRebuildEnd (s) : Keeps s (execStripeRebuildEnd s) := by simp [execStripeRebuildEnd]

@[simp] theorem lasting_setRing (s ring x) : (State.setRing s ring x).lasting = s.lasting := by simp [State.setRing]

@[simp] theorem lasting_closeRing (s ring x) : (closeRing s ring x).lasting = s.lasting := by simp [closeRing]

@[simp] theorem lasting_writeCapture (s x p) : (writeCapture s x p).lasting = s.lasting := by simp [writeCapture]

@[simp] theorem lasting_arriveCapture (s p) : (arriveCapture s p).lasting = s.lasting := by
  unfold arriveCapture; split <;> simp

@[simp] theorem keeps_execCaptureWrite (ring flushed s) : Keeps s (execCaptureWrite ring flushed s) := by
  simp only [execCaptureWrite]; repeat' split
  all_goals simp

@[simp] theorem keeps_execStkWrite (c record s) : Keeps s (execStkWrite c record s) := by simp [execStkWrite]

@[simp] theorem keeps_execStkRead (c s) : Keeps s (execStkRead c s) := by simp [execStkRead]

@[simp] theorem keeps_execRingWrite (c ring record s) : Keeps s (execRingWrite c ring record s) := by simp [execRingWrite]

@[simp] theorem lasting_withRing (s k ring absent) (go : Ring → State × Ending) (hgo : ∀ x0, (go x0).1.lasting = s.lasting) :
    (withRing s k ring absent go).1.lasting = s.lasting := by
  unfold withRing; repeat' split
  all_goals simp [hgo]

@[simp] theorem keeps_execRingDelete (c ring s) : Keeps s (execRingDelete c ring s) := by simp [execRingDelete]

@[simp] theorem keeps_execRingRearm (c ring s) : Keeps s (execRingRearm c ring s) := by simp [execRingRearm]

@[simp] theorem keeps_execRingTriggerCommand (c ring s) : Keeps s (execRingTriggerCommand c ring s) := by
  simp [execRingTriggerCommand]

@[simp] theorem keeps_execRingRead (c ring offset count s) : Keeps s (execRingRead c ring offset count s) := by
  simp [execRingRead]

@[simp] theorem keeps_execColdRead (c table key s) : Keeps s (execColdRead c table key s) := by
  simp (disch := (intros; (repeat' split) <;> simp)) [execColdRead]

@[simp] theorem keeps_execColdDelete (c table key s) : Keeps s (execColdDelete c table key s) := by
  unfold execColdDelete; refine keeps_runCommand fun k => ?_; dsimp only; repeat' split
  all_goals simp

@[simp] theorem keeps_execTelemetryRead (c offset count s) : Keeps s (execTelemetryRead c offset count s) := by
  unfold execTelemetryRead; split <;> simp

end Sys2Proof.Machine
end

section
/-! What lasts through the operations of Sys2Proof/Machine/System.lean. -/
namespace Sys2Proof.Machine

@[simp] theorem lasting_csrRead (s t x n) : (csrRead s t x n).2.lasting = s.lasting := by
  unfold csrRead; repeat' split
  all_goals simp

@[simp] theorem lasting_csrWrite (s t n v word) : (csrWrite s t n v word).lasting s.lasting = s.lasting := by
  unfold csrWrite; dsimp only; repeat' split
  all_goals simp

@[simp] theorem lasting_reportCsr (s t n) : (reportCsr s t n).lasting = s.lasting := by
  unfold reportCsr; dsimp only; split
  · rfl
  · split
    · refine lasting_foldl (fun u p => ?_) _ _
      split <;> simp
    · split <;> simp

@[simp] theorem keeps_csrOp (t a b n xf srcs s) (f : Option (Word → Word → Word)) : Keeps s (csrOp t a b n xf srcs s f) := by
  unfold csrOp
  refine keeps_issueLegal fun u x => ?_
  extract_lets i r
  have read : r.2.lasting = u.lasting := by simp [r]
  clear_value r
  refine Eff.lasting_of_ite rfl (Eff.lasting_of_ite rfl (Eff.lasting_of_ite (by simp) ?_))
  cases f with
  | none => simp [read]
  | some g =>
    have written := lasting_csrWrite r.2 t i (g r.1 (x.reg b)) (wordX 1 a b n.toNat xf)
    dsimp only; split
    · rename_i h; simpa [h, read] using written
    · rwa [read] at written

@[simp] theorem keeps_execCsrr (t a n s) : Keeps s (execCsrr t a n s) := by simp [execCsrr]

@[simp] theorem keeps_execCsrw (t a b n s) : Keeps s (execCsrw t a b n s) := by simp [execCsrw]

@[simp] theorem keeps_execCsrs (t a b n s) : Keeps s (execCsrs t a b n s) := by simp [execCsrs]

@[simp] theorem keeps_execCsrc (t a b n s) : Keeps s (execCsrc t a b n s) := by simp [execCsrc]

@[simp] theorem keeps_execCsync (t s) : Keeps s (execCsync t s) := by simp [execCsync]

@[simp] theorem keeps_execSer (t s) : Keeps s (execSer t s) := by simp (disch := (intros; (repeat' split) <;> simp)) [execSer]

@[simp] theorem keeps_execSvc (t n s) : Keeps s (execSvc t n s) := by
  simp (disch := (intros; (repeat' split) <;> simp)) [execSvc]

@[simp] theorem keeps_execSret (t s) : Keeps s (execSret t s) := by
  simp (disch := (intros; (repeat' split) <;> simp)) [execSret]

@[simp] theorem keeps_execTrap (t n s) : Keeps s (execTrap t n s) := by unfold execTrap; exact keeps_issue fun _ _ => rfl

@[simp] theorem keeps_execFence (t s) : Keeps s (execFence t s) := by
  simp (disch := (intros; (repeat' split) <;> simp)) [execFence]

@[simp] theorem keeps_execIllegalInstruction (tid word s) : Keeps s (execIllegalInstruction tid word s) := by
  simp [execIllegalInstruction]

end Sys2Proof.Machine
end

section
/-! What lasts through the operations of Sys2Proof/Machine/Locks.lean. -/
namespace Sys2Proof.Machine

theorem lasting_of_lockPlace {s x t addr e a} (h : lockPlace s x t addr = .inr e) : e.lasting a = a := by
  unfold lockPlace at h; repeat' split at h
  all_goals cases h
  all_goals rfl

@[simp] theorem lasting_requestLock (s x t r addr lease tries) :
    (requestLock s x t r addr lease tries).lasting = s.lasting := by
  simp [requestLock]

@[simp] theorem lasting_countTableFull (s t r) : (countTableFull s t r).lasting = s.lasting := by
  unfold countTableFull; split <;> simp

@[simp] theorem lasting_applyLockRule (s l) : (applyLockRule s l).lasting = s.lasting := by
  unfold applyLockRule; split <;> simp

@[simp] theorem keeps_acquire (t major a b lease tries s) : Keeps s (acquire t major a b lease tries s) := by
  unfold acquire
  refine keeps_issueLegal fun u x => ?_
  split
  · rename_i h; exact lasting_of_lockPlace h
  · dsimp only; repeat' split
    all_goals simp

@[simp] theorem keeps_execLka (t a b lease s) : Keeps s (execLka t a b lease s) := by simp [execLka]

@[simp] theorem keeps_execLkt (t a b lease s) : Keeps s (execLkt t a b lease s) := by simp [execLkt]

@[simp] theorem keeps_execLkr (t b s) : Keeps s (execLkr t b s) := by
  unfold execLkr
  refine keeps_issue fun u x => ?_
  split
  · rename_i h; exact lasting_of_lockPlace h
  · repeat' split
    all_goals simp

@[simp] theorem lasting_grantNext (s l) : (grantNext s l).lasting = s.lasting := by
  unfold grantNext; dsimp only; split <;> simp

@[simp] theorem keeps_execLockGrant (place s) : Keeps s (execLockGrant place s) := by unfold execLockGrant; split <;> simp

@[simp] theorem keeps_execLeaseExpired (place s) : Keeps s (execLeaseExpired place s) := by
  simp only [execLeaseExpired]; repeat' split
  all_goals simp

end Sys2Proof.Machine
end

section
/-! What lasts through the operations of Sys2Proof/Machine/Channels.lean. -/
namespace Sys2Proof.Machine

@[simp] theorem lasting_readMessage (s x t ch dst) : (readMessage s x t ch dst).lasting s.lasting = s.lasting := by
  unfold readMessage; dsimp only; split
  · split
    · split <;> rfl
    · split <;> simp
  · split
    · rfl
    · split
      · rfl
      · rename_i h; simpa using lasting_of_takeMsg h
  · split
    · rfl
    · rename_i h; simpa using lasting_of_takeFaultWord h
  · rfl

@[simp] theorem keeps_execChr (t a chan s) : Keeps s (execChr t a chan s) := by
  unfold execChr; refine keeps_issue fun u x => ?_; dsimp only; repeat' split
  all_goals simp

@[simp] theorem lasting_controlTask (s pan held action) : (controlTask s pan held action).lasting = s.lasting := by
  unfold controlTask; dsimp only; split <;> simp

@[simp] theorem lasting_controlWord (s pan v) : (controlWord s pan v).lasting = s.lasting := by simp [controlWord]

@[simp] theorem lasting_writeMessage (s x t ch v) : (writeMessage s x t ch v).lasting s.lasting = s.lasting := by
  unfold writeMessage; dsimp only; repeat' split
  all_goals simp

@[simp] theorem keeps_execChw (t a chan s) : Keeps s (execChw t a chan s) := by simp [execChw]

@[simp] theorem keeps_execChp (t a chan s) : Keeps s (execChp t a chan s) := by
  simp (disch := (intros; (repeat' split) <;> simp)) [execChp]

@[simp] theorem keeps_execChannelEntryLand (sender receiver s) : Keeps s (execChannelEntryLand sender receiver s) := by
  simp [execChannelEntryLand]

@[simp] theorem keeps_execMsgqEntryLand (pan queue s) : Keeps s (execMsgqEntryLand pan queue s) := by
  unfold execMsgqEntryLand; split <;> simp

@[simp] theorem keeps_execSupervisorEnd (pan held s) : Keeps s (execSupervisorEnd pan held s) := by simp [execSupervisorEnd]

@[simp] theorem keeps_execSupervisorRearm (pan held s) : Keeps s (execSupervisorRearm pan held s) := by
  simp [execSupervisorRearm]

@[simp] theorem keeps_execSupervisorDisable (pan held s) : Keeps s (execSupervisorDisable pan held s) := by
  simp [execSupervisorDisable]

@[simp] theorem keeps_execSupervisorTimeout (pan s) : Keeps s (execSupervisorTimeout pan s) := by
  unfold execSupervisorTimeout; dsimp only; split <;> simp

end Sys2Proof.Machine
end

section
/-! What lasts through the operations of Sys2Proof/Machine/Tasks.lean. -/
namespace Sys2Proof.Machine

@[simp] theorem lasting_emptyLinks (s u ts) : (emptyLinks s u ts).lasting = s.lasting := by simp [emptyLinks]

@[simp] theorem keeps_execFork (t a off s) : Keeps s (execFork t a off s) := by
  simp (disch := (intros; (repeat' split) <;> simp)) [execFork]

@[simp] theorem lasting_endPacket (s c cause) : (endPacket s c cause).lasting = s.lasting := by
  unfold endPacket; dsimp only; split <;> simp

@[simp] theorem lasting_stopFamily (a s b) : (stopFamily a s b).lasting = s.lasting := by
  induction a generalizing s b with
  | zero => rfl
  | succ n ih => simp [stopFamily, ih]

@[simp] theorem lasting_exitChild (s t parent v) : (exitChild s t parent v).lasting = s.lasting := by
  unfold exitChild; dsimp only; split <;> simp

@[simp] theorem keeps_execExit (t b s) : Keeps s (execExit t b s) := by
  unfold execExit
  refine keeps_issue fun u x => ?_
  split
  · simp
  · split <;> simp

@[simp] theorem keeps_execJoin (t a b s) : Keeps s (execJoin t a b s) := by
  simp (disch := (intros; (repeat' split) <;> simp)) [execJoin]

@[simp] theorem keeps_execYield (t s) : Keeps s (execYield t s) := by
  unfold execYield
  refine keeps_issue fun u x => ?_
  split <;> simp

@[simp] theorem keeps_execEfw (t a b s) : Keeps s (execEfw t a b s) := by
  unfold execEfw; refine keeps_issue fun u x => ?_; dsimp only; repeat' split
  all_goals simp

@[simp] theorem keeps_execEfs (t a b s) : Keeps s (execEfs t a b s) := by
  unfold execEfs; refine keeps_issue fun u x => ?_; dsimp only; repeat' split
  all_goals simp

@[simp] theorem keeps_execFlagApply (handle flags s) : Keeps s (execFlagApply handle flags s) := by
  simp only [execFlagApply]; repeat' split
  all_goals simp

@[simp] theorem keeps_execDly (t b s) : Keeps s (execDly t b s) := by simp [execDly]

@[simp] theorem keeps_execPdrop (t n s) : Keeps s (execPdrop t n s) := by
  simp (disch := (intros; (repeat' split) <;> simp)) [execPdrop]

@[simp] theorem keeps_execEvp (t b n s) : Keeps s (execEvp t b n s) := by
  unfold execEvp; refine keeps_issue fun u x => ?_; dsimp only; repeat' split
  all_goals simp

@[simp] theorem keeps_execEgr (t a b c s) : Keeps s (execEgr t a b c s) := by
  unfold execEgr
  refine keeps_issue fun u x => ?_
  repeat' split
  all_goals simp

end Sys2Proof.Machine
end

section
/-! What lasts through the operations of Sys2Proof/Machine/Coproc.lean. -/
namespace Sys2Proof.Machine

@[simp] theorem keeps_execMtc (t unit b cr s) : Keeps s (execMtc t unit b cr s) := by
  simp (disch := (intros; (repeat' split) <;> simp)) [execMtc]

@[simp] theorem keeps_execMfc (t unit a cr s) : Keeps s (execMfc t unit a cr s) := by
  simp (disch := (intros; (repeat' split) <;> simp)) [execMfc]

@[simp] theorem lasting_startCmd (s t unit x cmd a b regs) : (startCmd s t unit x cmd a b regs).lasting = s.lasting := by
  simp [startCmd]

@[simp] theorem keeps_cpCommand {t unit cmd a b useA useB s} {body : State → Thread → Eff}
    (h : ∀ u x, (body u x).lasting u.lasting = u.lasting) : Keeps s (cpCommand t unit cmd a b useA useB s body) := by
  simp [cpCommand, h]

@[simp] theorem lasting_cpReady (unit s t x) (go : Eff) (h : go.lasting s.lasting = s.lasting) :
    (cpReady unit s t x go).lasting s.lasting = s.lasting := by
  simp [cpReady, h]

@[simp] theorem keeps_cipherOp (t cmd a b s) : Keeps s (cipherOp t cmd a b s) := by
  unfold cipherOp; refine keeps_cpCommand fun u x => ?_; dsimp only; repeat' split
  all_goals simp

@[simp] theorem keeps_execKeyload (t a b s) : Keeps s (execKeyload t a b s) := by simp [execKeyload]

@[simp] theorem keeps_execCp0Seal (t a b s) : Keeps s (execCp0Seal t a b s) := by simp [execCp0Seal]

@[simp] theorem keeps_execCp0Open (t a b s) : Keeps s (execCp0Open t a b s) := by simp [execCp0Open]

@[simp] theorem keeps_execXtsEnc (t a b s) : Keeps s (execXtsEnc t a b s) := by simp [execXtsEnc]

@[simp] theorem keeps_execXtsDec (t a b s) : Keeps s (execXtsDec t a b s) := by simp [execXtsDec]

@[simp] theorem keeps_execKeyclr (t a b s) : Keeps s (execKeyclr t a b s) := by simp [execKeyclr]

@[simp] theorem keeps_digestOp (t cmd limit a b s) : Keeps s (digestOp t cmd limit a b s) := by simp [digestOp]

@[simp] theorem keeps_execShaInit (t a b s) : Keeps s (execShaInit t a b s) := by simp [execShaInit]

@[simp] theorem keeps_execShaUpdate (t a b s) : Keeps s (execShaUpdate t a b s) := by simp [execShaUpdate]

@[simp] theorem keeps_execShaFinal (t a b s) : Keeps s (execShaFinal t a b s) := by simp [execShaFinal]

@[simp] theorem keeps_execCp1Crc (t a b s) : Keeps s (execCp1Crc t a b s) := by simp [execCp1Crc]

@[simp] theorem keeps_execToeplitz (t a b s) : Keeps s (execToeplitz t a b s) := by simp [execToeplitz]

theorem lasting_of_tallyPlace {s x t addr align size write e a} (h : tallyPlace s x t addr align size write = .inr e) :
    e.lasting a = a := by
  unfold tallyPlace at h; repeat' split at h
  all_goals cases h
  all_goals rfl

@[simp] theorem keeps_tallyOp (t cmd align a b s) : Keeps s (tallyOp t cmd align a b s) := by
  unfold tallyOp
  refine keeps_cpCommand fun u x => ?_
  split
  · rename_i h; exact lasting_of_tallyPlace h
  · dsimp only; split
    · simp
    · split
      · simp
      · split
        · simp
        · rw [Eff.lasting_next]; split <;> simp

@[simp] theorem keeps_execCount (t a b s) : Keeps s (execCount t a b s) := by simp [execCount]

@[simp] theorem keeps_execPolice (t a b s) : Keeps s (execPolice t a b s) := by simp [execPolice]

@[simp] theorem keeps_fetchOp (t cmd align a b useB s) {act : State → MemRef → Thread → State × List (Nat × Word)}
    (h : ∀ u r x, (act u r x).1.lasting = u.lasting) : Keeps s (fetchOp t cmd align a b useB s act) := by
  unfold fetchOp
  refine keeps_cpCommand fun u x => ?_
  split
  · rename_i h; exact lasting_of_tallyPlace h
  · repeat' split
    all_goals simp [h]

@[simp] theorem keeps_execCountFetch (t a b s) : Keeps s (execCountFetch t a b s) := by simp [execCountFetch]

@[simp] theorem keeps_execMeter (t a b s) : Keeps s (execMeter t a b s) := by
  simp (disch := (intros; (repeat' split) <;> simp)) [execMeter]

@[simp] theorem keeps_execCp2Read (t a b s) : Keeps s (execCp2Read t a b s) := by simp [execCp2Read]

@[simp] theorem lasting_finishCipher (s t c) : (finishCipher s t c).lasting = s.lasting := by
  unfold finishCipher
  extract_lets x put r
  have stored : ∀ k, (put k).lasting = s.lasting := by simp [put]
  clear_value put
  simp only [State.lasting_ite, stored]
  split
  · rfl
  · split
    · split <;> exact stored _
    · split
      · rfl
      · split
        · rfl
        · split
          · exact stored _
          · split <;> simp [stored]

@[simp] theorem lasting_finishDigest (s t c) : (finishDigest s t c).lasting = s.lasting := by
  simp only [finishDigest]; repeat' split
  all_goals simp

@[simp] theorem lasting_saveNow (s t unit addr) : (saveNow s t unit addr).lasting = s.lasting := by
  unfold saveNow; dsimp only; split <;> simp

@[simp] theorem lasting_savedDigest (s tenant w) : (savedDigest s tenant w).1.lasting = s.lasting := by
  unfold savedDigest savedDigest.freeDigest; split
  · rfl
  · split
    · split <;> simp
    · simp

@[simp] theorem lasting_savedDigest.freeDigest (s) : (savedDigest.freeDigest s).1.lasting = s.lasting := by
  simp [savedDigest.freeDigest]

@[simp] theorem lasting_restoreNow (s t unit addr) : (restoreNow s t unit addr).lasting = s.lasting := by
  unfold restoreNow; extract_lets x w kept bad k₀ k₁ d
  clear_value kept
  split
  · exact lasting_setThread _ _ _
  · split
    · split
      · split <;> exact lasting_setThread _ _ _
      · exact lasting_setThread _ _ _
    · exact (lasting_setThread _ _ _).trans (lasting_savedDigest _ _ _)
    · exact lasting_setThread _ _ _

@[simp] theorem keeps_contextOp (t unit b cls) (block : Word → Block) (s) (act : State → Nat → State)
    (hact : ∀ x0 x1, (act x0 x1).lasting = x0.lasting) :
    Keeps s (contextOp t unit b cls block s act) := by
  simp [contextOp, hact]

@[simp] theorem keeps_execCsave (t unit b s) : Keeps s (execCsave t unit b s) := by simp [execCsave]

@[simp] theorem keeps_execCrest (t unit b s) : Keeps s (execCrest t unit b s) := by simp [execCrest]

@[simp] theorem lasting_cpResume (s t unit) : (cpResume s t unit).lasting = s.lasting := by
  unfold cpResume; dsimp only; split <;> simp

@[simp] theorem lasting_cpComplete (s t unit) : (cpComplete s t unit).lasting = s.lasting := by
  simp only [cpComplete]; repeat' split
  all_goals simp

@[simp] theorem lasting_lateResult (s t unit) : (lateResult s t unit).lasting = s.lasting := by simp [lateResult]

@[simp] theorem keeps_execCoprocessorResult (tid unit s) : Keeps s (execCoprocessorResult tid unit s) := by
  simp [execCoprocessorResult]

end Sys2Proof.Machine
end

section
/-! What lasts through the operations of Sys2Proof/Machine/Schedule.lean. -/
namespace Sys2Proof.Machine

@[simp] theorem lasting_popSoq (s k) : (popSoq s k).lasting = s.lasting := by unfold popSoq; split <;> simp

@[simp] theorem lasting_handleHead (s port prio) : (handleHead s port prio).lasting = s.lasting := by
  unfold handleHead; dsimp only; split
  · rfl
  · split
    · split <;> simp
    · split
      · rename_i h; simpa using lasting_of_tryTake h
      · rfl

@[simp] theorem lasting_noteStop (s) : (noteStop s).lasting = s.lasting := by simp [noteStop]

@[simp] theorem lasting_intake (s) : (intake s).lasting = s.lasting := by simp [intake]

@[simp] theorem keeps_execDescriptorIntake (s) : Keeps s (execDescriptorIntake s) := by simp [execDescriptorIntake]

@[simp] theorem keeps_execWaitExpired (express domain s) : Keeps s (execWaitExpired express domain s) := by
  unfold execWaitExpired; dsimp only; split <;> simp

@[simp] theorem keeps_execQueueExpired (port prio s) : Keeps s (execQueueExpired port prio s) := by
  unfold execQueueExpired; dsimp only; split <;> simp

@[simp] theorem lasting_raiseFirst (s id source code data) : (raiseFirst s id source code data).lasting = s.lasting := by
  simp [raiseFirst]

@[simp] theorem lasting_markLate (s x) : (markLate s x).lasting = s.lasting := by unfold markLate; split <;> simp

@[simp] theorem lasting_markLateReads (s c) : (markLateReads s c).lasting = s.lasting := by simp [markLateReads]

@[simp] theorem keeps_execLifetimeExpiry (ctx s) : Keeps s (execLifetimeExpiry ctx s) := by
  unfold execLifetimeExpiry; split <;> simp

@[simp] theorem keeps_execUnwindComplete (ctx s) : Keeps s (execUnwindComplete ctx s) := by
  unfold execUnwindComplete; split <;> simp

@[simp] theorem keeps_execCommit (express domain s) : Keeps s (execCommit express domain s) := by
  unfold execCommit; repeat' split
  all_goals simp

@[simp] theorem lasting_traceDispatch (s t e prio tenant program ctx) :
    (traceDispatch s t e prio tenant program ctx).lasting = s.lasting := by
  simp [traceDispatch]

@[simp] theorem lasting_takeEntry (s t e) : (takeEntry s t e).lasting = s.lasting := by
  simp only [takeEntry]; repeat' split
  all_goals simp

@[simp] theorem keeps_execTaskDispatch (tid s) : Keeps s (execTaskDispatch tid s) := by
  simp only [execTaskDispatch]; repeat' split
  all_goals simp

@[simp] theorem keeps_execExpressDispatch (s) : Keeps s (execExpressDispatch s) := by
  simp only [execExpressDispatch]; repeat' split
  all_goals simp

@[simp] theorem keeps_execPanWake (pan s) : Keeps s (execPanWake pan s) := by unfold execPanWake; split <;> simp

@[simp] theorem keeps_execPanGate (pan s) : Keeps s (execPanGate pan s) := by unfold execPanGate; split <;> simp

@[simp] theorem lasting_releaseDelays (a s b) : (releaseDelays a s b).lasting = s.lasting := by
  induction a generalizing s b with
  | zero => rfl
  | succ n ih =>
    unfold releaseDelays; dsimp only; repeat' split
    all_goals simp [ih]

@[simp] theorem keeps_execDelayExpiry (pan s) : Keeps s (execDelayExpiry pan s) := by simp [execDelayExpiry]

@[simp] theorem keeps_execPeriodExpiry (pan slot s) : Keeps s (execPeriodExpiry pan slot s) := by
  unfold execPeriodExpiry; split <;> simp

@[simp] theorem keeps_execStarved (pan level pos s) : Keeps s (execStarved pan level pos s) := by
  unfold execStarved; dsimp only; split <;> simp

end Sys2Proof.Machine
end

section
/-! What lasts through the operations of Sys2Proof/Machine/Ports.lean. -/
namespace Sys2Proof.Machine

@[simp] theorem lasting_pauseFrame (s l dest len time age) : (pauseFrame s l dest len time age).lasting = s.lasting := by
  simp [pauseFrame]

@[simp] theorem lasting_pfcPcp (l age times s pcp) : (pfcPcp l age times s pcp).lasting = s.lasting := by simp [pfcPcp]

@[simp] theorem lasting_pfcFrame (s l dest len enable times age) :
    (pfcFrame s l dest len enable times age).lasting = s.lasting := by
  simp [pfcFrame]

@[simp] theorem keeps_execPauseReceived (lport dest len time age s) :
    Keeps s (execPauseReceived lport dest len time age s) := by
  simp [execPauseReceived]

@[simp] theorem keeps_execPfcReceived (lport dest len enable times age s) :
    Keeps s (execPfcReceived lport dest len enable times age s) := by
  simp [execPfcReceived]

@[simp] theorem keeps_execPauseExpiry (lport pcp s) : Keeps s (execPauseExpiry lport pcp s) := by
  unfold execPauseExpiry; dsimp only; split <;> simp

@[simp] theorem keeps_execXoffRepeat (lport pcp s) : Keeps s (execXoffRepeat lport pcp s) := by
  unfold execXoffRepeat; dsimp only; split <;> simp

@[simp] theorem lasting_takeLinkDown (reason s l) : (takeLinkDown reason s l).lasting = s.lasting := by simp [takeLinkDown]

@[simp] theorem lasting_wakeBanks (s bs) : (wakeBanks s bs).lasting = s.lasting := by simp [wakeBanks]

@[simp] theorem lasting_setLane (s i x) : (State.setLane s i x).lasting = s.lasting := by simp [State.setLane]

@[simp] theorem lasting_setLasers (s lanes lit) : (setLasers s lanes lit).lasting = s.lasting := by simp [setLasers]

@[simp] theorem lasting_holdPort (s l) : (holdPort s l).lasting = s.lasting := by simp [holdPort]

@[simp] theorem keeps_execLinkUp (lport s) : Keeps s (execLinkUp lport s) := by simp [execLinkUp]

@[simp] theorem keeps_execLinkDown (lport s) : Keeps s (execLinkDown lport s) := by simp [execLinkDown]

@[simp] theorem lasting_setEngine (s k e) : (State.setEngine s k e).lasting = s.lasting := by simp [State.setEngine]

@[simp] theorem lasting_turnDark (s l) : (turnDark s l).lasting = s.lasting := by simp [turnDark]

@[simp] theorem lasting_light (s l) : (light s l).lasting = s.lasting := by simp [light]

@[simp] theorem lasting_noteAlarm (s ls) : (noteAlarm s ls).lasting = s.lasting := by simp [noteAlarm]

@[simp] theorem lasting_raiseConditions (s source data ls) (cs : List (Bool × Option Nat)) :
    (raiseConditions s source data ls cs).lasting = s.lasting := by
  unfold raiseConditions; refine lasting_foldl (fun u x => ?_) _ _; split <;> simp

@[simp] theorem lasting_evaluateLane (engine s r) : (evaluateLane engine s r).lasting = s.lasting := by simp [evaluateLane]

@[simp] theorem lasting_evaluateFec (engine s r) : (evaluateFec engine s r).lasting = s.lasting := by simp [evaluateFec]

@[simp] theorem lasting_evaluateEngine (s k temp) : (evaluateEngine s k temp).lasting = s.lasting := by simp [evaluateEngine]

@[simp] theorem keeps_execOpticsEvaluation (engine temp lanes fec s) :
    Keeps s (execOpticsEvaluation engine temp lanes fec s) := by
  simp [execOpticsEvaluation]

@[simp] theorem keeps_execLaserEnNHigh (s) : Keeps s (execLaserEnNHigh s) := by simp [execLaserEnNHigh]

@[simp] theorem keeps_execLaserEnNLow (s) : Keeps s (execLaserEnNLow s) := by simp [execLaserEnNLow]

@[simp] theorem keeps_execLaserLight (s) : Keeps s (execLaserLight s) := by simp [execLaserLight]

@[simp] theorem lasting_withLport (s l) (go : State × Ending) (hgo : go.1.lasting = s.lasting) :
    (withLport s l go).1.lasting = s.lasting := by
  simp [withLport, hgo]

@[simp] theorem lasting_changeMode (s n mode) : (changeMode s n mode).lasting = s.lasting := by simp [changeMode]

@[simp] theorem keeps_execPortWrite (c lport record s) : Keeps s (execPortWrite c lport record s) := by
  unfold execPortWrite; refine keeps_finish_runCommand fun k => ?_; dsimp only; repeat' split
  all_goals simp

@[simp] theorem keeps_execPortRead (c lport s) : Keeps s (execPortRead c lport s) := by simp [execPortRead]

@[simp] theorem keeps_execPortMapWrite (c lport record s) : Keeps s (execPortMapWrite c lport record s) := by
  unfold execPortMapWrite; refine keeps_runCommand fun k => ?_; dsimp only
  simp

@[simp] theorem keeps_execPortMapRead (c lport s) : Keeps s (execPortMapRead c lport s) := by simp [execPortMapRead]

@[simp] theorem lasting_retuneShaper (s l q old) : (retuneShaper s l q old).lasting = s.lasting := by simp [retuneShaper]

@[simp] theorem keeps_execQueueWrite (c lport queue record s) : Keeps s (execQueueWrite c lport queue record s) := by
  unfold execQueueWrite; refine keeps_runCommand fun k => ?_; dsimp only; repeat' split
  all_goals simp

@[simp] theorem keeps_execQueueRead (c lport queue s) : Keeps s (execQueueRead c lport queue s) := by simp [execQueueRead]

@[simp] theorem keeps_execPortStatusRead (c lport clear s) : Keeps s (execPortStatusRead c lport clear s) := by
  simp [execPortStatusRead]

@[simp] theorem keeps_execOpticsRead (c port s) : Keeps s (execOpticsRead c port s) := by simp [execOpticsRead]

@[simp] theorem keeps_execOpticsThreshWrite (c port record s) : Keeps s (execOpticsThreshWrite c port record s) := by
  unfold execOpticsThreshWrite; refine keeps_runCommand fun k => ?_; dsimp only; repeat' split
  all_goals simp

@[simp] theorem keeps_execOpticsEnable (c engine s) : Keeps s (execOpticsEnable c engine s) := by simp [execOpticsEnable]

@[simp] theorem keeps_execCmdInbandWrite (c lport record s) : Keeps s (execCmdInbandWrite c lport record s) := by
  unfold execCmdInbandWrite; refine keeps_runCommand fun k => ?_; dsimp only
  simp

end Sys2Proof.Machine
end

section
/-! What lasts through the operations of Sys2Proof/Machine/Macsec.lean. -/
namespace Sys2Proof.Machine

@[simp] theorem lasting_setChan (s c) : (setChan s c).lasting = s.lasting := by simp [setChan]

@[simp] theorem lasting_chanEvent (s c an code) : (chanEvent s c an code).lasting = s.lasting := by simp [chanEvent]

@[simp] theorem lasting_rollChan (s c) : (rollChan s c).1.lasting = s.lasting := by simp [rollChan]

@[simp] theorem lasting_usePn (s c) : (usePn s c).1.lasting = s.lasting := by unfold usePn; split <;> simp

@[simp] theorem lasting_takeHead (s l q credit) : (takeHead s l q credit).lasting = s.lasting := by simp [takeHead]

@[simp] theorem lasting_transmitNext (a s b) : (transmitNext a s b).lasting = s.lasting := by
  induction a generalizing s b with
  | zero => rfl
  | succ n ih =>
    unfold transmitNext; dsimp only; repeat' split
    all_goals simp [ih]

@[simp] theorem lasting_stopPauses (s l) : (stopPauses s l).lasting = s.lasting := by simp [stopPauses]

@[simp] theorem lasting_sendControl (s l c) : (sendControl s l c).lasting = s.lasting := by simp [sendControl]

@[simp] theorem lasting_endFibre (s l) : (endFibre s l).lasting = s.lasting := by
  unfold endFibre; dsimp only; split <;> simp

@[simp] theorem lasting_boundary (s l) : (boundary s l).lasting = s.lasting := by
  simp only [boundary]; repeat' split
  all_goals simp

@[simp] theorem keeps_execFrameBoundary (lport s) : Keeps s (execFrameBoundary lport s) := by simp [execFrameBoundary]

@[simp] theorem keeps_execFarStagingRead (lport queue s) : Keeps s (execFarStagingRead lport queue s) := by
  unfold execFarStagingRead; dsimp only; split <;> simp

@[simp] theorem lasting_validateSec (s l b) : (validateSec s l b).state.lasting = s.lasting := by
  unfold validateSec; dsimp only; repeat' split
  all_goals simp

@[simp] theorem lasting_withChan (s k sci lport transmit) (go : SecChan → State × Ending)
    (hgo : ∀ x0, (go x0).1.lasting = s.lasting) :
    (withChan s k sci lport transmit go).1.lasting = s.lasting := by
  unfold withChan; split <;> simp [hgo]

@[simp] theorem keeps_execMacsecScCreate (c x s) : Keeps s (execMacsecScCreate c x s) := by
  unfold execMacsecScCreate
  refine keeps_runCommand fun k => lasting_withLport _ _ _ (lasting_unlessBad _ _ _ ?_)
  split
  · simp
  · dsimp only; split <;> simp

@[simp] theorem keeps_execMacsecScDelete (c sci lport transmit s) : Keeps s (execMacsecScDelete c sci lport transmit s) := by
  unfold execMacsecScDelete; refine keeps_runCommand fun k => ?_; dsimp only; repeat' split
  all_goals simp

@[simp] theorem keeps_execMacsecSaInstall (c lport transmit x s) : Keeps s (execMacsecSaInstall c lport transmit x s) := by
  unfold execMacsecSaInstall; refine keeps_runCommand fun k => ?_; dsimp only; repeat' split
  all_goals simp

@[simp] theorem keeps_execMacsecSaDelete (c sci lport transmit an s) :
    Keeps s (execMacsecSaDelete c sci lport transmit an s) := by
  simp [execMacsecSaDelete]

@[simp] theorem keeps_execMacsecRead (c sci lport transmit s) : Keeps s (execMacsecRead c sci lport transmit s) := by
  simp (disch := (intros; (repeat' split) <;> simp)) [execMacsecRead]

@[simp] theorem keeps_execMacsecPnThresh (c sci lport transmit thresh s) :
    Keeps s (execMacsecPnThresh c sci lport transmit thresh s) := by
  simp [execMacsecPnThresh]

end Sys2Proof.Machine
end

section
/-! What lasts through the operations of Sys2Proof/Machine/Receive.lean. -/
namespace Sys2Proof.Machine

@[simp] theorem lasting_takeCells (l gi a b s) : (takeCells l gi a b s).1.lasting = s.lasting := by
  induction a generalizing l gi b s with
  | nil => rfl
  | cons x l ih =>
    unfold takeCells; dsimp only; repeat' split
    all_goals simp [ih]

theorem lasting_of_takeSlowTokens {s reason tenant u}
    (h : takeSlowTokens s reason tenant = some u) : u.lasting = s.lasting := by
  unfold takeSlowTokens at h; dsimp only at h; split at h
  · split at h
    · cases h; simp
    · cases h
  · split at h
    · cases h; simp
    · cases h

@[simp] theorem lasting_countSlow (s named tenant lport code source) :
    (countSlow s named tenant lport code source).lasting = s.lasting := by
  simp [countSlow]

@[simp] theorem lasting_toSlowPath (s d p named c reason) : (toSlowPath s d p named c reason).lasting = s.lasting := by
  unfold toSlowPath; split
  · simp
  · split
    · simp
    · rename_i h; simpa using lasting_of_takeSlowTokens h

@[simp] theorem lasting_divertCommand (s d b) : (divertCommand s d b).lasting = s.lasting := by simp [divertCommand]

@[simp] theorem lasting_searchCls (s q banks rules tenant budget) :
    (searchCls s q banks rules tenant budget).1.lasting = s.lasting := by
  simp [searchCls]

@[simp] theorem lasting_creditRule (s r len) : (creditRule s r len).lasting = s.lasting := by simp [creditRule]

@[simp] theorem lasting_bindMirror (s p tenant a) : (bindMirror s p tenant a).1.lasting = s.lasting := by simp [bindMirror]

@[simp] theorem lasting_bindCopy (s d p tenant a) : (bindCopy s d p tenant a).1.lasting = s.lasting := by
  unfold bindCopy; split
  · rfl
  · split
    · simp
    · split
      · simp
      · rename_i h; simpa using lasting_of_takeSlowTokens h

@[simp] theorem lasting_forwardFrame (s d p c a key keyLen copies) :
    (forwardFrame s d p c a key keyLen copies).lasting = s.lasting := by
  simp [forwardFrame]

@[simp] theorem lasting_applyAction (s d p c r key keyLen) : (applyAction s d p c r key keyLen).lasting = s.lasting := by
  simp [applyAction]

@[simp] theorem lasting_ruleSearch (s x p d tenant set budget) :
    (ruleSearch s x p d tenant set budget).lasting = s.lasting := by
  unfold ruleSearch; dsimp only; split <;> simp

@[simp] theorem lasting_classify (s x p d) : (classify s x p d).lasting = s.lasting := by
  unfold classify; dsimp only; split <;> simp

@[simp] theorem lasting_discardAtMac (s l index) : (discardAtMac s l index).lasting = s.lasting := by simp [discardAtMac]

@[simp] theorem lasting_macControl (s l b) : (macControl s l b).lasting = s.lasting := by
  unfold macControl; split <;> simp

@[simp] theorem lasting_deliverFrame (s l b unverified pri guaranteed cells) :
    (deliverFrame s l b unverified pri guaranteed cells).lasting = s.lasting := by
  simp [deliverFrame]

@[simp] theorem lasting_receiveFrame (s l b fcs fecOk aligned) : (receiveFrame s l b fcs fecOk aligned).lasting = s.lasting := by
  unfold receiveFrame
  extract_lets src s₁ p s₂ bad
  have h₂ : s₂.lasting = s.lasting := by simp [s₂, s₁]
  clear_value s₂ bad
  split
  · simp [h₂]
  · rename_i v s₃ pri gi guaranteed _
    have hv : v.state.lasting = s₂.lasting := by simp only [v]; split <;> simp
    have h₃ : s₃.lasting = s.lasting := by simp [s₃, hv, h₂]
    clear_value s₃ v
    have taken := lasting_takeCells l gi (cellPieces v.bytes.length v.bytes) [] s₃
    split
    · rename_i h; rw [lasting_of_eq_pair h, taken, h₃]
    · rename_i u cells h
      have hu : u.lasting = s.lasting := by rw [lasting_of_eq_pair h, taken, h₃]
      split
      · simp [hu]
      · split <;> simp [hu]

@[simp] theorem lasting_discardInAction (s l bytes fecOk aligned) :
    (discardInAction s l bytes fecOk aligned).lasting = s.lasting := by
  simp [discardInAction]

@[simp] theorem keeps_execFrameReceive (lport frame fcs fecOk aligned s) :
    Keeps s (execFrameReceive lport frame fcs fecOk aligned s) := by
  simp [execFrameReceive]

@[simp] theorem keeps_execRingRefill (pool s) : Keeps s (execRingRefill pool s) := by simp [execRingRefill]

end Sys2Proof.Machine
end

section
/-! What lasts through the operations of Sys2Proof/Machine/Buffers.lean. -/
namespace Sys2Proof.Machine

@[simp] theorem keeps_execCoteWrite (c record s) : Keeps s (execCoteWrite c record s) := by
  unfold execCoteWrite; refine keeps_runCommand fun k => ?_; dsimp only; repeat' split
  all_goals simp

@[simp] theorem keeps_execPoolWrite (c pool record s) : Keeps s (execPoolWrite c pool record s) := by
  unfold execPoolWrite
  refine keeps_finish_runCommand fun k => ?_
  split
  · rfl
  · exact lasting_unlessBad _ _ _ (by split <;> simp)

@[simp] theorem lasting_setGroup (s g v) : (setGroup s g v).lasting = s.lasting := by simp [setGroup]

@[simp] theorem keeps_execIgBufWrite (c lport prio record s) : Keeps s (execIgBufWrite c lport prio record s) := by
  simp [execIgBufWrite]

@[simp] theorem keeps_execEqBufWrite (c lport queue record s) : Keeps s (execEqBufWrite c lport queue record s) := by
  simp [execEqBufWrite]

@[simp] theorem keeps_execBufferRead (c kind index s) : Keeps s (execBufferRead c kind index s) := by simp [execBufferRead]

end Sys2Proof.Machine
end

section
/-! What lasts through the operations of Sys2Proof/Machine/Rules.lean. -/
namespace Sys2Proof.Machine

@[simp] theorem keeps_execScopeRuleAdd (c x s) : Keeps s (execScopeRuleAdd c x s) := by
  unfold execScopeRuleAdd; refine keeps_runCommand fun k => ?_; dsimp only; repeat' split
  all_goals simp

@[simp] theorem keeps_execScopeRuleDelete (c id s) : Keeps s (execScopeRuleDelete c id s) := by simp [execScopeRuleDelete]

@[simp] theorem lasting_installRule (s owner x) : (installRule s owner x).1.lasting = s.lasting := by simp [installRule]

@[simp] theorem keeps_execRuleAdd (c x s) : Keeps s (execRuleAdd c x s) := by
  unfold execRuleAdd
  refine keeps_runCommand fun k => ?_
  split
  · rfl
  · split
    · rfl
    · refine lasting_unlessBad _ _ _ ?_
      split
      · split <;> rfl
      · simp

@[simp] theorem keeps_execRuleDelete (c id s) : Keeps s (execRuleDelete c id s) := by simp [execRuleDelete]

@[simp] theorem keeps_execRuleRead (c id owner s) : Keeps s (execRuleRead c id owner s) := by
  simp (disch := (intros; (repeat' split) <;> simp)) [execRuleRead]

@[simp] theorem keeps_execProfileWrite (c profile extractors s) : Keeps s (execProfileWrite c profile extractors s) := by
  simp [execProfileWrite]

@[simp] theorem keeps_execProfileSetWrite (c set record s) : Keeps s (execProfileSetWrite c set record s) := by
  simp [execProfileSetWrite]

@[simp] theorem keeps_execMirrorSessionWrite (c id record s) : Keeps s (execMirrorSessionWrite c id record s) := by
  simp [execMirrorSessionWrite]

@[simp] theorem keeps_execSlowReasonWrite (c reason record s) : Keeps s (execSlowReasonWrite c reason record s) := by
  simp [execSlowReasonWrite]

@[simp] theorem keeps_execSlowTenantWrite (c tenant record s) : Keeps s (execSlowTenantWrite c tenant record s) := by
  simp [execSlowTenantWrite]

@[simp] theorem keeps_execSluiceWrite (c record s) : Keeps s (execSluiceWrite c record s) := by simp [execSluiceWrite]

@[simp] theorem keeps_execClassifierRead (c kind index s) : Keeps s (execClassifierRead c kind index s) := by
  unfold execClassifierRead
  refine keeps_runCommand fun k => ?_
  split
  · rfl
  split
  · rfl
  split
  · rfl
  · split <;> rfl

end Sys2Proof.Machine
end

section
/-! What lasts through the operations of Sys2Proof/Machine/Dram.lean. -/
namespace Sys2Proof.Machine

@[simp] theorem lasting_correctedLine (s r owner line) : (correctedLine s r owner line).lasting = s.lasting := by
  simp [correctedLine]

@[simp] theorem lasting_poisonLine (s owner line) : (poisonLine s owner line).lasting = s.lasting := by
  unfold poisonLine; repeat' split
  all_goals simp

@[simp] theorem lasting_uncorrectable (s r owner line) : (uncorrectable s r owner line).lasting = s.lasting := by
  simp [uncorrectable]

@[simp] theorem lasting_writeLine (owner off data s line) : (writeLine owner off data s line).lasting = s.lasting := by
  simp [writeLine]

@[simp] theorem lasting_writeTableLine (owner off n s line) : (writeTableLine owner off n s line).lasting = s.lasting := by
  unfold writeTableLine; split <;> simp

@[simp] theorem lasting_serveReq (s stack bank q corrected) : (serveReq s stack bank q corrected).lasting = s.lasting := by
  simp [serveReq]

@[simp] theorem lasting_advanceCopy (s) : (advanceCopy s).lasting = s.lasting := by unfold advanceCopy; split <;> simp

@[simp] theorem lasting_noteLate (s stack bank reqs) : (noteLate s stack bank reqs).lasting = s.lasting := by simp [noteLate]

@[simp] theorem lasting_wakeStack (s stack bank reqs) : (wakeStack s stack bank reqs).lasting = s.lasting := by
  simp [wakeStack]

@[simp] theorem keeps_execDramRequest (stack bank reqs wrongData wrongCheck s) :
    Keeps s (execDramRequest stack bank reqs wrongData wrongCheck s) := by
  simp only [execDramRequest]; repeat' split
  all_goals simp

@[simp] theorem keeps_execRefresh (stack bank queued s) : Keeps s (execRefresh stack bank queued s) := by simp [execRefresh]

@[simp] theorem keeps_execCalibration (channel s) : Keeps s (execCalibration channel s) := by simp [execCalibration]

@[simp] theorem keeps_execSelfRefreshEntry (stack s) : Keeps s (execSelfRefreshEntry stack s) := by
  simp [execSelfRefreshEntry]

@[simp] theorem keeps_execSelfRefreshExit (stack s) : Keeps s (execSelfRefreshExit stack s) := by
  unfold execSelfRefreshExit; dsimp only; split <;> simp

@[simp] theorem lasting_extendSearches (s table line) : (extendSearches s table line).lasting = s.lasting := by
  simp [extendSearches]

@[simp] theorem lasting_poisonSearches (s table line) : (poisonSearches s table line).lasting = s.lasting := by
  simp [poisonSearches]

@[simp] theorem lasting_extendWaiters (s owner line) : (extendWaiters s owner line).lasting = s.lasting := by
  unfold extendWaiters
  refine lasting_foldl (fun u t => ?_) _ _
  split
  · rfl
  · split
    · rfl
    · split <;> simp

@[simp] theorem lasting_endRetries (s owner line) : (endRetries s owner line).lasting = s.lasting := by simp [endRetries]

@[simp] theorem lasting_extendTable (s table line) : (extendTable s table line).lasting = s.lasting := by simp [extendTable]

@[simp] theorem keeps_execDramReadRetry (rank owner line tries wrong s) :
    Keeps s (execDramReadRetry rank owner line tries wrong s) := by
  simp [execDramReadRetry]

@[simp] theorem lasting_countScrub (s rank owner) : (countScrub s rank owner).lasting = s.lasting := by simp [countScrub]

@[simp] theorem keeps_execPatrolScrub (rank owner line wrong s) : Keeps s (execPatrolScrub rank owner line wrong s) := by
  unfold execPatrolScrub; repeat' split
  all_goals simp

@[simp] theorem keeps_execMigrationEnd (s) : Keeps s (execMigrationEnd s) := by unfold execMigrationEnd; split <;> simp

@[simp] theorem keeps_execReshapeEnd (s) : Keeps s (execReshapeEnd s) := by unfold execReshapeEnd; split <;> simp

@[simp] theorem keeps_execRetirePendingReminder (rank s) : Keeps s (execRetirePendingReminder rank s) := by
  simp [execRetirePendingReminder]

@[simp] theorem lasting_endMove (s) : (endMove s).lasting = s.lasting := by simp [endMove]

@[simp] theorem lasting_moveAtTraining (failed s) : (moveAtTraining failed s).lasting = s.lasting := by
  unfold moveAtTraining; repeat' split
  all_goals simp

@[simp] theorem lasting_failTraining (failed s r) : (failTraining failed s r).lasting = s.lasting := by
  simp only [failTraining]; repeat' split
  all_goals simp

@[simp] theorem keeps_execDramTrained (failed repaired s) : Keeps s (execDramTrained failed repaired s) := by
  simp [execDramTrained]

@[simp] theorem keeps_execDramWrite (c record s) : Keeps s (execDramWrite c record s) := by simp [execDramWrite]

@[simp] theorem keeps_execDramPortWrite (c port record s) : Keeps s (execDramPortWrite c port record s) := by
  unfold execDramPortWrite; refine keeps_runCommand fun k => ?_; dsimp only; repeat' split
  all_goals simp

@[simp] theorem keeps_execDramRead (c kind index s) : Keeps s (execDramRead c kind index s) := by
  unfold execDramRead; repeat' split
  all_goals simp

end Sys2Proof.Machine
end

section
/-! What lasts through the operations of Sys2Proof/Machine/Programs.lean. -/
namespace Sys2Proof.Machine

@[simp] theorem lasting_loadInto (id key p s pan) : (loadInto id key p s pan).lasting = s.lasting := by simp [loadInto]

@[simp] theorem lasting_dropVersions (s id) : (dropVersions s id).lasting = s.lasting := by simp [dropVersions]

@[simp] theorem lasting_supersede (s id old) : (supersede s id old).lasting = s.lasting := by simp [supersede]

@[simp] theorem lasting_installProgram (s id p) : (installProgram s id p).lasting = s.lasting := by simp [installProgram]

@[simp] theorem keeps_execProgramLoad (c x s) : Keeps s (execProgramLoad c x s) := by
  unfold execProgramLoad
  refine keeps_runCommand fun k => ?_
  split
  · simp
  · repeat' split
    all_goals simp

@[simp] theorem lasting_removeProgram (s id) : (removeProgram s id).lasting = s.lasting := by simp [removeProgram]

@[simp] theorem keeps_execProgramUnload (c id s) : Keeps s (execProgramUnload c id s) := by
  simp (disch := (intros; (repeat' split) <;> simp)) [execProgramUnload]

@[simp] theorem lasting_withProgram (s k id) (go : Prog → State × Ending) (hgo : ∀ x0, (go x0).1.lasting = s.lasting) :
    (withProgram s k id go).1.lasting = s.lasting := by
  unfold withProgram; split <;> simp [hgo]

@[simp] theorem keeps_execProgramRead (c id s) : Keeps s (execProgramRead c id s) := by simp [execProgramRead]

@[simp] theorem keeps_execSlowPathSet (c program s) : Keeps s (execSlowPathSet c program s) := by simp [execSlowPathSet]

@[simp] theorem keeps_execGuardSelect (c program on s) : Keeps s (execGuardSelect c program on s) := by
  unfold execGuardSelect; refine keeps_runCommand fun k => ?_; dsimp only
  simp

@[simp] theorem keeps_execEnvWrite (c pan record words s) : Keeps s (execEnvWrite c pan record words s) := by
  simp [execEnvWrite]

@[simp] theorem lasting_createTask (s owner key pan d) : (createTask s owner key pan d).1.lasting = s.lasting := by
  simp [createTask]

@[simp] theorem keeps_execTaskCreate (c ownerKey pan desc s) : Keeps s (execTaskCreate c ownerKey pan desc s) := by
  unfold execTaskCreate; refine keeps_runCommand fun k => ?_; dsimp only; repeat' split
  all_goals simp

@[simp] theorem lasting_withTask (s k handle absent) (go : Nat → Nat → PTask → State × Ending)
    (hgo : ∀ x0 x1 x2, (go x0 x1 x2).1.lasting = s.lasting) :
    (withTask s k handle absent go).1.lasting = s.lasting := by
  unfold withTask; split <;> simp [hgo]

@[simp] theorem keeps_execTaskDelete (c handle s) : Keeps s (execTaskDelete c handle s) := by simp [execTaskDelete]

@[simp] theorem keeps_execTaskActivate (c handle s) : Keeps s (execTaskActivate c handle s) := by
  unfold execTaskActivate
  refine keeps_runCommand fun k => lasting_withTask _ _ _ _ _ fun pan slot t => ?_
  split <;> simp

@[simp] theorem keeps_execTaskEnable (c handle s) : Keeps s (execTaskEnable c handle s) := by simp [execTaskEnable]

@[simp] theorem keeps_execTaskRead (c handle s) : Keeps s (execTaskRead c handle s) := by simp [execTaskRead]

@[simp] theorem keeps_execMsgqCreate (c pan queue depth s) : Keeps s (execMsgqCreate c pan queue depth s) := by
  unfold execMsgqCreate; refine keeps_runCommand fun k => ?_; dsimp only; repeat' split
  all_goals simp

@[simp] theorem keeps_execMsgqDelete (c pan queue s) : Keeps s (execMsgqDelete c pan queue s) := by
  unfold execMsgqDelete; refine keeps_runCommand fun k => ?_; dsimp only; repeat' split
  all_goals simp

end Sys2Proof.Machine
end

section
/-! What lasts through the operations of Sys2Proof/Machine/HostPort.lean. -/
namespace Sys2Proof.Machine

@[simp] theorem lasting_hostDma (s bytes) : (hostDma s bytes).lasting = s.lasting := by simp [hostDma]

@[simp] theorem lasting_signalEntry (s fn v) : (signalEntry s fn v).lasting = s.lasting := by simp [signalEntry]

@[simp] theorem lasting_completionMessage (s fn) : (completionMessage s fn).lasting = s.lasting := by simp [completionMessage]

@[simp] theorem lasting_writeCpl (s fn kind first n len error bytes) :
    (writeCpl s fn kind first n len error bytes).lasting = s.lasting := by
  simp [writeCpl]

@[simp] theorem lasting_errorEntry (s fn error) : (errorEntry s fn error).lasting = s.lasting := by simp [errorEntry]

@[simp] theorem lasting_payOwed (a s b) : (payOwed a s b).lasting = s.lasting := by
  induction a generalizing s b with
  | zero => rfl
  | succ n ih =>
    unfold payOwed; dsimp only; repeat' split
    all_goals simp [ih]

@[simp] theorem lasting_ringError (s fn ring error) : (ringError s fn ring error).lasting = s.lasting := by simp [ringError]

@[simp] theorem lasting_endRead (s fn r rest) : (endRead s fn r rest).lasting = s.lasting := by simp [endRead]

@[simp] theorem lasting_pumpRing (a s b) : (pumpRing a s b).lasting = s.lasting := by
  induction a generalizing s b with
  | zero => rfl
  | succ n ih =>
    unfold pumpRing; dsimp only; repeat' split
    all_goals simp [ih]

@[simp] theorem lasting_pump (s fn) : (pump s fn).lasting = s.lasting := by simp [pump]

@[simp] theorem keeps_onFunction (s fn go) (hgo : go.lasting = s.lasting) : Keeps s (onFunction s fn go) := by
  simp [onFunction, hgo]

@[simp] theorem keeps_onFound (s fn go) (hgo : go.lasting = s.lasting) : Keeps s (onFound s fn go) := by simp [onFound, hgo]

@[simp] theorem keeps_execCmdTailDoorbell (fn index descs readFails s) :
    Keeps s (execCmdTailDoorbell fn index descs readFails s) := by
  simp [execCmdTailDoorbell]

@[simp] theorem keeps_execPacketReadComplete (fn ok packet s) : Keeps s (execPacketReadComplete fn ok packet s) := by
  unfold execPacketReadComplete; dsimp only; split <;> simp

@[simp] theorem keeps_execRbufTailDoorbell (fn index descs s) : Keeps s (execRbufTailDoorbell fn index descs s) := by
  simp [execRbufTailDoorbell]

@[simp] theorem keeps_execCplHeadDoorbell (fn index arm s) : Keeps s (execCplHeadDoorbell fn index arm s) := by
  simp [execCplHeadDoorbell]

@[simp] theorem keeps_execRingControlWrite (fn ring value s) : Keeps s (execRingControlWrite fn ring value s) := by
  unfold execRingControlWrite; repeat' split
  all_goals simp

@[simp] theorem keeps_execFuncStatsRead (fn index s) : Keeps s (execFuncStatsRead fn index s) := by
  unfold execFuncStatsRead; split
  · simp
  · simp [onFound]

@[simp] theorem lasting_deliverPending (s fn) : (deliverPending s fn).lasting = s.lasting := by simp [deliverPending]

@[simp] theorem keeps_execMsixUnmask (fn entry enable s) : Keeps s (execMsixUnmask fn entry enable s) := by
  simp [execMsixUnmask]

@[simp] theorem lasting_writeRegister (s fn offset width value) :
    (writeRegister s fn offset width value).lasting = s.lasting := by
  simp [writeRegister]

@[simp] theorem lasting_writeConfig (s fn offset value) : (writeConfig s fn offset value).lasting = s.lasting := by
  unfold writeConfig; split <;> simp

@[simp] theorem keeps_execRegisterWrite (fn offset width value s) : Keeps s (execRegisterWrite fn offset width value s) := by
  simp [execRegisterWrite]

@[simp] theorem lasting_skipWrap (s fn n) : (skipWrap s fn n).lasting = s.lasting := by simp [skipWrap]

@[simp] theorem keeps_execOutgoingPacket (fn writeFails s) : Keeps s (execOutgoingPacket fn writeFails s) := by
  simp only [execOutgoingPacket]; repeat' split
  all_goals simp

@[simp] theorem keeps_execRbufStarved (fn s) : Keeps s (execRbufStarved fn s) := by simp [execRbufStarved]

@[simp] theorem lasting_resetFuncs (s) (which : Nat → Bool) : (resetFuncs s which).lasting = s.lasting := by simp [resetFuncs]

@[simp] theorem lasting_resetVf (s fn) : (resetVf s fn).lasting = s.lasting := by simp [resetVf]

@[simp] theorem lasting_trainLink (s h) : (trainLink s h).lasting = s.lasting := by simp [trainLink]

@[simp] theorem lasting_resetLink (s h) : (resetLink s h).lasting = s.lasting := by simp [resetLink]

@[simp] theorem keeps_execLinkReset (link cause s) : Keeps s (execLinkReset link cause s) := by simp [execLinkReset]

@[simp] theorem keeps_execPerstNRelease (link s) : Keeps s (execPerstNRelease link s) := by simp [execPerstNRelease]

@[simp] theorem keeps_execPfFlr (link s) : Keeps s (execPfFlr link s) := by simp [execPfFlr]

@[simp] theorem keeps_execVfFlr (link vf s) : Keeps s (execVfFlr link vf s) := by simp [execVfFlr]

@[simp] theorem keeps_execBusMasterDisable (fn d3hot s) : Keeps s (execBusMasterDisable fn d3hot s) := by
  simp [execBusMasterDisable]

@[simp] theorem keeps_execDmaResume (fn s) : Keeps s (execDmaResume fn s) := by simp [execDmaResume]

end Sys2Proof.Machine
end

section
/-! What lasts through the operations of Sys2Proof/Machine/Usb.lean. -/
namespace Sys2Proof.Machine

@[simp] theorem lasting_usbAnswer (s bs) : (usbAnswer s bs).lasting = s.lasting := by simp [usbAnswer]

@[simp] theorem lasting_usbStall (s) : (usbStall s).lasting = s.lasting := by simp [usbStall]

@[simp] theorem lasting_nextTransfer (s) : (nextTransfer s).lasting = s.lasting := by simp [nextTransfer]

@[simp] theorem keeps_usbRequest {s wIndex ok} {go : State → Nat → State} (h : ∀ u i, (go u i).lasting = u.lasting) :
    Keeps s (usbRequest s wIndex ok go) := by
  simp [usbRequest, h]

@[simp] theorem lasting_usbWhole (s i bytes) : (usbWhole s i bytes).lasting = s.lasting := by simp [usbWhole]

@[simp] theorem lasting_usbChunk (s i chunk last data) : (usbChunk s i chunk last data).lasting = s.lasting := by
  simp [usbChunk]

@[simp] theorem keeps_execCmdWrite (wValue wIndex data s) : Keeps s (execCmdWrite wValue wIndex data s) := by
  simp [execCmdWrite]

@[simp] theorem keeps_execReplyRead (wValue wIndex len s) : Keeps s (execReplyRead wValue wIndex len s) := by
  unfold execReplyRead
  refine keeps_usbRequest fun u i => ?_
  dsimp only; split <;> simp

@[simp] theorem keeps_execUsbStatus (wValue wIndex len s) : Keeps s (execUsbStatus wValue wIndex len s) := by
  simp [execUsbStatus]

@[simp] theorem keeps_execOrphanRead (wValue wIndex len s) : Keeps s (execOrphanRead wValue wIndex len s) := by
  unfold execOrphanRead
  refine keeps_usbRequest fun u i => ?_
  split <;> simp

@[simp] theorem keeps_execOrphanClear (wValue wIndex len s) : Keeps s (execOrphanClear wValue wIndex len s) := by
  simp (disch := (intros; (repeat' split) <;> simp)) [execOrphanClear]

@[simp] theorem keeps_execAbort (wValue wIndex len s) : Keeps s (execAbort wValue wIndex len s) := by simp [execAbort]

@[simp] theorem lasting_takeOrphan (s i w) : (takeOrphan s i w).lasting = s.lasting := by
  simp only [takeOrphan]; repeat' split
  all_goals simp

@[simp] theorem lasting_resetUsb (s i) : (resetUsb s i).lasting = s.lasting := by unfold resetUsb; split <;> simp

@[simp] theorem keeps_execUsbBusReset (s) : Keeps s (execUsbBusReset s) := by simp [execUsbBusReset]

@[simp] theorem lasting_syncUsb (s) : (syncUsb s).lasting = s.lasting := by simp [syncUsb]

@[simp] theorem keeps_execUsbVbusChange (millivolts s) : Keeps s (execUsbVbusChange millivolts s) := by
  simp [execUsbVbusChange]

end Sys2Proof.Machine
end

section
/-! What lasts through the operations of Sys2Proof/Machine/Counters.lean. -/
namespace Sys2Proof.Machine

@[simp] theorem keeps_execHoldoffExpiry (source owner s) : Keeps s (execHoldoffExpiry source owner s) := by
  simp [execHoldoffExpiry]

@[simp] theorem keeps_execEventRouteWrite (c object index record s) :
    Keeps s (execEventRouteWrite c object index record s) := by
  unfold execEventRouteWrite; refine keeps_runCommand fun k => ?_; dsimp only; repeat' split
  all_goals simp

@[simp] theorem keeps_execEventRead (c max s) : Keeps s (execEventRead c max s) := by simp [execEventRead]

@[simp] theorem keeps_execCounterSelectWrite (c object index record s) :
    Keeps s (execCounterSelectWrite c object index record s) := by
  unfold execCounterSelectWrite; refine keeps_runCommand fun k => ?_; dsimp only; repeat' split
  all_goals simp

@[simp] theorem lasting_clearCounters (s es) : (clearCounters s es).lasting = s.lasting := by simp [clearCounters]

@[simp] theorem lasting_sampleCounters (s es) : (sampleCounters s es).lasting = s.lasting := by simp [sampleCounters]

@[simp] theorem lasting_takeSnap (s k bytes) (go : State → State) (read) (hgo : ∀ x0, (go x0).lasting = x0.lasting) :
    (takeSnap s k bytes go read).1.lasting = s.lasting := by
  simp [takeSnap, hgo]

@[simp] theorem keeps_execSnapshot (c scope flags inst s) : Keeps s (execSnapshot c scope flags inst s) := by
  unfold execSnapshot; refine keeps_runCommand fun k => ?_; dsimp only; repeat' split
  all_goals simp

@[simp] theorem keeps_execSnapshotRead (c id offset s) : Keeps s (execSnapshotRead c id offset s) := by
  unfold execSnapshotRead; refine keeps_runCommand fun k => ?_; dsimp only; repeat' split
  all_goals simp

@[simp] theorem keeps_execSnapshotRelease (c id s) : Keeps s (execSnapshotRelease c id s) := by simp [execSnapshotRelease]

@[simp] theorem keeps_execSnapshotExpiry (id s) : Keeps s (execSnapshotExpiry id s) := by
  unfold execSnapshotExpiry; split <;> simp

@[simp] theorem keeps_execTelemetrySelect (c chosen s) : Keeps s (execTelemetrySelect c chosen s) := by
  unfold execTelemetrySelect; refine keeps_runCommand fun k => ?_; dsimp only
  simp

@[simp] theorem keeps_execDomainStatusRead (c express domain s) : Keeps s (execDomainStatusRead c express domain s) := by
  simp [execDomainStatusRead]

@[simp] theorem keeps_execDistReportSnapshot (c pan s) : Keeps s (execDistReportSnapshot c pan s) := by
  unfold execDistReportSnapshot; refine keeps_runCommand fun k => ?_; dsimp only; repeat' split
  all_goals simp

@[simp] theorem keeps_execTraceSnapshot (c pan s) : Keeps s (execTraceSnapshot c pan s) := by simp [execTraceSnapshot]

end Sys2Proof.Machine
end

section
/-! What lasts through the operations of Sys2Proof/Machine/Firmware.lean. -/
namespace Sys2Proof.Machine

@[simp] theorem lasting_setTrust (s t) (h : t.fuses = s.trust.fuses) : (State.setTrust s t).lasting = s.lasting := by
  simp [State.setTrust, h]

@[simp] theorem fuses_program (t kind slot offset data) : (program t kind slot offset data).fuses = t.fuses := by simp [program]

@[simp] theorem keeps_execFwWrite (c kind slot offset data s) : Keeps s (execFwWrite c kind slot offset data s) := by
  unfold execFwWrite
  exact keeps_runCommand fun k => lasting_unlessBad _ _ _ (by simp)

@[simp] theorem keeps_execFwVerify (c kind slot s) : Keeps s (execFwVerify c kind slot s) := by simp [execFwVerify]

@[simp] theorem keeps_execFwActivate (c slots s) : Keeps s (execFwActivate c slots s) := by
  unfold execFwActivate; refine keeps_runCommand fun k => ?_; dsimp only; repeat' split
  all_goals simp

@[simp] theorem keeps_execFwPolicy (c permissive s) : Keeps s (execFwPolicy c permissive s) := by simp [execFwPolicy]

@[simp] theorem fuses_reEvaluate (t) : (reEvaluate t).fuses = t.fuses := by unfold reEvaluate; split <;> rfl

@[simp] theorem keeps_execFwManifest (c sequence sets signature s) :
    Keeps s (execFwManifest c sequence sets signature s) := by
  unfold execFwManifest; refine keeps_runCommand fun k => ?_; dsimp only
  simp

@[simp] theorem keeps_execFwStatus (c s) : Keeps s (execFwStatus c s) := by simp [execFwStatus]

end Sys2Proof.Machine
end

section
/-! What lasts through the operations of Sys2Proof/Machine/Owners.lean. -/
namespace Sys2Proof.Machine

@[simp] theorem lasting_setSlot (s o x) : (State.setSlot s o x).lasting = s.lasting := by simp [State.setSlot]

@[simp] theorem lasting_endSession (s id) : (endSession s id).lasting = s.lasting := by simp [endSession]

@[simp] theorem lasting_setAlloc (s o bytes) : (setAlloc s o bytes).lasting = s.lasting := by simp [setAlloc]

@[simp] theorem lasting_applyQuota (s o r) : (applyQuota s o r).lasting = s.lasting := by simp [applyQuota]

@[simp] theorem keeps_execTenantCreate (c record s) : Keeps s (execTenantCreate c record s) := by
  unfold execTenantCreate; refine keeps_runCommand fun k => ?_; dsimp only; repeat' split
  all_goals simp

@[simp] theorem keeps_execQuotaWrite (c record s) : Keeps s (execQuotaWrite c record s) := by
  unfold execQuotaWrite; refine keeps_runCommand fun k => ?_; dsimp only; repeat' split
  all_goals simp

@[simp] theorem keeps_execTenantRead (c tenant s) : Keeps s (execTenantRead c tenant s) := by simp [execTenantRead]

@[simp] theorem keeps_execKeyInstall (c index key s) : Keeps s (execKeyInstall c index key s) := by
  unfold execKeyInstall; refine keeps_runCommand fun k => ?_; dsimp only
  simp

@[simp] theorem keeps_execKeyDelete (c index s) : Keeps s (execKeyDelete c index s) := by simp [execKeyDelete]

@[simp] theorem keeps_execSeal (c flags minSvn data s) : Keeps s (execSeal c flags minSvn data s) := by
  unfold execSeal; refine keeps_runCommand fun k => ?_; dsimp only; repeat' split
  all_goals simp

@[simp] theorem keeps_execUnseal (c blob s) : Keeps s (execUnseal c blob s) := by
  simp (disch := (intros; (repeat' split) <;> simp)) [execUnseal]

@[simp] theorem keeps_execUnsealKeys (c blob s) : Keeps s (execUnsealKeys c blob s) := by
  unfold execUnsealKeys; refine keeps_runCommand fun k => ?_; dsimp only; repeat' split
  all_goals simp

@[simp] theorem lasting_failContexts (s reason) (which : Nat → Ctx → Bool) :
    (failContexts s reason which).lasting = s.lasting := by
  simp [failContexts]

@[simp] theorem lasting_killTask (pan s slot) : (killTask pan s slot).lasting = s.lasting := by
  unfold killTask; dsimp only; split <;> simp

@[simp] theorem lasting_clearPan (o s pan) : (clearPan o s pan).lasting = s.lasting := by simp [clearPan]

@[simp] theorem lasting_eraseKeys (s o) : (eraseKeys s o).lasting = s.lasting := by simp [eraseKeys]

@[simp] theorem lasting_deleteObjects (s o) : (deleteObjects s o).lasting = s.lasting := by simp [deleteObjects]

@[simp] theorem lasting_endOwnerCommands (s o but) : (endOwnerCommands s o but).lasting = s.lasting := by
  simp [endOwnerCommands]

@[simp] theorem lasting_startZeroize (s o acc deleting) : (startZeroize s o acc deleting).lasting = s.lasting := by
  simp [startZeroize]

@[simp] theorem lasting_commitEntry (s acc) : (commitEntry s acc).lasting = s.lasting := by
  unfold commitEntry; split <;> simp

@[simp] theorem lasting_zeroizeBy (s k o deleting) : (zeroizeBy s k o deleting).1.lasting = s.lasting := by simp [zeroizeBy]

@[simp] theorem keeps_execTenantDelete (c tenant s) : Keeps s (execTenantDelete c tenant s) := by simp [execTenantDelete]

@[simp] theorem keeps_execTenantZeroize (c tenant s) : Keeps s (execTenantZeroize c tenant s) := by simp [execTenantZeroize]

@[simp] theorem lasting_newVault (s o key) : (newVault s o key).lasting = s.lasting := by simp [newVault]

@[simp] theorem lasting_newOmk (s o) : (newOmk s o).lasting = s.lasting := by simp [newOmk]

@[simp] theorem lasting_slotAfter (s o) : (slotAfter s o).lasting = s.lasting := by
  unfold slotAfter; extract_lets x; split
  · split <;> simp
  · split
    · rename_i home s₁ _ _ _ _
      have h₁ : s₁.lasting = s.lasting := by simp only [s₁]; split <;> simp
      have ha : (setAlloc s₁ o 0).lasting = s₁.lasting := lasting_setAlloc _ _ _
      refine (lasting_setTrust _ _ ?_).trans (ha.trans h₁)
      exact (fuses_of_lasting ha).symm
    · simp

@[simp] theorem lasting_grantUnlock (s) : (grantUnlock s).lasting = s.lasting := by simp [grantUnlock]

@[simp] theorem lasting_awaitZeroize (acc s o) : (awaitZeroize acc s o).lasting = s.lasting := by simp [awaitZeroize]

@[simp] theorem lasting_unlockStep (s acc) : (unlockStep s acc).1.lasting = s.lasting := by simp [unlockStep]

@[simp] theorem lasting_endWaiter (s acc) : (endWaiter s acc).lasting = s.lasting := by
  unfold endWaiter; repeat' split
  all_goals simp

@[simp] theorem keeps_execOwnerZeroizeEnd (owner s) : Keeps s (execOwnerZeroizeEnd owner s) := by simp [execOwnerZeroizeEnd]

@[simp] theorem keeps_execDebugChallenge (c scope s) : Keeps s (execDebugChallenge c scope s) := by simp [execDebugChallenge]

@[simp] theorem keeps_execDebugUnlock (c credential s) : Keeps s (execDebugUnlock c credential s) := by simp [execDebugUnlock]

end Sys2Proof.Machine
end

section
/-! What lasts through the operations of Sys2Proof/Machine/Sessions.lean. -/
namespace Sys2Proof.Machine

@[simp] theorem lasting_signed (s message) : (signed s message).1.lasting = s.lasting := by simp [signed]

@[simp] theorem lasting_signedOver (s sent b) : (signedOver s sent b).1.lasting = s.lasting := by simp [signedOver]

@[simp] theorem lasting_answersOver (s sent b) : (answersOver s sent b).1.lasting = s.lasting := by simp [answersOver]

@[simp] theorem lasting_answers (s b) : (answers s b).1.lasting = s.lasting := by simp [answers]

@[simp] theorem keeps_spdmRow (c atEnd) (body : Call → State → State × Ending) (s)
    (hbody : ∀ x0 x1, (body x0 x1).1.lasting = x1.lasting) :
    Keeps s (spdmRow c atEnd body s) := by
  simp [spdmRow, hbody]

@[simp] theorem lasting_drbg (s) : (drbg s).1.lasting = s.lasting := by simp [drbg]

@[simp] theorem keeps_execGetVersion (c s) : Keeps s (execGetVersion c s) := by
  unfold execGetVersion; refine keeps_runCommand fun k => ?_; dsimp only; repeat' split
  all_goals simp

@[simp] theorem keeps_execGetCapabilities (c s) : Keeps s (execGetCapabilities c s) := by
  unfold execGetCapabilities; refine keeps_runCommand fun k => ?_; dsimp only; repeat' split
  all_goals simp

@[simp] theorem keeps_execNegotiateAlgorithms (c s) : Keeps s (execNegotiateAlgorithms c s) := by
  unfold execNegotiateAlgorithms; refine keeps_runCommand fun k => ?_; dsimp only; repeat' split
  all_goals simp

@[simp] theorem keeps_execGetDigests (c s) : Keeps s (execGetDigests c s) := by
  unfold execGetDigests; refine keeps_runCommand fun k => ?_; dsimp only; repeat' split
  all_goals simp

@[simp] theorem keeps_execGetCertificate (c slot offset len s) : Keeps s (execGetCertificate c slot offset len s) := by
  simp [execGetCertificate]

@[simp] theorem keeps_execChallenge (c slot nonce s) : Keeps s (execChallenge c slot nonce s) := by simp [execChallenge]

@[simp] theorem keeps_execGetMeasurements (c index nonce s) : Keeps s (execGetMeasurements c index nonce s) := by
  unfold execGetMeasurements; refine keeps_runCommand fun k => ?_; dsimp only; repeat' split
  all_goals simp

@[simp] theorem lasting_freshKeys (s x) : (freshKeys s x).1.lasting = s.lasting := by simp [freshKeys]

@[simp] theorem lasting_keyShare (s) : (keyShare s).1.lasting = s.lasting := by simp [keyShare]

@[simp] theorem keeps_execKeyExchange (c x s) : Keeps s (execKeyExchange c x s) := by simp [execKeyExchange]

@[simp] theorem keeps_execFinish (c session signature s) : Keeps s (execFinish c session signature s) := by
  unfold execFinish; refine keeps_runCommand fun k => ?_; dsimp only; repeat' split
  all_goals simp

@[simp] theorem keeps_execHeartbeat (c s) : Keeps s (execHeartbeat c s) := by simp [execHeartbeat]

@[simp] theorem lasting_endNow (s k b) : (endNow s k b).lasting = s.lasting := by simp [endNow]

@[simp] theorem lasting_updateKeys (s id) : (updateKeys s id).lasting = s.lasting := by unfold updateKeys; split <;> simp

@[simp] theorem keeps_execKeyUpdate (c operation s) : Keeps s (execKeyUpdate c operation s) := by simp [execKeyUpdate]

@[simp] theorem keeps_execEndSession (c s) : Keeps s (execEndSession c s) := by simp [execEndSession]

@[simp] theorem keeps_execUnsupportedSpdmRequest (c s) : Keeps s (execUnsupportedSpdmRequest c s) := by
  unfold execUnsupportedSpdmRequest; refine keeps_runCommand fun k => ?_; dsimp only; repeat' split
  all_goals simp

@[simp] theorem keeps_execSessionTimeout (session s) : Keeps s (execSessionTimeout session s) := by
  unfold execSessionTimeout; split <;> simp

@[simp] theorem lasting_bindSession (s id o) : (bindSession s id o).lasting = s.lasting := by
  unfold bindSession; split <;> simp

@[simp] theorem lasting_claimOperator (s key) : (claimOperator s key).lasting = s.lasting := by simp [claimOperator]

@[simp] theorem keeps_execOperatorClaim (c claim s) : Keeps s (execOperatorClaim c claim s) := by
  simp (disch := (intros; (repeat' split) <;> simp)) [execOperatorClaim]

@[simp] theorem keeps_execOperatorTransfer (c keyHash s) : Keeps s (execOperatorTransfer c keyHash s) := by
  simp [execOperatorTransfer]

@[simp] theorem keeps_execTenantClaim (c tenant claim s) : Keeps s (execTenantClaim c tenant claim s) := by
  unfold execTenantClaim; refine keeps_runCommand fun k => ?_; dsimp only; repeat' split
  all_goals simp

@[simp] theorem keeps_execSessionInfo (c s) : Keeps s (execSessionInfo c s) := by simp [execSessionInfo]

@[simp] theorem keeps_execResultQuery (c session sequence s) : Keeps s (execResultQuery c session sequence s) := by
  simp (disch := (intros; (repeat' split) <;> simp)) [execResultQuery]

@[simp] theorem keeps_execEcho (c s) : Keeps s (execEcho c s) := by simp [execEcho]

@[simp] theorem keeps_execUnknownOpcode (acc s) : Keeps s (execUnknownOpcode acc s) := by
  unfold execUnknownOpcode; split <;> simp

@[simp] theorem keeps_execAcknowledgment (acc s) : Keeps s (execAcknowledgment acc s) := by
  unfold execAcknowledgment; split <;> simp

@[simp] theorem keeps_execChainTimeout (acc s) : Keeps s (execChainTimeout acc s) := by
  unfold execChainTimeout; split <;> simp

@[simp] theorem keeps_execDeadlineExpired (acc s) : Keeps s (execDeadlineExpired acc s) := by
  unfold execDeadlineExpired; split <;> simp

@[simp] theorem lasting_discardPartial (s) : (discardPartial s).lasting = s.lasting := by simp [discardPartial]

@[simp] theorem lasting_dropPartial (s l mac tag) : (dropPartial s l mac tag).lasting = s.lasting := by simp [dropPartial]

@[simp] theorem lasting_growPartial (s p tags data) : (growPartial s p tags data).lasting = s.lasting := by simp [growPartial]

@[simp] theorem lasting_takeFragment (s l b) : (takeFragment s l b).lasting = s.lasting := by
  simp only [takeFragment]; repeat' split
  all_goals simp

@[simp] theorem keeps_execInbandFragment (ctx s) : Keeps s (execInbandFragment ctx s) := by
  unfold execInbandFragment; split <;> simp

@[simp] theorem keeps_execReassemblyTimeout (lport mac tag s) : Keeps s (execReassemblyTimeout lport mac tag s) := by
  unfold execReassemblyTimeout; split <;> simp

end Sys2Proof.Machine
end

section
/-! What lasts through the operations of Sys2Proof/Machine/Survey.lean. -/
namespace Sys2Proof.Machine

@[simp] theorem lasting_setSurvey (s v) : (State.setSurvey s v).lasting = s.lasting := by simp [State.setSurvey]

@[simp] theorem lasting_svyRespond (s conflict type payload) : (svyRespond s conflict type payload).lasting = s.lasting := by
  simp [svyRespond]

@[simp] theorem lasting_svyAlert (s) : (svyAlert s).lasting = s.lasting := by simp [svyAlert]

@[simp] theorem lasting_svyHunt (s) : (svyHunt s).lasting = s.lasting := by simp [svyHunt]

@[simp] theorem lasting_svyFailed (s counter) : (svyFailed s counter).lasting = s.lasting := by simp [svyFailed]

@[simp] theorem lasting_svyHear (s rate) : (svyHear s rate).lasting = s.lasting := by simp [svyHear]

@[simp] theorem lasting_svyRequest (s f dst src slot) (go : State → State) (hgo : ∀ x0, (go x0).lasting = x0.lasting) :
    (svyRequest s f dst src slot go).lasting = s.lasting := by
  simp [svyRequest, hgo]

@[simp] theorem lasting_svyMalformed (s dst tag next conflict) :
    (svyMalformed s dst tag next conflict).lasting = s.lasting := by
  simp [svyMalformed]

@[simp] theorem lasting_pingEffect (len dst src clear conflict s) :
    (pingEffect len dst src clear conflict s).lasting = s.lasting := by
  simp [pingEffect]

@[simp] theorem keeps_execSurveyPing (frame dst src clear conflict s) :
    Keeps s (execSurveyPing frame dst src clear conflict s) := by
  simp [execSurveyPing]

@[simp] theorem lasting_setSvyAsm (s c a) : (State.setSvyAsm s c a).lasting = s.lasting := by simp [State.setSvyAsm]

@[simp] theorem lasting_writeAppend (s c tag index last before data conflict) :
    (writeAppend s c tag index last before data conflict).lasting = s.lasting := by
  simp [writeAppend]

@[simp] theorem lasting_writeEffect (len dst src tag flags index data conflict s) :
    (writeEffect len dst src tag flags index data conflict s).lasting = s.lasting := by
  simp [writeEffect]

@[simp] theorem keeps_execSurveyWrite (frame dst src tag flags index data conflict s) :
    Keeps s (execSurveyWrite frame dst src tag flags index data conflict s) := by
  simp [execSurveyWrite]

@[simp] theorem lasting_readEffect (len dst src rel index conflict s) :
    (readEffect len dst src rel index conflict s).lasting = s.lasting := by
  simp only [readEffect]; repeat' split
  all_goals simp

@[simp] theorem keeps_execSurveyRead (frame dst src release index conflict s) :
    Keeps s (execSurveyRead frame dst src release index conflict s) := by
  simp [execSurveyRead]

@[simp] theorem lasting_searchEffect (len dst filter n pfx choices conflict s) :
    (searchEffect len dst filter n pfx choices conflict s).lasting = s.lasting := by
  simp [searchEffect]

@[simp] theorem keeps_execSurveySearch (frame dst src filter n pfx choices conflict s) :
    Keeps s (execSurveySearch frame dst src filter n pfx choices conflict s) := by
  simp [execSurveySearch]

@[simp] theorem lasting_assignEffect (len dst serial address conflict s) :
    (assignEffect len dst serial address conflict s).lasting = s.lasting := by
  simp [assignEffect]

@[simp] theorem keeps_execSurveyAssign (frame dst src serial address conflict s) :
    Keeps s (execSurveyAssign frame dst src serial address conflict s) := by
  simp [execSurveyAssign]

@[simp] theorem lasting_rateEffect (frame dst code s) : (rateEffect frame dst code s).lasting = s.lasting := by
  simp [rateEffect]

@[simp] theorem keeps_execSurveyRate (frame dst src code s) : Keeps s (execSurveyRate frame dst src code s) := by
  simp [execSurveyRate]

@[simp] theorem lasting_unknownTypeEffect (dst conflict s) : (unknownTypeEffect dst conflict s).lasting = s.lasting := by
  simp [unknownTypeEffect]

@[simp] theorem keeps_execSurveyUnknownType (frame dst src type conflict s) :
    Keeps s (execSurveyUnknownType frame dst src type conflict s) := by
  simp [execSurveyUnknownType]

@[simp] theorem keeps_execRateChange (s) : Keeps s (execRateChange s) := by unfold execRateChange; split <;> simp

@[simp] theorem keeps_execSurveyAssemblyTimeout (ctrl s) : Keeps s (execSurveyAssemblyTimeout ctrl s) := by
  simp [execSurveyAssemblyTimeout]

@[simp] theorem keeps_execReplyQueueExpiry (ctrl s) : Keeps s (execReplyQueueExpiry ctrl s) := by simp [execReplyQueueExpiry]

@[simp] theorem keeps_execSurveyFrameError (kind s) : Keeps s (execSurveyFrameError kind s) := by simp [execSurveyFrameError]

@[simp] theorem keeps_execSvyTermChange (tied s) : Keeps s (execSvyTermChange tied s) := by simp [execSvyTermChange]

end Sys2Proof.Machine
end

section
/-! What lasts through the operations of Sys2Proof/Machine/Reset.lean. -/
namespace Sys2Proof.Machine

@[simp] theorem lasting_setPower (s p) (h : p.epochs = s.power.epochs) : (State.setPower s p).lasting = s.lasting := by
  simp [State.setPower, h]

@[simp] theorem lasting_setPhase (s ph) : (setPhase s ph).lasting = s.lasting := by simp [setPhase]

@[simp] theorem lasting_setContain (s k) : (State.setContain s k).lasting = s.lasting := by simp [State.setContain]

@[simp] theorem lasting_setLegend (s l) : (State.setLegend s l).lasting = s.lasting := by simp [State.setLegend]

@[simp] theorem lasting_setPorts (s p) : (State.setPorts s p).lasting = s.lasting := by simp [State.setPorts]

@[simp] theorem lasting_hostRestart (s) : (hostRestart s).lasting = s.lasting := by simp [hostRestart]

@[simp] theorem fuses_resetTrust (t off) : (resetTrust t off).fuses = t.fuses := by simp [resetTrust]

@[simp] theorem epochs_resetPower (p) : (resetPower p).epochs = p.epochs := by simp [resetPower]

@[simp] theorem lasting_endZeroizes (s) : (endZeroizes s).lasting = s.lasting := by simp [endZeroizes]

@[simp] theorem lasting_resetBlocks (s off) : (resetBlocks s off).lasting = s.lasting := by
  simp (disch := (intros; (repeat' split) <;> simp)) [resetBlocks]

@[simp] theorem lasting_dropWaiting (s) : (dropWaiting s).lasting = s.lasting := by simp [dropWaiting]

@[simp] theorem lasting_endTraffic (s reason) : (endTraffic s reason).lasting = s.lasting := by simp [endTraffic]

@[simp] theorem lasting_pushReport (s r) : (pushReport s r).lasting = s.lasting := by simp [pushReport]

@[simp] theorem lasting_drawMemoryKeys (s) : (drawMemoryKeys s).lasting = s.lasting := by simp [drawMemoryKeys]

@[simp] theorem fuses_unwrapVault (t) : (unwrapVault t).fuses = t.fuses := by simp [unwrapVault]

theorem fuses_selectSet (i t) : (selectSet i t).1.fuses = t.fuses := by
  unfold selectSet; dsimp only; repeat' split
  all_goals rfl

@[simp] theorem lasting_boot (s) : (boot s).lasting = s.lasting := by
  unfold boot
  extract_lets s₁ p s₂ t r trip v s₃ s₄
  have h₂ : s₂.lasting = s.lasting := by simp [s₂, p, s₁]
  have hr : r.1.fuses = s₂.trust.fuses := (fuses_selectSet _ _).trans rfl
  have h₃ : s₃.lasting = s₂.lasting := by
    simp only [s₃, lasting_setPhase]
    exact lasting_setTrust _ _ hr
  simp [s₄, h₃, h₂]

@[simp] theorem lasting_tripDone (s) : (tripDone s).lasting = s.lasting := by simp [tripDone]

@[simp] theorem lasting_sampleBootSel (s) : (sampleBootSel s).lasting = s.lasting := by
  unfold sampleBootSel
  refine (lasting_setPower _ _ ?_).trans (lasting_fresh s)
  rfl

@[simp] theorem lasting_reboot (s) : (reboot s).lasting = s.lasting := by simp [reboot]

@[simp] theorem lasting_deviceRestart (s cause) (word : Entry → Status) (toOperator) :
    (deviceRestart s cause word toOperator).lasting = s.lasting := by
  simp [deviceRestart]

@[simp] theorem keeps_execResetNAssert (s) : Keeps s (execResetNAssert s) := by simp [execResetNAssert]

@[simp] theorem lasting_goOn (s) : (goOn s).lasting = s.lasting := by simp [goOn]

@[simp] theorem keeps_execResetNRelease (s) : Keeps s (execResetNRelease s) := by simp [execResetNRelease]

@[simp] theorem keeps_execDeviceRestart (c s) : Keeps s (execDeviceRestart c s) := by simp [execDeviceRestart]

@[simp] theorem lasting_journalAdd (s x) : (journalAdd s x).lasting = s.lasting := by simp [journalAdd]

@[simp] theorem lasting_powerLossRecord (s outcome e) : (powerLossRecord s outcome e).lasting = s.lasting := by
  simp [powerLossRecord]

@[simp] theorem lasting_readJournal (s) (torn : Nat × Nat) : (readJournal s torn).lasting = s.lasting := by simp [readJournal]

@[simp] theorem lasting_bootRaise (s k) : (bootRaise s k).lasting = s.lasting := by unfold bootRaise; split <;> simp

@[simp] theorem lasting_stkPowerUp (s) : (stkPowerUp s).lasting = s.lasting := by
  unfold stkPowerUp; repeat' split
  all_goals simp

@[simp] theorem lasting_discardTorn (s t) : (discardTorn s t).lasting = s.lasting := by
  simp only [discardTorn]; repeat' split
  all_goals simp

@[simp] theorem keeps_execCommandReady (torn s) : Keeps s (execCommandReady torn s) := by simp [execCommandReady]

@[simp] theorem lasting_loadPrt (s pan) : (loadPrt s pan).lasting = s.lasting := by unfold loadPrt; split <;> simp

@[simp] theorem lasting_startSupervisor (s pan) : (startSupervisor s pan).lasting = s.lasting := by simp [startSupervisor]

@[simp] theorem lasting_startLegend (s) : (startLegend s).lasting = s.lasting := by simp [startLegend]

@[simp] theorem lasting_startCores (s) : (startCores s).lasting = s.lasting := by simp [startCores]

@[simp] theorem lasting_reachState (s x) : (reachState s x).lasting = s.lasting := by simp [reachState]

@[simp] theorem keeps_execTrafficReady (s) : Keeps s (execTrafficReady s) := by simp [execTrafficReady]

end Sys2Proof.Machine
end

section
/-! What lasts through the operations of Sys2Proof/Machine/Intake.lean. -/
namespace Sys2Proof.Machine

@[simp] theorem lasting_syncAlert (s) : (syncAlert s).lasting = s.lasting := by simp [syncAlert]

@[simp] theorem lasting_noteSeen (s i source) : (noteSeen s i source).lasting = s.lasting := by simp [noteSeen]

@[simp] theorem lasting_noteVin (s vin) : (noteVin s vin).lasting = s.lasting := by simp [noteVin]

@[simp] theorem keeps_onInput (s ok) (go : State → State) (hgo : ∀ x0, (go x0).lasting = x0.lasting) :
    Keeps s (onInput s ok go) := by
  simp [onInput, hgo]

@[simp] theorem keeps_execBrownoutWarning (vin s) : Keeps s (execBrownoutWarning vin s) := by simp [execBrownoutWarning]

@[simp] theorem keeps_execBrownoutWarningClear (vin s) : Keeps s (execBrownoutWarningClear vin s) := by
  simp [execBrownoutWarningClear]

@[simp] theorem keeps_execVinDip (vin s) : Keeps s (execVinDip vin s) := by simp [execVinDip]

@[simp] theorem keeps_execVinHigh (vin s) : Keeps s (execVinHigh vin s) := by simp [execVinHigh]

@[simp] theorem keeps_execVinLowBand (vin s) : Keeps s (execVinLowBand vin s) := by simp [execVinLowBand]

@[simp] theorem keeps_execInputPowerAlert (watts s) : Keeps s (execInputPowerAlert watts s) := by simp [execInputPowerAlert]

@[simp] theorem lasting_readSensor (s) (x : Nat × Int) : (readSensor s x).lasting = s.lasting := by simp [readSensor]

@[simp] theorem lasting_startTest (s) : (startTest s).lasting = s.lasting := by simp [startTest]

@[simp] theorem keeps_execSensorPoll (die input degrees s) : Keeps s (execSensorPoll die input degrees s) := by
  simp only [execSensorPoll]; repeat' split
  all_goals simp

@[simp] theorem keeps_execRefclkLost (s) : Keeps s (execRefclkLost s) := by
  unfold execRefclkLost
  rw [keeps_next]
  split
  · rfl
  · extract_lets p s₁ q s₂
    have h₁ : s₁.lasting = s.lasting := lasting_setPower _ _ rfl
    have h₂ : s₂.lasting = s.lasting := (lasting_setPower _ _ (by simp [q])).trans h₁
    split <;> simp [h₁, h₂]

@[simp] theorem keeps_execRefclkReturn (s) : Keeps s (execRefclkReturn s) := by simp [execRefclkReturn]

@[simp] theorem keeps_execSyncInEdge (s) : Keeps s (execSyncInEdge s) := by simp [execSyncInEdge]

@[simp] theorem keeps_execSyncOutEdge (s) : Keeps s (execSyncOutEdge s) := by simp [execSyncOutEdge]

@[simp] theorem lasting_darken (s) : (darken s).lasting = s.lasting := by simp [darken]

@[simp] theorem lasting_decideShutdown (s cause) : (decideShutdown s cause).lasting = s.lasting := by
  simp (disch := (intros; (repeat' split) <;> simp)) [decideShutdown]

@[simp] theorem lasting_joinDecision (s cause) : (joinDecision s cause).lasting = s.lasting := by
  unfold joinDecision; split <;> simp

@[simp] theorem keeps_execShutdownDecision (cause vin s) : Keeps s (execShutdownDecision cause vin s) := by
  simp [execShutdownDecision]

@[simp] theorem lasting_powerOff (s) : (powerOff s).lasting = s.lasting := by simp [powerOff]

@[simp] theorem keeps_execFlushDone (s) : Keeps s (execFlushDone s) := by
  unfold execFlushDone; repeat' split
  all_goals simp

@[simp] theorem keeps_execHoldupExhausted (issued s) : Keeps s (execHoldupExhausted issued s) := by
  unfold execHoldupExhausted; repeat' split
  all_goals simp

@[simp] theorem keeps_execOffHoldExpiry (s) : Keeps s (execOffHoldExpiry s) := by simp [execOffHoldExpiry]

@[simp] theorem keeps_execHotSwapRetry (s) : Keeps s (execHotSwapRetry s) := by simp [execHotSwapRetry]

@[simp] theorem keeps_execBankReady (bank s) : Keeps s (execBankReady bank s) := by simp [execBankReady]

end Sys2Proof.Machine
end

section
/-! What lasts through the operations of Sys2Proof/Machine/PowerStates.lean. -/
namespace Sys2Proof.Machine

@[simp] theorem lasting_emptyPan (legend s pan) : (emptyPan legend s pan).lasting = s.lasting := by simp [emptyPan]

@[simp] theorem lasting_reloadPan (s pan) : (reloadPan s pan).lasting = s.lasting := by simp [reloadPan]

@[simp] theorem lasting_rebuildPools (s) : (rebuildPools s).lasting = s.lasting := by simp [rebuildPools]

@[simp] theorem lasting_wakeDeeper (s x) : (wakeDeeper s x).lasting = s.lasting := by simp [wakeDeeper]

@[simp] theorem lasting_endTransition (s x acc) : (endTransition s x acc).lasting = s.lasting := by simp [endTransition]

@[simp] theorem lasting_orderStandby (s x acc) : (orderStandby s x acc).lasting = s.lasting := by simp [orderStandby]

@[simp] theorem lasting_rebuildTable (s table) : (rebuildTable s table).lasting = s.lasting := by simp [rebuildTable]

@[simp] theorem lasting_rebuildRows (s) : (rebuildRows s).lasting = s.lasting := by simp [rebuildRows]

@[simp] theorem lasting_switchOff (s) : (switchOff s).lasting = s.lasting := by simp [switchOff]

@[simp] theorem lasting_endActivations (s pan) : (endActivations s pan).lasting = s.lasting := by simp [endActivations]

@[simp] theorem lasting_closeEpoch (s t) : (closeEpoch s t).lasting = s.lasting := by simp [closeEpoch]

@[simp] theorem lasting_completeEntry (s t) : (completeEntry s t).lasting = s.lasting := by simp [completeEntry]

@[simp] theorem keeps_execActivationGraceExpiry (s) : Keeps s (execActivationGraceExpiry s) := by
  unfold execActivationGraceExpiry; split <;> simp

@[simp] theorem keeps_execOffRailsOpen (s) : Keeps s (execOffRailsOpen s) := by
  unfold execOffRailsOpen; repeat' split
  all_goals simp

@[simp] theorem lasting_returnTraffic (s) : (returnTraffic s).lasting = s.lasting := by simp [returnTraffic]

@[simp] theorem lasting_leaveStandby (s x acc) : (leaveStandby s x acc).lasting = s.lasting := by simp [leaveStandby]

@[simp] theorem lasting_wakeUp (s) : (wakeUp s).lasting = s.lasting := by simp [wakeUp]

@[simp] theorem keeps_execStandbyWakeGpio (s) : Keeps s (execStandbyWakeGpio s) := by simp [execStandbyWakeGpio]

@[simp] theorem keeps_execStandbyWakeTimer (s) : Keeps s (execStandbyWakeTimer s) := by simp [execStandbyWakeTimer]

@[simp] theorem lasting_order (s k record) : (order s k record).1.lasting = s.lasting := by
  unfold order
  extract_lets x p s₁ q s₂
  have h₁ : s₁.lasting = s.lasting := by simp [s₁, p]
  have h₂ : s₂.lasting = s.lasting := by simp [s₂, q, h₁]
  repeat' split
  all_goals simp [h₁, h₂]

@[simp] theorem keeps_execPowerStateSet (c record s) : Keeps s (execPowerStateSet c record s) := by simp [execPowerStateSet]

@[simp] theorem keeps_execPowerStatus (c s) : Keeps s (execPowerStatus c s) := by simp [execPowerStatus]

end Sys2Proof.Machine
end

section
/-! What lasts through the operations of Sys2Proof/Machine/Device.lean. -/
namespace Sys2Proof.Machine

@[simp] theorem keeps_execDeviceInfo (c s) : Keeps s (execDeviceInfo c s) := by simp [execDeviceInfo]

@[simp] theorem lasting_resumeExpress (s) : (resumeExpress s).lasting = s.lasting := by simp [resumeExpress]

@[simp] theorem lasting_keepWatch (s) : (keepWatch s).lasting = s.lasting := by simp [keepWatch]

@[simp] theorem lasting_writeMeridian (s v) : (writeMeridian s v).1.lasting = s.lasting := by simp [writeMeridian]

@[simp] theorem lasting_writeSched (s pan v) : (writeSched s pan v).1.lasting = s.lasting := by simp [writeSched]

@[simp] theorem lasting_writeIssue (s index v) : (writeIssue s index v).1.lasting = s.lasting := by simp [writeIssue]

@[simp] theorem lasting_writeCcMode (s index v) : (writeCcMode s index v).1.lasting = s.lasting := by simp [writeCcMode]

@[simp] theorem lasting_writeAssign (s v) : (writeAssign s v).1.lasting = s.lasting := by simp [writeAssign]

@[simp] theorem lasting_writeIntake (s v) : (writeIntake s v).1.lasting = s.lasting := by simp [writeIntake]

@[simp] theorem keeps_execRecordWrite (c id index record s) : Keeps s (execRecordWrite c id index record s) := by
  unfold execRecordWrite; split <;> simp

@[simp] theorem keeps_execRecordRead (c id index s) : Keeps s (execRecordRead c id index s) := by
  unfold execRecordRead; refine keeps_runCommand fun k => ?_; dsimp only; repeat' split
  all_goals simp

@[simp] theorem keeps_execTamperArm (c input arm high s) : Keeps s (execTamperArm c input arm high s) := by
  unfold execTamperArm; refine keeps_runCommand fun k => ?_; dsimp only; repeat' split
  all_goals simp

@[simp] theorem lasting_dropReports (s) : (dropReports s).lasting = s.lasting := by simp [dropReports]

@[simp] theorem lasting_markReports (s o) : (markReports s o).lasting = s.lasting := by simp [markReports]

@[simp] theorem keeps_execReportRead (c s) : Keeps s (execReportRead c s) := by simp [execReportRead]

@[simp] theorem keeps_execReportAck (c s) : Keeps s (execReportAck c s) := by simp [execReportAck]

@[simp] theorem keeps_execTimeRead (c s) : Keeps s (execTimeRead c s) := by simp [execTimeRead]

end Sys2Proof.Machine
end

section
/-! What lasts through the operations of Sys2Proof/Machine/Integer.lean. -/
namespace Sys2Proof.Machine

@[simp] theorem keeps_execAdd (t a b c s) : Keeps s (execAdd t a b c s) := by simp [execAdd]

@[simp] theorem keeps_execSub (t a b c s) : Keeps s (execSub t a b c s) := by simp [execSub]

@[simp] theorem keeps_execAddt (t a b c s) : Keeps s (execAddt t a b c s) := by simp [execAddt]

@[simp] theorem keeps_execSubt (t a b c s) : Keeps s (execSubt t a b c s) := by simp [execSubt]

@[simp] theorem keeps_execNeg (t a b s) : Keeps s (execNeg t a b s) := by simp [execNeg]

@[simp] theorem keeps_execNegt (t a b s) : Keeps s (execNegt t a b s) := by
  simp (disch := (intros; (repeat' split) <;> simp)) [execNegt]

@[simp] theorem keeps_execAnd (t a b c s) : Keeps s (execAnd t a b c s) := by simp [execAnd]

@[simp] theorem keeps_execOr (t a b c s) : Keeps s (execOr t a b c s) := by simp [execOr]

@[simp] theorem keeps_execXor (t a b c s) : Keeps s (execXor t a b c s) := by simp [execXor]

@[simp] theorem keeps_execAndn (t a b c s) : Keeps s (execAndn t a b c s) := by simp [execAndn]

@[simp] theorem keeps_execSlt (t a b c s) : Keeps s (execSlt t a b c s) := by simp [execSlt]

@[simp] theorem keeps_execSltu (t a b c s) : Keeps s (execSltu t a b c s) := by simp [execSltu]

@[simp] theorem keeps_execSeq (t a b c s) : Keeps s (execSeq t a b c s) := by simp [execSeq]

@[simp] theorem keeps_execMin (t a b c s) : Keeps s (execMin t a b c s) := by simp [execMin]

@[simp] theorem keeps_execMax (t a b c s) : Keeps s (execMax t a b c s) := by simp [execMax]

@[simp] theorem keeps_execMinu (t a b c s) : Keeps s (execMinu t a b c s) := by simp [execMinu]

@[simp] theorem keeps_execMaxu (t a b c s) : Keeps s (execMaxu t a b c s) := by simp [execMaxu]

@[simp] theorem keeps_execShl (t a b c s) : Keeps s (execShl t a b c s) := by simp [execShl]

@[simp] theorem keeps_execShr (t a b c s) : Keeps s (execShr t a b c s) := by simp [execShr]

@[simp] theorem keeps_execSar (t a b c s) : Keeps s (execSar t a b c s) := by simp [execSar]

@[simp] theorem keeps_execRol (t a b c s) : Keeps s (execRol t a b c s) := by simp [execRol]

@[simp] theorem keeps_execRor (t a b c s) : Keeps s (execRor t a b c s) := by simp [execRor]

@[simp] theorem keeps_condMove (t a b c onZero s) : Keeps s (condMove t a b c onZero s) := by
  simp (disch := (intros; (repeat' split) <;> simp)) [condMove]

@[simp] theorem keeps_execCmovz (t a b c s) : Keeps s (execCmovz t a b c s) := by simp [execCmovz]

@[simp] theorem keeps_execCmovn (t a b c s) : Keeps s (execCmovn t a b c s) := by simp [execCmovn]

@[simp] theorem keeps_execClz (t a b s) : Keeps s (execClz t a b s) := by simp [execClz]

@[simp] theorem keeps_execCtz (t a b s) : Keeps s (execCtz t a b s) := by simp [execCtz]

@[simp] theorem keeps_execPopc (t a b s) : Keeps s (execPopc t a b s) := by simp [execPopc]

@[simp] theorem keeps_execBswp16 (t a b s) : Keeps s (execBswp16 t a b s) := by simp [execBswp16]

@[simp] theorem keeps_execBswp32 (t a b s) : Keeps s (execBswp32 t a b s) := by simp [execBswp32]

@[simp] theorem keeps_execBswp64 (t a b s) : Keeps s (execBswp64 t a b s) := by simp [execBswp64]

@[simp] theorem keeps_longOp (t a b c s distance) (f : Word → Word → Word × Nat) : Keeps s (longOp t a b c s distance f) := by
  simp [longOp]

@[simp] theorem keeps_execMul (t a b c s) : Keeps s (execMul t a b c s) := by simp [execMul]

@[simp] theorem keeps_execMulh (t a b c s) : Keeps s (execMulh t a b c s) := by simp [execMulh]

@[simp] theorem keeps_execMulhu (t a b c s) : Keeps s (execMulhu t a b c s) := by simp [execMulhu]

@[simp] theorem keeps_execMult (t a b c s) : Keeps s (execMult t a b c s) := by simp [execMult]

@[simp] theorem keeps_execDiv (t a b c s) : Keeps s (execDiv t a b c s) := by simp [execDiv]

@[simp] theorem keeps_execRem (t a b c s) : Keeps s (execRem t a b c s) := by simp [execRem]

@[simp] theorem keeps_execDivu (t a b c s) : Keeps s (execDivu t a b c s) := by simp [execDivu]

@[simp] theorem keeps_execRemu (t a b c s) : Keeps s (execRemu t a b c s) := by simp [execRemu]

@[simp] theorem keeps_execDivt (t a b c s) : Keeps s (execDivt t a b c s) := by simp [execDivt]

@[simp] theorem keeps_execRemt (t a b c s) : Keeps s (execRemt t a b c s) := by simp [execRemt]

@[simp] theorem keeps_aluI (t a b imm s) (f : Word → Word → Word) : Keeps s (aluI t a b imm s f) := by simp [aluI]

@[simp] theorem keeps_execAddi (t a b imm s) : Keeps s (execAddi t a b imm s) := by simp [execAddi]

@[simp] theorem keeps_execAddti (t a b imm s) : Keeps s (execAddti t a b imm s) := by
  simp (disch := (intros; (repeat' split) <;> simp)) [execAddti]

@[simp] theorem keeps_execAndi (t a b imm s) : Keeps s (execAndi t a b imm s) := by simp [execAndi]

@[simp] theorem keeps_execOri (t a b imm s) : Keeps s (execOri t a b imm s) := by simp [execOri]

@[simp] theorem keeps_execXori (t a b imm s) : Keeps s (execXori t a b imm s) := by simp [execXori]

@[simp] theorem keeps_execSlti (t a b imm s) : Keeps s (execSlti t a b imm s) := by simp [execSlti]

@[simp] theorem keeps_execSltui (t a b imm s) : Keeps s (execSltui t a b imm s) := by simp [execSltui]

@[simp] theorem keeps_execSetq0 (t a b imm s) : Keeps s (execSetq0 t a b imm s) := by simp [execSetq0]

@[simp] theorem keeps_execSetq1 (t a b imm s) : Keeps s (execSetq1 t a b imm s) := by simp [execSetq1]

@[simp] theorem keeps_execSetq2 (t a b imm s) : Keeps s (execSetq2 t a b imm s) := by simp [execSetq2]

@[simp] theorem keeps_execSetq3 (t a b imm s) : Keeps s (execSetq3 t a b imm s) := by simp [execSetq3]

@[simp] theorem keeps_execShli (t a b amount s) : Keeps s (execShli t a b amount s) := by simp [execShli]

@[simp] theorem keeps_execShri (t a b amount s) : Keeps s (execShri t a b amount s) := by simp [execShri]

@[simp] theorem keeps_execSari (t a b amount s) : Keeps s (execSari t a b amount s) := by simp [execSari]

@[simp] theorem keeps_execRoli (t a b amount s) : Keeps s (execRoli t a b amount s) := by simp [execRoli]

@[simp] theorem keeps_execExti (t a b pos len s) : Keeps s (execExti t a b pos len s) := by simp [execExti]

@[simp] theorem keeps_execExtsi (t a b pos len s) : Keeps s (execExtsi t a b pos len s) := by simp [execExtsi]

@[simp] theorem keeps_execInsi (t a b pos len s) : Keeps s (execInsi t a b pos len s) := by simp [execInsi]

@[simp] theorem keeps_boundCheck (t a srcs s) (ok : Thread → Bool) : Keeps s (boundCheck t a srcs s ok) := by
  simp (disch := (intros; (repeat' split) <;> simp)) [boundCheck]

@[simp] theorem keeps_execChk (t a b s) : Keeps s (execChk t a b s) := by simp [execChk]

@[simp] theorem keeps_execChki (t a imm s) : Keeps s (execChki t a imm s) := by simp [execChki]

@[simp] theorem keeps_execChkr (t a b c s) : Keeps s (execChkr t a b c s) := by simp [execChkr]

@[simp] theorem keeps_execPwck (t a imm s) : Keeps s (execPwck t a imm s) := by
  simp (disch := (intros; (repeat' split) <;> simp)) [execPwck]

@[simp] theorem keeps_branch (t major a off s taken) : Keeps s (branch t major a off s taken) := by
  unfold branch; exact keeps_issue fun _ _ => rfl

@[simp] theorem keeps_execBal (t a off s) : Keeps s (execBal t a off s) := by simp [execBal]

@[simp] theorem keeps_execBeqz (t a off s) : Keeps s (execBeqz t a off s) := by simp [execBeqz]

@[simp] theorem keeps_execBnez (t a off s) : Keeps s (execBnez t a off s) := by simp [execBnez]

@[simp] theorem keeps_execBltz (t a off s) : Keeps s (execBltz t a off s) := by simp [execBltz]

@[simp] theorem keeps_execBgez (t a off s) : Keeps s (execBgez t a off s) := by simp [execBgez]

@[simp] theorem keeps_execBlez (t a off s) : Keeps s (execBlez t a off s) := by simp [execBlez]

@[simp] theorem keeps_execBgtz (t a off s) : Keeps s (execBgtz t a off s) := by simp [execBgtz]

@[simp] theorem keeps_execJalr (t a b s) : Keeps s (execJalr t a b s) := by simp [execJalr]

end Sys2Proof.Machine
end

section
/-! What lasts through the operations of Sys2Proof/Machine/Zeroize.lean. -/
namespace Sys2Proof.Machine

@[simp] theorem lasting_eraseEveryKey (s) : (eraseEveryKey s).lasting = s.lasting := by simp [eraseEveryKey]

@[simp] theorem lasting_eraseContent (s) : (eraseContent s).lasting = s.lasting := by simp [eraseContent]

@[simp] theorem lasting_portsDown (s) : (portsDown s).lasting = s.lasting := by simp [portsDown]

@[simp] theorem lasting_zeroizeTraffic (s) : (zeroizeTraffic s).lasting = s.lasting := by simp [zeroizeTraffic]

@[simp] theorem keeps_execZeroizeRestart (s) : Keeps s (execZeroizeRestart s) := by simp [execZeroizeRestart]

end Sys2Proof.Machine
end

section
/-! What lasts through the operations of Sys2Proof/Machine/Ladder.lean. -/
namespace Sys2Proof.Machine

@[simp] theorem lasting_levelFour (s trigger unit failed) : (levelFour s trigger unit failed).lasting = s.lasting := by
  unfold levelFour
  extract_lets h s₁ third done marks k s₂ t s₃ s₄ p
  have h₁ : s₁.lasting = s.lasting := by simp [s₁]
  have h₂ : s₂.lasting = s.lasting := by simp [s₂, h₁]
  have h₃ : s₃.lasting = s.lasting := (lasting_setTrust _ _ rfl).trans h₂
  have h₄ : s₄.lasting = s.lasting := by simp [s₄, h₃]
  rw [lasting_settle]
  exact (lasting_setPower _ _ (by simp [p])).trans h₄

@[simp] theorem lasting_releasePan (s pan) : (releasePan s pan).lasting = s.lasting := by simp [releasePan]

@[simp] theorem lasting_resetPan (s pan) : (resetPan s pan).lasting = s.lasting := by simp [resetPan]

@[simp] theorem lasting_restTasks (all s pan) : (restTasks all s pan).lasting = s.lasting := by simp [restTasks]

@[simp] theorem lasting_tellTasks (s pan) : (tellTasks s pan).lasting = s.lasting := by simp [tellTasks]

@[simp] theorem lasting_guardPan (s pan) : (guardPan s pan).lasting = s.lasting := by simp [guardPan]

@[simp] theorem lasting_freePort (s l) : (freePort s l).lasting = s.lasting := by simp [freePort]

@[simp] theorem lasting_resetCore (s) : (resetCore s).lasting = s.lasting := by simp [resetCore]

@[simp] theorem lasting_stopPans (s pan0) : (stopPans s pan0).lasting = s.lasting := by simp [stopPans]

@[simp] theorem lasting_returnPans (s pan0) : (returnPans s pan0).lasting = s.lasting := by simp [returnPans]

@[simp] theorem lasting_levelThree (s trigger unit) : (levelThree s trigger unit).lasting = s.lasting := by simp [levelThree]

@[simp] theorem lasting_endCore (s a ok) : (endCore s a ok).lasting = s.lasting := by simp [endCore]

@[simp] theorem lasting_suspendExpress (s pan) : (suspendExpress s pan).lasting = s.lasting := by simp [suspendExpress]

@[simp] theorem lasting_returnPan (s pan) : (returnPan s pan).lasting = s.lasting := by simp [returnPan]

@[simp] theorem lasting_levelTwo (s pan trigger) : (levelTwo s pan trigger).lasting = s.lasting := by simp [levelTwo]

@[simp] theorem lasting_endPan (s pan a ok) : (endPan s pan a ok).lasting = s.lasting := by simp [endPan]

@[simp] theorem keeps_execPanContainment (pan trigger completes s) :
    Keeps s (execPanContainment pan trigger completes s) := by
  simp (disch := (intros; (repeat' split) <;> simp)) [execPanContainment]

@[simp] theorem keeps_execTrafficCoreContainment (trigger completes s) :
    Keeps s (execTrafficCoreContainment trigger completes s) := by
  simp (disch := (intros; (repeat' split) <;> simp)) [execTrafficCoreContainment]

@[simp] theorem keeps_execLegendWatchdog (s) : Keeps s (execLegendWatchdog s) := by simp [execLegendWatchdog]

@[simp] theorem keeps_execLegendFault (benchmark s) : Keeps s (execLegendFault benchmark s) := by simp [execLegendFault]

@[simp] theorem keeps_execGuardedPeriodEnd (pan s) : Keeps s (execGuardedPeriodEnd pan s) := by
  unfold execGuardedPeriodEnd; split <;> simp

end Sys2Proof.Machine
end

section
namespace Sys2Proof.Machine

/-! Commands that blow fuses: the tamper trips, DEVICE_ZEROIZE, FW_COMMIT_SVN and FW_REVOKE. -/

/-- As `s` but for fuses that were blown on the way to `u`. -/
def Burnt (s u : State) : Prop :=
  u.ident = s.ident ∧ u.pending = s.pending ∧ u.power.epochs = s.power.epochs ∧ s.trust.fuses.Burns u.trust.fuses

theorem Burnt.of_lasting {s u : State} (h : u.lasting = s.lasting) : Burnt s u :=
  ⟨congrArg Lasting.ident h, congrArg Lasting.pending h, epochs_of_lasting h,
    by rw [fuses_of_lasting h]; exact .refl _⟩

theorem Burnt.of_lasting_right {s u v : State} (h : Burnt s u) (hv : v.lasting = u.lasting) : Burnt s v := by
  obtain ⟨hi, hp, he, hf⟩ := h
  obtain ⟨hi', hp', he', hf'⟩ := Burnt.of_lasting hv
  refine ⟨hi'.trans hi, hp'.trans hp, he'.trans he, ?_⟩
  rwa [fuses_of_lasting hv]

theorem Burnt.of_lasting_left {s u v : State} (hu : u.lasting = s.lasting) (h : Burnt u v) : Burnt s v := by
  obtain ⟨hi, hp, he, hf⟩ := h
  obtain ⟨hi', hp', he', -⟩ := Burnt.of_lasting hu
  refine ⟨hi.trans hi', hp.trans hp', he.trans he', ?_⟩
  rwa [← fuses_of_lasting hu]

theorem Burnt.refl (s : State) : Burnt s s := .of_lasting rfl

theorem Burnt.setTrust {s : State} {t : Trust} (h : s.trust.fuses.Burns t.fuses) : Burnt s (s.setTrust t) :=
  ⟨rfl, rfl, rfl, h⟩

/-- A command burns what its body burns: the transport around the body keeps what lasts. -/
theorem burnt_runCommand {s : State} {c : CmdRef} {opcode : Nat} {body : Call → State → State × Ending}
    (h : ∀ k, Burnt s (body k s).1) : Burnt s (runCommand s c opcode body) := by
  obtain h' | ⟨k, h'⟩ := runCommand_lasting_cases s c opcode body
  · exact .of_lasting h'
  · exact (h k).of_lasting_right h'

theorem eraseOwners_burns (t : Trust) (trip : TripRec) : t.fuses.Burns (eraseOwners t trip).fuses := by
  refine ⟨fun ⟨hv, hm, hr⟩ => ⟨?_, hm, hr⟩, ?_, fun _ => Nat.le_refl _, fun _ => id⟩
  all_goals simp only [eraseOwners, Trust.fuses] at *; split <;> omega

theorem burnt_zeroize (s : State) (cause : Nat) : Burnt s (zeroize s cause) := by
  unfold zeroize
  split
  · exact .of_lasting (lasting_setTrust _ _ rfl)
  · extract_lets trip s₁ p s₂
    have h₁ : s₁.lasting = s.lasting := by simp [s₁]
    have h₂ : s₂.lasting = s.lasting :=
      ((lasting_setPower _ _ (by simp [p])).trans (lasting_setContain _ _)).trans h₁
    have ht : s₂.trust.fuses.Burns (eraseOwners s₂.trust trip).fuses := eraseOwners_burns _ _
    exact .of_lasting_left h₂ ((Burnt.setTrust ht).of_lasting_right (lasting_finish _))

theorem burnt_trips (s : State) (cause : Nat) : Burnt s (trips s cause) := by
  unfold trips
  split
  · exact .refl s
  · exact burnt_zeroize s cause

theorem burnt_execDeviceZeroize {c s u} (h : execDeviceZeroize c s = .next u) : Burnt s u := by
  cases h
  exact burnt_runCommand fun k => .of_lasting_left (by simp) (burnt_zeroize _ 5)

theorem burnt_execTamperTrip {input s u} (h : execTamperTrip input s = .next u) : Burnt s u := by
  unfold execTamperTrip checked at h
  split at h
  · cases h
    split
    · exact burnt_trips _ _
    · exact .refl _
  · cases h

/-- Raising one minimum SVN, to one that has a fuse for it. -/
theorem Fuses.Burns.commitSvn (f : Fuses) (m : AMap Nat) (i n : Nat) (hn : n ≤ 63) (h : f.Burns { f with minSvn := m }) :
    f.Burns { f with minSvn := AMap.put m i (max (AMap.at m i 0) n) } := by
  obtain ⟨hl, hv, hm, hr⟩ := h
  refine ⟨fun hf => ⟨(hl hf).1, fun k => ?_, (hl hf).2.2⟩, hv, fun k => ?_, hr⟩
  · have := (hl hf).2.1 k
    simp only [AMap.at_put]
    split
    · rename_i h
      exact Nat.max_le.2 ⟨h ▸ this, hn⟩
    · exact this
  · have := hm k
    simp only [AMap.at_put]
    split
    · rename_i h
      exact Nat.le_trans (h ▸ this) (Nat.le_max_left _ _)
    · exact this

theorem burns_commitSvns (f : Fuses) (l : List (Image × Nat)) (hl : ∀ i ∈ l, i.1.svn ≤ 63) (m : AMap Nat)
    (h : f.Burns { f with minSvn := m }) :
    f.Burns { f with minSvn := l.foldl (fun m i => AMap.put m (i.2 + 1) (max (AMap.at m (i.2 + 1) 0) i.1.svn)) m } := by
  induction l generalizing m with
  | nil => exact h
  | cons i l ih => exact ih (fun j hj => hl j (.tail _ hj)) _ (.commitSvn f m _ _ (hl i (.head _)) h)

theorem burnt_execFwCommitSvn {c s u} (h : execFwCommitSvn c s = .next u) : Burnt s u := by
  cases h
  refine burnt_runCommand fun k => ?_
  dsimp only
  split
  · exact .refl s
  · rename_i hok
    refine Burnt.setTrust (burns_commitSvns s.trust.fuses _ (fun i hi => ?_) s.trust.minSvn (.refl _))
    have := List.fst_mem_of_mem_zipIdx hi
    simp only [Bool.or_eq_true, List.any_eq_true, decide_eq_true_eq, not_or, not_exists, not_and] at hok
    exact Nat.not_lt.1 (hok.2 _ this)

theorem burns_revoke (f : Fuses) (signer : Nat) (hs : signer ≤ 3) :
    f.Burns { f with revoked := maskSet f.revoked signer } := by
  refine ⟨fun ⟨hv, hm, hr⟩ => ⟨hv, hm, ?_⟩, Nat.le_refl _, fun _ => Nat.le_refl _, fun k hk => by simp [maskSet, hk]⟩
  have hb : 1 <<< signer < 2 ^ 4 := by
    rw [Nat.one_shiftLeft]
    exact Nat.pow_lt_pow_right (by decide) (Nat.lt_succ_of_le hs)
  exact Nat.or_lt_two_pow (n := 4) hr hb

theorem burnt_execFwRevoke {c signer signature s u} (h : execFwRevoke c signer signature s = .next u) : Burnt s u := by
  cases h
  refine burnt_runCommand fun k => ?_
  dsimp only
  obtain ⟨hn, hg⟩ | ⟨w, -, hg⟩ := unlessBad_cases s
    [(decide (signer > 3), badOpen 0x0300 0x0B06 0),
     (!Config.sigOk 6 (Config.hash384 (beBytes 1 signer)) signature, plain 0x0304 false),
     (signerUsed s.trust signer, failWith 0x0500 3 signer)] _ <;> rw [hg]
  · have hs : signer ≤ 3 := by
      refine Nat.not_lt.1 fun h => ?_
      simp [firstBad, h] at hn
    exact Burnt.setTrust (burns_revoke _ signer hs)
  · exact .refl s

/-- The commands that may blow a fuse or move the epoch. -/
def burns : Instr → Bool
  | .powerUp .. | .zeroizeNTrip | .tamperTrip .. | .internalSensorTrip | .deviceZeroize .. | .fwCommitSvn .. | .fwRevoke .. => true
  | _ => false
/-- Every command but those seven keeps what lasts. -/
theorem keeps_exec (i : Instr) (s : State) (h : burns i = false) : Keeps s (exec i s) := by
  unfold exec
  split
  all_goals simp [burns] at h ⊢

/-- Every command but POWER_UP keeps the epoch and burns fuses at most. -/
theorem burnt_exec {i : Instr} {s u : State} (h : exec i s = .next u)
    (hi : ∀ vin copyA copyB lands, i ≠ .powerUp vin copyA copyB lands) : Burnt s u := by
  by_cases hb : burns i = true
  · cases i
    case zeroizeNTrip => cases h; exact burnt_trips s 1
    case tamperTrip input => exact burnt_execTamperTrip h
    case internalSensorTrip => cases h; exact burnt_trips s 4
    case deviceZeroize c => exact burnt_execDeviceZeroize h
    case fwCommitSvn c => exact burnt_execFwCommitSvn h
    case fwRevoke c signer signature => exact burnt_execFwRevoke h
    case powerUp => exact absurd rfl (hi _ _ _ _)
    all_goals cases hb
  · exact .of_lasting (keeps_exec i s (by simpa using hb) u h)

end Sys2Proof.Machine
end

section
namespace Sys2Proof.Machine

/-! POWER_UP: the one command that moves the epoch (R15, R485, R486). -/

/-- The run clock and the epoch of a module that starts. -/
def Epochs.started (e : Nat × Nat × Bool × Bool) : Epochs := ⟨0, e.1, e.2.1, epochOf e.1 e.2.1, e.2.2.1, e.2.2.2⟩

@[simp] theorem lasting_tripDone_settle (s : State) : (settle (tripDone s)).lasting = s.lasting := by simp

/-- A POWER_UP starts the module or changes nothing. -/
theorem execPowerUp_cases {vin : Nat} {copyA copyB : Bool} {lands : Lands} {s u : State}
    (h : exec (.powerUp vin copyA copyB lands) s = .next u) :
    ((s.power.phase ≠ .off ∨ s.power.offHeld = true ∨ vin < 35000) ∧ u = s) ∨
    u.lasting = { s.lasting with
      epochs := .started (advanceEpoch s.power.epochF s.power.epochL (copyA || copyB)) } := by
  have h : execPowerUp vin copyA copyB lands s = .next u := h
  unfold execPowerUp at h
  cases h
  split
  · rename_i hc
    exact .inl ⟨by simpa [or_assoc] using hc, rfl⟩
  · exact .inr (lasting_tripDone_settle _)

/-- The stored epoch is its fuses times 2^26 plus its low part, each in its range. -/
def Epochs.Legal (e : Epochs) : Prop := e.epoch = e.epochF * 2 ^ 26 + e.epochL ∧ e.epochF ≤ 63 ∧ e.epochL < 2 ^ 26

theorem fuseInv_iff (s : State) : FuseInv s ↔ s.power.epochs.Legal ∧ s.trust.fuses.Legal := by
  simp only [FuseInv, Epochs.Legal, Fuses.Legal, Power.epochs, Trust.fuses, and_assoc]

/-- What `advanceEpoch` does, case by case. -/
theorem advanceEpoch_cases (f l : Nat) (hf : f ≤ 63) (hl : l < 2 ^ 26) (valid : Bool) :
    (valid = true ∧ f = 63 ∧ l = 0x3FFFFFF ∧ advanceEpoch f l valid = (63, 0x3FFFFFF, true, false)) ∨
    (valid = true ∧ f < 63 ∧ l = 0x3FFFFFF ∧ advanceEpoch f l valid = (f + 1, 0, false, false)) ∨
    (valid = true ∧ l < 0x3FFFFFF ∧ advanceEpoch f l valid = (f, l + 1, false, false)) ∨
    (valid = false ∧ f < 63 ∧ advanceEpoch f l valid = (f + 1, 0, false, true)) ∨
    (valid = false ∧ f = 63 ∧ advanceEpoch f l valid = (63, 0x3FFFFFF, true, false)) := by
  have hs : epochOf f l = 0xFFFFFFFF ↔ f = 63 ∧ l = 0x3FFFFFF := by unfold epochOf; omega
  cases valid
  · by_cases h : f < 63
    · exact .inr (.inr (.inr (.inl ⟨rfl, h, by simp [advanceEpoch, h]⟩)))
    · exact .inr (.inr (.inr (.inr ⟨rfl, by omega, by simp [advanceEpoch, h]; omega⟩)))
  · by_cases h : l = 0x3FFFFFF
    · by_cases hf' : f = 63
      · exact .inl ⟨rfl, hf', h, by subst hf' h; rfl⟩
      · have hn : ¬epochOf f l = 0xFFFFFFFF := fun h => hf' (hs.1 h).1
        exact .inr (.inl ⟨rfl, by omega, h, by subst h; simp [advanceEpoch, hn]⟩)
    · have hn : ¬epochOf f l = 0xFFFFFFFF := fun h' => h (hs.1 h').2
      exact .inr (.inr (.inl ⟨rfl, by omega, by simp [advanceEpoch, hn, h]⟩))

/-- The epoch and its fuses do not move back, and stay legal. -/
theorem advanceEpoch_grows (f l : Nat) (hf : f ≤ 63) (hl : l < 2 ^ 26) (valid : Bool) :
    (Epochs.started (advanceEpoch f l valid)).Legal ∧ f ≤ (Epochs.started (advanceEpoch f l valid)).epochF ∧
      f * 2 ^ 26 + l ≤ (Epochs.started (advanceEpoch f l valid)).epoch := by
  obtain ⟨-, h₁, h₂, h⟩ | ⟨-, h₁, h₂, h⟩ | ⟨-, h₁, h⟩ | ⟨-, h₁, h⟩ | ⟨-, h₁, h⟩ := advanceEpoch_cases f l hf hl valid
  all_goals rw [h]; refine ⟨⟨rfl, ?_, ?_⟩, ?_, ?_⟩ <;> simp only [Epochs.started, epochOf] <;> omega

theorem fuses_grow_of_burnt {s u : State} (hs : FuseInv s) (h : Burnt s u) : FuseInv u ∧ FusesGrow s u := by
  obtain ⟨-, -, he, hl, hv, hm, hr⟩ := h
  rw [fuseInv_iff] at hs ⊢
  obtain ⟨-, hF, -, hE, -, -⟩ := (Power.epochs_eq_iff _ _).1 he
  exact ⟨⟨he ▸ hs.1, hl hs.2⟩, Nat.le_of_eq hE.symm, Nat.le_of_eq hF.symm, hv, hm, hr⟩

theorem fuses_grow_of_started {s u : State} {valid : Bool} (hs : FuseInv s)
    (h : u.lasting = { s.lasting with epochs := .started (advanceEpoch s.power.epochF s.power.epochL valid) }) :
    FuseInv u ∧ FusesGrow s u := by
  have he : u.power.epochs = .started (advanceEpoch s.power.epochF s.power.epochL valid) := congrArg Lasting.epochs h
  have hf : u.trust.fuses = s.trust.fuses := congrArg Lasting.fuses h
  obtain ⟨⟨hs₁, hs₂, hs₃⟩, hs₄⟩ := (fuseInv_iff s).1 hs
  obtain ⟨hl, hF, hE⟩ := advanceEpoch_grows _ _ hs₂ hs₃ valid
  obtain ⟨hv, hm, hr⟩ := (Trust.fuses_eq_iff _ _).1 hf
  refine ⟨(fuseInv_iff u).2 ⟨he ▸ hl, hf ▸ hs₄⟩, ?_, ?_, Nat.le_of_eq hv.symm, fun k => hm ▸ Nat.le_refl _, fun k hk => hr ▸ hk⟩
  · exact Nat.le_trans (Nat.le_of_eq hs₁) (he ▸ hE : _ ≤ u.power.epochs.epoch)
  · exact (he ▸ hF : _ ≤ u.power.epochs.epochF)

theorem fuses_grow_idle {s : State} (hs : FuseInv s) : FuseInv (idle s) ∧ FusesGrow s (idle s) := by
  have grow : FusesGrow s s := ⟨Nat.le_refl _, Nat.le_refl _, Nat.le_refl _, fun _ => Nat.le_refl _, fun _ => id⟩
  obtain ⟨-, h⟩ | ⟨-, h⟩ := idle_cases s
  · rw [h]; exact ⟨hs, grow⟩
  · obtain ⟨e, he⟩ := countOccupied_events s
    rw [h, he]; exact ⟨hs, grow⟩

end Sys2Proof.Machine
end

section
open Sys2Proof Sys2Proof.Machine

/-- No command moves the epoch back or mends a fuse. -/
theorem exec_fuses_grow {i : Instr} {s u : State} (hs : FuseInv s) (h : exec i s = .next u) : FuseInv u ∧ FusesGrow s u := by
  by_cases hi : ∃ vin copyA copyB lands, i = .powerUp vin copyA copyB lands
  · obtain ⟨vin, copyA, copyB, lands, rfl⟩ := hi
    obtain ⟨-, rfl⟩ | h := execPowerUp_cases h
    · exact fuses_grow_of_burnt hs (.refl _)
    · exact fuses_grow_of_started hs h
  · exact fuses_grow_of_burnt hs (burnt_exec h (by simpa using hi))

/-- Settles O58: a step idles, starts the module, or burns fuses; none mends one. -/
theorem stepKeepsFuses : Obligations.StepKeepsFuses := by
  unfold Obligations.StepKeepsFuses
  intro s u hs h
  unfold step at h
  split at h
  · cases h; exact fuses_grow_idle hs
  · rename_i c rest _
    exact exec_fuses_grow (s := { s with pending := rest }) hs h

/-- Settles O57: the queue and the identity are part of what lasts. -/
theorem execLeavesQueueAndIdentity : Obligations.ExecLeavesQueueAndIdentity := by
  unfold Obligations.ExecLeavesQueueAndIdentity
  intro i s u h
  by_cases hi : ∃ vin copyA copyB lands, i = .powerUp vin copyA copyB lands
  · obtain ⟨vin, copyA, copyB, lands, rfl⟩ := hi
    obtain ⟨-, rfl⟩ | h := execPowerUp_cases h
    · exact ⟨rfl, rfl⟩
    · exact ⟨congrArg Lasting.pending h, congrArg Lasting.ident h⟩
  · obtain ⟨hi, hp, -⟩ := burnt_exec h (by simpa using hi)
    exact ⟨hp, hi⟩

/-- Settles O56: POWER_UP by the cases of `advanceEpoch`, every other command by what lasts. -/
theorem epochAdvancesAtPowerUpOnly : Obligations.EpochAdvancesAtPowerUpOnly := by
  unfold Obligations.EpochAdvancesAtPowerUpOnly
  constructor
  · intro s u vin copyA copyB lands hs hoff hheld hvin h
    obtain ⟨h', -⟩ | h := execPowerUp_cases h
    · exact absurd h' (by simp [hoff, hheld, hvin])
    have he : u.power.epochs = _ := congrArg Lasting.epochs h
    obtain ⟨hE, hF, hL, -⟩ := hs
    obtain ⟨hv, h₁, h₂, h⟩ | ⟨hv, h₁, h₂, h⟩ | ⟨hv, h₁, h⟩ | ⟨hv, h₁, h⟩ | ⟨hv, h₁, h⟩ :=
      advanceEpoch_cases s.power.epochF s.power.epochL hF hL (copyA || copyB)
    all_goals
      rw [h, Power.epochs] at he
      simp only [Epochs.started, epochOf, Epochs.mk.injEq] at he
      obtain ⟨hc, -, -, he, hsat, hskip⟩ := he
      simp [hv, hc, he, hsat, hskip]
      omega
  · intro i s u h hi
    obtain ⟨-, -, he, -⟩ := burnt_exec h hi
    obtain ⟨hc, -, -, hE, -⟩ := (Power.epochs_eq_iff _ _).1 he
    exact ⟨hE, hc⟩
end

section
/-! Memory as bytes: what a byte and a run of bytes read after a write (R9, R122, R126, R127). -/
namespace Sys2Proof.Machine

theorem State.thread_setThread (s : State) (t u : Nat) (x : Thread) :
    (s.setThread t x).thread u = if u = t then x else s.thread u := AMap.at_put _ _ _ _ _

theorem State.pan_setPan (s : State) (p q : Nat) (x : Pan) : (s.setPan p x).pan q = if q = p then x else s.pan q :=
  AMap.at_put _ _ _ _ _

theorem State.ctx?_setCtx (s : State) (c d : Nat) (x : Ctx) :
    (s.setCtx c x).ctx? d = if d = c then some x else s.ctx? d := AMap.find_put _ _ _ _

/-- A place that holds bytes: a packet window does in a context in use alone. -/
def MemRef.InUse (s : State) (m : MemRef) : Prop := ∀ c o, m = .window c o → (s.ctx? c).isSome = true

theorem readByte_writeByte_localStore (s : State) (t o : Nat) (b : Byte) (m : MemRef) :
    readByte (writeByte s (.localStore t o) b) m = if m = .localStore t o then b else readByte s m := by
  cases m with
  | localStore u p =>
    simp only [readByte, writeByte, State.thread_setThread, MemRef.localStore.injEq]
    by_cases h : u = t
    · simp [h, AMap.at_put]
    · simp [h]
  | window c p => rfl
  | sram q p => rfl
  | dram n p => rfl

theorem readByte_writeByte_window (s : State) (c o : Nat) (b : Byte) (hc : (s.ctx? c).isSome = true) (m : MemRef) :
    readByte (writeByte s (.window c o) b) m = if m = .window c o then b else readByte s m := by
  obtain ⟨x, hx⟩ := Option.isSome_iff_exists.1 hc
  simp only [writeByte, hx]
  cases m with
  | localStore u p => rfl
  | window d p =>
    simp only [readByte, State.ctx?_setCtx, MemRef.window.injEq]
    by_cases h : d = c
    · simp [h, hx, Memory.get_set]
    · simp [h]
  | sram q p => rfl
  | dram n p => rfl

theorem readByte_writeByte_sram (s : State) (p o : Nat) (b : Byte) (m : MemRef) :
    readByte (writeByte s (.sram p o) b) m = if m = .sram p o then b else readByte s m := by
  cases m with
  | localStore u i => rfl
  | window c i => rfl
  | sram q i =>
    simp only [readByte, writeByte, State.pan_setPan, MemRef.sram.injEq]
    by_cases h : q = p
    · simp [h, Memory.get_set]
    · simp [h]
  | dram n i => rfl

theorem readByte_writeByte_dram (s : State) (n o : Nat) (b : Byte) (m : MemRef) :
    readByte (writeByte s (.dram n o) b) m = if m = .dram n o then b else readByte s m := by
  cases m with
  | localStore u i => rfl
  | window c i => rfl
  | sram q i => rfl
  | dram k i =>
    simp only [readByte, writeByte, State.setDram, AMap.at_put, MemRef.dram.injEq]
    by_cases h : k = n
    · simp [h, Memory.get_set]
    · simp [h]

/-- Read after write, at every place. -/
theorem readByte_writeByte {s : State} {m : MemRef} (hm : m.InUse s) (b : Byte) (m' : MemRef) :
    readByte (writeByte s m b) m' = if m' = m then b else readByte s m' := by
  cases m with
  | localStore t o => exact readByte_writeByte_localStore s t o b m'
  | window c o => exact readByte_writeByte_window s c o b (hm c o rfl) m'
  | sram p o => exact readByte_writeByte_sram s p o b m'
  | dram n o => exact readByte_writeByte_dram s n o b m'

/-- Writing a byte frees no context. -/
theorem inUse_writeByte {s : State} {m : MemRef} (h : m.InUse s) (r : MemRef) (b : Byte) : m.InUse (writeByte s r b) := by
  intro c o hm
  have hc := h c o hm
  cases r with
  | window d p =>
    simp only [writeByte]
    split
    · exact hc
    · rw [State.ctx?_setCtx]
      split
      · rfl
      · exact hc
  | _ => exact hc

theorem MemRef.plus_zero (m : MemRef) : m.plus 0 = m := by cases m <;> rfl

theorem MemRef.plus_plus (m : MemRef) (j k : Nat) : (m.plus j).plus k = m.plus (j + k) := by
  cases m <;> simp [MemRef.plus, Nat.add_assoc]

theorem MemRef.plus_inj (m : MemRef) {j k : Nat} : m.plus j = m.plus k ↔ j = k := by
  cases m <;> simp [MemRef.plus]

theorem inUse_plus {s : State} {m : MemRef} (h : m.InUse s) (k : Nat) : (m.plus k).InUse s := by
  intro c o hm
  cases m with
  | window d p =>
    obtain ⟨rfl, -⟩ : d = c ∧ p + k = o := by simpa [MemRef.plus] using hm
    exact h d p rfl
  | _ => cases hm

/-- Bytes written from `m` on leave every other place. -/
theorem readByte_writeBytes_ne (l : List Byte) {s : State} {m : MemRef} (hm : m.InUse s) {m' : MemRef}
    (h : ∀ k < l.length, m' ≠ m.plus k) : readByte (writeBytes s m l) m' = readByte s m' := by
  induction l generalizing s m with
  | nil => rfl
  | cons b l ih =>
    have h₀ : m' ≠ m := m.plus_zero ▸ h 0 (by simp)
    have hl : ∀ k < l.length, m' ≠ (m.plus 1).plus k := fun k hk => by
      rw [MemRef.plus_plus]; exact h (1 + k) (by simp; omega)
    rw [writeBytes, ih (inUse_plus (inUse_writeByte hm m b) 1) hl, readByte_writeByte hm, if_neg h₀]

/-- Bytes written from `m` on are read there. -/
theorem readBytes_writeBytes (l : List Byte) {s : State} {m : MemRef} (hm : m.InUse s) :
    readBytes (writeBytes s m l) m l.length = l := by
  induction l generalizing s m with
  | nil => rfl
  | cons b l ih =>
    have hu : (m.plus 1).InUse (writeByte s m b) := inUse_plus (inUse_writeByte hm m b) 1
    have hb : readByte (writeBytes (writeByte s m b) (m.plus 1) l) m = b := by
      rw [readByte_writeBytes_ne l hu, readByte_writeByte hm, if_pos rfl]
      intro k _
      rw [MemRef.plus_plus]
      intro h
      have := m.plus_inj.1 (m.plus_zero.trans h)
      omega
    have hl := ih hu
    simp only [readBytes, MemRef.plus_plus] at hl
    simp only [readBytes, writeBytes, List.length_cons, List.range_succ_eq_map, List.map_cons, List.map_map,
      MemRef.plus_zero, hb]
    congr 1
    refine Eq.trans ?_ hl
    exact List.map_congr_left fun k _ => by simp [Nat.add_comm]

/-- A number written little-endian is read back as far as its bytes reach. -/
theorem readMem_writeMem {s : State} {m : MemRef} (hm : m.InUse s) (n v : Nat) :
    readMem (writeMem s m n v) m n = v % 2 ^ (8 * n) := by
  have h := readBytes_writeBytes (leBytes n v) hm
  rw [leBytes_length] at h
  rw [readMem, writeMem, h, leNat_leBytes, Nat.pow_mul]

theorem AMap.mem_of_find {α : Type} {m : AMap α} {a : Nat} {x : α} (h : AMap.find m a = some x) : (a, x) ∈ m := by
  induction m with
  | nil => cases h
  | cons p m ih =>
    obtain ⟨k, v⟩ := p
    rw [AMap.find_cons] at h
    split at h
    · cases h; subst k; exact .head _
    · exact .tail _ (ih h)

/-- In canonical form an address is listed when its byte is not zero. -/
theorem Memory.find_of_wf {m : Memory} (h : m.wf = true) (a : Nat) :
    AMap.find m a = if m.get a = 0 then none else some (m.get a) := by
  obtain ⟨-, hz⟩ := (Memory.wf_iff m).1 h
  unfold Memory.get AMap.at
  cases hf : AMap.find m a with
  | none => rfl
  | some b =>
    exact (if_neg (hz (a, b) (AMap.mem_of_find hf))).symm

/-- Memories in canonical form that read alike are equal. -/
theorem Memory.ext_of_wf {m m' : Memory} (h : m.wf = true) (h' : m'.wf = true) (hg : ∀ a, m.get a = m'.get a) : m = m' := by
  refine AMap.ext_of_rising ((Memory.wf_iff m).1 h).1 ((Memory.wf_iff m').1 h').1 fun a => ?_
  rw [find_of_wf h, find_of_wf h', hg]

end Sys2Proof.Machine
end

section
open Sys2Proof Sys2Proof.Machine

/-- Settles O50: read after write region by region, runs of bytes by induction, equality by the rising addresses. -/
theorem memoryReadsWhatWasWritten : Obligations.MemoryReadsWhatWasWritten := by
  unfold Obligations.MemoryReadsWhatWasWritten
  exact ⟨fun s m b hm => ⟨readByte_writeByte hm b, readMem_writeMem hm⟩, fun _ a b h => Memory.set_wf h a b,
    fun _ _ => Memory.ext_of_wf⟩

end

section
/-! The device's own commands (R341, R342, R366, R367, R409, R487): what a served one does, and the writers of the records. -/
namespace Sys2Proof.Machine

/-- A served command whose body ends it is concluded as the body says. -/
theorem served_done {s u : State} {c : CmdRef} {opcode : Nat} {e : Entry} {w : Status} {data : List Byte}
    {body : Call → State → State × Ending} (h : Served s c opcode e)
    (hb : body ⟨c.acc, actor s e, ownerOf s e == some operatorId, e⟩ s = (u, .done w data)) :
    Host.Outcome.next (runCommand s c opcode body) = concludes c w data u := by
  rw [run_served h, hb]; rfl

theorem unlessBad_of_none {s : State} {l : List (Bool × Status)} {go : State × Ending} (h : firstBad l = none) :
    unlessBad s l go = go := by
  rw [unlessBad, h]

/-- What the write of record `id` does once its selector is legal. -/
def recordWriter (s : State) (id index : Nat) (v : BitVec 128) : State × Ending :=
  match id with
  | 1 => writeMeridian s v
  | 2 => writeSched s index v
  | 3 => writeIssue s index v
  | 4 => writeCcMode s index v
  | 5 => writeAssign s v
  | _ => writeIntake s v

theorem selector_legal {e : Entry} {id index : Nat} (he : be16At e.payload 2 = 0)
    (h : firstBad (selectorBad id index) = none) : firstBad (selectorReserved e ++ selectorBad id index) = none := by
  simp [selectorReserved, he, h]

/-- A RECORD_WRITE with a legal selector that its writer lets pass stores the record. -/
theorem exec_recordWrite_served {s u : State} {c : CmdRef} {e : Entry} {id index : Nat} {v : BitVec 128}
    (h : Served s c 0x0101 e) (he : be16At e.payload 2 = 0) (hi : firstBad (selectorBad id index) = none)
    (hw : [1, 2, 6].contains id = true ∨ fld v 64 64 = 0) (hu : recordWriter s id index v = okDone u) :
    exec (.recordWrite c id index v) s = applied c u := by
  refine served_done h ?_
  dsimp only
  rw [unlessBad_of_none]
  · exact hu
  · have hn : (!([1, 2, 6].contains id) && fld v 64 64 != 0) = false := by
      rcases hw with hw | hw
      · rw [hw]; rfl
      · simp [hw]
    rw [firstBad_append, selector_legal he hi, hn]; rfl

theorem fld_eq_zero_of_lt {n : Nat} {v : BitVec n} {k lo w : Nat} (hv : v.toNat < 2 ^ k) (hk : k ≤ lo) : fld v lo w = 0 := by
  have : v.toNat < 2 ^ lo := Nat.lt_of_lt_of_le hv (Nat.pow_le_pow_right (by decide) hk)
  simp [fld, bitsOf, Nat.shiftRight_eq_div_pow, Nat.div_eq_of_lt this]

theorem writeMeridian_passes {s : State} {v : BitVec 128} (hv : firstBad (meridianBad v) = none)
    (hx : s.meridian.ctxs.any (fun c => c.2.express) = false) :
    writeMeridian s v = okDone (keepWatch
      (if fld v 0 1 ≠ (if expressEn s then 1 else 0) ∨ fld v 4 4 ≠ watchPan s then
        resumeExpress (s.setMeridian { s.meridian with cfg := v })
      else s.setMeridian { s.meridian with cfg := v })) := by
  have hmoves : (bit v 0 != expressEn s || fld v 4 4 != watchPan s) = true ↔
      fld v 0 1 ≠ (if expressEn s then 1 else 0) ∨ fld v 4 4 ≠ watchPan s := by
    have := fld_lt v 0 1
    rw [bit_eq_fld]
    cases expressEn s
    · simp; omega
    · simp
  unfold writeMeridian
  dsimp only
  rw [unlessBad_of_none]
  · simp only [hmoves]
  · rw [firstBad_append, hv, hx, Bool.and_false]; rfl

theorem rangeBad_false {n : Nat} {v : BitVec n} {offset lo w a b : Nat} (ha : a ≤ fld v lo w) (hb : fld v lo w ≤ b) :
    (rangeBad v offset lo w a b).1 = false := by
  simp [rangeBad, ha, hb]

theorem writeSched_passes {s : State} {index : Nat} {v : BitVec 128}
    (hr : firstBad (reservedBad v [(23, 1), (58, 6), (77, 3), (96, 32)] 8) = none)
    (h₁ : 250 ≤ fld v 0 20) (h₂ : fld v 0 20 ≤ 1000000) (h₃ : fld v 20 3 ≤ 6) (h₄ : 10 ≤ fld v 40 16) (h₅ : fld v 40 16 ≤ 10000)
    (h₆ : fld v 56 2 ≤ 2) (h₇ : fld v 80 4 ≤ fld v 84 4) :
    writeSched s index v = okDone (s.setPan index { s.pan index with sched := v }) := by
  have h₈ : fld v 84 4 ≤ 15 := Nat.le_of_lt_succ (fld_lt v 84 4)
  refine unlessBad_of_none ?_
  rw [firstBad_append, hr, Option.none_or, firstBad_none]
  simp only [List.forall_mem_cons, List.not_mem_nil, false_imp_iff, implies_true, and_true]
  exact ⟨rangeBad_false h₁ h₂, rangeBad_false (Nat.zero_le _) h₃, rangeBad_false h₄ h₅, rangeBad_false (Nat.zero_le _) h₆,
    rangeBad_false h₇ h₈⟩

theorem writeIssue_passes {s : State} {index : Nat} {v : BitVec 128} (hv : v.toNat < 16)
    (hw : ¬(expressEn s = true ∧ index / 30 = watchPan s ∧ fld v 0 4 ≠ 1)) :
    writeIssue s index v = okDone (s.setPan (index / 30) { s.pan (index / 30) with
      peIssue := AMap.put (s.pan (index / 30)).peIssue (index % 30) (v.truncate 64) }) := by
  refine unlessBad_of_none ?_
  rw [firstBad_none]
  have hz : fld v 4 60 = 0 := fld_eq_zero_of_lt (k := 4) hv (Nat.le_refl _)
  simp only [not_and] at hw
  simpa [reservedBad, hz] using hw

theorem writeCcMode_passes {s : State} {index : Nat} {v : BitVec 128} (hv : v.toNat < 2)
    (hb : v = 0 ∨ (index % 2 = 1 ∧ ¬(index = 1 ∧ bitsOf s.legend.ccAssign 1 1 = 1))) :
    writeCcMode s index v = okDone (applyCcMode (s.setPan (index / 2) { s.pan (index / 2) with
      ccPending := AMap.put (s.pan (index / 2)).ccPending (30 + index % 2) (v.truncate 64) }) (index / 2) (30 + index % 2)) := by
  refine unlessBad_of_none ?_
  rw [firstBad_none]
  have hz : fld v 1 63 = 0 := fld_eq_zero_of_lt (k := 1) hv (Nat.le_refl _)
  have hbar : (bit v 0 && (30 + index % 2 == 30 || (index / 2 == 0 && bitsOf s.legend.ccAssign 1 1 == 1))) = false := by
    rcases hb with rfl | ⟨ho, ha⟩
    · rfl
    · have : index % 2 ≠ 0 ∧ (index / 2 = 0 → index = 1) := by omega
      simp_all
  simp [reservedBad, hz, hbar]

theorem writeAssign_passes {s : State} {v : BitVec 128} (hv : v.toNat = 1 ∨ v.toNat = 3) :
    writeAssign s v = okDone (s.setLegend { s.legend with ccAssignNext := v.toNat }) := by
  have hz : fld v 2 62 = 0 := fld_eq_zero_of_lt (k := 2) (by omega) (Nat.le_refl _)
  have hf : fld v 0 2 = v.toNat := by rcases hv with h | h <;> simp [fld, bitsOf, h]
  unfold writeAssign
  rw [hf, unlessBad_of_none]
  rw [firstBad_none]
  rcases hv with h | h <;> simp [reservedBad, hz, h]

theorem writeIntake_passes {s : State} {v : BitVec 128}
    (hr : firstBad (reservedBad v [(3, 1), (15, 1), (23, 9), (40, 8), (95, 1), (113, 15)] 8) = none)
    (h₁ : 100 ≤ fld v 4 11) (h₂ : fld v 4 11 ≤ 1150) (h₃ : fld v 32 8 = 0 ∨ (10 ≤ fld v 32 8 ∧ fld v 32 8 ≤ 36))
    (hl : firstBad (intakeLiveBad s.power v) = none) :
    writeIntake s v =
      let high := decide (s.power.pin > fld v 4 11)
      let kept := BitVec.ofNat 128 (fld v 0 15 +
        ((fld s.power.intake 16 7 &&& (127 - fld v 16 7)) ||| (if s.power.warning = true then 1 else 0)) * 2 ^ 16 + fld v 32 8 * 2 ^ 32)
      let u := s.setPower { s.power with intake := kept, powerHigh := high, syncOut := syncOutLevel (fld v 32 8) (now s) }
      okDone (syncAlert (if high && !s.power.powerHigh then noteSeen u 19 0x003 else u)) := by
  refine unlessBad_of_none ?_
  have hn : (fld v 32 8 != 0 && (decide (fld v 32 8 < 10) || decide (fld v 32 8 > 36))) = false := by
    rcases h₃ with h | ⟨h, h'⟩
    · simp [h]
    · simp [Nat.not_lt.2 h, Nat.not_lt.2 h']
  rw [firstBad_append, firstBad_append, hr, hl, Option.none_or, Option.or_none, firstBad_none]
  simp only [List.forall_mem_cons, List.not_mem_nil, false_imp_iff, implies_true, and_true]
  exact ⟨rangeBad_false h₁ h₂, hn⟩

end Sys2Proof.Machine
end

section
open Sys2Proof Sys2Proof.Machine

/-- Settles O45: each served command ends as its body says; a record's writer passes where its tests hold. -/
theorem deviceCommandsComplete : Obligations.DeviceCommandsComplete := by
  unfold Obligations.DeviceCommandsComplete
  intro s c e me stamped op
  refine ⟨fun h => served_done h rfl, fun h he index v => ⟨?_, ?_, ?_, ?_, ?_, ?_⟩, fun h he id index hi => ?_,
    fun h input arm high hin hah => ?_, fun h => served_done h rfl, fun h => served_done h rfl, fun h => served_done h rfl⟩
  · rintro - hv hx
    exact exec_recordWrite_served h he rfl (.inl rfl) (writeMeridian_passes hv hx)
  · intro hi hr h₁ h₂ h₃ h₄ h₅ h₆ h₇
    have hs : firstBad (selectorBad 2 index) = none := by simp [selectorBad, Nat.not_le.2 hi]
    exact exec_recordWrite_served h he hs (.inl rfl) (writeSched_passes hr h₁ h₂ h₃ h₄ h₅ h₆ h₇)
  · intro hi hv hw
    have hs : firstBad (selectorBad 3 index) = none := by simp [selectorBad, Nat.not_le.2 hi]
    exact exec_recordWrite_served h he hs (.inr (fld_eq_zero_of_lt (k := 4) hv (by decide))) (writeIssue_passes hv hw)
  · intro hi hv hb
    have hs : firstBad (selectorBad 4 index) = none := by simp [selectorBad, Nat.not_le.2 hi]
    exact exec_recordWrite_served h he hs (.inr (fld_eq_zero_of_lt (k := 1) hv (by decide))) (writeCcMode_passes hv hb)
  · rintro - hv
    exact exec_recordWrite_served h he rfl (.inr (fld_eq_zero_of_lt (k := 2) (by omega) (by decide))) (writeAssign_passes hv)
  · rintro - hr h₁ h₂ h₃ hl
    exact exec_recordWrite_served h he rfl (.inl rfl) (writeIntake_passes hr h₁ h₂ h₃ hl)
  · refine served_done h ?_
    dsimp only
    rw [unlessBad_of_none (selector_legal he hi)]
    simp [okRead]
  · refine served_done h ?_
    dsimp only
    rw [unlessBad_of_none]
    · simp [okDone]
    · have : (arm && high) = false := by simpa using hah
      simp [this, hin, firstBad_none]

end

section
/-! Going down and coming up (R15, R340, R341, R466 …): what each command does in the phase that it is for. -/
namespace Sys2Proof.Machine

theorem powered_of_flushing {s : State} (h : s.power.phase = .flushing) : powered s = true := by
  simp [powered, h]

/-- A decision whose cause holds, on a powered module. -/
theorem exec_shutdownDecision_holds {s : State} {cause vin : Nat} (hp : powered s = true) (h₁ : 1 ≤ cause) (h₂ : cause ≤ 3)
    (hc : causeHolds s cause vin = true) :
    exec (.shutdownDecision cause vin) s =
      .next (if s.power.phase == .flushing then joinDecision s cause else settle (decideShutdown (noteVin s vin) cause)) := by
  change execShutdownDecision cause vin s = _
  simp [execShutdownDecision, checked, h₁, h₂, hp, hc]

/-- A further decision is the earlier one's when it falls in its cycle with a lower cause. -/
theorem joinDecision_some {s : State} {e : JournalEntry} (cause : Nat) (hj : s.stk.flushing = some e) :
    joinDecision s cause =
      if e.time.ns / 250 = now s / 250 ∧ cause < e.cause then s.setStk { s.stk with flushing := some { e with cause := cause } }
      else s := by
  simp [joinDecision, hj]

theorem joinDecision_none {s : State} (cause : Nat) (hj : s.stk.flushing = none) : joinDecision s cause = s := by
  simp [joinDecision, hj]

theorem exec_flushDone_some {s : State} {e : JournalEntry} (h : s.power.phase = .flushing) (hj : s.stk.flushing = some e) :
    exec .flushDone s = .next (powerOff (journalAdd s (.entry s.power.epoch (commitJournal e)))) := by
  change execFlushDone s = _
  simp [execFlushDone, h, hj]

theorem exec_flushDone_none {s : State} (h : s.power.phase = .flushing) (hj : s.stk.flushing = none) :
    exec .flushDone s = .next (powerOff s) := by
  change execFlushDone s = _
  simp [execFlushDone, h, hj]

theorem exec_holdupExhausted_some {s : State} {e : JournalEntry} (h : s.power.phase = .flushing)
    (hj : s.stk.flushing = some e) :
    exec (.holdupExhausted true) s = .next (powerOff (journalAdd s (.entry s.power.epoch e))) := by
  change execHoldupExhausted true s = _
  simp [execHoldupExhausted, h, hj]

theorem exec_holdupExhausted_none {s : State} (issued : Bool) (h : s.power.phase = .flushing) (hj : s.stk.flushing = none) :
    exec (.holdupExhausted issued) s = .next (powerOff s) := by
  change execHoldupExhausted issued s = _
  simp [execHoldupExhausted, h, hj]

theorem exec_holdupExhausted_unissued {s : State} (h : s.power.phase = .flushing) :
    exec (.holdupExhausted false) s = .next (powerOff s) := by
  change execHoldupExhausted false s = _
  simp [execHoldupExhausted, h]

theorem exec_offHoldExpiry_off {s : State} (h : s.power.phase = .off) :
    exec .offHoldExpiry s = .next (s.setPower { s.power with offHeld := false }) := by
  change execOffHoldExpiry s = _
  simp [execOffHoldExpiry, h]

theorem exec_hotSwapRetry_off {s : State} (h : s.power.phase = .off) (hh : s.power.offHeld = false) :
    exec .hotSwapRetry s = .next (s.setPower { s.power with hotSwapFailed := s.power.hotSwapFailed + 1 }) := by
  change execHotSwapRetry s = _
  simp [execHotSwapRetry, h, hh]

/-- A POWER_UP starts when the module is OFF, the hold is over and the input is there. -/
theorem powerUp_starts {s : State} {vin : Nat} (h : s.power.phase = .off) (hh : s.power.offHeld = false) (hv : 35000 ≤ vin) :
    (s.power.phase != .off || s.power.offHeld || decide (vin < 35000)) = false := by
  simp [h, hh, hv]

end Sys2Proof.Machine
end

section
open Sys2Proof Sys2Proof.Machine

/-- Settles O33: each command in the phase it is for, by its arm. -/
theorem powerDownAndUpComplete : Obligations.PowerDownAndUpComplete := by
  unfold Obligations.PowerDownAndUpComplete
  intro s
  refine ⟨fun hp hf cause vin h₁ h₂ hc => ?_, fun hf => ⟨?_, ?_, exec_holdupExhausted_unissued hf,
    fun cause vin h₁ h₂ hc => ?_⟩, fun ho => ⟨exec_offHoldExpiry_off ho, fun hh =>
    ⟨exec_hotSwapRetry_off ho hh, fun vin copyA copyB lands hv => ?_⟩⟩⟩
  · rw [exec_shutdownDecision_holds hp h₁ h₂ hc, if_neg (by simpa using hf)]
  · cases hj : s.stk.flushing with
    | none => exact exec_flushDone_none hf hj
    | some e => exact exec_flushDone_some hf hj
  · cases hj : s.stk.flushing with
    | none => exact exec_holdupExhausted_none true hf hj
    | some e => exact exec_holdupExhausted_some hf hj
  · rw [exec_shutdownDecision_holds (powered_of_flushing hf) h₁ h₂ hc, if_pos (by simp [hf])]
    cases hj : s.stk.flushing with
    | none => exact congrArg _ (joinDecision_none cause hj)
    | some e => exact congrArg _ (joinDecision_some cause hj)
  · intro e u ports events survey host
    change execPowerUp vin copyA copyB lands s = _
    unfold execPowerUp
    rw [powerUp_starts ho hh hv]
    rfl

end

section
/-! What Meridian and the task schedulers do on their own (R27, R99, R100, R102, R112, R114, R117, R189): each command where it is
due. -/
namespace Sys2Proof.Machine

theorem checked_of {ok : Bool} {s : State} (h : ok = true) : checked ok s = .next s := if_pos h

theorem exec_descriptorIntake_serves {s : State} (h : serves s = true) : exec .descriptorIntake s = acts (intake s) :=
  congrArg Host.Outcome.next (if_pos h)

/-- The head of a domain's part of the wait store goes once it has waited for PARK_LIFETIME (R100). -/
theorem exec_waitExpired_due {s : State} {express : Bool} {domain : Nat} {d : Desc} {rest : List Desc}
    (hok : okDomain domain = true) (hw : (s.dom (domKey express domain)).waiting = d :: rest) (hd : d.taken + parkNs s ≤ now s) :
    exec (.waitExpired express domain) s =
      let u := s.setDom (domKey express domain) { s.dom (domKey express domain) with waiting := rest }
      let v := discardDesc u d 0x54
      acts (drainWait (waitUsed v) v) := by
  refine (checked_of hok).trans ?_
  simp [hw, Nat.not_lt.2 hd, acts]

theorem exec_queueExpired_due {s : State} {port prio : Nat} {d : Desc} {rest : List Desc} (hport : okPort port = true)
    (hprio : okQueue prio = true) (hq : soq s (8 * port + prio) = d :: rest) (hd : d.headSince + parkNs s ≤ now s) :
    exec (.queueExpired port prio) s = acts (discardDesc (popSoq s (8 * port + prio)) d 0x53) := by
  refine (checked_of (by simp [hport, hprio])).trans ?_
  simp [hq, Nat.not_lt.2 hd, acts]

/-- A packet whose lifetime is over fails once, unless it is ending already and waits for no egress (R105). -/
theorem exec_lifetimeExpiry_due {s : State} {c : Nat} {x : Ctx} (hok : okCtx c = true) (hx : s.ctx? c = some x)
    (hl : x.state ≠ .ending ∨ x.waitEgress = true) (hd : x.lifeEnd ≤ now s) :
    exec (.lifetimeExpiry c) s =
      acts (failCtx (raiseFirst (markLateReads (markLate s x) c) (cid 5 x.desc.tenant 0x222) 0x0E1 1 0) c 0x22 false 6) := by
  refine (checked_of hok).trans ?_
  have hlive : (x.state == .ending && !x.waitEgress) = false := by
    rcases hl with h | h <;> simp [h]
  simp [hx, hlive, Nat.not_lt.2 hd, acts]

theorem exec_unwindComplete_unwinding {s : State} {c : Nat} {x : Ctx} (hok : okCtx c = true) (hx : s.ctx? c = some x)
    (hu : x.state = .unwind) :
    exec (.unwindComplete c) s =
      let u := s.setMeridian { s.meridian with unwindDue := AMap.del s.meridian.unwindDue c }
      let y := { x with state := CtxState.ready }
      acts (readyCtx (u.setCtx c y) c y true) := by
  refine (checked_of hok).trans ?_
  simp [hx, hu, acts]

/-- The oldest packet of a domain commits when it is finished, or its run has ended, without failure (R114). -/
theorem exec_commit_finished {s : State} {express : Bool} {domain c : Nat} {rest : List Nat} {x : Ctx}
    (hok : okDomain domain = true) (hf : (s.dom (domKey express domain)).flight = c :: rest) (hx : s.ctx? c = some x)
    (hs : x.state = .done ∨ x.state = .ending) (hn : x.failed = none) :
    exec (.commit express domain) s = acts (commit s c) := by
  refine (checked_of hok).trans ?_
  simp [hf, hx, hs, hn, acts]

/-- A thread that no free thread of its core's kind comes before takes the first entry (R189). -/
theorem exec_taskDispatch_takes {s : State} {t : Nat} {e : ReadyEntry} (hok : okTid t = true) (hs : serves s = true)
    (ha : panAwake s (tidPan t) = true) (hp : panServes s (tidPan t) = true) (hd : dispatchable s t = true)
    (hn : ∀ u ∈ earlierThreads t, dispatchable s u = false) (he : firstEntry s (tidPan t) (onCc t) = some e) :
    exec (.taskDispatch t) s = acts (takeEntry s t e) := by
  refine (checked_of hok).trans ?_
  have hfirst : (earlierThreads t).any (dispatchable s) = false := by simpa using hn
  simp [hs, ha, hp, hd, hfirst, he, acts]

theorem exec_expressDispatch_takes {s : State} {t : Nat} {e : ReadyEntry} (hs : serves s = true)
    (ha : panAwake s (watchPan s) = true) (hp : panServes s (watchPan s) = true)
    (he : (AMap.at (s.pan (watchPan s)).ready 0 []).find? (fun e => !e.cc) = some e) (ht : urgentThread s = some t) :
    exec .expressDispatch s = acts (takeEntry s t e) := by
  refine congrArg Host.Outcome.next ?_
  simp [hs, ha, hp, he, ht]

theorem exec_panWake_due {s : State} {p : Nat} {since cost : Ns} (hok : okPan p = true)
    (hw : (s.pan p).power = .waking since cost) (hd : since + cost ≤ now s) :
    exec (.panWake p) s = .next (s.setPan p { s.pan p with power := .awake, idleSince := now s }) := by
  refine (checked_of hok).trans ?_
  simp [hw, Nat.not_lt.2 hd]

/-- A Pan beside Pan 0 that is awake or clock-gated sleeps once it has been idle long enough (R479). -/
theorem exec_panGate_idle {s : State} {p : Nat} {g : PanPower} {after : Ns} (hok : okPan p = true) (h0 : p ≠ 0)
    (hg : gateOf s p = some (g, after)) (ha : (s.pan p).power = .awake ∨ (s.pan p).power = .clockGated)
    (hi : panIdle s p = true) (hd : (s.pan p).idleSince + after ≤ now s) :
    exec (.panGate p) s = .next (s.setPan p { s.pan p with power := g }) := by
  refine (checked_of hok).trans ?_
  simp [hg, h0, ha, hi, hd]

end Sys2Proof.Machine
end

section
open Sys2Proof Sys2Proof.Machine

/-- Settles O18: each command where it is due, by its arm. -/
theorem schedulingEventsComplete : Obligations.SchedulingEventsComplete := by
  unfold Obligations.SchedulingEventsComplete
  exact ⟨fun _ => exec_descriptorIntake_serves, fun _ _ _ _ _ => exec_waitExpired_due, fun _ _ _ _ _ => exec_queueExpired_due,
    fun _ _ _ => exec_lifetimeExpiry_due, fun _ _ _ => exec_unwindComplete_unwinding,
    fun _ _ _ _ _ _ => exec_commit_finished, fun _ _ _ => exec_taskDispatch_takes, fun _ _ _ => exec_expressDispatch_takes,
    fun _ _ _ _ => exec_panWake_due, fun _ _ _ _ => exec_panGate_idle⟩

end

section
/-! Commands on tables (R239–R262, R273): what a served one does to a table of its caller. -/
namespace Sys2Proof.Machine

/-- A served command is concluded as its body ends. -/
theorem served_runs {s : State} {c : CmdRef} {opcode : Nat} {e : Entry} {r : State × Ending}
    {body : Call → State → State × Ending} (h : Served s c opcode e)
    (hb : body ⟨c.acc, actor s e, ownerOf s e == some operatorId, e⟩ s = r) :
    runCommand s c opcode body = settle (conclude c.acc r) := by
  rw [run_served h, hb]

/-- A served command that its body leaves executing goes on. -/
theorem served_goesOn {s u : State} {c : CmdRef} {opcode : Nat} {e : Entry} {body : Call → State → State × Ending}
    (h : Served s c opcode e) (hb : body ⟨c.acc, actor s e, ownerOf s e == some operatorId, e⟩ s = (u, .later)) :
    Host.Outcome.next (runCommand s c opcode body) = goesOn c u :=
  congrArg Host.Outcome.next (served_runs h hb)

/-- A test that is not violated lets the next ones decide. -/
theorem firstBad_cons_of_false {b : Bool} {w : Status} {l : List (Bool × Status)} (hb : b = false) (hl : firstBad l = none) :
    firstBad ((b, w) :: l) = none :=
  firstBad_none.2 (List.forall_mem_cons.2 ⟨hb, firstBad_none.1 hl⟩)

/-- The kinds of table that have entries: TCAM, LPM and DIRECT (R239). -/
theorem mem_entryKinds {k : Nat} (h : k ≤ 2) : k ∈ [0, 1, 2] := by
  simp only [List.mem_cons, List.not_mem_nil, or_false]
  omega

/-- The caller of a table command reaches its own table of a fitting kind. -/
theorem withTable_owned {s : State} {k : Call} {table : Nat} {t : Table} {kinds : List Nat} (go : Table → State × Ending)
    (hf : AMap.find s.gaz.tables table = some t) (ho : t.owner = k.owner) (hk : t.kind ∈ kinds) :
    withTable s k table kinds go = go t := by
  simp [withTable, hf, ho, hk]

/-- Two values with equal bits 0 to 7 have equal bits 0 to 4 and 5 to 7. -/
theorem fld_parts_of_byte {n : Nat} {v w : BitVec n} (h : fld v 0 8 = fld w 0 8) :
    fld v 0 5 = fld w 0 5 ∧ fld v 5 3 = fld w 5 3 := by
  simp only [fld, bitsOf, Nat.shiftRight_eq_div_pow] at h ⊢
  omega

/-- A valid new table that its owner and the device have room for is added, a FLOW table under fresh seeds (R239). -/
theorem exec_tableCreate_passes {s : State} {c : CmdRef} {e : Entry} {table : Nat} {x : TableSpec} (h : Served s c 0x0501 e)
    (hf : AMap.find s.gaz.tables table = none) (ht : table < 2 ^ 16) (hx : firstBad (specBad s x) = none)
    (hl : (s.gaz.tables.filter (fun t => t.2.kind == x.kind)).length < kindLimit x.kind) :
    let me := actor s e
    let n := if x.kind < 2 then max 1 (ceilDiv (x.rows * x.width) 4096) else 0
    let banks := (freeBanks s (ruleBanks s)).take n
    let new := tableFrom me x (now s)
    n ≤ banks.length → firstBad (growTests s me .empty new) = none →
    let a := fresh s
    let b := fresh a.2
    let seed1 := a.1.toNat % 2 ^ 32
    let seed2 := b.1.toNat % 2 ^ 32
    let stored := if x.kind = 3 then
        { new with banks := banks, cfg := setFld new.cfg 64 64 (seed1 + seed2 * 2 ^ 32), filterSeed := seed1 }
      else { new with banks := banks, filterSeed := 0 }
    let u := if x.kind = 3 then b.2 else s
    exec (.tableCreate c table x) s = applied c { u with gaz := { u.gaz with
      tables := AMap.put u.gaz.tables table stored,
      banks := banks.foldl (fun m b => AMap.put m b { Bank.reset with lastSearch := now s }) u.gaz.banks } } := by
  intro me n banks new hn hg a b seed1 seed2 stored u
  refine served_done h ?_
  unfold createTable
  simp only [hf]
  rw [unlessBad_of_none (firstBad_cons_of_false (decide_eq_false (Nat.not_le.2 ht)) hx), unlessBad_of_none]
  · by_cases hk : x.kind = 3
    · simp [hk, stored, u, okDone, seed1, seed2, a, b, banks, n, new, me]
    · simp [hk, stored, u, okDone, banks, n, new, me]
  · exact firstBad_cons_of_false (decide_eq_false (Nat.not_le.2 hl)) (firstBad_cons_of_false (decide_eq_false (Nat.not_lt.2 hn)) hg)

theorem exec_tableDelete_absent {s : State} {c : CmdRef} {e : Entry} {table : Nat} (h : Served s c 0x0502 e)
    (hf : AMap.find s.gaz.tables table = none) : exec (.tableDelete c table) s = concludes c (plain 3 false) [] s :=
  served_done h (by simp only [hf]; rfl)

section Owned
variable {s : State} {c : CmdRef} {e : Entry} {table : Nat} {t : Table}
  (hf : AMap.find s.gaz.tables table = some t) (ho : t.owner = actor s e)
include hf ho

theorem exec_tableDelete_owned (h : Served s c 0x0502 e) :
    exec (.tableDelete c table) s = applied c (nextMove (removeTable s table)) :=
  served_done h (by simp [hf, ho, okDone])

theorem exec_entryWrite_owned {x : EntrySpec} (hk : t.kind < 2)
    (hp : t.kind = 0 ∨ x.plen ≤ (if t.width = 1 then 32 else 128)) (h : Served s c 0x0503 e) :
    exec (.entryWrite c table x) s =
      goesOn c (s.setTable table { t with batch := t.batch ++ [.write c.acc (entryFrom t x)] }) := by
  refine served_goesOn h ((withTable_owned _ hf ho (mem_entryKinds hk.le)).trans ?_)
  have hlong : (t.kind == 1 && decide (x.plen > (if t.width == 1 then 32 else 128))) = false := by
    rcases hp with hp | hp
    · simp [hp]
    · simpa using fun _ => hp
  rw [if_neg (by simpa using hk.ne), hlong]
  rfl

theorem exec_entryDelete_owned {n : Nat} (hk : t.kind < 2) (h : Served s c 0x0504 e) :
    exec (.entryDelete c table n) s = goesOn c (s.setTable table { t with batch := t.batch ++ [.delete c.acc n] }) := by
  refine served_goesOn h ((withTable_owned _ hf ho (mem_entryKinds hk.le)).trans ?_)
  rw [if_neg (by simpa using hk.ne)]
  rfl

theorem exec_entryWrite_direct {x : EntrySpec} (hk : t.kind = 2) (hw : x.words.length = t.entryWords)
    (hi : x.id < 2 ^ t.indexBits) (hz : fld (x.words.getD 0 0) 1 23 = 0) (h : Served s c 0x0503 e) :
    exec (.entryWrite c table x) s =
      goesOn c (s.setTable table { t with batch := t.batch ++ [.writeDirect c.acc x.id x.words] }) := by
  refine served_goesOn h ((withTable_owned _ hf ho (by simp [hk])).trans ?_)
  rw [if_pos (by simp [hk])]
  refine unlessBad_of_none (firstBad_none.2 ?_)
  simpa [hw, hi] using hz

theorem exec_entryDelete_direct {n : Nat} (hk : t.kind = 2) (hi : n < 2 ^ t.indexBits) (h : Served s c 0x0504 e) :
    exec (.entryDelete c table n) s = goesOn c (s.setTable table { t with batch := t.batch ++ [.deleteDirect c.acc n] }) := by
  refine served_goesOn h ((withTable_owned _ hf ho (by simp [hk])).trans ?_)
  rw [if_pos (by simp [hk])]
  exact unlessBad_of_none (firstBad_none.2 (by simp [hi]))

theorem exec_entryRead_owned {first count : Nat} (hk : t.kind ≤ 2) (h : Served s c 0x0505 e) :
    exec (.entryRead c table first count) s =
      replies c ((((encodedEntries t).drop first).take count).flatten.take replyMax) s :=
  served_done h (withTable_owned _ hf ho (mem_entryKinds hk))

theorem exec_tableCompare_owned {first : Nat} {crcs : List Nat} (hk : t.kind ≤ 2) (h : Served s c 0x050C e) :
    exec (.tableCompare c table first crcs) s =
      replies c (((differingBlocks (encodedEntries t) first crcs).map (beBytes 4)).flatten.take replyMax) s :=
  served_done h (withTable_owned _ hf ho (mem_entryKinds hk))

theorem exec_flowInsert_owned {key : List Byte} {record : List Word} (hk : t.kind = 3) (hl : key.length = 8 * keyWords t)
    (hr : record.length ≤ 16) (h : Served s c 0x0506 e) :
    let u := s.setMeridian { s.meridian with writes := s.meridian.writes ++ [.insert table key record c.acc] }
    exec (.flowInsert c table key record) s = .next (finish (settle (conclude c.acc (u, .later)))) := by
  refine congrArg (fun u => Host.Outcome.next (finish u)) (served_runs h ((withTable_owned _ hf ho (by simp [hk])).trans ?_))
  exact unlessBad_of_none (firstBad_none.2 (by simp [hl, hr]))

theorem exec_flowDelete_owned {key : List Byte} (hk : t.kind = 3) (hl : key.length = 8 * keyWords t)
    (hp : flowFind t key ≠ none) (h : Served s c 0x0507 e) :
    let u := s.setMeridian { s.meridian with writes := s.meridian.writes ++ [.delete table key (some c.acc)] }
    exec (.flowDelete c table key) s = .next (finish (settle (conclude c.acc (u, .later)))) := by
  refine congrArg (fun u => Host.Outcome.next (finish u)) (served_runs h ((withTable_owned _ hf ho (by simp [hk])).trans ?_))
  rw [unlessBad_of_none (firstBad_none.2 (by simp [hl])), if_neg (by simpa using hp)]

/-- A configuration that changes only fields marked live is stored (R256). -/
theorem exec_flowCfgWrite_owned {v : BitVec 128} (hk : t.kind = 3) (hv : firstBad (flowCfgBad s v 8) = none)
    (h₀ : fld v 0 8 = fld t.cfg 0 8) (h₈ : fld v 8 1 = fld t.cfg 8 1) (h₁₀ : fld v 10 1 = fld t.cfg 10 1)
    (h₅₁ : fld v 51 6 = fld t.cfg 51 6) (h : Served s c 0x050A e) :
    exec (.flowCfgWrite c table v) s = applied c (s.setTable table { t with cfg := setFld v 64 64 (fld t.cfg 64 64) }) := by
  refine served_done h ((withTable_owned _ hf ho (by simp [hk])).trans ?_)
  obtain ⟨ha, hb⟩ := fld_parts_of_byte h₀
  refine unlessBad_of_none ?_
  rw [firstBad_append, hv, Option.none_or, firstBad_none]
  simp [ha, hb, h₈, h₁₀, h₅₁]

theorem exec_rehash_owned (hk : t.kind = 3) (hr : t.rehash = none) (h : Served s c 0x050B e) :
    let a := fresh s
    let b := fresh a.2
    let t' := { t with rehash := some ⟨a.1.toNat % 2 ^ 32, b.1.toNat % 2 ^ 32, [], some c.acc⟩ }
    firstBad (growTests s t.owner t t') = none → exec (.rehash c table) s = goesOn c (b.2.setTable table t') :=
  fun hg => served_goesOn h ((withTable_owned _ hf ho (by simp [hk])).trans 
    (unlessBad_of_none (firstBad_cons_of_false (by rw [hr]; rfl) hg)))

/-- Words of a live record beside its key are written between two commits (R261). -/
theorem exec_stateWrite_owned {i w : Nat} {vs : List Word} (hk : t.kind = 3 ∨ t.kind = 4) (hi : i < tableSize t)
    (hw : w + vs.length ≤ 16) (hkey : t.kind = 4 ∨ keyWords t ≤ w) (hl : recordLive t i = true) (h : Served s c 0x0508 e) :
    let ws := vs.zipIdx.map (fun v => (w + v.2, v.1))
    let u := s.setMeridian { s.meridian with writes := s.meridian.writes ++ [.words table i ws (some c.acc)] }
    exec (.stateWrite c table i w vs) s = .next (finish (settle (conclude c.acc (u, .later)))) := by
  refine congrArg (fun u => Host.Outcome.next (finish u)) (served_runs h ((withTable_owned _ hf ho (by simpa using hk)).trans ?_))
  have hbeside : (t.kind == 3 && decide (w < keyWords t)) = false := by
    rcases hkey with hkey | hkey
    · simp [hkey]
    · simp [Nat.not_lt.2 hkey]
  refine unlessBad_of_none (firstBad_none.2 ?_)
  simp [hi, hw, hbeside, hl]

theorem exec_stateRead_owned {i w n : Nat} (hk : t.kind = 3 ∨ t.kind = 4) (hi : i < tableSize t) (hw : w + n ≤ 16)
    (hp : t.poison = []) (h : Served s c 0x0509 e) :
    exec (.stateRead c table i w n) s = replies c (wordBytes (((recordOf t i).drop w).take n)) s := by
  refine served_done h ((withTable_owned _ hf ho (by simpa using hk)).trans ?_)
  exact unlessBad_of_none (firstBad_none.2 (by simp [hi, hw, hp]))

end Owned

/-- The operator reads every bank under the partition's id (R243). -/
theorem exec_tableRead_partition {s : State} {c : CmdRef} {e : Entry} (h : Served s c 0x050D e)
    (ho : (ownerOf s e == some operatorId) = true) :
    exec (.tableRead c 0xFFFFFFFF) s = replies c (((List.range 64).map (fun b => beBytes 8 (gazBank s b))).flatten ++
      beBytes 4 ((s.sluice.scopeRules ++ s.sluice.rules).filter (fun r => r.dead)).length) s :=
  served_done h (if_pos ho)

/-- A GAZ record with every field in range and rule banks for the rules that are installed (R247, R273). -/
structure GazFits (s : State) (v : BitVec 64) : Prop where
  reserved : fld v 3 1 = 0 ∧ fld v 14 2 = 0 ∧ fld v 26 6 = 0 ∧ fld v 46 2 = 0
  ruleBanks : 1 ≤ fld v 0 3 ∧ fld v 0 3 ≤ 5 ∧ rulesTake s ≤ fld v 0 3
  timeout : 1 ≤ fld v 4 10 ∧ fld v 4 10 ≤ 1000
  cap : fld v 4 10 ≤ fld v 16 10 ∧ fld v 16 10 ≤ 1000
  scrub : 10 ≤ fld v 32 14 ∧ fld v 32 14 ≤ 10000

/-- A GAZ record that fits, and leaves the tables their banks, is stored (R247, R273). -/
theorem exec_gazWrite_fits {s : State} {c : CmdRef} {e : Entry} {v : BitVec 64} (h : Served s c 0x0500 e) (hv : GazFits s v)
    (hm : fld v 0 3 = ruleBanks s ∨ firstUnmovable (64 - partitionBanks (fld v 0 3)) s.gaz.tables 0 = none) :
    let tables := if fld v 0 3 == ruleBanks s then s.gaz.tables else movedTables s (fld v 0 3)
    let u := { s with gaz := { s.gaz with cfg := v, tables := tables } }
    exec (.gazWrite c v) s = applied c (if fld v 0 3 == ruleBanks s then u
      else setClsPresence true (tables.foldl (fun u t => setPresence true u t.1) u)) := by
  obtain ⟨⟨h₃, h₁₄, h₂₆, h₄₆⟩, ⟨hn₁, hn₂, hr⟩, ⟨ha₁, ha₂⟩, ⟨hb₁, hb₂⟩, ⟨hc₁, hc₂⟩⟩ := hv
  refine served_done h (unlessBad_of_none ?_)
  have hmove : (fld v 0 3 != ruleBanks s && (firstUnmovable (64 - partitionBanks (fld v 0 3)) s.gaz.tables 0).isSome) = false := by
    rcases hm with hm | hm <;> simp [hm]
  have hreserved : firstBad (reservedBad v [(3, 1), (14, 2), (26, 6), (46, 2)] 0) = none := by
    simp [reservedBad, h₃, h₁₄, h₂₆, h₄₆]
  rw [firstBad_append, hreserved, Option.none_or, firstBad_none]
  simp only [List.forall_mem_cons, List.not_mem_nil, false_imp_iff, implies_true, and_true]
  exact ⟨by simp [hn₂, Nat.ne_of_gt hn₁], by simp [ha₂, Nat.ne_of_gt ha₁], by simp [hb₁, hb₂], by simp [hc₁, hc₂], by simp [hr],
    hmove⟩

end Sys2Proof.Machine
end

section
open Sys2Proof Sys2Proof.Machine

/-- Settles O24: each served command where its tests pass. -/
theorem tableCommandsComplete : Obligations.TableCommandsComplete := by
  unfold Obligations.TableCommandsComplete
  intro s c e table me op
  refine ⟨fun h _ hf ht hx hl => exec_tableCreate_passes h hf ht hx hl, exec_tableDelete_absent, fun t hf ho =>
    ⟨exec_tableDelete_owned hf ho,
    fun hk => ⟨fun h _ hp => exec_entryWrite_owned hf ho hk hp h, fun h _ => exec_entryDelete_owned hf ho hk h⟩,
    fun hk => ⟨fun h _ hw hi hz => exec_entryWrite_direct hf ho hk hw hi hz h, fun h _ hi => exec_entryDelete_direct hf ho hk hi h⟩,
    fun hk => ⟨fun h _ _ => exec_entryRead_owned hf ho hk h, fun h _ _ => exec_tableCompare_owned hf ho hk h⟩,
    fun hk => ⟨fun h _ _ hl hr => exec_flowInsert_owned hf ho hk hl hr h, fun h _ hl hp => exec_flowDelete_owned hf ho hk hl hp h,
      fun h _ hv h₀ h₈ h₁₀ h₅₁ => exec_flowCfgWrite_owned hf ho hk hv h₀ h₈ h₁₀ h₅₁ h, fun h hr => exec_rehash_owned hf ho hk hr h⟩,
    fun hk => ⟨fun h _ _ _ hi hw hkey hl => exec_stateWrite_owned hf ho hk hi hw hkey hl h,
      fun h _ _ _ hi hw hp => exec_stateRead_owned hf ho hk hi hw hp h⟩⟩,
    exec_tableRead_partition, fun h v h₃ h₁₄ h₂₆ h₄₆ hn₁ hn₂ ha₁ ha₂ hb₁ hb₂ hc₁ hc₂ hr => ?_⟩
  have hv : GazFits s v := ⟨⟨h₃, h₁₄, h₂₆, h₄₆⟩, ⟨hn₁, hn₂, hr⟩, ⟨ha₁, ha₂⟩, ⟨hb₁, hb₂⟩, ⟨hc₁, hc₂⟩⟩
  refine ⟨fun hs => ?_, fun hs hm => ?_⟩
  · simpa [hs] using exec_gazWrite_fits h hv (.inl hs)
  · simpa [hs] using exec_gazWrite_fits h hv (.inr hm)

end

section
/-! Events of tables and banks (R245, R248, R249, R251, R264, R269, R271): each command where it is due. -/
namespace Sys2Proof.Machine

theorem table_of_find {s : State} {table : Nat} {t : Table} (hf : AMap.find s.gaz.tables table = some t) : s.table table = t := by
  simp [State.table, AMap.at, hf]

/-- A command that is not late is not withdrawn. -/
theorem expireLate_of_inTime {s : State} {acc : Nat} (h : ∀ e, AMap.find s.legend.flight acc = some e → pastDeadline s e = false) :
    expireLate s acc = s := by
  unfold expireLate
  cases hf : AMap.find s.legend.flight acc with
  | none => rfl
  | some e => simp [h e hf]

theorem foldl_expireLate_of_inTime {s : State} {accs : List Nat}
    (h : ∀ a ∈ accs, ∀ e, AMap.find s.legend.flight a = some e → pastDeadline s e = false) : accs.foldl expireLate s = s := by
  induction accs with
  | nil => rfl
  | cons a accs ih =>
    rw [List.foldl_cons, expireLate_of_inTime (h a (by simp)), ih fun b hb => h b (by simp [hb])]

/-- A batch that no older context holds back is published without the commands that are late (R248, R400). -/
theorem exec_viewPublish_due {s : State} {table : Nat} {t : Table} (hf : AMap.find s.gaz.tables table = some t) (hk : t.kind ≤ 2)
    (hb : t.batch ≠ []) (hv : viewHeld s t = false) :
    let u := (t.batch.map (·.acc)).foldl expireLate s
    exec (.viewPublish table) s = acts (publishBatch u table (u.table table)) := by
  refine congrArg Host.Outcome.next ?_
  simp [hf, Nat.not_lt.2 hk, hb, hv]

theorem exec_viewPublish_inTime {s : State} {table : Nat} {t : Table} (hf : AMap.find s.gaz.tables table = some t) (hk : t.kind ≤ 2)
    (hb : t.batch ≠ []) (hv : viewHeld s t = false)
    (ht : ∀ x ∈ t.batch, ∀ e, AMap.find s.legend.flight x.acc = some e → pastDeadline s e = false) :
    exec (.viewPublish table) s = acts (publishBatch s table t) := by
  rw [exec_viewPublish_due hf hk hb hv, foldl_expireLate_of_inTime, table_of_find hf]
  simpa using ht

section FalseHit
variable {s : State} {bank entry n table : Nat} {t : Table} {r : TEntry}
  (hok : okBank bank = true) (hp : partitionBanks (ruleBanks s) ≤ bank) (ho : bankOwner s bank = some (table, t, n))
  (hr : (physicalRows t).find? (fun e => e.row == n * perBank t + entry) = some r) (he : entry < perBank t)
include hok hp ho hr he

theorem exec_falseHitRewrite_heals (hi : imageOf t r = none) :
    exec (.falseHitRewrite bank entry) s = acts (healEntry table s r) := by
  refine (checked_of hok).trans ?_
  simp [Nat.not_lt.2 hp, ho, hr, Nat.not_le.2 he, hi, acts]

theorem exec_falseHitRewrite_rewrites (hi : imageOf t r ≠ none) (hb : r.bad ≠ none) :
    exec (.falseHitRewrite bank entry) s =
      acts (raiseDev (bankCount (s.setTable table (t.setEntry { r with bad := none })) false bank) (0x200 + bank) 1 0) := by
  refine (checked_of hok).trans ?_
  simp [Nat.not_lt.2 hp, ho, hr, Nat.not_le.2 he, hi, hb, acts]

end FalseHit

theorem exec_scrubSweep_table {s : State} {table : Nat} {t : Table} (hc : table ≠ 0xFFFFFFFF)
    (hf : AMap.find s.gaz.tables table = some t) :
    (t.kind < 2 → exec (.scrubSweep table) s = acts (sweepTable s table t)) ∧
      (t.kind = 2 → exec (.scrubSweep table) s = acts (sweepDirect s table t)) := by
  refine ⟨fun hk => congrArg Host.Outcome.next ?_, fun hk => congrArg Host.Outcome.next ?_⟩
  · simp [hc, hf, hk]
  · simp [hc, hf, hk]

/-- A bank with rows that may sleep does so once it has not been searched for BANK_IDLE_US (R271). -/
theorem exec_bankSleep_idle {s : State} {bank : Nat} (hok : okBank bank = true) :
    let k := AMap.at s.gaz.banks bank .reset
    0 < fld s.gaz.cfg 48 16 → k.asleep = false → bankUsed s bank ≠ 0 → bankPinned s bank = false →
    k.lastSearch + 1000 * fld s.gaz.cfg 48 16 ≤ now s →
    exec (.bankSleep bank) s = .next { s with gaz := { s.gaz with banks := AMap.put s.gaz.banks bank { k with asleep := true } } } := by
  intro k hi ha hu hp hd
  refine (checked_of hok).trans ?_
  simp [Nat.pos_iff_ne_zero.1 hi, k, ha, hu, hp, Nat.not_lt.2 hd]

/-- Every key has moved: the table stands on the new array, and its cold filter, if any, is rebuilt (R264, R331). -/
theorem exec_rehashComplete_moved {s : State} {table : Nat} {t : Table} {r : Rehash} {bs : AMap (AMap Way)}
    (hf : AMap.find s.gaz.tables table = some t) (hr : t.rehash = some r) (hm : moveAll t r (storedWays t) r.buckets = some bs) :
    let moved := { t with
      cfg := setFld t.cfg 64 64 (r.seed1 + r.seed2 * 2 ^ 32), buckets := bs, stash := [], rehash := none, requestRaised := false,
      poison := t.poison.filter (fun l => decide (l < 2 * tableSize t)) ++
        (t.poison.filter (fun l => decide (newBucketLine t 0 ≤ l) && decide (l < stashLine t 0))).map (fun l => l - bucketCount t) }
    (coldEn t = false ∨ filterLog t = 0 → exec (.rehashComplete table) s = acts (endOk (s.setTable table moved) r.acc)) ∧
    (coldEn t = true → filterLog t ≠ 0 → exec (.rehashComplete table) s =
      acts (startRebuild (s.setTable table { moved with rebuildAccs := t.rebuildAccs ++ r.acc.toList }) table)) := by
  intro moved
  refine ⟨fun hw => congrArg Host.Outcome.next ?_, fun hc hl => congrArg Host.Outcome.next ?_⟩
  · have hw : (coldEn t && filterLog t != 0) = false := by rcases hw with hw | hw <;> simp [hw]
    simp only [hf, hr, hm, hw]
    rfl
  · have hw : (coldEn t && filterLog t != 0) = true := by simp [hc, hl]
    simp only [hf, hr, hm, hw]
    rfl

end Sys2Proof.Machine
end

section
open Sys2Proof Sys2Proof.Machine

/-- Settles O25: each command where it is due, by its arm. -/
theorem tableEventsComplete : Obligations.TableEventsComplete := by
  unfold Obligations.TableEventsComplete
  exact ⟨fun _ _ _ hf hk hb hv => ⟨exec_viewPublish_due hf hk hb hv, exec_viewPublish_inTime hf hk hb hv⟩,
    fun _ _ _ _ _ _ _ hok hp ho hr he =>
      ⟨exec_falseHitRewrite_heals hok hp ho hr he, exec_falseHitRewrite_rewrites hok hp ho hr he⟩,
    fun _ => rfl, fun _ _ _ => exec_scrubSweep_table, fun _ _ => exec_bankSleep_idle,
    fun _ _ _ _ _ => exec_rehashComplete_moved⟩

end

section
/-! Commands of programs, environment records, persistent tasks and message queues (R22, R93, R175, R182, R184, R200, R408): what a
served one does to what its caller owns. -/
namespace Sys2Proof.Machine

/-- A new program whose tests pass is installed in its first version (R408). -/
theorem exec_programLoad_new {s : State} {c : CmdRef} {e : Entry} {x : ProgSpec} (h : Served s c 0x0400 e)
    (hf : AMap.find s.legend.programs x.id = none) (hx : firstBad (programBad s (actor s e) x) = none) :
    exec (.programLoad c x) s = applied c (installProgram s x.id (progFrom (actor s e) 0 x)) := by
  refine served_done h ?_
  simp only [hf]
  exact unlessBad_of_none hx

section Program
variable {s : State} {c : CmdRef} {e : Entry} {id : Nat} {p : Prog}
  (hf : AMap.find s.legend.programs id = some p) (ho : p.owner = actor s e)
include hf ho

theorem exec_programLoad_same {x : ProgSpec} (hid : id = x.id) (h : Served s c 0x0400 e) (hd : p.digest = x.digest) :
    exec (.programLoad c x) s = concludes c (plain 2 false) [] s := by
  subst hid
  exact served_done h (by simp [hf, ho, hd, ends])

/-- Another image under the same id is its next version (R22). -/
theorem exec_programLoad_next {x : ProgSpec} (hid : id = x.id) (h : Served s c 0x0400 e) (hd : p.digest ≠ x.digest)
    (hx : firstBad (programBad s (actor s e) x) = none) :
    exec (.programLoad c x) s =
      applied c (installProgram (supersede s x.id p) x.id (progFrom (actor s e) (p.version + 1) x)) := by
  subst hid
  refine served_done h ?_
  simp only [hf, ho, bne_self_eq_false, beq_eq_false_iff_ne.2 hd, Bool.false_eq_true, if_false]
  exact unlessBad_of_none hx

theorem exec_programUnload_unused (h : Served s c 0x0401 e) (hu : programUsed s id = false) :
    exec (.programUnload c id) s = applied c (removeProgram s id) :=
  served_done h (by simp [hf, ho, hu, okDone])

/-- The caller of a program command reaches its own program. -/
theorem withProgram_owned (go : Prog → State × Ending) :
    withProgram s ⟨c.acc, actor s e, ownerOf s e == some operatorId, e⟩ id go = go p := by
  simp [withProgram, hf, ho]

theorem exec_programRead_owned (h : Served s c 0x0402 e) : exec (.programRead c id) s = replies c (programData p) s :=
  served_done h (withProgram_owned hf ho _)

theorem exec_slowPathSet_owned (h : Served s c 0x0403 e) : exec (.slowPathSet c id) s =
    applied c (s.setSluice { s.sluice with slowPrograms := AMap.put s.sluice.slowPrograms (actor s e) id }) :=
  served_done h (withProgram_owned hf ho _)

theorem exec_guardSelect_owned {on : Bool} (h : Served s c 0x0C03 e) : exec (.guardSelect c id on) s =
    applied c { s with legend := { s.legend with programs := AMap.put s.legend.programs id { p with guardSelected := on } } } :=
  served_done h (withProgram_owned hf ho _)

end Program

theorem exec_programUnload_absent {s : State} {c : CmdRef} {e : Entry} {id : Nat} (h : Served s c 0x0401 e)
    (hf : AMap.find s.legend.programs id = none) : exec (.programUnload c id) s = concludes c (plain 3 false) [] s :=
  served_done h (by simp only [hf]; rfl)

/-- A legal environment record that no running task uses is stored (R182). -/
theorem exec_envWrite_passes {s : State} {c : CmdRef} {e : Entry} {pan r : Nat} {ws : List Word} (h : Served s c 0x0404 e)
    (hl : ws.length = 12) (hp : pan ≤ 15) (hr : r ≤ 255) (hf : envForeign s (actor s e) pan r = false)
    (hb : firstBad (envBad ws) = none) (hn : envRunning s pan r = false) :
    exec (.envWrite c pan r ws) s =
      applied c (s.setPan pan { s.pan pan with envs := AMap.put (s.pan pan).envs r (actor s e, ws) }) := by
  refine served_done h ((if_neg (by simp [hl])).trans (unlessBad_of_none ?_))
  rw [firstBad_append, firstBad_append, hb, hf, hn, decide_eq_false (Nat.not_lt.2 hp), decide_eq_false (Nat.not_lt.2 hr)]
  rfl

theorem exec_taskCreate_new {s : State} {c : CmdRef} {e : Entry} {key pan : Nat} {d : BitVec 384} (h : Served s c 0x0405 e)
    (hk : taskByKey s (actor s e) key = none)
    (hd : firstBad (descBad s (actor s e) pan d ++ taskLimits s (actor s e) pan) = none) :
    let r := createTask s (actor s e) key pan (taskDesc (actor s e) d)
    exec (.taskCreate c key pan d) s = concludes c (plain 0 true) (beBytes 4 r.2) r.1 := by
  refine served_done h ?_
  simp only [hk]
  exact unlessBad_of_none hd

theorem exec_taskCreate_same {s : State} {c : CmdRef} {e : Entry} {key pan slot : Nat} {d : BitVec 384} {t : PTask}
    (h : Served s c 0x0405 e) (hk : taskByKey s (actor s e) key = some (pan, slot, t)) (hd : t.desc = taskDesc (actor s e) d) :
    exec (.taskCreate c key pan d) s = concludes c (plain 2 false) (beBytes 4 (taskHandle pan slot t.gen)) s :=
  served_done h (by simp [hk, hd])

section Task
variable {s : State} {c : CmdRef} {e : Entry} {h pan slot : Nat} {t : PTask}
  (hf : taskByHandle s h = some (pan, slot, t)) (ho : t.owner = actor s e)
include hf ho

/-- The caller of a task command reaches its own task. -/
theorem withTask_owned (absent : Nat) (go : Nat → Nat → PTask → State × Ending) :
    withTask s ⟨c.acc, actor s e, ownerOf s e == some operatorId, e⟩ h absent go = go pan slot t := by
  simp [withTask, hf, ho]

/-- A task is deleted at once, or when its activation ends (R184). -/
theorem exec_taskDelete_owned (hs : Served s c 0x0406 e) : exec (.taskDelete c h) s =
    if t.state = .running ∨ t.state = .faulted then applied c (s.setTask pan slot { t with deleting := true })
    else applied c (dropTask (readyDrop s pan (.persistent pan slot)) pan slot t) := by
  split
  case isTrue ha => exact served_done hs ((withTask_owned hf ho _ _).trans (if_pos (by simpa using ha)))
  case isFalse ha => exact served_done hs ((withTask_owned hf ho _ _).trans (if_neg (by simpa using ha)))

/-- TASK_ACTIVATE acts by the task's state (R184). -/
theorem exec_taskActivate_owned (hs : Served s c 0x0407 e) :
    (t.state = .idle → exec (.taskActivate c h) s = applied c (activate s pan slot t)) ∧
    (t.state = .ready → exec (.taskActivate c h) s = applied c s) ∧
    (t.state = .running → exec (.taskActivate c h) s = applied c (s.setTask pan slot { t with pendingAct := true })) ∧
    (t.state = .faulted ∨ t.state = .disabled → exec (.taskActivate c h) s = concludes c (failWith 0x0503 3 h) [] s) := by
  refine ⟨fun ha => ?_, fun ha => ?_, fun ha => ?_, ?_⟩
  · exact served_done hs ((withTask_owned hf ho _ _).trans (by simp only [ha]; rfl))
  · exact served_done hs ((withTask_owned hf ho _ _).trans (by simp only [ha]; rfl))
  · exact served_done hs ((withTask_owned hf ho _ _).trans (by simp only [ha]; rfl))
  · rintro (ha | ha)
    · exact served_done hs ((withTask_owned hf ho _ _).trans (by simp only [ha]; rfl))
    · exact served_done hs ((withTask_owned hf ho _ _).trans (by simp only [ha]; rfl))

/-- TASK_ENABLE starts a disabled task whose flags match, makes another one idle, and leaves one that is enabled (R184). -/
theorem exec_taskEnable_owned (hs : Served s c 0x0408 e) :
    (t.state = .disabled → t.flags &&& wakeMask t ≠ 0 → exec (.taskEnable c h) s = applied c (activate s pan slot t)) ∧
    (t.state = .disabled → t.flags &&& wakeMask t = 0 →
      exec (.taskEnable c h) s = applied c (s.setTask pan slot { t with state := .idle })) ∧
    (t.state ≠ .disabled → exec (.taskEnable c h) s = applied c s) := by
  refine ⟨fun ha hw => ?_, fun ha hw => ?_, fun ha => ?_⟩
  · exact served_done hs ((withTask_owned hf ho _ _).trans ((if_pos (by simp [ha])).trans (if_pos (by simpa using hw))))
  · exact served_done hs ((withTask_owned hf ho _ _).trans ((if_pos (by simp [ha])).trans (if_neg (by simpa using hw))))
  · exact served_done hs ((withTask_owned hf ho _ _).trans (if_neg (by simpa using ha)))

theorem exec_taskRead_owned (hs : Served s c 0x040B e) : exec (.taskRead c h) s =
    replies c (packBytes [(1, taskStateCode t.state), (1, effPrio s (.persistent pan slot) (taskPrio t)), (1, b2n t.pendingAct),
      (1, b2n t.deleting), (4, t.flags), (4, t.ownerKey), (48, t.desc.toNat)]) s :=
  served_done hs (withTask_owned hf ho _ _)

end Task

/-- The two numbers of a message queue command are in range. -/
theorem msgqNumbers_legal {pan q : Nat} (hp : pan ≤ 15) (hq : q ≤ 1023) :
    firstBad [(decide (pan > 15), badField 0x0300 0 32), (decide (q > 1023), badField 0x0300 0 0)] = none := by
  simp [firstBad_none, hp, hq]

/-- A queue that its owner's quota and the Pan have room for is made (R200). -/
theorem exec_msgqCreate_passes {s : State} {c : CmdRef} {e : Entry} {pan q depth : Nat} (h : Served s c 0x0409 e)
    (hp : pan ≤ 15) (hq : q ≤ 1023) (hd₁ : 4 ≤ depth) (hd₂ : depth ≤ 256) (hf : msgqOf s pan q = none)
    (hm : msgqEntries ((s.pan pan).msgqs.filter (fun x => x.2.owner == actor s e)) + depth ≤ ownerQuota s (actor s e) 60 2)
    (ha : msgqEntries (s.pan pan).msgqs + depth ≤ 16384) :
    exec (.msgqCreate c pan q depth) s =
      applied c (setMsgq s pan q { owner := actor s e, depth := depth, entries := [], held := [] }) := by
  refine served_done h ((unlessBad_of_none (firstBad_none.2 ?_)).trans ?_)
  · simp [hp, hq, hd₁, hd₂]
  · simp only [hf]
    exact unlessBad_of_none (firstBad_none.2 (by simp [hm, ha]))

theorem exec_msgqDelete_absent {s : State} {c : CmdRef} {e : Entry} {pan q : Nat} (h : Served s c 0x040A e) (hp : pan ≤ 15)
    (hq : q ≤ 1023) (hf : msgqOf s pan q = none) : exec (.msgqDelete c pan q) s = concludes c (plain 3 false) [] s :=
  served_done h ((unlessBad_of_none (msgqNumbers_legal hp hq)).trans (by simp only [hf]; rfl))

theorem exec_msgqDelete_unbound {s : State} {c : CmdRef} {e : Entry} {pan q : Nat} {m : MsgQ} (h : Served s c 0x040A e)
    (hp : pan ≤ 15) (hq : q ≤ 1023) (hf : msgqOf s pan q = some m) (ho : m.owner = actor s e) (hb : queueBound s pan q = false) :
    exec (.msgqDelete c pan q) s = applied c (s.setPan pan { s.pan pan with msgqs := AMap.del (s.pan pan).msgqs q }) :=
  served_done h ((unlessBad_of_none (msgqNumbers_legal hp hq)).trans (by simp [hf, ho, hb, okDone]))

end Sys2Proof.Machine
end

section
open Sys2Proof Sys2Proof.Machine

/-- Settles O26: each served command by what its caller owns and where its tests pass. -/
theorem programCommandsComplete : Obligations.ProgramCommandsComplete := by
  unfold Obligations.ProgramCommandsComplete
  intro s c e me
  exact ⟨fun h x => ⟨exec_programLoad_new h, fun old hf ho => ⟨exec_programLoad_same hf ho rfl h, exec_programLoad_next hf ho rfl h⟩⟩,
    fun id p hf ho => ⟨exec_programUnload_unused hf ho, exec_programRead_owned hf ho, exec_slowPathSet_owned hf ho,
      fun h _ => exec_guardSelect_owned hf ho h⟩,
    fun h _ => exec_programUnload_absent h, fun h _ _ _ => exec_envWrite_passes h,
    fun h _ _ _ => ⟨exec_taskCreate_new h, fun _ _ => exec_taskCreate_same h⟩,
    fun _ _ _ _ hf ho => ⟨exec_taskDelete_owned hf ho, exec_taskActivate_owned hf ho, exec_taskEnable_owned hf ho,
      exec_taskRead_owned hf ho⟩,
    fun h _ _ _ => exec_msgqCreate_passes h,
    fun h _ _ hp hq => ⟨exec_msgqDelete_absent h hp hq, fun _ => exec_msgqDelete_unbound h hp hq⟩⟩

end

section
/-! Events of the port complex and of the buffer rings (R38, R42, R44, R53, R61–R66, R279, R292, R509): each command where its rule
lets it act. -/
namespace Sys2Proof.Machine

section LinkUp
variable {s : State} {l : Nat} (hok : okLport l = true) (hu : (s.lport l).linkUp = true)
include hok hu

/-- What arrives on a link that is up, while no action of the traffic core runs (R38, R42). -/
theorem exec_arrivals_taken (hc : s.contain.core = none) :
    (∀ b fcs fec al, trafficUp s = true → exec (.frameReceive l b fcs fec al) s = acts (receiveFrame s l b fcs fec al)) ∧
    (∀ dest len time age, exec (.pauseReceived l dest len time age) s = acts (pauseFrame s l dest len (time % 65536) age)) ∧
    (∀ dest len en times age, exec (.pfcReceived l dest len en times age) s = acts (pfcFrame s l dest len en times age)) := by
  refine ⟨fun b fcs fec al ht => (checked_of hok).trans ?_, fun dest len time age => (checked_of hok).trans ?_,
    fun dest len en times age => (checked_of hok).trans ?_⟩
  · simp [hu, ht, hc, acts]
  · simp [hu, hc, acts]
  · simp [hu, hc, acts]

/-- What arrives during an action of the traffic core is discarded (R509). -/
theorem exec_arrivals_discarded (hc : s.contain.core ≠ none) :
    (∀ b fcs fec al, trafficUp s = true → exec (.frameReceive l b fcs fec al) s =
      acts (discardInAction s l (b.length + fcs.length) fec al)) ∧
    (∀ dest len time age, exec (.pauseReceived l dest len time age) s = acts (countPort s l 0x59)) ∧
    (∀ dest len en times age, exec (.pfcReceived l dest len en times age) s = acts (countPort s l 0x59)) := by
  have hc : s.contain.core.isSome = true := Option.isSome_iff_ne_none.2 hc
  refine ⟨fun b fcs fec al ht => (checked_of hok).trans ?_, fun dest len time age => (checked_of hok).trans ?_,
    fun dest len en times age => (checked_of hok).trans ?_⟩
  · simp [hu, ht, hc, acts]
  · simp [hu, hc, acts]
  · simp [hu, hc, acts]

theorem exec_linkDown_up : exec (.linkDown l) s = acts (takeLinkDown 0x31 s l) :=
  (checked_of hok).trans (congrArg Host.Outcome.next (if_pos hu))

end LinkUp

theorem exec_pauseExpiry_past {s : State} {l p : Nat} {x : Pause} (hl : okLport l = true) (hp : okPcp p = true)
    (hx : AMap.find (s.lport l).pauses p = some x) (hd : x.expiry ≤ nowPs s) :
    exec (.pauseExpiry l p) s = .next (s.setLport l { s.lport l with pauses := AMap.del (s.lport l).pauses p }) := by
  refine (checked_of (by simp [hl, hp])).trans ?_
  simp [hx, Nat.not_lt.2 hd]

theorem exec_xoffRepeat_due {s : State} {l p : Nat} {t : Ps} (hl : okLport l = true) (hp : okPcp p = true)
    (ht : AMap.find (s.lport l).xoffRepeat p = some t) (hd : t ≤ nowPs s) (hx : Nat.testBit (s.lport l).xoff p = true) :
    exec (.xoffRepeat l p) s = .next (s.setLport l { s.lport l with
      xoffPending := maskSet (s.lport l).xoffPending p, xoffRepeat := AMap.del (s.lport l).xoffRepeat p }) := by
  refine (checked_of (by simp [hl, hp])).trans ?_
  simp [ht, Nat.not_lt.2 hd, maskHas, hx]

/-- A port that comes up is held back while an action of the traffic core runs (R509). -/
theorem heldInAction_eq (v : State) (l : Nat) :
    (if v.contain.core.isSome then holdPort v l else v) = if v.contain.core = none then v else holdPort v l := by
  cases v.contain.core <;> rfl

/-- A lit, enabled port of a powered module comes up (R45, R61, R484). -/
theorem exec_linkUp_lit {s : State} {l : Nat} (hok : okLport l = true) (hd : (s.lport l).linkUp = false)
    (he : lportExists s l = true) (ha : adminUp (s.lport l) = true) (hl : laserOn s l = true) (ht : trafficUp s = true)
    (hp : s.power.pllLocked = true) :
    let u := wakeBanks (s.setLport l { s.lport l with linkUp := true, aligned := true, linkChanged := true }) (replicaBanks s l)
    let v := (List.range 8).foldl (fun s q => syncXoff s (8 * l + q)) (raiseDev u (0x020 + l) 1 0)
    exec (.linkUp l) s = acts (if v.contain.core = none then v else holdPort v l) := by
  intro u v
  rw [← heldInAction_eq]
  refine (checked_of hok).trans ?_
  rw [if_neg (by simp [hd, he, ha, hl, ht, hp])]
  dsimp only [acts]

theorem exec_opticsEvaluation_up {s : State} {k : Nat} (temp : Int) (lanes : List LaneReading) (fec : List FecReading)
    (hk : okEngine k = true) (ht : trafficUp s = true) :
    exec (.opticsEvaluation k temp lanes fec) s =
      acts (evaluateEngine (fec.foldl (evaluateFec k) (lanes.foldl (evaluateLane k) s)) k temp) := by
  refine (checked_of hk).trans ?_
  simp [ht, acts]

theorem exec_laserEnNHigh_opens {s : State} (hp : powered s = true) (hl : s.ports.laserEnN = false) :
    exec .laserEnNHigh s =
      acts ((List.range 64).foldl light (raiseDev { s with ports := { s.ports with laserEnN := true } } 0x0B0 1 0)) := by
  refine congrArg Host.Outcome.next ((if_neg (by simp [hl])).trans ?_)
  exact congrArg (fun u => finish ((List.range 64).foldl light u)) (if_pos hp)

theorem exec_laserEnNLow_closes {s : State} (hp : powered s = true) (hl : s.ports.laserEnN = true) :
    exec .laserEnNLow s =
      acts (raiseDev { s with ports := { s.ports with laserEnN := false, darkUntil := now s + 100000000 } } 0x0B0 2 0) := by
  refine congrArg Host.Outcome.next ((if_neg (by simp [hl])).trans ?_)
  exact congrArg finish (if_pos hp)

theorem exec_frameBoundary_up {s : State} {l : Nat} (hl : okLport l = true) (ht : trafficUp s = true) :
    exec (.frameBoundary l) s = acts (boundary s l) :=
  (checked_of hl).trans (congrArg Host.Outcome.next (if_pos ht))

/-- Whether a frame stands in its port's staging: of a far queue, and read whole (R292). -/
def EgressFrame.inStaging (f : EgressFrame) : Bool := f.staged && f.segs.any (fun x => decide (x.cell ≥ 2 ^ 27))

/-- Bytes in the staging of a port (R292). -/
def stagingUsed (s : State) (l : Nat) : Nat :=
  (List.range 8).foldl (fun n q => ((s.queue l q).frames.filter (·.inStaging)).foldl (fun n f => n + f.len) n) 0

/-- Where every frame that is ready lies in the near buffer, the staging is empty. -/
theorem stagingUsed_of_near {s : State} {l : Nat}
    (hn : ∀ k < 8, ∀ g ∈ (s.queue l k).frames, g.staged = true → ∀ x ∈ g.segs, x.cell < 2 ^ 27) : stagingUsed s l = 0 := by
  refine List.foldlRecOn (motive := (· = 0)) _ _ rfl fun n h0 q hq => ?_
  have hq : (s.queue l q).frames.filter (·.inStaging) = [] := by
    rw [List.filter_eq_nil_iff]
    intro g hg
    simpa [EgressFrame.inStaging] using hn q (List.mem_range.1 hq) g hg
  rw [hq, h0, List.foldl_nil]

/-- The head frame of a queue that fits the staging of its port is read, or dropped where a line of it is poisoned (R292, R311). -/
theorem exec_farStagingRead_fits {s : State} {l q : Nat} {f : EgressFrame} {rest : List EgressFrame} (hl : okLport l = true)
    (hq : okQueue q = true) (ht : trafficUp s = true) (hf : (s.queue l q).frames = f :: rest) (hs : f.staged = false)
    (hn : stagingUsed s l + f.len ≤ 16384) :
    exec (.farStagingRead l q) s =
      if f.segs.any (fun x => farPoisoned s x.cell) then
        let p := s.lport l
        acts (dropFrame 0x21 ((s.setLport l { p with
          credit := if rest.isEmpty then AMap.put p.credit q 0 else p.credit }).setQueue l q { s.queue l q with frames := rest }) f)
      else acts (clientRequest (s.setQueue l q { s.queue l q with frames := { f with staged := true } :: rest }) 19 deviceId f.len) := by
  refine (checked_of (by simp [hl, hq])).trans ?_
  have hgo : (f.staged || decide (stagingUsed s l + f.len > 16384) || !trafficUp s) = false := by
    simp [hs, ht, hn]
  simp only [hf]
  refine (congrArg Host.Outcome.next (if_neg (ne_true_of_eq_false hgo))).trans ?_
  split <;> rfl

/-- A refill read reaches the cache (R279). -/
theorem exec_ringRefill_reading {s : State} {p : Nat} (hp : okPool p = true) (hr : (s.cote.pool p).reads ≠ 0) (ht : trafficUp s = true) :
    let x := s.cote.pool p
    let n := min 512 x.ring
    let y : Pool := (({ x with reads := x.reads - 1, ring := x.ring - n, cache := x.cache + n } : Pool).spill).refill
    let u := devCount { s with cote := { s.cote with pools := AMap.put s.cote.pools p y } } 4 2 p 0x1000 1
    exec (.ringRefill p) s = acts (syncPool (clientRequest u 18 deviceId (4 * n)) p) :=
  (checked_of hp).trans (congrArg Host.Outcome.next (if_neg (by simp [hr, ht])))

end Sys2Proof.Machine
end

section
open Sys2Proof Sys2Proof.Machine

/-- Settles O20: each command where its rule lets it act, by its arm. -/
theorem linkAndLaserEventsComplete : Obligations.LinkAndLaserEventsComplete := by
  unfold Obligations.LinkAndLaserEventsComplete
  exact ⟨fun _ _ hok hu => ⟨exec_arrivals_taken hok hu, exec_arrivals_discarded hok hu, exec_linkDown_up hok hu⟩,
    fun _ _ _ _ => exec_pauseExpiry_past, fun _ _ _ _ => exec_xoffRepeat_due, fun _ _ => exec_linkUp_lit,
    fun _ _ temp lanes fec => exec_opticsEvaluation_up temp lanes fec,
    fun _ hp => ⟨exec_laserEnNHigh_opens hp, exec_laserEnNLow_closes hp, rfl⟩, fun _ _ => exec_frameBoundary_up,
    fun _ _ _ _ _ hl hq ht hf hs hn hlen => exec_farStagingRead_fits hl hq ht hf hs (by rw [stagingUsed_of_near hn]; omega),
    fun _ _ => exec_ringRefill_reading⟩

end

section
/-! Commands of ports, queues and optics (R34–R37, R52–R67, R387): what a served one does where its tests pass. -/
namespace Sys2Proof.Machine

/-- What a served command that its body ends leaves, before what follows from it. -/
theorem served_ends {s u : State} {c : CmdRef} {opcode : Nat} {e : Entry} {w : Status} {data : List Byte}
    {body : Call → State → State × Ending} (h : Served s c opcode e)
    (hb : body ⟨c.acc, actor s e, ownerOf s e == some operatorId, e⟩ s = (u, .done w data)) :
    runCommand s c opcode body = settle (endCommand u c.acc w data) :=
  served_runs h hb

theorem withLport_exists {s : State} {l : Nat} {go : State × Ending} (h : lportExists s l = true) : withLport s l go = go :=
  if_pos h

section Lport
variable {s : State} {c : CmdRef} {e : Entry} {l : Nat} (hl : lportExists s l = true)
include hl

/-- A valid PORT record is installed, after a mode change that no secure channel forbids; its port is lit or drained (R34–R36, R56). -/
theorem exec_portWrite_passes (h : Served s c 0x0200 e) {v : BitVec 64} (hv : firstBad (portBad l v) = none) :
    let n := l / 4
    let changes := l % 4 == 0 && fld v 0 2 != portMode s n
    (changes = true → ∀ x ∈ s.ports.chans, x.lport / 4 ≠ n) →
    let moded := if changes then changeMode s n (fld v 0 2) else s
    let set := moded.setLport l { moded.lport l with cfg := v }
    let u := if adminUp (set.lport l) then light set l else drainQueues 0x31 (if changes then set else turnDark set l) l
    exec (.portWrite c l v) s =
      .next (finish (settle (endCommand u c.acc (plain (if v.getLsbD 2 && u.ports.laserEnN then 4 else 0) true) []))) := by
  intro n changes hfree moded set u
  have hblock : (if changes then firstChannel s n else none) = none := by
    split
    case isTrue hc => exact List.find?_eq_none.2 (by simpa using hfree hc)
    case isFalse => rfl
  refine congrArg (fun u => Host.Outcome.next (finish u)) (served_ends h ((withLport_exists hl).trans (unlessBad_of_none ?_)))
  rw [firstBad_append, hv, hblock]
  rfl

theorem exec_portRead_existing (h : Served s c 0x0201 e) :
    exec (.portRead c l) s = replies c (beBytes 8 (s.lport l).cfg.toNat) s :=
  served_done h (withLport_exists hl)

theorem exec_portMapWrite_passes (h : Served s c 0x0202 e) {v : BitVec 320} (h₂₀ : fld v 20 4 = 0) (h₄₈ : fld v 48 16 = 0)
    (h₁₁₂ : fld v 112 16 = 0) (ht : 0x0600 ≤ fld v 0 16) (hm : fld v 64 48 ≠ 0 ∧ v.getLsbD 104 = false) :
    exec (.portMapWrite c l v) s = applied c (s.setLport l { s.lport l with map := v }) := by
  obtain ⟨hm₁, hm₂⟩ : fld v 64 48 ≠ 0 ∧ bit v 104 = false := hm
  refine served_done h ((withLport_exists hl).trans (unlessBad_of_none (firstBad_none.2 ?_)))
  simp [reservedBad, h₂₀, h₄₈, h₁₁₂, ht, hm₁, hm₂]

theorem exec_portMapRead_existing (h : Served s c 0x0203 e) :
    exec (.portMapRead c l) s = replies c (beBytes 40 (s.lport l).map.toNat) s :=
  served_done h (withLport_exists hl)

/-- A valid QUEUE record that keeps the strict queues the port's first ones is stored, its shaper following it (R54, R55, R59). -/
theorem exec_queueWrite_passes (h : Served s c 0x0204 e) {q : Nat} {v : BitVec 64} (hq : q < 8) (h₁ : fld v 1 7 = 0)
    (h₅₆ : fld v 56 8 = 0) (hr : fld v 16 16 ≤ lportRate s l) (hb₁ : 16 ≤ fld v 32 16) (hb₂ : fld v 32 16 ≤ 4096)
    (hw : v.getLsbD 0 = true ∨ fld v 8 8 ≠ 0) :
    let strict (k : Nat) : Bool := if k == q then bit v 0 else bit (s.queue l k).cfg 0
    strict 0 = true → strictPrefix ((List.range 8).map strict) = true →
    exec (.queueWrite c l q v) s = applied c (retuneShaper (s.setQueue l q { s.queue l q with cfg := v }) l q (s.queue l q)) := by
  intro strict h0 hp
  refine served_done h ((withLport_exists hl).trans ((if_neg (Nat.not_le.2 hq)).trans (unlessBad_of_none ?_)))
  have hweight : (!bit v 0 && fld v 8 8 == 0) = false := by
    rcases hw with hw | hw
    · simp [bit, hw]
    · simp [hw]
  have hstrict : (!strict 0 || !strictPrefix ((List.range 8).map strict)) = false := by rw [h0, hp]; rfl
  rw [firstBad_append, firstBad_none.2, Option.none_or, firstBad_none]
  · simp only [List.forall_mem_cons, List.not_mem_nil, false_imp_iff, implies_true, and_true]
    exact ⟨by simpa using hr, by simp [hb₁, hb₂], hweight, hstrict⟩
  · simp [reservedBad, h₁, h₅₆]

theorem exec_queueRead_existing (h : Served s c 0x0205 e) {q : Nat} (hq : q < 8) :
    exec (.queueRead c l q) s = replies c (beBytes 8 (s.queue l q).cfg.toNat) s :=
  served_done h ((withLport_exists hl).trans (if_neg (Nat.not_le.2 hq)))

/-- The status is read before the seen bits that the command names are cleared (R60). -/
theorem exec_portStatusRead_existing (h : Served s c 0x0206 e) (clear : BitVec 64) :
    let p := s.lport l
    exec (.portStatusRead c l clear) s = concludes c (plain 0 true) (beBytes 8 (portStatus s l)) (s.setLport l { p with
      linkChanged := p.linkChanged && !clear.getLsbD 32, fecUncorrSeen := p.fecUncorrSeen && !clear.getLsbD 33,
      opticsAlarmSeen := p.opticsAlarmSeen && !clear.getLsbD 34 }) :=
  served_done h (withLport_exists hl)

/-- A valid CMD_INBAND record is stored, the port's bucket following its rate (R387). -/
theorem exec_cmdInbandWrite_passes (h : Served s c 0x020A e) {v : BitVec 64} (h₄ : fld v 4 12 = 0) (h₄₆ : fld v 46 18 = 0)
    (ht : 0x0600 ≤ fld v 16 16) (hk : fld v 16 16 ∉ knownEtherTypes (s.lport l)) (hr₁ : 0 < fld v 32 14)
    (hr₂ : fld v 32 14 ≤ 10000) :
    let b := retune (AMap.find s.sluice.cmdBuckets l) (fld (s.lport l).inband 32 14) 1024 1024 (now s)
    exec (.cmdInbandWrite c l v) s = applied c
      ((s.setSluice { s.sluice with cmdBuckets := AMap.put s.sluice.cmdBuckets l b }).setLport l { s.lport l with inband := v }) := by
  refine served_done h ((withLport_exists hl).trans (unlessBad_of_none ?_))
  rw [firstBad_append, firstBad_none.2, Option.none_or, firstBad_none]
  · simp only [List.forall_mem_cons, List.not_mem_nil, false_imp_iff, implies_true, and_true]
    exact ⟨by simp [ht, hk], by simp [hr₂, Nat.ne_of_gt hr₁]⟩
  · simp [reservedBad, h₄, h₄₆]

end Lport

section Optics
variable {s : State} {c : CmdRef} {e : Entry}

theorem exec_opticsRead_existing (h : Served s c 0x0207 e) {n : Nat} (hn : n < 16) :
    let k := s.engine (n / 2)
    exec (.opticsRead c n) s = replies c (signedBytes 2 k.temp ++ beBytes 1 (b2n k.warm + 2 * b2n k.hot + 4 * b2n k.dark) ++ [0] ++
      ((List.range 4).map (fun i => signedBytes 2 (s.lane (4 * n + i)).rxPower ++ signedBytes 2 (s.lane (4 * n + i)).bias)).flatten ++
      beBytes 8 (threshOf s n).toNat) s :=
  served_done h (if_neg (Nat.not_le.2 hn))

theorem exec_opticsThreshWrite_passes (h : Served s c 0x0208 e) {n : Nat} {v : BitVec 64} (hn : n < 16)
    (hv : firstBad (threshBad n v) = none) :
    exec (.opticsThreshWrite c n v) s = applied c { s with ports := { s.ports with thresh := AMap.put s.ports.thresh n v } } :=
  served_done h ((if_neg (Nat.not_le.2 hn)).trans (unlessBad_of_none hv))

/-- An engine that is not dark, or has cooled below 75 °C, lights its ports as they may be (R63). -/
theorem exec_opticsEnable_cool (h : Served s c 0x0209 e) {k : Nat} (hk : k < 8)
    (hd : (s.engine k).dark = false ∨ (s.engine k).temp < 75) :
    exec (.opticsEnable c k) s = applied c ((engineLports k).foldl light (s.setEngine k { s.engine k with dark := false })) := by
  have hcool : ¬((s.engine k).dark && decide ((s.engine k).temp ≥ 75)) = true := by
    rcases hd with hd | hd
    · simp [hd]
    · simpa using fun _ => hd
  exact served_done h ((if_neg (Nat.not_le.2 hk)).trans (if_neg hcool))

end Optics

end Sys2Proof.Machine
end

section
open Sys2Proof Sys2Proof.Machine

/-- Settles O21: each served command on an existing port, physical port or engine, where its tests pass. -/
theorem portCommandsComplete : Obligations.PortCommandsComplete := by
  unfold Obligations.PortCommandsComplete
  intro s c e l hl
  exact ⟨fun h _ => exec_portWrite_passes hl h, exec_portRead_existing hl, fun h _ => exec_portMapWrite_passes hl h,
    exec_portMapRead_existing hl, fun h _ _ => exec_queueWrite_passes hl h, fun h _ => exec_queueRead_existing hl h,
    exec_portStatusRead_existing hl, fun h _ => exec_opticsRead_existing h, fun h _ _ => exec_opticsThreshWrite_passes h,
    fun h _ => exec_opticsEnable_cool h, fun h _ => exec_cmdInbandWrite_passes hl h⟩

end

section
/-! Commands of MACsec (R36, R47–R51): what a served one does to a channel, for its owner and for another. -/
namespace Sys2Proof.Machine

/-- A channel that `MACSEC_SC_CREATE` may ask for, on a port that exists: every field is in range (R47, R51). -/
structure ScFits (s : State) (owner : Nat) (x : ScSpec) : Prop where
  port : lportExists s x.lport = true
  sci : x.sci < 2 ^ 64
  offset : x.offset ∈ [0, 30, 50]
  sciMode : x.sciMode ≤ 2
  window : x.window < 2 ^ 30
  pnThresh : (newChan x owner).pnThresh < (newChan x owner).pnEnd

/-- The tests that MACSEC_SC_CREATE makes of its fields. -/
def scCreateBad (n : SecChan) : List (Bool × Status) :=
  [(decide (n.sci ≥ 2 ^ 64), badOpen 0x0300 0x020B 0), (!([0, 30, 50].contains n.offset), badOpen 0x0300 0x020B 1),
   (decide (n.sciMode > 2), badOpen 0x0300 0x020B 2), (decide (n.window ≥ 2 ^ 30), badOpen 0x0300 0x020B 3),
   (decide (n.pnThresh ≥ n.pnEnd), badOpen 0x0300 0x020B 4)]

theorem ScFits.passes {s : State} {owner : Nat} {x : ScSpec} (h : ScFits s owner x) :
    firstBad (scCreateBad (newChan x owner)) = none := by
  rw [firstBad_none]
  simp only [scCreateBad, List.forall_mem_cons, List.not_mem_nil, false_imp_iff, implies_true, and_true]
  exact ⟨decide_eq_false (Nat.not_le.2 h.sci), congrArg not (List.contains_iff_mem.2 h.offset),
    decide_eq_false (Nat.not_lt.2 h.sciMode), decide_eq_false (Nat.not_le.2 h.window), decide_eq_false (Nat.not_le.2 h.pnThresh)⟩

section Create
variable {s : State} {c : CmdRef} {e : Entry} {x : ScSpec} (h : Served s c 0x020B e) (hx : ScFits s (actor s e) x)
include h hx

/-- A channel of a new name that its physical port has room for is added (R47). -/
theorem exec_macsecScCreate_new (hf : chanNamed s x.sci x.lport x.transmit = none)
    (hr : (s.ports.chans.filter (fun o => o.lport / 4 == x.lport / 4 && o.transmit == x.transmit)).length <
      (if x.transmit then 16 else 64)) :
    exec (.macsecScCreate c x) s = applied c { s with ports := { s.ports with chans := s.ports.chans ++ [newChan x (actor s e)] } } := by
  refine served_done h ((withLport_exists hx.port).trans ((unlessBad_of_none hx.passes).trans ?_))
  simp only [hf]
  exact if_neg (Nat.not_le.2 hr)

/-- The channel that its owner asks for again is there (R50, R410). -/
theorem exec_macsecScCreate_same {o : SecChan} (hf : chanNamed s x.sci x.lport x.transmit = some o) (ho : o.owner = actor s e)
    (hs : o.sameAs (newChan x (actor s e)) = true) : exec (.macsecScCreate c x) s = concludes c (plain 2 false) [] s := by
  refine served_done h ((withLport_exists hx.port).trans ((unlessBad_of_none hx.passes).trans ?_))
  simp only [hf]
  exact (if_neg (by simp [ho])).trans (if_pos hs)

end Create

section Owned
variable {s : State} {c : CmdRef} {e : Entry} {sci l : Nat} {tx : Bool} {o : SecChan}
  (hf : chanNamed s sci l tx = some o) (ho : o.owner = actor s e)
include hf ho

/-- The caller of a MACsec command reaches its own channel (R50). -/
theorem withChan_owned (go : SecChan → State × Ending) :
    withChan s ⟨c.acc, actor s e, ownerOf s e == some operatorId, e⟩ sci l tx go = go o := by
  simp [withChan, hf, ho]

theorem exec_macsecScDelete_owned (h : Served s c 0x020C e) : exec (.macsecScDelete c sci l tx) s =
    applied c { s with ports := { s.ports with chans := s.ports.chans.filter (fun y => !y.named sci l tx) } } :=
  served_done h (by simp [hf, ho, okDone])

/-- An association under a free AN takes its key from the owner's key table (R50, R356). -/
theorem exec_macsecSaInstall_free {x : SaSpec} {key : BitVec 512} (h : Served s c 0x020D e) (hs : x.sci = sci) (ha : x.an ≤ 3)
    (hp₁ : x.pn ≠ 0) (hp₂ : x.pn < o.pnEnd) (hk : keyEntry s (actor s e) x.keyIndex = some key) (hn : AMap.has o.sas x.an = false) :
    let a : SecAssoc :=
      { key := key.extractLsb' 256 256, salt := x.salt, ssci := x.ssci, pn := x.pn, enabled := x.enable,
        thresholdRaised := false, retired := false }
    exec (.macsecSaInstall c l tx x) s = applied c (setChan s { o with
      an := if AMap.has o.sas o.an then o.an else x.an, sas := AMap.put o.sas x.an a }) := by
  subst hs
  refine served_done h ((withChan_owned hf ho _).trans ((unlessBad_of_none (firstBad_none.2 ?_)).trans ?_))
  · simp [ha, hp₁, hp₂]
  · simp only [hk]
    exact if_neg (by simp [hn])

theorem exec_macsecSaDelete_owned {an : Nat} (h : Served s c 0x020E e) (ha : an ≤ 3) :
    (AMap.has o.sas an = true →
      exec (.macsecSaDelete c sci l tx an) s = applied c (setChan s { o with sas := AMap.del o.sas an })) ∧
    (AMap.has o.sas an = false → exec (.macsecSaDelete c sci l tx an) s = concludes c (plain 3 false) [] s) := by
  refine ⟨fun hn => ?_, fun hn => ?_⟩
  · exact served_done h ((withChan_owned hf ho _).trans ((if_neg (Nat.not_lt.2 ha)).trans (if_pos hn)))
  · exact served_done h ((withChan_owned hf ho _).trans ((if_neg (Nat.not_lt.2 ha)).trans (if_neg (by simp [hn]))))

/-- A new threshold is armed for every association of the channel (R51). -/
theorem exec_macsecPnThresh_owned {v : Nat} (h : Served s c 0x0210 e) (hv₁ : 0 < v) (hv₂ : v < o.pnEnd) :
    exec (.macsecPnThresh c sci l tx v) s = applied c (setChan s { o with
      pnThresh := v, sas := o.sas.map (fun a => (a.1, { a.2 with thresholdRaised := false })) }) :=
  served_done h ((withChan_owned hf ho _).trans (if_neg (by simp [Nat.ne_of_gt hv₁, hv₂])))

theorem exec_macsecRead_owned (h : Served s c 0x020F e) :
    exec (.macsecRead c sci l tx) s = replies c (chanPublic o ++ chanConfig o) s :=
  served_done h (by simp [hf, ho, okRead])

end Owned

section Foreign
variable {s : State} {c : CmdRef} {e : Entry} {sci l : Nat} {tx : Bool} {o : SecChan}
  (hf : chanNamed s sci l tx = some o) (ho : o.owner ≠ actor s e)
include hf ho

theorem exec_macsecScDelete_foreign (h : Served s c 0x020C e) :
    exec (.macsecScDelete c sci l tx) s = concludes c (plain 0x0201 false) [] s :=
  served_done h (by simp [hf, ho, ends])

/-- The operator sees the public part of a channel that is not its own (R50). -/
theorem exec_macsecRead_operator (h : Served s c 0x020F e) (hop : ownerOf s e = some operatorId) :
    exec (.macsecRead c sci l tx) s = replies c (chanPublic o) s :=
  served_done h (by simp [hf, ho, hop, okRead])

end Foreign

section Absent
variable {s : State} {c : CmdRef} {e : Entry} {sci l : Nat} {tx : Bool} (hf : chanNamed s sci l tx = none)
include hf

theorem exec_macsecScDelete_absent (h : Served s c 0x020C e) :
    exec (.macsecScDelete c sci l tx) s = concludes c (plain 3 false) [] s :=
  served_done h (by simp only [hf]; rfl)

theorem exec_macsecRead_absent (h : Served s c 0x020F e) :
    exec (.macsecRead c sci l tx) s = concludes c (plain 0x0107 false) [] s :=
  served_done h (by simp only [hf]; rfl)

end Absent

end Sys2Proof.Machine
end

section
open Sys2Proof Sys2Proof.Machine

/-- Settles O22: each served command by whose channel it names, if any. -/
theorem macsecCommandsComplete : Obligations.MacsecCommandsComplete := by
  unfold Obligations.MacsecCommandsComplete
  intro s c e
  refine ⟨fun h x hl hs ho hm hw hp => ?_, fun sci l tx o hf => ⟨fun ho => ?_, fun ho => ?_⟩, fun sci l tx hf => ?_⟩
  · have hx : ScFits s (actor s e) x := ⟨hl, hs, ho, hm, hw, hp⟩
    exact ⟨exec_macsecScCreate_new h hx, fun _ => exec_macsecScCreate_same h hx⟩
  · exact ⟨exec_macsecScDelete_owned hf ho, fun h _ _ => exec_macsecSaInstall_free hf ho h,
      fun h _ => exec_macsecSaDelete_owned hf ho h, fun h _ => exec_macsecPnThresh_owned hf ho h, exec_macsecRead_owned hf ho⟩
  · exact ⟨exec_macsecScDelete_foreign hf ho, exec_macsecRead_operator hf ho⟩
  · exact ⟨exec_macsecScDelete_absent hf, exec_macsecRead_absent hf⟩

end

section
/-! What the handling of events leaves as it is (R489–R496): the commands in flight and the containment ladder. -/
namespace Sys2Proof.Machine

/-- What no handling of an event changes: the containment ladder and the commands in flight. -/
def State.custody (s : State) : Contain × AMap Entry := (s.contain, s.legend.flight)

@[simp] theorem State.custody_mk (u : State) (l : Legend) (a b c d e f g h i j k m n o p q r t)
    (hl : l.flight = u.legend.flight) :
    State.custody ⟨a, b, c, l, d, u.contain, e, f, g, h, i, j, k, m, n, o, p, q, r, t⟩ = u.custody := by
  simp only [State.custody, hl]

@[simp] theorem State.custody_ite (c : Prop) [Decidable c] (a b : State) :
    (if c then a else b).custody = if c then a.custody else b.custody := apply_ite _ _ _ _

@[simp] theorem custody_foldl {α : Type} {f : State → α → State}
    (h : ∀ u x, (f u x).custody = u.custody) (l : List α) (s : State) : (l.foldl f s).custody = s.custody := by
  induction l generalizing s with
  | nil => rfl
  | cons x l ih => rw [List.foldl_cons, ih, h]

@[simp] theorem custody_count (s id n) : (count s id n).custody = s.custody := by simp [count]

@[simp] theorem custody_raise (s a b c d) : (raise s a b c d).custody = s.custody := by simp [raise]

@[simp] theorem custody_raiseDev (s a b c) : (raiseDev s a b c).custody = s.custody := by simp [raiseDev]

theorem PortsCounted.custody {s v : State} (h : PortsCounted s v) : v.custody = s.custody := by
  obtain ⟨e, b, k, rfl⟩ := h; rfl

@[simp] theorem custody_devCount (s a b c d n) : (devCount s a b c d n).custody = s.custody :=
  (devCount_portsCounted s a b c d n).custody

@[simp] theorem custody_requestTo (s port owner off bytes) : (requestTo s port owner off bytes).custody = s.custody :=
  (requestTo_portsCounted s port owner off bytes).custody

@[simp] theorem custody_clientRequest (s port owner bytes) : (clientRequest s port owner bytes).custody = s.custody :=
  (clientRequest_portsCounted s port owner bytes).custody

@[simp] theorem custody_setDram (s d) : (State.setDram s d).custody = s.custody := rfl

@[simp] theorem custody_poisonDrop (s owner off) : (poisonDrop s owner off).custody = s.custody := by simp [poisonDrop]

@[simp] theorem custody_setLport (s l p) : (State.setLport s l p).custody = s.custody := rfl

@[simp] theorem custody_setQueue (s l q e) : (State.setQueue s l q e).custody = s.custody := rfl

@[simp] theorem custody_setPan (s p x) : (State.setPan s p x).custody = s.custody := rfl

@[simp] theorem custody_setFunc (s f x) : (State.setFunc s f x).custody = s.custody := rfl

@[simp] theorem custody_setUsb (s i x) : (State.setUsb s i x).custody = s.custody := rfl

@[simp] theorem custody_setSvyQueue (s c q) : (State.setSvyQueue s c q).custody = s.custody := rfl

@[simp] theorem custody_setSession (s id x) : (State.setSession s id x).custody = s.custody := rfl

@[simp] theorem custody_syncXoff (s gi) : (syncXoff s gi).custody = s.custody := by simp [syncXoff]

@[simp] theorem custody_writeBack (s pi) : (writeBack s pi).custody = s.custody := by simp [writeBack]

@[simp] theorem custody_syncPool (s pi) : (syncPool s pi).custody = s.custody := by simp [syncPool]

@[simp] theorem custody_releaseCell (s h) : (releaseCell s h).custody = s.custody := by
  unfold releaseCell; split <;> simp

@[simp] theorem custody_releaseCells (s hs) : (releaseCells s hs).custody = s.custody := by simp [releaseCells]

@[simp] theorem custody_dropFrame (reason s f) : (dropFrame reason s f).custody = s.custody := by
  simp [dropFrame, egressRecord, writeCompletion]

@[simp] theorem custody_writeFar (s h n) : (writeFar s h n).custody = s.custody := by simp [writeFar]

@[simp] theorem custody_newCell (s pool tenant data) : (newCell s pool tenant data).1.custody = s.custody := by
  simp [newCell]

@[simp] theorem custody_newCells (s pool tenant a) : (newCells s pool tenant a).1.custody = s.custody := by
  induction a generalizing s with
  | nil => rfl
  | cons x l ih => simp [newCells, ih]

@[simp] theorem custody_enqueueFrame (s l q f) : (enqueueFrame s l q f).custody = s.custody := by simp [enqueueFrame]

/-- A frame of Legend's own that does not fit is counted alone (R389). -/
@[simp] theorem custody_sendLegendFrame (s l q bytes) : (sendLegendFrame s l q bytes).custody = s.custody := by
  unfold sendLegendFrame; dsimp only; split
  · simp [countQueueDrop]
  · simp

@[simp] theorem custody_release (s via p) : (release s via p).custody = s.custody := by unfold release; split <;> simp

@[simp] theorem custody_notify (s id x opcode cookie payload) :
    (notify s id x opcode cookie payload).custody = s.custody := by simp [notify]

@[simp] theorem custody_signalMsix (s fn v) : (signalMsix s fn v).custody = s.custody := by simp [signalMsix]

@[simp] theorem custody_telemetryWrite (s owner kind source payload) :
    (telemetryWrite s owner kind source payload).custody = s.custody := by simp [telemetryWrite]

@[simp] theorem custody_notifyOwner (s owner r) : (notifyOwner s owner r).custody = s.custody := by
  simp (disch := (intros; (repeat' split) <;> simp)) [notifyOwner]

@[simp] theorem custody_postSupervisor (s pan owner r) : (postSupervisor s pan owner r).custody = s.custody := by
  simp [postSupervisor]

@[simp] theorem custody_operatorTargets (s r) : (operatorTargets s r).custody = s.custody := by simp [operatorTargets]

@[simp] theorem custody_tenantTargets (s r) : (tenantTargets s r).custody = s.custody := by
  simp only [tenantTargets]; repeat' split
  all_goals simp

@[simp] theorem custody_emitRecord (s r) : (emitRecord s r).custody = s.custody := by simp [emitRecord]

@[simp] theorem custody_triggerRing (s ring) : (triggerRing s ring).custody = s.custody := by
  unfold triggerRing; split <;> simp

@[simp] theorem custody_handleRaising (s r) : (handleRaising s r).custody = s.custody := by
  unfold handleRaising; dsimp only; split <;> simp

@[simp] theorem custody_settleRounds (n s) : (settleRounds n s).custody = s.custody := by
  induction n generalizing s with
  | zero => rfl
  | succ n ih => unfold settleRounds; split <;> simp [ih]

@[simp] theorem custody_recordTelemetry (s c) : (recordTelemetry s c).custody = s.custody := by simp [recordTelemetry]

theorem custody_settle (s : State) : (settle s).custody = s.custody := by simp [settle]

theorem settle_contain (s : State) : (settle s).contain = s.contain := congrArg Prod.fst (custody_settle s)

theorem settle_flight (s : State) : (settle s).legend.flight = s.legend.flight := congrArg Prod.snd (custody_settle s)

end Sys2Proof.Machine
end

section
/-! Restart and boot (R379, R404, R473–R477, R510): what each command does where it is due. -/
namespace Sys2Proof.Machine

theorem exec_resetNAssert_runs {s : State} (h : mgmtRuns (s.setPower { s.power with resetN := false }) = true) :
    exec .resetNAssert s =
      .next (settle (deviceRestart (s.setPower { s.power with resetN := false }) 1 restartedStatus false)) :=
  congrArg Host.Outcome.next (if_pos h)

theorem exec_resetNRelease (s : State) :
    exec .resetNRelease s =
      let u := s.setPower { s.power with resetN := true }
      .next (settle (if s.power.phase = .restarting then reboot u else goOn u)) := by
  change execResetNRelease s = _
  simp [execResetNRelease]

/-- The command that restarts the device has passed its commit point and executes (R400, R404). -/
theorem flight_commitEntry_later {s : State} {acc : Nat} {e : Entry} (hf : AMap.find s.legend.flight acc = some e) :
    AMap.find (conclude acc (commitEntry s acc, .later)).legend.flight acc =
      some { e with committed := true, stage := .executing } := by
  simp [conclude, commitEntry, hf, State.setEntry]

theorem conclude_commitEntry_contain (s : State) (acc : Nat) :
    (conclude acc (commitEntry s acc, .later)).contain = s.contain := by
  unfold conclude commitEntry
  dsimp only
  repeat' split
  all_goals rfl

/-- A served DEVICE_RESTART ends the hold, clears its count and restarts the device (R379, R404, R510). -/
theorem exec_deviceRestart_served {s : State} {c : CmdRef} {e : Entry} (h : Served s c 0x0105 e) :
    let u := settle (conclude c.acc (commitEntry s c.acc, .later))
    let r := if s.contain.hold = true then settle (raiseDev u 0x505 3 0) else u
    exec (.deviceRestart c) s =
      .next (settle (deviceRestart (r.setContain { r.contain with hold := false, deviceHistory := [] }) 2 restartedStatus false)) := by
  intro u r
  have hu : runCommand s c 0x0105 (fun k s => (commitEntry s k.acc, .later)) = u := served_runs h rfl
  obtain ⟨hf, -, hw, -⟩ := h
  have hx : AMap.find u.legend.flight c.acc = some { e with committed := true, stage := .executing } := by
    rw [settle_flight, flight_commitEntry_later hf]
  have hc : u.contain.hold = s.contain.hold := by rw [settle_contain, conclude_commitEntry_contain]
  change execDeviceRestart c s = _
  unfold execDeviceRestart
  simp only [hu, hf, hx, hw, hc]
  exact congrArg Host.Outcome.next (if_neg (by decide))

/-- COMMAND_READY where booting is done and the DRAM is ready (R339, R342, R377, R474, R476). -/
theorem exec_commandReady_booted {s : State} (torn : List TornPage) (hz : s.trust.zeroizing = none)
    (hp : s.power.phase = .booting) (hd : s.power.dramReady = true) :
    exec (.commandReady torn) s =
      let a := if s.power.markerOpen = true then s else readJournal (torn.foldl discardTorn (stkPowerUp s)) (tornCounts torn)
      let b := setPhase a .commandReady
      let d := raiseDev (b.setPower { b.power with fault := b.contain.hold }) 0x008 1 0
      let f := d.trust.bootEvents.foldl bootRaise d
      let g := f.setTrust { f.trust with bootEvents := [] }
      .next (settle ((g.host.funcs.map (·.1)).foldl pump g)) :=
  congrArg Host.Outcome.next (if_neg (by simp [hz, hp, hd]))

theorem exec_trafficReady_trained {s : State} (hz : s.trust.zeroizing = none) (hp : s.power.phase = .commandReady)
    (hr : s.dram.noRank = false) :
    exec .trafficReady s = acts (reachState (setPhase (startCores s) .trafficReady) .doze) :=
  congrArg Host.Outcome.next (if_neg (by simp [hz, hp, hr]))

end Sys2Proof.Machine
end

section
open Sys2Proof Sys2Proof.Machine

/-- Settles O35: each command where it is due, by its arm; DEVICE_RESTART by what the handling of events keeps. -/
theorem resetAndBootComplete : Obligations.ResetAndBootComplete := by
  unfold Obligations.ResetAndBootComplete
  exact ⟨fun s => ⟨exec_resetNAssert_runs, exec_resetNRelease s⟩, fun _ _ _ => exec_deviceRestart_served,
    fun _ torn hz => ⟨exec_commandReady_booted torn hz, exec_trafficReady_trained hz⟩⟩

end

section
/-! The state after reset (R57, R58, R119, R207, R345, R349, R480): what each lookup gives, and the fields of the records there. -/
namespace Sys2Proof.Machine

/-- No port has been written: each holds its reset value, for the module's base address (R57, R58). -/
theorem State.reset_lport (l : Nat) : State.reset.lport l = .reset Ident.reset.baseAddress l := rfl

theorem State.reset_pan (p : Nat) : State.reset.pan p = .reset := rfl

theorem State.reset_thread (t : Nat) : State.reset.thread t = .idle := rfl

theorem State.reset_slot (o : Nat) : State.reset.slot o = .free := rfl

/-- An idle thread has written no register. -/
theorem Thread.reg_idle (r : BitVec 5) : Thread.idle.reg r = 0 := ite_self 0

/-- A module leaves the factory with no fuse blown and its epoch at 0 (R15, R355, R380, R381). -/
theorem fuseInv_reset : FuseInv State.reset :=
  ⟨rfl, Nat.zero_le _, Nat.two_pow_pos 26, Nat.zero_le _, fun _ => Nat.zero_le _, by decide⟩

theorem intakeReset_fields : fld intakeReset 4 11 = 1150 := by decide

theorem schedReset_fields : fld schedReset 0 20 = 1000 ∧ fld schedReset 24 16 = 1000 ∧ fld schedReset 40 16 = 100 := by decide

theorem meridianReset_fields :
    fld meridianReset 0 1 = 1 ∧ fld meridianReset 4 4 = 15 ∧ fld meridianReset 8 14 = 1000 ∧ fld meridianReset 24 16 = 5000 ∧
      fld meridianReset 40 16 = 10000 ∧ fld meridianReset 64 7 = 75 ∧ fld meridianReset 72 12 = 256 := by decide

theorem portCfgReset_fields : fld portCfgReset 0 1 = 0 ∧ fld portCfgReset 24 16 = 0x2400 := by decide

theorem stkCfgReset_fields : fld stkCfgReset 0 6 = 16 ∧ fld stkCfgReset 8 12 = 1826 ∧ fld stkCfgReset 20 7 = 25 := by decide

end Sys2Proof.Machine
end

section
open Sys2Proof Sys2Proof.Machine

/-- Settles O59: unit by unit what reset gives there, then the fields of that reset value. -/
theorem resetIsAsTheSpecSays : Obligations.ResetIsAsTheSpecSays := by
  unfold Obligations.ResetIsAsTheSpecSays
  obtain ⟨hs₁, hs₂, hs₃⟩ := schedReset_fields
  obtain ⟨hm₁, hm₂, hm₃, hm₄, hm₅, hm₆, hm₇⟩ := meridianReset_fields
  obtain ⟨hk₁, hk₂, hk₃⟩ := stkCfgReset_fields
  exact ⟨fuseInv_reset, rfl, rfl, rfl, intakeReset_fields, fun o => congrArg Slot.state (State.reset_slot o), rfl, rfl, rfl,
    fun _ => rfl, rfl, fun p => State.reset_pan p ▸ ⟨hs₁, hs₂, hs₃, rfl, rfl⟩, hm₁, hm₂, hm₃, hm₄, hm₅, hm₆, hm₇,
    fun l => State.reset_lport l ▸ portCfgReset_fields, hk₁, hk₂, hk₃, rfl,
    fun t => State.reset_thread t ▸ ⟨rfl, Thread.reg_idle⟩⟩

end

section
/-! Commands of the classifier (R73–R93, R408): what a served one does where its tests pass. -/
namespace Sys2Proof.Machine

/-- Reserved fields that are all 0 violate no test. -/
theorem firstBad_reservedBad {n : Nat} {v : BitVec n} {fields : List (Nat × Nat)} {offset : Nat}
    (h : ∀ f ∈ fields, fld v f.1 f.2 = 0) : firstBad (reservedBad v fields offset) = none :=
  firstBad_none.2 (List.forall_mem_map.2 fun f hf => by simp [h f hf])

section ScopeRules
variable {s : State} {c : CmdRef} {e : Entry}

/-- A scope rule whose record and action SCOPE_RULE_ADD lets pass (R10, R77, R83). -/
structure ScopeRuleFits (s : State) (k : Call) (x : RuleRec) : Prop where
  width : x.width = 10
  record : firstBad (recordBad k x) = none
  reserved : firstBad (actionReserved 10 x.action [(17, 15), (32, 96)]) = none
  profile : x.profile = 0
  tenant : fld x.action 0 12 ≤ 511 ∨ fld x.action 0 12 = operatorId
  free : slotBusy s (fld x.action 0 12) = false

/-- A slot number that names a tenant or the operator passes the test of its range (R349). -/
theorem ownerBad_false {o : Nat} (h : o ≤ 511 ∨ o = operatorId) : (decide (o > 511) && o != operatorId) = false := by
  rcases h with h | h
  · simp [Nat.not_lt.2 h]
  · simp [h]

theorem ScopeRuleFits.passes {k : Call} {x : RuleRec} (hx : ScopeRuleFits s k x) :
    firstBad (recordBad k x ++ actionReserved 10 x.action [(17, 15), (32, 96)] ++
      [(x.profile != 0, badRule 0x0300 10 6 0),
       (decide (fld x.action 0 12 > 511) && fld x.action 0 12 != operatorId, badRule 0x0300 10 31 0),
       namesBusy s (fld x.action 0 12)]) = none := by
  rw [firstBad_append, firstBad_append, hx.record, hx.reserved, Option.none_or, Option.none_or]
  exact firstBad_cons_of_false (by simp [hx.profile])
    (firstBad_cons_of_false (ownerBad_false hx.tenant) (firstBad_cons_of_false hx.free rfl))

section Add
variable {x : RuleRec} (h : Served s c 0x0300 e)
  (hx : ScopeRuleFits s ⟨c.acc, actor s e, ownerOf s e == some operatorId, e⟩ x)
include h hx

/-- A new scope rule that there is room for is appended, and the presence bits of its rows are marked (R77, R246). -/
theorem exec_scopeRuleAdd_new (hf : s.sluice.scopeRules.find? (fun r => r.id == x.id) = none)
    (hr : s.sluice.scopeRules.length < 4096) :
    exec (.scopeRuleAdd c x) s = applied c (setClsPresence false (s.setSluice { s.sluice with
      scopeRules := s.sluice.scopeRules ++ [ruleFrom x s.sluice.order], order := s.sluice.order + 1 })) := by
  refine served_done h ((if_neg (by simp [hx.width])).trans ((unlessBad_of_none hx.passes).trans ?_))
  simp only [hf]
  exact if_neg (Nat.not_le.2 hr)

theorem exec_scopeRuleAdd_same {r : Rule} (hf : s.sluice.scopeRules.find? (fun r => r.id == x.id) = some r)
    (hr : r.asRecord x = true) : exec (.scopeRuleAdd c x) s = concludes c (plain 2 false) [] s := by
  refine served_done h ((if_neg (by simp [hx.width])).trans ((unlessBad_of_none hx.passes).trans ?_))
  simp only [hf]
  exact if_pos hr

end Add

theorem exec_scopeRuleDelete_served (h : Served s c 0x0301 e) (id : Nat) :
    exec (.scopeRuleDelete c id) s =
      if s.sluice.scopeRules.any (fun r => r.id == id) then
        applied c (s.setSluice { s.sluice with scopeRules := s.sluice.scopeRules.filter (fun r => r.id != id) })
      else concludes c (plain 3 false) [] s := by
  split
  case isTrue hp => exact served_done h (if_pos hp)
  case isFalse hp => exact served_done h (if_neg hp)

end ScopeRules

section Rules
variable {s : State} {c : CmdRef} {e : Entry}

/-- A rule whose profile, record, action and prefix RULE_ADD lets pass (R78, R82–R86). -/
structure RuleFits (s : State) (k : Call) (x : RuleRec) : Prop where
  profile : x.profile ≤ 15
  built : profileBuilt s x.profile = true
  width : x.width = 10 * profileUnits s x.profile
  fields : firstBad (recordBad k x ++ actionBad s k.owner x.width x.action ++ prefixBad k.owner x) = none

/-- The body of RULE_ADD reaches the installed rules with a record that fits. -/
theorem RuleFits.passes {k : Call} {x : RuleRec} (hx : RuleFits s k x) (go : State × Ending) :
    (if x.profile > 15 || !profileBuilt s x.profile then ends s (badRule 0x0300 x.width 6 0)
      else if x.width != 10 * profileUnits s x.profile then endsCode s 0x0100
      else unlessBad s (recordBad k x ++ actionBad s k.owner x.width x.action ++ prefixBad k.owner x) go) = go := by
  rw [if_neg (by simp [hx.profile, hx.built]), if_neg (by simp [← hx.width]), unlessBad_of_none hx.fields]

section Add
variable {x : RuleRec} (h : Served s c 0x0302 e)
  (hx : RuleFits s ⟨c.acc, actor s e, ownerOf s e == some operatorId, e⟩ x)
include h hx

/-- A new rule within its owner's quota and the partition is appended, and its rows' presence bits are marked (R82, R246). -/
theorem exec_ruleAdd_new (hf : s.sluice.rules.find? (fun r => r.isOf (actor s e) x.id) = none) :
    let next := s.setSluice { s.sluice with
      rules := s.sluice.rules ++ [ruleFrom x s.sluice.order], order := s.sluice.order + 1 }
    tcamUnits next (actor s e) ≤ ownerQuota s (actor s e) 8 4 → rulesTake next ≤ ruleBanks s →
    exec (.ruleAdd c x) s = applied c (setClsPresence false next) := by
  intro next hq hb
  refine served_done h ((hx.passes _).trans ?_)
  simp only [hf]
  exact (if_neg (Nat.not_lt.2 hq)).trans (if_neg (Nat.not_lt.2 hb))

theorem exec_ruleAdd_same {r : Rule} (hf : s.sluice.rules.find? (fun r => r.isOf (actor s e) x.id) = some r)
    (hr : r.asRecord x = true) : exec (.ruleAdd c x) s = concludes c (plain 2 false) [] s := by
  refine served_done h ((hx.passes _).trans ?_)
  simp only [hf]
  exact if_pos hr

end Add

theorem exec_ruleDelete_served (h : Served s c 0x0303 e) (id : Nat) :
    exec (.ruleDelete c id) s =
      if s.sluice.rules.any (fun r => r.isOf (actor s e) id) then
        applied c (setClsPresence false (s.setSluice { s.sluice with
          rules := s.sluice.rules.filter (fun r => !r.isOf (actor s e) id) }))
      else concludes c (plain 3 false) [] s := by
  split
  case isTrue hp => exact served_done h (if_pos hp)
  case isFalse hp => exact served_done h (if_neg hp)

/-- Its owner reads a rule whole, the operator its counters (R89). -/
theorem exec_ruleRead_installed (h : Served s c 0x0304 e) {id owner : Nat} {r : Rule}
    (hc : owner = actor s e ∨ (ownerOf s e == some operatorId) = true) (hs : owner ≠ 0x1FFF) (hb : slotBusy s owner = false)
    (hf : s.sluice.rules.find? (fun r => r.isOf owner id) = some r) :
    exec (.ruleRead c id owner) s = replies c (ruleData s r (owner == actor s e) (profileUnits s r.profile)) s := by
  have hcaller : ¬(owner != actor s e && !(ownerOf s e == some operatorId)) = true := by
    rcases hc with hc | hc <;> simp [hc]
  refine served_done h ((if_neg hcaller).trans ((if_neg (by simpa using hs)).trans ((if_neg (by simp [hb])).trans ?_)))
  simp only [hf]
  rfl

end Rules

section Profiles
variable {s : State} {c : CmdRef} {e : Entry}

/-- Extractors that violate no test are stored in a profile that nothing uses, or that holds them (R81). -/
theorem exec_profileWrite_passes (h : Served s c 0x0305 e) {p : Nat} {ks : List (BitVec 32)} (hp₁ : 8 ≤ p) (hp₂ : p ≤ 15)
    (hk : ks ≠ []) (hl : ks.length ≤ 19) (hx : firstBad (ks.zipIdx.map (fun k => extractorBad k.1 k.2)).flatten = none)
    (hu : profileUsed s p = false ∨ AMap.find s.sluice.profiles p = some ks) :
    exec (.profileWrite c p ks) s =
      applied c (s.setSluice { s.sluice with profiles := AMap.put s.sluice.profiles p ks }) := by
  have hused : (profileUsed s p && AMap.find s.sluice.profiles p != some ks) = false := by
    rcases hu with hu | hu <;> simp [hu]
  refine served_done h ((if_neg (by simp [hp₁, hp₂])).trans ((if_neg (by simp [hk, hl])).trans (unlessBad_of_none ?_)))
  rw [firstBad_append, hx, hused]
  rfl

theorem exec_profileSetWrite_passes (h : Served s c 0x0306 e) {k : Nat} {v : BitVec 32} (hk : k ≤ 15)
    (hv : ∀ i < 8, profileBuilt s (fld v (4 * i) 4) = true) :
    exec (.profileSetWrite c k v) s = applied c (s.setSluice { s.sluice with sets := AMap.put s.sluice.sets k v }) :=
  served_done h ((if_neg (Nat.not_lt.2 hk)).trans (unlessBad_of_none (firstBad_none.2 (by simpa using hv))))

end Profiles

section Mirrors
variable {s : State} {c : CmdRef} {e : Entry} {id : Nat} {v : BitVec 64}

/-- A mirror session's record with every field in range, for an owner whose slot is not ZEROIZING (R88, R349). -/
structure MirrorFits (s : State) (id : Nat) (v : BitVec 64) : Prop where
  id : id ≤ 255
  reserved : fld v 23 1 = 0 ∧ fld v 46 18 = 0
  owner : fld v 0 12 ≤ 511 ∨ fld v 0 12 = operatorId
  truncate : 64 ≤ fld v 32 14 ∧ fld v 32 14 ≤ 9216
  free : slotBusy s (fld v 0 12) = false

/-- The body of MIRROR_SESSION_WRITE reaches the session with a record that fits. -/
theorem MirrorFits.passes (hv : MirrorFits s id v) (go : State × Ending) :
    (if id > 255 then ends s (badField 0x0300 0 0)
      else unlessBad s (reservedBad v [(23, 1), (46, 18)] 8 ++
        [(decide (fld v 0 12 > 511) && fld v 0 12 != operatorId, badField 0x0300 8 0),
         (decide (fld v 32 14 < 64) || decide (fld v 32 14 > 9216), badField 0x0300 8 32), namesBusy s (fld v 0 12)]) go) =
      go := by
  obtain ⟨hr₁, hr₂⟩ := hv.reserved
  obtain ⟨ht₁, ht₂⟩ := hv.truncate
  rw [if_neg (Nat.not_lt.2 hv.id), unlessBad_of_none]
  rw [firstBad_append, firstBad_reservedBad (by simp [hr₁, hr₂]), Option.none_or]
  exact firstBad_cons_of_false (ownerBad_false hv.owner)
    (firstBad_cons_of_false (by simp [ht₁, ht₂]) (firstBad_cons_of_false hv.free rfl))

section Write
variable (h : Served s c 0x0307 e) (hv : MirrorFits s id v)
include h hv

/-- Its owner writes a session: DEST 1 is the operator's alone, and DEST 2 needs the flash (R88). -/
theorem exec_mirrorSessionWrite_owned (hw : fld v 0 12 = fld (mirrorOf s id) 0 12) (ho : fld v 0 12 = actor s e)
    (h₁ : (ownerOf s e == some operatorId) = true ∨ fld v 12 2 ≠ 1) (h₂ : fld v 12 2 ≠ 2 ∨ s.ident.flash = true) :
    exec (.mirrorSessionWrite c id v) s =
      applied c (s.setSluice { s.sluice with sessions := AMap.put s.sluice.sessions id v }) := by
  have hport : ¬(!(ownerOf s e == some operatorId) && fld v 12 2 == 1) = true := by
    rcases h₁ with h₁ | h₁ <;> simp [h₁]
  have hring : ¬(fld v 12 2 == 2 && !s.ident.flash) = true := by
    rcases h₂ with h₂ | h₂ <;> simp [h₂]
  refine served_done h ((hv.passes _).trans ?_)
  exact (if_neg (by simpa using hw)).trans ((if_neg (by simpa using ho)).trans ((if_neg hport).trans (if_neg hring)))

/-- The operator gives a session that no rule names to another owner, for whom it is as after reset (R88). -/
theorem exec_mirrorSessionWrite_given (hw : fld v 0 12 ≠ fld (mirrorOf s id) 0 12)
    (ho : (ownerOf s e == some operatorId) = true) (hn : sessionNamed s id = false) :
    exec (.mirrorSessionWrite c id v) s = applied c (s.setSluice { s.sluice with
      sessions := AMap.put s.sluice.sessions id (setFld mirrorReset 0 12 (fld v 0 12)) }) := by
  refine served_done h ((hv.passes _).trans ?_)
  exact (if_pos (by simpa using hw)).trans ((if_neg (by simp [ho])).trans (if_neg (by simp [hn])))

end Write

end Mirrors

section SlowPath
variable {s : State} {c : CmdRef} {e : Entry} {n : Nat}

/-- A burst of a slow-path bucket in range passes its test (R91). -/
theorem burstBad_false {b : Nat} (h₁ : 0 < b) (h₂ : b ≤ 65536) : (b == 0 || decide (b > 65536)) = false := by
  simp [Nat.ne_of_gt h₁, h₂]

/-- A SLOW_REASON record with every field in range (R95). -/
structure SlowReasonFits (v : BitVec 128) : Prop where
  reserved : fld v 36 4 = 0 ∧ fld v 65 63 = 0
  rate : fld v 0 16 ≤ 50000
  burst : 0 < fld v 16 17 ∧ fld v 16 17 ≤ 65536
  priority : fld v 33 3 ≠ 0
  span : fld v 60 5 ≤ 20
  range : rangeOk (fld v 40 20) (fld v 60 5) = true

/-- A SLOW_REASON record that fits is stored, the reason's bucket following it (R91, R95). -/
theorem exec_slowReasonWrite_fits (h : Served s c 0x0308 e) {v : BitVec 128} (hn₁ : 0 < n) (hn₂ : n ≤ 10)
    (hv : SlowReasonFits v) :
    let old := slowReason s n
    let b := retune (AMap.find s.sluice.reasonBuckets n) (fld old 0 16) (fld old 16 17) (fld v 16 17) (now s)
    exec (.slowReasonWrite c n v) s = applied c (s.setSluice { s.sluice with
      reasons := AMap.put s.sluice.reasons n v, reasonBuckets := AMap.put s.sluice.reasonBuckets n b }) := by
  obtain ⟨⟨hr₁, hr₂⟩, hrate, ⟨hb₁, hb₂⟩, hp, hs, hrange⟩ := hv
  refine served_done h ((if_neg (by simp [Nat.ne_of_gt hn₁, hn₂])).trans (unlessBad_of_none ?_))
  rw [firstBad_append, firstBad_reservedBad (by simp [hr₁, hr₂]), Option.none_or, firstBad_none]
  simp only [List.forall_mem_cons, List.not_mem_nil, false_imp_iff, implies_true, and_true]
  exact ⟨by simpa using hrate, burstBad_false hb₁ hb₂, by simpa using hp, by simpa using hs, by simp [hrange]⟩

/-- A SLOW_TENANT record with every field in range is stored, the tenant's bucket following it (R92, R96). -/
theorem exec_slowTenantWrite_passes (h : Served s c 0x0309 e) {v : BitVec 64} (hn : n ≤ 511) (hr₁ : fld v 14 2 = 0)
    (hr₂ : fld v 33 31 = 0) (hrate : fld v 0 14 ≤ 10000) (hf : slotBusy s n = false) (hb₁ : 0 < fld v 16 17)
    (hb₂ : fld v 16 17 ≤ 65536) :
    let old := slowTenant s n
    let b := retune (AMap.find s.sluice.tenantBuckets n) (fld old 0 14) (fld old 16 17) (fld v 16 17) (now s)
    exec (.slowTenantWrite c n v) s = applied c (s.setSluice { s.sluice with
      tenants := AMap.put s.sluice.tenants n v, tenantBuckets := AMap.put s.sluice.tenantBuckets n b }) := by
  refine served_done h ((if_neg (Nat.not_lt.2 hn)).trans (unlessBad_of_none ?_))
  rw [firstBad_append, firstBad_reservedBad (by simp [hr₁, hr₂]), Option.none_or]
  exact firstBad_cons_of_false (by simpa using hrate)
    (firstBad_cons_of_false (burstBad_false hb₁ hb₂) (firstBad_cons_of_false hf rfl))

end SlowPath

section Record
variable {s : State} {c : CmdRef} {e : Entry}

/-- Two EtherTypes of the record `SLUICE` do not clash where the first is unused or differs from the second (R72). -/
theorem etherTypeClash_false {a b : Nat} (h : a = 0 ∨ a ≠ b) : (a != 0 && a == b) = false := by
  rcases h with h | h <;> simp [h]

/-- The record `SLUICE` is stored where its EtherTypes in use are distinct (R72). -/
theorem exec_sluiceWrite_passes (h : Served s c 0x030A e) {v : BitVec 64} (hr : fld v 48 16 = 0)
    (h₁ : fld v 0 16 = 0 ∨ fld v 0 16 ≠ fld v 16 16) (h₂ : fld v 0 16 = 0 ∨ fld v 0 16 ≠ fld v 32 16)
    (h₃ : fld v 16 16 = 0 ∨ fld v 16 16 ≠ fld v 32 16) :
    exec (.sluiceWrite c v) s = applied c (s.setSluice { s.sluice with cfg := v }) := by
  refine served_done h (unlessBad_of_none ?_)
  rw [firstBad_append, firstBad_reservedBad (by simp [hr]), Option.none_or]
  exact firstBad_cons_of_false (etherTypeClash_false h₁) (firstBad_cons_of_false
    (Bool.or_eq_false_iff.2 ⟨etherTypeClash_false h₂, etherTypeClash_false h₃⟩) rfl)

/-- CLASSIFIER_READ of an object that exists returns what its caller may see of it (R88, R96, R408). -/
theorem exec_classifierRead_visible (h : Served s c 0x030B e) {kind index : Nat} {d : List Byte} (hk : kind ≤ 6)
    (hi : index < classifierCount kind) (hb : kind = 4 ∨ kind = 5 → slotBusy s index = false)
    (hd : classifierData s ⟨c.acc, actor s e, ownerOf s e == some operatorId, e⟩ kind index = some d) :
    exec (.classifierRead c kind index) s = replies c d s := by
  refine served_done h ((if_neg (Nat.not_lt.2 hk)).trans ((if_neg (Nat.not_le.2 hi)).trans
    ((if_neg (by simpa using hb)).trans ?_)))
  simp only [hd]
  rfl

end Record

end Sys2Proof.Machine
end

section
open Sys2Proof Sys2Proof.Machine

/-- Settles O23: each served command where its tests pass. -/
theorem classifierCommandsComplete : Obligations.ClassifierCommandsComplete := by
  unfold Obligations.ClassifierCommandsComplete
  intro s c e me op call
  refine ⟨fun h x hw hr ha hp ht hb => ?_, exec_scopeRuleDelete_served, fun h x hp hb hw hx => ?_, exec_ruleDelete_served,
    fun h _ _ _ => exec_ruleRead_installed h, fun h _ _ => exec_profileWrite_passes h,
    fun h _ _ => exec_profileSetWrite_passes h, fun h id v hi hr₁ hr₂ ho ht₁ ht₂ hb => ?_,
    fun h n v hn₁ hn₂ hr₁ hr₂ hrate hb₁ hb₂ hp hs hrange => ?_, fun h _ _ => exec_slowTenantWrite_passes h,
    fun h _ => exec_sluiceWrite_passes h, fun h _ _ _ => exec_classifierRead_visible h⟩
  · have hx : ScopeRuleFits s call x := ⟨hw, hr, ha, hp, ht, hb⟩
    exact ⟨exec_scopeRuleAdd_new h hx, fun _ => exec_scopeRuleAdd_same h hx⟩
  · have hx : RuleFits s call x := ⟨hp, hb, hw, hx⟩
    exact ⟨exec_ruleAdd_new h hx, fun _ => exec_ruleAdd_same h hx⟩
  · have hv : MirrorFits s id v := ⟨hi, ⟨hr₁, hr₂⟩, ho, ⟨ht₁, ht₂⟩, hb⟩
    exact ⟨exec_mirrorSessionWrite_owned h hv, exec_mirrorSessionWrite_given h hv⟩
  · exact exec_slowReasonWrite_fits h hn₁ hn₂ ⟨⟨hr₁, hr₂⟩, hrate, ⟨hb₁, hb₂⟩, hp, hs, hrange⟩

end

section
/-! What an instruction that has issued answers, by its effect (R137, R150, R152, R159); contexts and fields of its operands. -/
namespace Sys2Proof.Machine

/-- The answer of an instruction of thread `t` that has issued on machine `r`, by its effect. -/
def answer (r : State) (t cost : Nat) (e : Eff) : Out := .next (finish (applyEff r t cost e))

@[simp] theorem answer_next (r u : State) (t cost : Nat) : answer r t cost (.next u) = completes t cost u := rfl

@[simp] theorem answer_wait (r u : State) (t cost : Nat) (b : Block) : answer r t cost (.wait u b) = blocks t b u := rfl

@[simp] theorem answer_trap (r : State) (t cost code : Nat) (v : Word) :
    answer r t cost (.trap code v) = faults t code v r := rfl

@[simp] theorem answer_left (r u : State) (t cost : Nat) : answer r t cost (.left u) = acts u := rfl

theorem issue_answer {s : State} {t : Nat} {slotOk : Bool} {srcs : List (BitVec 5)} (h : Ready s t slotOk srcs)
    (word cost : Nat) (body : State → Thread → Eff) :
    issue t slotOk word srcs cost s body = answer (issued s t srcs) t cost (body (issued s t srcs) (s.thread t)) :=
  issue_ready h word cost body

theorem issueLegal_answer {s : State} {t : Nat} {slotOk : Bool} {srcs : List (BitVec 5)} (h : Ready s t slotOk srcs)
    (word cost : Nat) (body : State → Thread → Eff) :
    issueLegal t slotOk word srcs cost s none body =
      answer (issued s t srcs) t cost (body (issued s t srcs) (s.thread t)) :=
  issueLegal_ready h word cost body

theorem Thread.ctxId_packet {x : Thread} {c : Nat} (h : x.task = .packet c) : x.ctxId = some c := by
  simp [Thread.ctxId, h]

/-- The field of the low bits of a word. -/
theorem fld_low (v : Word) (w : Nat) : fld v 0 w = v.toNat % 2 ^ w := by
  simp [fld, bitsOf]

end Sys2Proof.Machine
end

section
/-! Stores (R108, R122, R139, R143, R147, R159, R173): what becomes of a store by its place. -/
namespace Sys2Proof.Machine

/-- Near memory: a local store or a packet window. -/
def MemRef.near : MemRef → Bool
  | .localStore _ _ => true
  | .window _ _ => true
  | _ => false

/-- Memory behind a DRAM window. -/
def MemRef.inDram : MemRef → Bool
  | .dram _ _ => true
  | _ => false

theorem MemRef.inDram_of_near {m : MemRef} (h : m.near = true) : m.inDram = false := by
  cases m with
  | localStore _ _ => rfl
  | window _ _ => rfl
  | sram _ _ => cases h
  | dram _ _ => cases h

section StoreTo
variable {r : State} {x : Thread} {t addr size : Nat} {v : Word} {m : MemRef}

/-- A store by where its place is: whether near, whether in DRAM. -/
theorem storeTo_eq : storeTo r x t addr size v m =
    if !m.near && x.spec r then .wait r .serial
    else if m.inDram || (!m.near && !onCc t) then .wait r (.access (.store size v) m (BitVec.ofNat 64 addr) 0)
    else if onCc t && !deterministic r t then
      if (ccBuffer r t).length ≥ 8 then .wait r (.bufferRoom m size v)
      else .next (setCcBuffer r t (ccBuffer r t ++ [⟨t, m, size, v⟩]))
    else .next (writeMem r m size v.toNat) := by
  cases m <;> rfl

theorem storeTo_near (hm : m.near = true) (hc : onCc t = false ∨ deterministic r t = true) :
    storeTo r x t addr size v m = .next (writeMem r m size v.toNat) := by
  have hb : (onCc t && !deterministic r t) = false := by
    rcases hc with hc | hc <;> simp [hc]
  simp [storeTo_eq, hm, MemRef.inDram_of_near hm, hb]

theorem storeTo_speculative (hm : m.near = false) (hs : x.spec r = true) :
    storeTo r x t addr size v m = .wait r .serial := by
  simp [storeTo_eq, hm, hs]

theorem storeTo_far (hm : m.near = false) (hs : x.spec r = false) (hd : m.inDram = true ∨ onCc t = false) :
    storeTo r x t addr size v m = .wait r (.access (.store size v) m (BitVec.ofNat 64 addr) 0) := by
  have hf : (m.inDram || (!m.near && !onCc t)) = true := by
    rcases hd with hd | hd <;> simp [hd, hm]
  simp [storeTo_eq, hs, hf]

theorem storeTo_deterministic (hs : x.spec r = false) (hd : m.inDram = false) (hc : onCc t = true)
    (hdet : deterministic r t = true) : storeTo r x t addr size v m = .next (writeMem r m size v.toNat) := by
  simp [storeTo_eq, hs, hd, hc, hdet]

theorem storeTo_buffered (hd : m.inDram = false) (hs : m.near = true ∨ x.spec r = false) (hc : onCc t = true)
    (hdet : deterministic r t = false) :
    storeTo r x t addr size v m =
      if (ccBuffer r t).length < 8 then .next (setCcBuffer r t (ccBuffer r t ++ [⟨t, m, size, v⟩]))
      else .wait r (.bufferRoom m size v) := by
  have hw : (!m.near && x.spec r) = false := by
    rcases hs with hs | hs <;> simp [hs]
  by_cases hl : (ccBuffer r t).length < 8
  · simp [storeTo_eq, hw, hd, hc, hdet, hl]
  · simp [storeTo_eq, hw, hd, hc, hdet, hl, Nat.not_lt.1 hl]

end StoreTo

section StoreOp
variable {s : State} {t major size : Nat} {a b : BitVec 5} {disp : BitVec 16} (h : Ready s t true [a, b])
include h

theorem storeOp_misaligned (ha : effAddr (s.thread t) b disp % size ≠ 0) :
    storeOp t major a b disp size s = faults t 4 (BitVec.ofNat 64 (effAddr (s.thread t) b disp)) (issued s t [a, b]) :=
  (issue_answer h _ _ _).trans (by simp [ha])

variable (ha : effAddr (s.thread t) b disp % size = 0)
include ha

theorem storeOp_refused {code : Nat}
    (hp : place (issued s t [a, b]) (s.thread t) t (effAddr (s.thread t) b disp) size true = .bad code) :
    storeOp t major a b disp size s = faults t code
      (BitVec.ofNat 64 (if code = 0x15 then wordI major a b disp.toNat else effAddr (s.thread t) b disp)) (issued s t [a, b]) :=
  (issue_answer h _ _ _).trans (by simp [ha, hp, accessTrap])

theorem storeOp_record {off : Nat}
    (hp : place (issued s t [a, b]) (s.thread t) t (effAddr (s.thread t) b disp) size true = .record off) :
    storeOp t major a b disp size s = faults t 6 (BitVec.ofNat 64 (effAddr (s.thread t) b disp)) (issued s t [a, b]) :=
  (issue_answer h _ _ _).trans (by simp [ha, hp])

variable {m : MemRef} (hp : place (issued s t [a, b]) (s.thread t) t (effAddr (s.thread t) b disp) size true = .ref m)
include hp

theorem storeOp_locked (hl : touchesLock (issued s t [a, b]) m size = true) :
    storeOp t major a b disp size s = faults t 5 (BitVec.ofNat 64 (effAddr (s.thread t) b disp)) (issued s t [a, b]) :=
  (issue_answer h _ _ _).trans (by simp [ha, hp, hl])

theorem storeOp_unlocked (hl : touchesLock (issued s t [a, b]) m size = false) :
    storeOp t major a b disp size s = answer (issued s t [a, b]) t 2
      (storeTo (issued s t [a, b]) (s.thread t) t (effAddr (s.thread t) b disp) size ((s.thread t).reg a) m) :=
  (issue_answer h _ _ _).trans (by simp [ha, hp, hl])

end StoreOp

end Sys2Proof.Machine
end

section
open Sys2Proof Sys2Proof.Machine

/-- Settles O8: the four stores are one operation, which decides by alignment, place, lock and then `storeTo`. -/
theorem storesComplete : Obligations.StoresComplete := by
  unfold Obligations.StoresComplete
  intro s t a b disp h x r addr where_ q hq
  have hop : exec q.1 s = storeOp t q.2.1 a b disp q.2.2 s := by
    revert q
    simp only [List.forall_mem_cons]
    exact ⟨rfl, rfl, rfl, rfl, by simp⟩
  rw [hop]
  refine ⟨storeOp_misaligned h, fun ha => ⟨fun _ => storeOp_refused h ha, fun _ => storeOp_record h ha, ?_⟩⟩
  intro m hp near dram
  refine ⟨storeOp_locked h ha hp, fun hl => ?_⟩
  rw [storeOp_unlocked h ha hp hl]
  refine ⟨fun hn hc => ?_, fun hn hs => ?_, fun hn hs hd => ?_, fun _ hs hd hc hdet => ?_, fun hd hs hc hdet => ?_⟩
  · rw [storeTo_near hn hc]; rfl
  · rw [storeTo_speculative hn hs]; rfl
  · rw [storeTo_far hn hs hd]; rfl
  · rw [storeTo_deterministic hs hd hc hdet]; rfl
  · rw [storeTo_buffered hd hs hc hdet]; exact apply_ite _ _ _ _

end
section
/-! CSR accesses (R130–R134), `CSYNC` (R174) and illegal words (R137). -/
namespace Sys2Proof.Machine

/-- A CSR whose value no read makes up stands in the thread (R130). -/
theorem csrRead_stored {s : State} {t n : Nat} {x : Thread} (h : 5 < n) (h₁₈ : n ≠ 0x18) (h₁₉ : n ≠ 0x19) :
    csrRead s t x n = (x.csr n, s) := by
  unfold csrRead
  simp [h₁₈, h₁₉, show n ≠ 0 ∧ n ≠ 1 ∧ n ≠ 2 ∧ n ≠ 3 ∧ n ≠ 4 ∧ n ≠ 5 by omega]

/-- A CSR that some level may write is `TSTAT`, `PKT_LEN` or stored. -/
theorem csrRead_writable {s : State} {t n l : Nat} {x : Thread} (hw : csrWriteLevel n = some l) (h₀ : n ≠ 0) (h₄ : n ≠ 4) :
    csrRead s t x n = (x.csr n, s) := by
  have hn : n / 4 = 8 ∨ n = 0x11 ∨ n = 8 ∨ n = 9 ∨ n = 0x10 ∨ n / 4 = 0x0C ∨ n / 8 = 8 := by
    by_contra hn
    simp only [not_or] at hn
    simp [csrWriteLevel, h₀, h₄, hn] at hw
  exact csrRead_stored (by omega) (by omega) (by omega)

theorem csrRead_pktLen {s : State} {t c : Nat} {x : Thread} {k : Ctx} (hx : x.ctxId = some c) (hk : s.ctx? c = some k) :
    csrRead s t x 4 = (BitVec.ofNat 64 k.pktLen, s) := by
  simp [csrRead, hx, hk]

/-- The sync class has neither `TSTAT` nor `PKT_LEN`. -/
theorem csrSync_ne {n : Nat} (h : csrSync n = true) : n ≠ 0 ∧ n ≠ 4 := by
  constructor
  · rintro rfl; cases h
  · rintro rfl; cases h

theorem csrWrite_sync {s : State} {t n : Nat} (v : Word) (word : Nat) (h : csrSync n = true) :
    csrWrite s t n v word = .next (s.setThread t { s.thread t with
      pendingCsrs := AMap.put (s.thread t).pendingCsrs n (v &&& csrMask n),
      csrWrites := AMap.put (s.thread t).csrWrites n ⟨(s.thread t).issued, 0, (s.thread t).pc, (s.thread t).cost⟩ }) := by
  obtain ⟨h₀, h₄⟩ := csrSync_ne h
  simp [csrWrite, h₀, h₄, h]

theorem csrWrite_direct {s : State} {t n : Nat} (v : Word) (word : Nat) (h : csrSync n = false) (h₀ : n ≠ 0) (h₄ : n ≠ 4) :
    csrWrite s t n v word = .next (s.setThread t { s.thread t with csrs := AMap.put (s.thread t).csrs n (v &&& csrMask n) }) := by
  simp [csrWrite, h₀, h₄, h]

theorem csrWrite_pktLen {s : State} {t c : Nat} {k : Ctx} {v : Word} (word : Nat) (hx : (s.thread t).ctxId = some c)
    (hk : s.ctx? c = some k) (hv : v.toNat ≤ 15872) :
    csrWrite s t 4 v word = .next (s.setCtx c { k with pktLen := v.toNat }) := by
  simp [csrWrite, hx, hk, Nat.not_lt.2 hv]

theorem csrWrite_tstat (s : State) (t : Nat) (v : Word) (word : Nat) :
    csrWrite s t 0 v word = .next (s.setThread t { s.thread t with
      ov := (s.thread t).ov && !v.getLsbD 0, dz := (s.thread t).dz && !v.getLsbD 1 }) := rfl

/-- An access to `TSTAT` that must wait: in guarded mode, for the sticky bits' youngest producers (R176). -/
def tstatBusy (x : Thread) (n : Nat) : Prop :=
  n = 0 ∧ guarded x = true ∧ (producing x 32 = true ∨ producing x 33 = true)

section Csr
variable {s : State} {t xf : Nat} {a b : BitVec 5} {n : BitVec 12} {srcs : List (BitVec 5)}

theorem csrOp_unassigned (h : Ready s t true []) (hn : csrExists n.toNat = false) (f : Option (Word → Word → Word)) :
    csrOp t a b n xf srcs s f = faults t 1 (BitVec.ofNat 64 (wordX 1 a b n.toNat xf)) (issued s t []) := by
  unfold csrOp
  dsimp only
  rw [if_neg (by simp [hn])]
  exact issueLegal_bad h _ _ _ _ _

variable (h : Ready s t true srcs) (hn : csrExists n.toNat = true)
include h hn

theorem csrOp_level_low (f : Option (Word → Word → Word)) (hl : csrReadLevel n.toNat < (s.thread t).level) :
    csrOp t a b n xf srcs s f = faults t 2 (zext n) (issued s t srcs) := by
  unfold csrOp
  dsimp only
  rw [if_pos hn]
  exact (issueLegal_answer h _ _ _).trans (by simp [hl])

/-- A write that no level, or a higher one only, may make. -/
theorem csrOp_write_refused (g : Word → Word → Word) (hw : ∀ l, csrWriteLevel n.toNat = some l → l < (s.thread t).level) :
    csrOp t a b n xf srcs s (some g) = faults t 2 (zext n) (issued s t srcs) := by
  unfold csrOp
  dsimp only
  rw [if_pos hn]
  refine (issueLegal_answer h _ _ _).trans ?_
  cases hl : csrWriteLevel n.toNat with
  | none => simp
  | some l => simp [hw l hl]

variable (hr : (s.thread t).level ≤ csrReadLevel n.toNat) (hb : ¬tstatBusy (s.thread t) n.toNat)
include hr hb

theorem csrOp_reads :
    csrOp t a b n xf srcs s none = completes t 1
      (writeReg (reportCsr (csrRead (issued s t srcs) t (s.thread t) n.toNat).2 t n.toNat) t a
        (csrRead (issued s t srcs) t (s.thread t) n.toNat).1 1 0) := by
  unfold csrOp
  dsimp only
  rw [if_pos hn]
  refine (issueLegal_answer h _ _ _).trans ?_
  have hb : (n.toNat == 0 && guarded (s.thread t) && (producing (s.thread t) 32 || producing (s.thread t) 33)) = false := by
    simpa [tstatBusy] using hb
  simp only [Nat.not_lt.2 hr, hb]
  rfl

/-- A write that its level permits gives the value read and does what `csrWrite` does. -/
theorem csrOp_writes {g : Word → Word → Word} {l : Nat} {u : State} {v : Word}
    (hl : csrWriteLevel n.toNat = some l) (hx : (s.thread t).level ≤ l)
    (hv : csrRead (issued s t srcs) t (s.thread t) n.toNat = (v, issued s t srcs))
    (hu : csrWrite (issued s t srcs) t n.toNat (g v ((s.thread t).reg b)) (wordX 1 a b n.toNat xf) = .next u) :
    csrOp t a b n xf srcs s (some g) = completes t 1 (writeReg u t a v 1 0) := by
  unfold csrOp
  dsimp only
  rw [if_pos hn]
  refine (issueLegal_answer h _ _ _).trans ?_
  have hb : (n.toNat == 0 && guarded (s.thread t) && (producing (s.thread t) 32 || producing (s.thread t) 33)) = false := by
    simpa [tstatBusy] using hb
  simp [Nat.not_lt.2 hr, Nat.not_lt.2 hx, hl, hb, hv, hu]

end Csr

/-- The major opcode of an instruction word is its upper 6 bits. -/
theorem major_eq (w : BitVec 32) : fld w 26 6 = w.toNat / 2 ^ 26 := by
  simp only [fld, bitsOf, Nat.shiftRight_eq_div_pow]
  have := w.isLt
  omega

section System
variable {s : State} {t : Nat} (h : Ready s t true [])
include h

theorem exec_csync_landed (hf : (s.thread t).flights = []) :
    exec (.csync t) s = completes t 1 ((issued s t []).setThread t { s.thread t with
      csrs := (s.thread t).pendingCsrs.foldl (fun m p => AMap.put m p.1 p.2) (s.thread t).csrs,
      pendingCsrs := [], csrWrites := [] }) :=
  (issue_answer h _ _ _).trans (by simp [hf])

theorem exec_csync_waits (hf : (s.thread t).flights ≠ []) :
    exec (.csync t) s = blocks t .results ((issued s t []).setThread t { s.thread t with
      cost := (s.thread t).flights.foldl (fun c f => max c f.ready) (s.thread t).cost }) :=
  (issue_answer h _ _ _).trans (by simp [hf])

theorem exec_ser_certain (hs : (s.thread t).spec (issued s t []) = false) :
    exec (.ser t) s = completes t 1 (issued s t []) :=
  (issue_answer h _ _ _).trans (by simp [hs])

theorem exec_ser_speculative (hs : (s.thread t).spec (issued s t []) = true) :
    exec (.ser t) s = blocks t .serial (issued s t []) :=
  (issue_answer h _ _ _).trans (by simp [hs])

theorem exec_fence_empty (hb : ccBuffer (issued s t []) t = []) : exec (.fence t) s = completes t 1 (issued s t []) :=
  (issue_answer h _ _ _).trans (by rw [hb]; rfl)

theorem exec_fence_waits (hb : ccBuffer (issued s t []) t ≠ []) :
    exec (.fence t) s = blocks t .bufferEmpty (issued s t []) :=
  (issue_answer h _ _ _).trans (by rw [if_neg (by simpa using hb)]; rfl)

theorem exec_trap (n : BitVec 12) : exec (.trap t n) s = faults t 0x17 (zext n) (issued s t []) := issue_answer h _ _ _

theorem exec_illegalInstruction_cp3 {w : BitVec 32} (hw : w.toNat / 2 ^ 26 = 0x3F) :
    exec (.illegalInstruction t w) s = faults t 3 3 (issued s t []) :=
  (issue_answer h _ _ _).trans (by simp only [major_eq, hw]; rfl)

theorem exec_illegalInstruction_unassigned {w : BitVec 32} (hw : w.toNat / 2 ^ 26 < 0x3E) (hl : legalWord w.toNat = false) :
    exec (.illegalInstruction t w) s = faults t 1 (zext w) (issued s t []) :=
  (issue_answer h _ _ _).trans (by
    have h₁ : w.toNat / 2 ^ 26 ≠ 0x3F := by omega
    have h₂ : w.toNat / 2 ^ 26 ≠ 0x3E := by omega
    simp only [major_eq, beq_eq_false_iff_ne.2 h₁, beq_eq_false_iff_ne.2 h₂, hl]
    rfl)

end System

end Sys2Proof.Machine
end

section
open Sys2Proof Sys2Proof.Machine

/-- Settles O10: the CSR accesses by `csrOp`, what a CSR reads and what a write of it does; the others by their effect. -/
theorem systemInstructionsComplete : Obligations.SystemInstructionsComplete := by
  unfold Obligations.SystemInstructionsComplete
  refine ⟨fun s t a n h => ⟨fun hn hl hb => csrOp_reads h hn hl fun hb' => hb ⟨?_, hb'.2⟩,
    fun hn => csrOp_unassigned h hn _, fun hn hl => csrOp_level_low h hn _ hl⟩,
    fun s t a b n h hn => ⟨csrOp_unassigned h hn _, csrOp_unassigned h hn _, csrOp_unassigned h hn _⟩,
    fun s t a b n l h => ?_, fun s t h => ⟨exec_csync_landed h, exec_csync_waits h, exec_ser_certain h,
      exec_ser_speculative h, exec_fence_empty h, exec_fence_waits h, exec_trap h, fun _ => exec_illegalInstruction_cp3 h,
      fun _ => exec_illegalInstruction_unassigned h⟩⟩
  · exact BitVec.eq_of_toNat_eq hb'.1
  intro x r B q hq
  have hop : exec q.1 s = csrOp t a b n q.2.1 [b] s (some q.2.2) := by
    revert q
    simp only [List.forall_mem_cons]
    exact ⟨rfl, rfl, rfl, by simp⟩
  have hxr : r.thread t = x := issued_thread s t t [b]
  rw [hop]
  refine ⟨fun hn hl hx hr => ⟨fun hs => ?_, fun hs h₀ h₄ => ?_, fun h₄ c k hk hc hv => ?_, fun h₀ hb => ?_⟩,
    fun hn hw => csrOp_write_refused h hn _ (by simp [hw]), fun hn hw hl => csrOp_write_refused h hn _ (by simpa [hw] using hl)⟩
  · obtain ⟨h₀, h₄⟩ := csrSync_ne hs
    refine csrOp_writes h hn hr (fun hb => h₀ hb.1) hl hx (csrRead_writable hl h₀ h₄) ?_
    rw [csrWrite_sync _ _ hs, hxr]
  · refine csrOp_writes h hn hr (fun hb => h₀ hb.1) hl hx (csrRead_writable hl h₀ h₄) ?_
    rw [csrWrite_direct _ _ hs h₀ h₄, hxr]
  · have hk : x.ctxId = some c := Thread.ctxId_packet hk
    refine csrOp_writes h hn hr (fun hb => by simp [hb.1] at h₄) hl hx (h₄ ▸ csrRead_pktLen hk hc) ?_
    rw [h₄]
    exact csrWrite_pktLen _ (hxr ▸ hk) hc hv
  · refine csrOp_writes h hn hr (fun hb' => hb hb'.2) hl hx (h₀ ▸ rfl) ?_
    rw [h₀, csrWrite_tstat, hxr]

end
section
/-! Thread and task instructions (R107, R148, R149, R184–R195, R492): each by its arm. -/
namespace Sys2Proof.Machine

/-- A branch goes to its own address plus 4 times its signed offset, modulo 2^64 (R136). -/
theorem branchTarget_eq (x : Thread) (off : BitVec 21) :
    branchTarget x off = (((x.pc : Int) + 4 * off.toInt) % 2 ^ 64).toNat := by
  have hlo : -2 ^ 20 ≤ off.toInt := BitVec.le_toInt off
  unfold branchTarget
  omega

section Fork
variable {s : State} {t : Nat} {a : BitVec 5} {off : BitVec 21} (h : Ready s t true [])
include h

theorem exec_fork_poolEmpty (hp : pool (issued s t []) t = []) :
    exec (.fork t a off) s = completes t 1 (writeReg (perfCount (issued s t []) t 13) t a (-1) 1 0) :=
  (issue_answer h _ _ _).trans (by simp [hp])

/-- The first thread of the pool starts as a child, known to its family's first thread (R149, R191). -/
theorem exec_fork_starts {u : Nat} {rest : List Nat} (hp : pool (issued s t []) t = u :: rest) :
    let x := s.thread t
    let r := issued s t []
    let target := (((x.pc : Int) + 4 * off.toInt) % 2 ^ 64).toNat
    let cleared := emptyLinks { r with free := r.free + 1 } u (threadsOf r x.task)
    let started := traceThread (cleared.setThread u (childOf r x t u target)) u 5 0 0
    let parented := started.setThread t { started.thread t with children := (started.thread t).children ++ [tidThread u] }
    let known := match (threadsOf parented x.task).find? (fun v => (parented.thread v).first) with
      | none => parented
      | some v => parented.setThread v { parented.thread v with kin := (parented.thread v).kin ++ [(u, (childOf r x t u target).run)] }
    exec (.fork t a off) s = completes t 1 (writeReg known t a (BitVec.ofNat 64 (tidThread u)) 1 0) := by
  intro x r
  refine (issue_answer h _ _ _).trans ?_
  rw [← branchTarget_eq]
  simp only [hp]
  rfl

end Fork

section Exit
variable {s : State} {t : Nat} {b : BitVec 5} (h : Ready s t false [b])
include h

theorem exec_exit_child {p : Nat} (hp : (s.thread t).parent = some p) :
    exec (.exit t b) s = acts (exitChild (issued s t [b]) t p ((s.thread t).reg b)) :=
  (issue_answer h _ _ _).trans (by simp [hp])

variable (hp : (s.thread t).parent = none)
include hp

theorem exec_exit_packet {c : Nat} (ht : (s.thread t).task = .packet c) :
    exec (.exit t b) s = acts (endPacket (issued s t [b]) c 0) :=
  (issue_answer h _ _ _).trans (by simp [hp, ht])

theorem exec_exit_activation {pan slot : Nat} (ht : (s.thread t).task = .persistent pan slot) :
    exec (.exit t b) s = acts (endActivation (stopThreads (issued s t [b]) (s.thread t).task false 0) pan slot false) :=
  (issue_answer h _ _ _).trans (by simp [hp, ht])

theorem exec_exit_other (ht : (∃ pan, (s.thread t).task = .supervisor pan) ∨ (s.thread t).task = .legend) :
    exec (.exit t b) s = acts (stopThreads (issued s t [b]) (s.thread t).task false 0) := by
  refine (issue_answer h _ _ _).trans ?_
  obtain ⟨pan, ht⟩ | ht := ht
  · simp [hp, ht]
  · simp [hp, ht]

end Exit

section JoinAndWait
variable {s : State} {t : Nat} {a b : BitVec 5} (h : Ready s t true [b])
include h

theorem exec_join_ended {v : Word} (he : AMap.find (s.thread t).exited ((s.thread t).reg b).toNat = some v) :
    exec (.join t a b) s = acts (wake ((issued s t [b]).setThread t
      { s.thread t with exited := AMap.del (s.thread t).exited ((s.thread t).reg b).toNat }) t a.toNat v) :=
  (issue_answer h _ _ _).trans (by simp [he])

theorem exec_join_running (he : AMap.find (s.thread t).exited ((s.thread t).reg b).toNat = none)
    (hc : ((s.thread t).reg b).toNat ∈ (s.thread t).children) :
    exec (.join t a b) s = blocks t (.join ((s.thread t).reg b).toNat a.toNat) (issued s t [b]) :=
  (issue_answer h _ _ _).trans (by simp [he, hc])

theorem exec_join_stranger (he : AMap.find (s.thread t).exited ((s.thread t).reg b).toNat = none)
    (hc : ((s.thread t).reg b).toNat ∉ (s.thread t).children) :
    exec (.join t a b) s = faults t 15 ((s.thread t).reg b) (issued s t [b]) :=
  (issue_answer h _ _ _).trans (by simp [he, hc])

theorem exec_efw_noMask (hn : ((s.thread t).reg b).toNat = 0) : exec (.efw t a b) s = acts (wake (issued s t [b]) t a.toNat 0) :=
  (issue_answer h _ _ _).trans (by rw [hn]; rfl)

/-- An activation takes those of its flags that the mask names, or waits for one (R193, R194). -/
theorem exec_efw_activation {pan slot : Nat} {k : PTask} (hn : ((s.thread t).reg b).toNat ≠ 0)
    (ht : (s.thread t).task = .persistent pan slot) (hk : (issued s t [b]).task? pan slot = some k) :
    let r := issued s t [b]
    let n := ((s.thread t).reg b).toNat
    exec (.efw t a b) s =
      if k.flags &&& n ≠ 0 then
        acts (wake (r.setTask pan slot { k with flags := k.flags - (k.flags &&& n) }) t a.toNat (BitVec.ofNat 64 (k.flags &&& n)))
      else blocks t (.efw n a.toNat) (r.setTask pan slot { k with waiters := k.waiters ++ [t] }) := by
  intro r n
  refine (issue_answer h _ _ _).trans ?_
  have hn : (n == 0) = false := beq_eq_false_iff_ne.2 hn
  by_cases hg : k.flags &&& n = 0
  · rw [if_neg (not_not.2 hg)]
    simp only [n, hn, ht, hk, hg]
    rfl
  · rw [if_pos hg]
    simp only [n, hn, ht, hk, bne_iff_ne.2 hg]
    rfl

end JoinAndWait

section Yield
variable {s : State} {t : Nat} (h : Ready s t true [])
include h

theorem exec_yield_activation {pan slot : Nat} (ht : (s.thread t).task = .persistent pan slot) :
    exec (.yield t) s = acts (endActivation (stopThreads (issued s t []) (s.thread t).task false 2) pan slot true) :=
  (issue_answer h _ _ _).trans (by simp [ht])

theorem exec_yield_packet {c : Nat} (ht : (s.thread t).task = .packet c) :
    exec (.yield t) s = faults t 21 (BitVec.ofNat 64 (wordX 0x3A 0 0 0 2)) (issued s t []) :=
  (issue_answer h _ _ _).trans (by simp [ht])

end Yield

section SetFlags
variable {s : State} {t : Nat} {a b : BitVec 5} (h : Ready s t true [a, b]) (hc : (s.thread t).ctxId = none)
include h hc

theorem exec_efs_sends {pan slot : Nat} {k : PTask} (hh : ((s.thread t).reg a).toNat < 2 ^ 32)
    (hk : taskByHandle (issued s t [a, b]) ((s.thread t).reg a).toNat = some (pan, slot, k))
    (hp : (s.thread t).level = 0 ∨ taskTenant k = (s.thread t).tenant) :
    let r := issued s t [a, b]
    exec (.efs t a b) s = completes t 1 (r.setPan pan { r.pan pan with
      efs := (r.pan pan).efs ++ [(((s.thread t).reg a).toNat, ((s.thread t).reg b).toNat % 2 ^ 32, tidPan t)] }) := by
  intro r
  have hforeign : ((s.thread t).level != 0 && taskTenant k != (s.thread t).tenant) = false := by
    rcases hp with hp | hp <;> simp [hp]
  refine (issue_answer h _ _ _).trans ?_
  simp [hc, Nat.not_le.2 hh, hk, hforeign, fld_low, r, -Nat.reducePow]

theorem exec_efs_rejected (hh : 2 ^ 32 ≤ ((s.thread t).reg a).toNat ∨
      taskByHandle (issued s t [a, b]) ((s.thread t).reg a).toNat = none) :
    exec (.efs t a b) s = completes t 1 (panCount (issued s t [a, b]) (tidPan t) 2) := by
  refine (issue_answer h _ _ _).trans ?_
  by_cases hb : 2 ^ 32 ≤ ((s.thread t).reg a).toNat
  · simp [hc, hb, -Nat.reducePow]
  · simp [hc, hb, hh.resolve_left hb, -Nat.reducePow]

end SetFlags

/-- An `EFS` that arrives reaches its task, or is counted at the Pan that sent it (R192, R193). -/
theorem exec_flagApply_arrives {s : State} {h flags : Nat} {e : Nat × Nat × Nat}
    (he : (s.pan (h % 16)).efs.find? (fun e => e.1 == h && e.2.1 == flags) = some e) :
    let u := s.setPan (h % 16) { s.pan (h % 16) with efs := (s.pan (h % 16)).efs.erase e }
    (∀ pan slot k, taskByHandle u h = some (pan, slot, k) → exec (.flagApply h flags) s = acts (setFlags u pan slot flags)) ∧
      (taskByHandle u h = none → exec (.flagApply h flags) s = acts (panCount u e.2.2 2)) := by
  refine ⟨fun pan slot k hk => congrArg Host.Outcome.next ?_, fun hk => congrArg Host.Outcome.next ?_⟩
  · simp only [he]
    rw [hk]
  · simp only [he]
    rw [hk]

theorem exec_dly {s : State} {t : Nat} {b : BitVec 5} (h : Ready s t true [b]) :
    let x := s.thread t
    let r := issued s t [b]
    let p := r.pan (tidPan t)
    exec (.dly t b) s = blocks t .delay (r.setPan (tidPan t) { p with
      delays := insertDelay ⟨.thread t, p.tick + min (x.reg b).toNat 0xFFFFFFFF + 1, effPrio r x.task x.prio⟩ p.delays }) :=
  issue_answer h _ _ _

theorem exec_pdrop_packet {s : State} {t c : Nat} {n : BitVec 8} {k : Ctx} (h : Ready s t false [])
    (ht : (s.thread t).task = .packet c) (hk : (issued s t []).ctx? c = some k) :
    exec (.pdrop t n) s = acts (endPacket ((issued s t []).setCtx c { k with dropReason := some n.toNat }) c 1) :=
  (issue_answer h _ _ _).trans (by simp [Thread.ctxId_packet ht, hk])

section ProgramEvent
variable {s : State} {t : Nat} {b : BitVec 5} {n : BitVec 4} (h : Ready s t true [b])
include h

theorem exec_evp_outside (hc : (s.thread t).ctxId = none) :
    exec (.evp t b n) s = completes t 1 (programEvent (issued s t [b]) (s.thread t).tenant n.toNat
      (dataBytes 8 ((s.thread t).reg b).toNat + (s.thread t).program % 65536 * 2 ^ 240)) :=
  (issue_answer h _ _ _).trans (by simp [hc])

variable {c : Nat} {k : Ctx} (hc : (s.thread t).ctxId = some c) (hk : (issued s t [b]).ctx? c = some k)
include hc hk

theorem exec_evp_certain (hs : speculative (issued s t [b]) c = false) :
    exec (.evp t b n) s = completes t 1 (programEvent ((issued s t [b]).setCtx c { k with partly := true }) (s.thread t).tenant
      n.toNat (dataBytes 8 ((s.thread t).reg b).toNat + (s.thread t).program % 65536 * 2 ^ 240)) :=
  (issue_answer h _ _ _).trans (by simp [hc, hk, hs])

theorem exec_evp_speculative (hs : speculative (issued s t [b]) c = true) :
    exec (.evp t b n) s =
      if furtherUsed k < 32 then
        completes t 1 ((issued s t [b]).setCtx c { k with recs := k.recs ++ [.event n.toNat ((s.thread t).reg b)] })
      else blocks t .serial (issued s t [b]) := by
  refine (issue_answer h _ _ _).trans ?_
  by_cases hf : furtherUsed k < 32
  · simp [hc, hk, hs, hf, Nat.not_le.2 hf]
  · simp [hc, hk, hs, hf, Nat.not_lt.1 hf]

end ProgramEvent

section Egress
variable {s : State} {t id : Nat} {a b c : BitVec 5} {k : Ctx} (h : Ready s t true [a, b, c])
  (hc : (s.thread t).ctxId = some id) (hk : (issued s t [a, b, c]).ctx? id = some k)
include h hc hk

theorem exec_egr_ninth (he : 8 ≤ k.egress) : exec (.egr t a b c) s = faults t 0x13 9 (issued s t [a, b, c]) :=
  (issue_answer h _ _ _).trans (by simp [hc, hk, he])

variable (he : k.egress < 8)
include he

theorem exec_egr_invalid
    (hv : egressValid (issued s t [a, b, c]) ((s.thread t).reg a) ((s.thread t).reg b) ((s.thread t).reg c) = false) :
    exec (.egr t a b c) s = faults t 0x14 ((s.thread t).reg a) (issued s t [a, b, c]) :=
  (issue_answer h _ _ _).trans (by simp [hc, hk, Nat.not_le.2 he, hv])

theorem exec_egr_records
    (hv : egressValid (issued s t [a, b, c]) ((s.thread t).reg a) ((s.thread t).reg b) ((s.thread t).reg c) = true)
    (hs : speculative (issued s t [a, b, c]) id = false ∨ furtherUsed k < 32) :
    let A := (s.thread t).reg a
    exec (.egr t a b c) s = completes t 1 ((issued s t [a, b, c]).setCtx id { k with
      egress := k.egress + 1,
      recs := k.recs ++ [.egress (A.toNat % 64) (A.toNat / 64 % 8) ((s.thread t).reg b).toInt ((s.thread t).reg c).toNat] }) := by
  intro A
  have hroom : (speculative (issued s t [a, b, c]) id && decide (furtherUsed k ≥ 32)) = false := by
    rcases hs with hs | hs <;> simp [hs]
  refine (issue_answer h _ _ _).trans ?_
  simp [hc, hk, Nat.not_le.2 he, hv, hroom, fld, bitsOf, Nat.shiftRight_eq_div_pow, A]

end Egress

end Sys2Proof.Machine
end

section
open Sys2Proof Sys2Proof.Machine

/-- Settles O14: each instruction by its arm, case by case. -/
theorem threadInstructionsComplete : Obligations.ThreadInstructionsComplete := by
  unfold Obligations.ThreadInstructionsComplete
  exact ⟨fun _ _ _ _ h => ⟨exec_fork_poolEmpty h, fun _ _ => exec_fork_starts h⟩,
    fun _ _ _ h => ⟨fun _ => exec_exit_child h, fun hp _ => exec_exit_packet h hp, fun hp _ _ => exec_exit_activation h hp,
      fun hp => exec_exit_other h hp⟩,
    fun _ _ _ _ h => ⟨fun _ => exec_join_ended h, exec_join_running h, exec_join_stranger h, exec_efw_noMask h,
      fun hn _ _ _ => exec_efw_activation h hn⟩,
    fun _ _ h => ⟨fun _ _ => exec_yield_activation h, fun _ => exec_yield_packet h⟩,
    fun _ _ _ _ h hc => ⟨fun _ _ _ => exec_efs_sends h hc, exec_efs_rejected h hc⟩,
    fun _ _ _ _ => exec_flagApply_arrives, fun _ _ _ => exec_dly, fun _ _ _ _ _ h ht => exec_pdrop_packet h ht,
    fun _ _ _ _ h => ⟨exec_evp_outside h, fun _ _ hc hk => ⟨exec_evp_certain h hc hk, exec_evp_speculative h hc hk⟩⟩,
    fun _ _ _ _ _ _ _ h hc hk => ⟨exec_egr_ninth h hc hk, exec_egr_invalid h hc hk, exec_egr_records h hc hk⟩⟩

end
section
/-! CP2 commands (R107, R108, R216, R217, R224–R227): each by its record's place. -/
namespace Sys2Proof.Machine

/-- CP2 serves a PE thread whose level has it enabled (R210, R212). -/
theorem cpFault_tally {x : Thread} {t : Nat} (word : Nat) (hcc : onCc t = false) (hen : cpEnabled x 2 = true) :
    cpFault x t 2 word true = none := by
  simp [cpFault, hcc, hen]

/-- A command of CP2 passes its checks and acts. -/
theorem cpCommand_tally {s : State} {t cmd : Nat} {a b : BitVec 5} {useB : Bool} (h : Ready s t true [a, b])
    (hcc : onCc t = false) (hen : cpEnabled (s.thread t) 2 = true) (hb : useB = true ∨ b = 0) (go : State → Thread → Eff) :
    cpCommand t 2 cmd a b true useB s go = answer (issued s t [a, b]) t 1 (go (issued s t [a, b]) (s.thread t)) := by
  have hlegal : ((true || a == 0) && (useB || b == 0)) = true := by
    rcases hb with hb | hb <;> simp [hb]
  unfold cpCommand
  dsimp only
  rw [hlegal, cpFault_tally _ hcc hen]
  exact issueLegal_answer h _ _ _

theorem tallyPlace_misaligned {s : State} {x : Thread} {t align size : Nat} {addr : Word} {write : Bool}
    (ha : addr.toNat % align ≠ 0) : tallyPlace s x t addr align size write = .inr (.trap 4 addr) := by
  simp [tallyPlace, ha]

section Tally
variable {s : State} {t cmd align : Nat} {a b : BitVec 5} (h : Ready s t true [a, b]) (hcc : onCc t = false)
  (hen : cpEnabled (s.thread t) 2 = true)
include h hcc hen

theorem tallyOp_misaligned (ha : ((s.thread t).reg a).toNat % align ≠ 0) :
    tallyOp t cmd align a b s = faults t 4 ((s.thread t).reg a) (issued s t [a, b]) :=
  (cpCommand_tally h hcc hen (.inl rfl) _).trans (by simp [tallyPlace_misaligned ha])

variable {m : MemRef}
  (hm : tallyPlace (issued s t [a, b]) (s.thread t) t ((s.thread t).reg a) align align true = .inl m)
include hm

/-- Outside a packet task the update is applied at once (R107, R216). -/
theorem tallyOp_outside (hc : (s.thread t).ctxId = none) (hroom : (s.thread t).cp2.cmds.length < 16) :
    tallyOp t cmd align a b s = completes t 1 (applyTally (issued s t [a, b]) cmd (tidPan t) m ((s.thread t).reg b).toNat
      ((s.thread t).cp2.reg 0).toNat).1 :=
  (cpCommand_tally h hcc hen (.inl rfl) _).trans (by simp [hm, hc, Nat.not_le.2 hroom])

variable {c : Nat} {k : Ctx} (hc : (s.thread t).ctxId = some c) (hk : (issued s t [a, b]).ctx? c = some k)
include hc hk

/-- A speculative context holds the update in its commit buffer, or waits for room (R107). -/
theorem tallyOp_speculative (hs : speculative (issued s t [a, b]) c = true) :
    tallyOp t cmd align a b s =
      if furtherUsed k < 32 then completes t 1 ((issued s t [a, b]).setCtx c { k with recs := k.recs ++
        [.tally cmd (tidPan t) m ((s.thread t).reg b).toNat ((s.thread t).cp2.reg 0).toNat] })
      else blocks t .serial (issued s t [a, b]) := by
  refine (cpCommand_tally h hcc hen (.inl rfl) _).trans ?_
  by_cases hf : furtherUsed k < 32
  · simp [hm, hc, hk, hs, hf, Nat.not_le.2 hf]
  · simp [hm, hc, hk, hs, hf, Nat.not_lt.1 hf]

/-- The oldest context applies the update at once, and counts as partly committed. -/
theorem tallyOp_certain (hs : speculative (issued s t [a, b]) c = false) (hroom : (s.thread t).cp2.cmds.length < 16) :
    let o := applyTally (issued s t [a, b]) cmd (tidPan t) m ((s.thread t).reg b).toNat ((s.thread t).cp2.reg 0).toNat
    ∀ k', o.1.ctx? c = some k' → tallyOp t cmd align a b s =
      completes t 1 (o.1.setCtx c { k' with partly := true, policed := k'.policed || o.2 }) := by
  intro o k' hk'
  refine (cpCommand_tally h hcc hen (.inl rfl) _).trans ?_
  simp [hm, hc, hk, hs, Nat.not_le.2 hroom, hk', o]

end Tally

section Fetch
variable {s : State} {t cmd align bytes : Nat} {a b : BitVec 5} {useB : Bool} {m : MemRef} (h : Ready s t true [a, b])
  (hcc : onCc t = false) (hen : cpEnabled (s.thread t) 2 = true) (hb : useB = true ∨ b = 0)
  (hn : (if cmd == 4 then 32 else 16) = bytes)
  (hm : tallyPlace (issued s t [a, b]) (s.thread t) t ((s.thread t).reg a) align bytes (cmd != 5) = .inl m)
include h hcc hen hb hn hm

theorem fetchOp_speculative (act : State → MemRef → Thread → State × List (Nat × Word))
    (hs : (s.thread t).spec (issued s t [a, b]) = true) :
    fetchOp t cmd align a b useB s act = blocks t .serial (issued s t [a, b]) :=
  (cpCommand_tally h hcc hen hb _).trans (by simp only [hn, hm, hs]; rfl)

/-- Outside speculation the unit acts on the record once it has asked for it, and the values go back (R108, R225). -/
theorem fetchOp_acts {act : State → MemRef → Thread → State × List (Nat × Word)} {u : State} {vs : List (Nat × Word)}
    (hs : (s.thread t).spec (issued s t [a, b]) = false) (hroom : (s.thread t).cp2.cmds.length < 16)
    (hp : poisoned (issued s t [a, b]) m bytes = false)
    (ho : act (memRequest (issued s t [a, b]) (tidPan t) m bytes) m (s.thread t) = (u, vs)) :
    fetchOp t cmd align a b useB s act =
      completes t 1 (startCmd u t 2 (u.thread t) cmd ((s.thread t).reg a) ((s.thread t).reg b) vs) := by
  refine (cpCommand_tally h hcc hen hb _).trans ?_
  simp only [hn, hm, hs, hp, Nat.not_le.2 hroom, ho, List.map_id']
  rfl

end Fetch

theorem exec_countFetch_speculative {s : State} {t : Nat} {a b : BitVec 5} {m : MemRef} (h : Ready s t true [a, b])
    (hcc : onCc t = false) (hen : cpEnabled (s.thread t) 2 = true) (hs : (s.thread t).spec (issued s t [a, b]) = true)
    (hm : tallyPlace (issued s t [a, b]) (s.thread t) t ((s.thread t).reg a) 16 16 true = .inl m) :
    exec (.countFetch t a b) s = blocks t .serial (issued s t [a, b]) := by
  change execCountFetch t a b s = _
  exact fetchOp_speculative h hcc hen (.inl rfl) rfl hm _ hs

section Values
variable {s : State} {t : Nat} {a b : BitVec 5} {m : MemRef} (h : Ready s t true [a, b]) (hcc : onCc t = false)
  (hen : cpEnabled (s.thread t) 2 = true) (hs : (s.thread t).spec (issued s t [a, b]) = false)
  (hroom : (s.thread t).cp2.cmds.length < 16)
include h hcc hen hs hroom

theorem exec_countFetch_certain
    (hm : tallyPlace (issued s t [a, b]) (s.thread t) t ((s.thread t).reg a) 16 16 true = .inl m)
    (hp : poisoned (issued s t [a, b]) m 16 = false) :
    let v := readMem (issued s t [a, b]) m 16
    let u := writeMem (memRequest (issued s t [a, b]) (tidPan t) m 16) m 16 (counterUpdate v ((s.thread t).reg b).toNat)
    exec (.countFetch t a b) s = completes t 1 (startCmd u t 2 (u.thread t) 3 ((s.thread t).reg a) ((s.thread t).reg b)
      [(1, BitVec.ofNat 64 v), (2, BitVec.ofNat 64 (v / 2 ^ 64)), (4, 0)]) := by
  intro v u
  change execCountFetch t a b s = _
  refine fetchOp_acts (cmd := 3) (bytes := 16) h hcc hen (.inl rfl) rfl hm hs hroom hp ?_
  simp only [(memRequest_portsCounted _ _ _ _).readMem, u, v]

theorem exec_meter_certain
    (hm : tallyPlace (issued s t [a, b]) (s.thread t) t ((s.thread t).reg a) 32 32 true = .inl m)
    (hp : poisoned (issued s t [a, b]) m 32 = false) {c v : Nat}
    (hv : meterUpdate (readMem (issued s t [a, b]) m 32) (now (issued s t [a, b])) ((s.thread t).reg b).toNat
      ((s.thread t).cp2.reg 0).toNat = some (c, v)) :
    let u := writeMem (memRequest (issued s t [a, b]) (tidPan t) m 32) m 32 v
    exec (.meter t a b) s = completes t 1 (startCmd u t 2 (u.thread t) 4 ((s.thread t).reg a) ((s.thread t).reg b)
      [(3, BitVec.ofNat 64 c), (4, 0)]) := by
  intro u
  have hq := memRequest_portsCounted (issued s t [a, b]) (tidPan t) m 32
  change execMeter t a b s = _
  refine fetchOp_acts (cmd := 4) (bytes := 32) h hcc hen (.inl rfl) rfl hm hs hroom hp ?_
  simp only [hq.readMem, hq.now, hv, u]

theorem exec_cp2Read_certain (hb : b = 0)
    (hm : tallyPlace (issued s t [a, b]) (s.thread t) t ((s.thread t).reg a) 16 16 false = .inl m)
    (hp : poisoned (issued s t [a, b]) m 16 = false) :
    let v := readMem (issued s t [a, b]) m 16
    exec (.cp2Read t a b) s = completes t 1 (startCmd (memRequest (issued s t [a, b]) (tidPan t) m 16) t 2 (s.thread t) 5
      ((s.thread t).reg a) 0 [(1, BitVec.ofNat 64 v), (2, BitVec.ofNat 64 (v / 2 ^ 64)), (4, 0)]) := by
  intro v
  have hq := memRequest_portsCounted (issued s t [a, b]) (tidPan t) m 16
  have hr : (s.thread t).reg b = 0 := by simp [hb, Thread.reg]
  change execCp2Read t a b s = _
  refine (fetchOp_acts (cmd := 5) (bytes := 16) h hcc hen (.inr hb) rfl hm hs hroom hp rfl).trans ?_
  rw [hr, hq.thread, issued_thread, hq.readMem]

end Values

end Sys2Proof.Machine
end

section
open Sys2Proof Sys2Proof.Machine

/-- Settles O16: COUNT and POLICE are one operation, COUNT_FETCH, METER and READ another. -/
theorem tallyInstructionsComplete : Obligations.TallyInstructionsComplete := by
  unfold Obligations.TallyInstructionsComplete
  intro s t a b m h hcc hen x r A B pan colour
  refine ⟨fun q hq => ?_, fun hs hroom => ⟨exec_countFetch_certain h hcc hen hs hroom,
    fun hm hp _ _ => exec_meter_certain h hcc hen hs hroom hm hp, exec_cp2Read_certain h hcc hen hs hroom⟩,
    exec_countFetch_speculative h hcc hen⟩
  have hop : exec q.1 s = tallyOp t q.2.1 q.2.2 a b s := by
    revert q
    simp only [List.forall_mem_cons]
    exact ⟨rfl, rfl, by simp⟩
  rw [hop]
  exact ⟨tallyOp_misaligned h hcc hen, fun hm => ⟨tallyOp_outside h hcc hen hm, fun c k hc hk =>
    ⟨tallyOp_speculative h hcc hen hm hc hk, tallyOp_certain h hcc hen hm hc hk⟩⟩⟩

end
section
/-! State loads and stores (R106, R107, R144), searches and their results (R145, R240, R265, R266, R268). -/
namespace Sys2Proof.Machine

/-- The block of an `SLD` that waits for its word. -/
def sldWait (x : Thread) (a b : BitVec 5) (id : Nat) (word : BitVec 4) : Block :=
  .access (.stateLoad id (x.reg b).toNat word.toNat) (.dram x.tenant 0) 0 a.toNat

section Load
variable {s : State} {t : Nat} {a b : BitVec 5} {table : BitVec 8} {word : BitVec 4} (h : Ready s t true [b])
include h

theorem exec_sld_refused {v : Word} (hv : stateTarget (issued s t [b]) (s.thread t) b table word false = .inr v) :
    exec (.sld t a b table word) s = faults t 13 v (issued s t [b]) :=
  (issue_answer h _ _ _).trans (by simp [hv])

variable {id : Nat} {tb : Table} (hv : stateTarget (issued s t [b]) (s.thread t) b table word false = .inl (id, tb))
include hv

theorem exec_sld_outside (hc : (s.thread t).ctxId = none) :
    exec (.sld t a b table word) s = blocks t (sldWait (s.thread t) a b id word) (issued s t [b]) :=
  (issue_answer h _ _ _).trans (by simp [hv, hc, sldWait])

variable {c : Nat} {k : Ctx} (hc : (s.thread t).ctxId = some c) (hk : (issued s t [b]).ctx? c = some k)
include hc hk

theorem exec_sld_ownWrite (ho : ownWrite k id ((s.thread t).reg b).toNat word.toNat ≠ none) :
    exec (.sld t a b table word) s = blocks t (sldWait (s.thread t) a b id word) (issued s t [b]) :=
  (issue_answer h _ _ _).trans (by simp [hv, hc, hk, Option.isSome_iff_ne_none.2 ho, sldWait])

variable (ho : ownWrite k id ((s.thread t).reg b).toNat word.toNat = none)
include ho

theorem exec_sld_flashOnly {key : List Byte} (hf : flashOnly (issued s t [b]) id ((s.thread t).reg b).toNat = some key) :
    exec (.sld t a b table word) s = acts (coldPacket (issued s t [b]) c k id key) :=
  (issue_answer h _ _ _).trans (by simp [hv, hc, hk, ho, hf])

theorem exec_sld_reads (hf : flashOnly (issued s t [b]) id ((s.thread t).reg b).toNat = none) :
    exec (.sld t a b table word) s =
      if speculative (issued s t [b]) c = true ∧ setFull k (.record id ((s.thread t).reg b).toNat) = true then
        blocks t .serial (issued s t [b])
      else blocks t (sldWait (s.thread t) a b id word)
        ((issued s t [b]).setCtx c (k.addRead (.record id ((s.thread t).reg b).toNat))) := by
  refine (issue_answer h _ _ _).trans ?_
  by_cases hs : speculative (issued s t [b]) c = true ∧ setFull k (.record id ((s.thread t).reg b).toNat) = true
  · simp [hv, hc, hk, ho, hf, hs]
  · simp [hv, hc, hk, ho, hf, hs, sldWait]

end Load

section Store
variable {s : State} {t : Nat} {a b : BitVec 5} {table : BitVec 8} {word : BitVec 4} (h : Ready s t true [a, b])
include h

theorem exec_sst_refused {v : Word} (hv : stateTarget (issued s t [a, b]) (s.thread t) b table word true = .inr v) :
    exec (.sst t a b table word) s = faults t 13 v (issued s t [a, b]) :=
  (issue_answer h _ _ _).trans (by simp [hv])

variable {id : Nat} {tb : Table} (hv : stateTarget (issued s t [a, b]) (s.thread t) b table word true = .inl (id, tb))
include hv

theorem exec_sst_outside (hc : (s.thread t).ctxId = none) :
    let u := tableRequest (issued s t [a, b]) (tidPan t) id 8
    exec (.sst t a b table word) s = completes t 1 (u.setMeridian { u.meridian with writes := u.meridian.writes ++
      [.words id ((s.thread t).reg b).toNat [(word.toNat, (s.thread t).reg a)] none] }) :=
  (issue_answer h _ _ _).trans (by simp [hv, hc])

variable {c : Nat} {k : Ctx} (hc : (s.thread t).ctxId = some c) (hk : (issued s t [a, b]).ctx? c = some k)
include hc hk

theorem exec_sst_certain (hs : speculative (issued s t [a, b]) c = false) :
    exec (.sst t a b table word) s = completes t 1
      (writeNow (issued s t [a, b]) c k id ((s.thread t).reg b).toNat word.toNat ((s.thread t).reg a)) :=
  (issue_answer h _ _ _).trans (by simp [hv, hc, hk, hs])

theorem exec_sst_speculative (hs : speculative (issued s t [a, b]) c = true) :
    exec (.sst t a b table word) s =
      if setFull k (.record id ((s.thread t).reg b).toNat) then blocks t .serial (issued s t [a, b])
      else completes t 1 ((issued s t [a, b]).setCtx c { k with
        recs := k.recs ++ [.write id ((s.thread t).reg b).toNat word.toNat ((s.thread t).reg a)] }) := by
  refine (issue_answer h _ _ _).trans ?_
  by_cases hf : setFull k (.record id ((s.thread t).reg b).toNat) = true
  · simp [hv, hc, hk, hs, hf]
  · simp [hv, hc, hk, hs, hf]

end Store

section Search
variable {s : State} {t : Nat} {a b : BitVec 5} {chan : BitVec 3} {w : Word} (h : Ready s t true [a, b])
  (hw : (s.thread t).reg a = w)
include h hw

theorem searchOp_unbound (hb : boundTable (issued s t [a, b]) (s.thread t) (w.toNat % 256) = none) :
    searchOp t a b chan s = faults t 13 (BitVec.ofNat 64 (w.toNat % 256)) (issued s t [a, b]) := by
  refine (issue_answer h _ _ _).trans ?_
  simp [hw, fld_low, hb]

variable {table : Nat} {tb : Table} (hb : boundTable (issued s t [a, b]) (s.thread t) (w.toNat % 256) = some (table, tb))
  (hk : tb.kind ≤ 3) (hz : w.toNat / 4096 = 0) (hop : w.toNat / 256 % 16 ≤ 2) (hf : w.toNat / 256 % 16 = 0 ∨ tb.kind = 3)
include hb hk hz hop hf

/-- A search word that its table allows: the key's place, then the room in the channel decide (R145, R265, R266). -/
theorem searchOp_allowed :
    let addr := ((s.thread t).reg b).toNat
    let room := (AMap.at (s.thread t).responses chan.toNat []).length + AMap.at (s.thread t).reserved chan.toNat 0 + resultEntries tb
    searchOp t a b chan s = answer (issued s t [a, b]) t 1 (
      if addr % 8 != 0 || addr + searchKeyBytes tb > localSize t then .trap 5 ((s.thread t).reg b)
      else if room > 16 then .trap 14 (zext chan)
      else if (ccBuffer (issued s t [a, b]) t).any
          (fun e => e.tid == t && overlaps e.place e.size (.localStore t addr) (searchKeyBytes tb)) then
        .wait (issued s t [a, b]) .bufferEmpty
      else runSearch (issued s t [a, b]) t (s.thread t) chan.toNat (w.toNat % 256) (w.toNat / 256 % 16) table tb
        (readBytes (issued s t [a, b]) (.localStore t addr) (searchKeyBytes tb))) := by
  intro addr room
  have hno : fld w 0 8 = w.toNat % 256 := fld_low w 8
  have hfop : fld w 8 4 = w.toNat / 256 % 16 := by simp [fld, bitsOf, Nat.shiftRight_eq_div_pow]
  have hrest : fld w 12 52 = 0 := by simp [fld, bitsOf, Nat.shiftRight_eq_div_pow, hz]
  have hgood : (decide (tb.kind > 3) || fld w 12 52 != 0 || decide (w.toNat / 256 % 16 > 2) ||
      (w.toNat / 256 % 16 != 0 && tb.kind != 3)) = false := by
    have : (w.toNat / 256 % 16 != 0 && tb.kind != 3) = false := by
      rcases hf with hf | hf <;> simp [hf]
    simp [hrest, Nat.not_lt.2 hk, Nat.not_lt.2 hop, this]
  refine (issue_answer h _ _ _).trans ?_
  simp only [hw, hno, hfop, hb, hgood]
  rfl

theorem searchOp_keyOutside
    (ha : ((s.thread t).reg b).toNat % 8 ≠ 0 ∨ localSize t < ((s.thread t).reg b).toNat + searchKeyBytes tb) :
    searchOp t a b chan s = faults t 5 ((s.thread t).reg b) (issued s t [a, b]) := by
  rw [searchOp_allowed h hw hb hk hz hop hf, if_pos (by simpa using ha)]
  rfl

variable (ha : ((s.thread t).reg b).toNat % 8 = 0) (hl : ((s.thread t).reg b).toNat + searchKeyBytes tb ≤ localSize t)
include ha hl

theorem searchOp_channelFull
    (hr : 16 < (AMap.at (s.thread t).responses chan.toNat []).length + AMap.at (s.thread t).reserved chan.toNat 0 + resultEntries tb) :
    searchOp t a b chan s = faults t 14 (zext chan) (issued s t [a, b]) := by
  rw [searchOp_allowed h hw hb hk hz hop hf, if_neg (by simp [ha, hl]), if_pos hr]
  rfl

theorem searchOp_runs
    (hr : (AMap.at (s.thread t).responses chan.toNat []).length + AMap.at (s.thread t).reserved chan.toNat 0 + resultEntries tb ≤ 16)
    (hc : ccBuffer (issued s t [a, b]) t = []) {u : State}
    (hu : runSearch (issued s t [a, b]) t (s.thread t) chan.toNat (w.toNat % 256) (w.toNat / 256 % 16) table tb
      (readBytes (issued s t [a, b]) (.localStore t ((s.thread t).reg b).toNat) (searchKeyBytes tb)) = .next u) :
    searchOp t a b chan s = completes t 1 u := by
  rw [searchOp_allowed h hw hb hk hz hop hf, if_neg (by simp [ha, hl]), if_neg (Nat.not_lt.2 hr), if_neg (by simp [hc]), hu]
  rfl

end Search

section Result
variable {s : State} {n : Nat} {q : Search} (hq : s.gaz.searches.find? (fun q => q.num == n) = some q)
  (ha : q.aborted = false) (ht : q.timedOut = false) (ho : olderSearch s q = false)
include hq ha ht ho

/-- A result is delivered in the order of issue of its thread's channel (R266). -/
theorem exec_searchResult_due : exec (.searchResult n) s = acts (deliverResponse (dropSearch s n) q.tid q.channel q.result q.data) := by
  refine congrArg Host.Outcome.next ?_
  simp [hq, ha, ht, ho]

/-- A search that its deadline has passed answers TIMEOUT; its result will be late (R268). -/
theorem exec_searchTimeout_due (hd : q.deadline ≤ now s) :
    let late := s.gaz.searches.map (fun p => if p.num == n then { p with timedOut := true } else p)
    let u := { s with gaz := { s.gaz with searches := late } }
    exec (.searchTimeout n) s = acts (deliverResponse (tableCount u q.table 9) q.tid q.channel
      (resultWord 7 false false q.tableNo 0 0) (q.data.map (fun _ => 0))) := by
  refine congrArg Host.Outcome.next ?_
  simp [hq, ha, ht, ho, Nat.not_lt.2 hd]

end Result

end Sys2Proof.Machine
end

section
open Sys2Proof Sys2Proof.Machine

/-- Settles O17: `SLD`, `SST` and the results by their arms; the three searches are one operation. -/
theorem tableInstructionsComplete : Obligations.TableInstructionsComplete := by
  unfold Obligations.TableInstructionsComplete
  refine ⟨fun s t a b table word h => ⟨fun _ => exec_sld_refused h, fun id tb hv => ⟨exec_sld_outside h hv, fun c k hc hk =>
      ⟨exec_sld_ownWrite h hv hc hk, fun _ ho => exec_sld_flashOnly h hv hc hk ho, exec_sld_reads h hv hc hk⟩⟩⟩,
    fun s t a b table word h => ⟨fun _ => exec_sst_refused h, fun id tb hv => ⟨exec_sst_outside h hv, fun c k hc hk =>
      ⟨exec_sst_certain h hv hc hk, exec_sst_speculative h hv hc hk⟩⟩⟩,
    fun s t a b chan h => ?_,
    fun s n q hq ha ht ho => ⟨exec_searchResult_due hq ha ht ho, exec_searchTimeout_due hq ha ht ho⟩⟩
  intro x r w no op addr i hi
  have hop : exec i s = searchOp t a b chan s := by
    revert i
    simp only [List.forall_mem_cons]
    exact ⟨rfl, rfl, rfl, by simp⟩
  rw [hop]
  exact ⟨searchOp_unbound h rfl, fun table tb hb hk hz hp hf => ⟨searchOp_keyOutside h rfl hb hk hz hp hf, fun ha hl =>
    ⟨searchOp_channelFull h rfl hb hk hz hp hf ha hl, fun hr hc _ => searchOp_runs h rfl hb hk hz hp hf ha hl hr hc⟩⟩⟩

end
section
/-! Events of the flash tier (R115, R262–R264, R329, R331–R337, R344): what each does where it is due. -/
namespace Sys2Proof.Machine

/-- The tick of a FLOW table advances by the whole ticks gone by; an aging pass follows unless keys are moving (R262, R264). -/
theorem exec_agingScan_flow {s : State} {table : Nat} {t : Table} (hf : AMap.find s.gaz.tables table = some t) (hk : t.kind = 3) :
    let tick := 1000000 * fld t.cfg 16 16
    let n := (now s - t.ageAt) / tick
    let u := s.setTable table { t with ageTick := t.ageTick + n, ageAt := t.ageAt + n * tick }
    (t.rehash = none → exec (.agingScan table) s = .next (finish (agePass u table))) ∧
      (t.rehash ≠ none → exec (.agingScan table) s = .next u) := by
  intro tick n u
  refine ⟨fun hr => congrArg Host.Outcome.next ?_, fun hr => congrArg Host.Outcome.next ?_⟩
  · simp [hf, hk, hr, u, n, tick]
  · simp [hf, hk, Option.isSome_iff_ne_none.2 hr, u, n, tick]

section Promotion
variable {s : State} {table : Nat} {key : List Byte} {p : Promotion}
  (hp : s.stk.promotions.find? (fun p => p.table == table && p.key == key) = some p)
include hp

theorem exec_promotionEnd_underWay : exec (.promotionEnd table key) s = .next (finish (endPromotion s p)) := by
  refine congrArg Host.Outcome.next ?_
  simp [hp]

/-- The read of an unstaged record takes one more step of the ladder; before the last step its waiters' deadlines move (R332). -/
theorem exec_readRetryStep_promotion {r : ColdRec} (hr : coldFind s table key = some r) (hs : r.staged = false) :
    let u := s.setStk { s.stk with promotions := s.stk.promotions.map (fun q =>
      if q.table == table && q.key == key && q.gone == p.gone then { q with step := q.step + 1 } else q) }
    (p.step < 9 → exec (.readRetryStep table key) s =
      .next (finish (devCount (p.deletes.foldl (extendDeadline 1) (extendParked u p)) 6 2 0 (u.table table).owner 1))) ∧
      (p.step = 9 → exec (.readRetryStep table key) s = .next u) := by
  intro u
  refine ⟨fun h => congrArg Host.Outcome.next ?_, fun h => congrArg Host.Outcome.next ?_⟩
  · simp [hp, hr, hs, show ¬9 ≤ p.step by omega, show ¬10 ≤ p.step by omega, u]
  · simp [hp, hr, hs, h, u]

end Promotion

/-- With no promotion, the next read of a record on NAND needs one step more (R332; assumption 99). -/
theorem exec_readRetryStep_alone {s : State} {place : Nat} {key : List Byte}
    (hp : s.stk.promotions.find? (fun p => p.table == place && p.key == key) = none) (hn : onNand s place key = true) :
    exec (.readRetryStep place key) s = .next (setLadder s place key (min 10 (ladderStep s place key + 1))) := by
  refine congrArg Host.Outcome.next ?_
  simp [hp, hn]

section Staged
variable {s : State} {table : Nat} {key : List Byte} {r : ColdRec} (hr : coldFind s table key = some r) (hs : r.staged = true)
  (hf : stkState s ≠ .failed) (ho : stkOpen s = true)
include hr hs hf ho

theorem exec_stagedRecordWrite_ok :
    exec (.stagedRecordWrite table key true) s =
      .next (finish ((charge s 128).setStk { (charge s 128).stk with cold := (charge s 128).stk.cold.map (fun x =>
        if x.table == table && x.key == key then { x with staged := false } else x) })) := by
  refine congrArg Host.Outcome.next ?_
  simp [hr, hs, hf, ho]

/-- A failed write costs spare blocks; below 2 percent the tier becomes READ_ONLY (R344; assumption 69). -/
theorem exec_stagedRecordWrite_fails :
    let paid := charge s 128
    let drawn := fresh paid
    let spare := drawn.1.toNat % (paid.stk.spare + 1)
    let u := drawn.2.setStk { drawn.2.stk with spare := spare }
    exec (.stagedRecordWrite table key false) s =
      .next (finish (if spare < 2 ∧ (u.stk.state = .normal ∨ u.stk.state = .degraded) then setStkState u .readOnly else u)) := by
  intro paid drawn spare u
  refine congrArg Host.Outcome.next ?_
  simp [hr, hs, hf, ho, paid, drawn, spare, u]

end Staged

theorem exec_filterRebuildSwitch_rebuilt {s : State} {table : Nat} {t : Table} {bits : List Nat}
    (hf : AMap.find s.gaz.tables table = some t) (hn : t.filterNew = some bits) (hr : t.rehash = none) :
    let cold := coldOf s table
    let new := (cold.map (fun r => filterBits t r.kh (flowH (seed1 t) r.key))).flatten.eraseDups
    let t' := { t with
      filter := new, filterNew := none, filterSeed := seed1 t, covered := cold.length, leftovers := 0, rebuildAccs := [] }
    exec (.filterRebuildSwitch table) s =
      .next (finish (endAll (tableCount (s.setTable table t') table 26) t.rebuildAccs (plain 0 true))) := by
  refine congrArg Host.Outcome.next ?_
  simp [hf, hn, hr]

/-- The tier fails: with it every promotion ends (R329, R344). -/
def flashFails (u : State) : State := (setStkState u .failed).stk.promotions.foldl endPromotion (setStkState u .failed)

/-- A channel of the tier is lost. -/
def lostChannel (s : State) : State := s.setStk { s.stk with lostChannels := s.stk.lostChannels + 1 }

section ChannelFault
variable {s : State} (hi : s.ident.flash = true)
include hi

theorem exec_flashChannelFault_controller :
    exec (.flashChannelFault 2) s = .next (finish (flashFails (s.setStk { s.stk with ctrlFailed := true }))) := by
  refine (checked_of rfl).trans ?_
  simp [hi, flashFails]

theorem exec_flashChannelFault_second (hl : 1 ≤ s.stk.lostChannels) :
    exec (.flashChannelFault 1) s = .next (finish (flashFails (lostChannel s))) := by
  refine (checked_of rfl).trans ?_
  simp [hi, hl, flashFails, lostChannel, State.setStk]

theorem exec_flashChannelFault_first (hn : s.stk.state = .normal) (hl : s.stk.lostChannels = 0) :
    exec (.flashChannelFault 1) s = .next (finish (setStkState (lostChannel s) .degraded)) := by
  refine (checked_of rfl).trans ?_
  simp [hi, hn, hl, lostChannel, State.setStk]

theorem exec_flashChannelFault_die (hn : s.stk.state = .normal) (hl : s.stk.lostChannels ≤ 1) :
    exec (.flashChannelFault 0) s = .next (finish (setStkState s .degraded)) := by
  refine (checked_of rfl).trans ?_
  simp [hi, hn, show ¬2 ≤ s.stk.lostChannels by omega]

end ChannelFault

theorem exec_stripeRebuildEnd_degraded {s : State} (hd : s.stk.state = .degraded) :
    exec .stripeRebuildEnd s = .next (finish (setStkState s .normal)) :=
  congrArg Host.Outcome.next (if_pos (by simp [hd]))

/-- The ring's oldest staged records are written, and its oldest waiting capture arrives (R335, R337). -/
theorem exec_captureWrite_arrives {s : State} {ring n i : Nat} {x : Ring} {p : PendCap} (ho : stkOpen s = true)
    (hx : AMap.find s.stk.rings ring = some x) (hp : s.stk.captures.find? (fun p => p.ring == ring) = some p)
    (hi : s.stk.captures.findIdx? (fun p => p.ring == ring) = some i) :
    let u := s.setRing ring { x with recs := flushRecs n x.recs }
    let v := u.setStk { u.stk with captures := (u.stk.captures.zipIdx.filter (fun q => q.2 != i)).map (·.1) }
    exec (.captureWrite ring n) s = .next (finish (releaseCells (arriveCapture (accrue v) p) p.cells)) := by
  intro u v
  refine congrArg Host.Outcome.next ?_
  have hup : u.stk.captures.find? (fun p => p.ring == ring) = some p := hp
  have hui : u.stk.captures.findIdx? (fun p => p.ring == ring) = some i := hi
  rw [if_neg (by simp [ho])]
  simp only [hx]
  rw [hup, hui]
  rfl

end Sys2Proof.Machine
end

section
open Sys2Proof Sys2Proof.Machine

/-- Settles O29: each event by its arm, where it is due. -/
theorem flashEventsComplete : Obligations.FlashEventsComplete := by
  unfold Obligations.FlashEventsComplete
  exact ⟨fun _ _ _ => exec_agingScan_flow,
    fun _ _ _ _ hp => ⟨exec_promotionEnd_underWay hp, fun _ => exec_readRetryStep_promotion hp⟩,
    fun _ _ _ => exec_readRetryStep_alone,
    fun _ _ _ _ hr hs hf ho => ⟨exec_stagedRecordWrite_ok hr hs hf ho, exec_stagedRecordWrite_fails hr hs hf ho⟩,
    fun _ _ _ _ => exec_filterRebuildSwitch_rebuilt,
    fun _ hi => ⟨exec_flashChannelFault_controller hi, exec_flashChannelFault_second hi, exec_flashChannelFault_first hi,
      exec_flashChannelFault_die hi⟩,
    fun _ => exec_stripeRebuildEnd_degraded, fun _ _ _ _ _ _ => exec_captureWrite_arrives⟩

end

section
/-! Pan SRAM behind the regions of a thread (R126, R129, R135). -/
namespace Sys2Proof.Machine

/-- A region permits an access within its extent whose enable bit is set: 46 or 47 at level 2, 48 or 49 at level 1 (R129,
R135). -/
theorem boundPermits_iff (v : Word) (level off size : Nat) (write : Bool) :
    boundPermits v level off size write = true ↔
      fld v 0 23 ≤ off ∧ off + size ≤ fld v 23 23 ∧
        fld v ((if level = 2 then 46 else 48) + (if write then 1 else 0)) 1 = 1 := by
  simp [boundPermits, bit_eq_fld, b2n, and_assoc]

/-- At levels 1 and 2 the regions decide an access to the Pan SRAM below the CC memories (R126, R129). -/
theorem place_regions {s : State} {x : Thread} {t a size : Nat} (write : Bool) (hl : x.level ≠ 0) (hs : 1 ≤ size)
    (ha : 0x1000000 ≤ a) (he : a + size ≤ 0x13B0000) :
    place s x t a size write =
      if (List.range 4).any (fun i => boundPermits (x.csr (0x30 + i)) x.level (a - 0x1000000) size write)
      then .ref (.sram (tidPan t) (a - 0x1000000)) else .bad 5 := by
  have hlocal : ¬a + size ≤ localSize t := by
    have : localSize t ≤ 0x10000 := by unfold localSize; split <;> omega
    omega
  unfold place
  rw [if_neg hlocal, if_neg (by simp; omega), if_neg (by simp; omega), if_pos (by simp; omega)]
  simp [hl, show ¬0x13B0000 ≤ a by omega]

end Sys2Proof.Machine
end

section
open Sys2Proof Sys2Proof.Machine

/-- Settles O47: below the CC memories `place` asks each of the four regions. -/
theorem panSramBoundsDecideAccess : Obligations.PanSramBoundsDecideAccess := by
  unfold Obligations.PanSramBoundsDecideAccess
  intro s x t a size write hl hs ha he off permitted
  have hany : (List.range 4).any (fun i => boundPermits (x.csr (0x30 + i)) x.level off size write) = true ↔ permitted := by
    simp [boundPermits_iff, permitted]
  rw [place_regions write (by omega) hs ha he]
  exact ⟨fun hp => if_pos (hany.2 hp), fun hp => if_neg (mt hany.1 hp)⟩

end

section
/-! The register file (R121, R153, R154): what a result leaves there as it issues and as it lands. -/
namespace Sys2Proof.Machine

/-- A register as the register file holds it; w0 reads 0 (R121). -/
def Thread.file (x : Thread) (r : BitVec 5) : Word := if r = 0 then 0 else AMap.at x.regs r.toNat 0

theorem Thread.reg_zero (x : Thread) : x.reg 0 = 0 := rfl

/-- A thread with no instruction half done reads its register file. -/
theorem Thread.reg_eq_file {x : Thread} (h : x.issuedRegs = none) (r : BitVec 5) : x.reg r = x.file r := by
  simp [Thread.reg, Thread.file, h]

theorem Thread.file_congr {x y : Thread} (h : x.regs = y.regs) (r : BitVec 5) : x.file r = y.file r := by
  simp [Thread.file, h]

/-- A value put under a register's number is read from that register; w0 discards it. -/
theorem Thread.file_of_put {x y : Thread} {r : BitVec 5} {v : Word}
    (h : y.regs = if r = 0 then x.regs else AMap.put x.regs r.toNat v) (q : BitVec 5) :
    y.file q = if q = r ∧ r ≠ 0 then v else x.file q := by
  by_cases hr : r = 0
  · subst hr
    simp [Thread.file, h]
  · rw [if_neg hr] at h
    by_cases hq : q = r
    · rw [if_pos ⟨hq, hr⟩, hq, Thread.file, if_neg hr, h, AMap.at_put_self]
    · rw [if_neg (fun k => hq k.1), Thread.file, Thread.file, h, AMap.at_put, if_neg (mt BitVec.eq_of_toNat_eq hq)]

theorem writeReg_regs_near (s : State) (t : Nat) (r : BitVec 5) (v : Word) (flags : Nat) :
    ((writeReg s t r v 1 flags).thread t).regs =
      if r = 0 then (s.thread t).regs else AMap.put (s.thread t).regs r.toNat v := by
  simp [writeReg, State.thread_setThread]

theorem writeReg_regs_far (s : State) (t : Nat) (r : BitVec 5) (v : Word) (flags : Nat) {distance : Nat} (h : 2 ≤ distance) :
    ((writeReg s t r v distance flags).thread t).regs = (s.thread t).regs := by
  simp [writeReg, show ¬distance ≤ 1 by omega, State.thread_setThread]

end Sys2Proof.Machine
end

section
/-! What a result that lands does (R153, R154, R174, R176). -/
namespace Sys2Proof.Machine

@[simp] theorem traceAdd_threads (s : State) (p : Nat) (r : TraceRec) : (traceAdd s p r).threads = s.threads := by
  unfold traceAdd; dsimp only; repeat' split
  all_goals rfl

@[simp] theorem traceThread_thread (s : State) (t kind cause wait u : Nat) :
    (traceThread s t kind cause wait).thread u = s.thread u := by
  simp [traceThread, State.thread]

/-- A younger result of the register of `f` has landed. -/
def Thread.Younger (x : Thread) (f : Flight) : Prop := ∃ n, AMap.find x.landed f.reg = some n ∧ f.num < n

theorem Thread.land_younger {x : Thread} {f : Flight} (h : x.Younger f) :
    x.land f = { x with
      flights := x.flights.erase f, ov := x.ov || Nat.testBit f.flags 0, dz := x.dz || Nat.testBit f.flags 1 } := by
  obtain ⟨n, hn, hf⟩ := h
  simp [Thread.land, hn, hf, maskHas]

theorem Thread.land_youngest {x : Thread} {f : Flight} (h : ¬x.Younger f) :
    x.land f = { x with
      flights := x.flights.erase f, ov := x.ov || Nat.testBit f.flags 0, dz := x.dz || Nat.testBit f.flags 1,
      regs := if f.reg = 0 then x.regs else AMap.put x.regs f.reg f.value, landed := AMap.put x.landed f.reg f.num } := by
  cases hn : AMap.find x.landed f.reg with
  | none => simp [Thread.land, hn, maskHas]
  | some n => simp [Thread.land, hn, maskHas, show ¬f.num < n from fun hf => h ⟨n, hn, hf⟩]

section Land
variable {s : State} {t num : Nat} {f : Flight} (hf : (s.thread t).flights.find? (fun f => f.num == num) = some f)
  (ho : ∀ g ∈ (s.thread t).flights.takeWhile (fun g => g.num != num), g.reg = f.reg → f.dist < g.dist)
include hf ho

/-- A result that only results of longer distances of its register precede lands, and what waits for it is looked at. -/
theorem landResult_due :
    landResult s t num =
      let x := (s.thread t).land f
      let u := s.setThread t x
      match x.block with
      | .guarded q => if producing x q || (q == 32 && producing x 33) then u else u.setThread t { x with block := .none }
      | .results => if x.flights.isEmpty then unblock u t else u
      | _ => u := by
  have hfirst : ((s.thread t).flights.takeWhile (fun g => g.num != num)).any
      (fun g => g.reg == f.reg && decide (g.dist ≤ f.dist)) = false := by
    simpa using ho
  simp only [landResult, hf, hfirst]
  rfl

theorem landResult_unblocked (hb : (s.thread t).block = .none) :
    landResult s t num = s.setThread t ((s.thread t).land f) := by
  rw [landResult_due hf ho]
  have : ((s.thread t).land f).block = .none := hb
  simp only [this]

theorem landResult_regs : ((landResult s t num).thread t).regs = ((s.thread t).land f).regs := by
  rw [landResult_due hf ho]
  dsimp only
  repeat' split
  all_goals simp [unblock, State.thread_setThread]

end Land

end Sys2Proof.Machine
end

section
open Sys2Proof Sys2Proof.Machine

/-- Settles O49: the file by what is put there as a result issues, and as it lands by whether a younger one has. -/
theorem registerFileKeepsProgramOrder : Obligations.RegisterFileKeepsProgramOrder := by
  unfold Obligations.RegisterFileKeepsProgramOrder
  refine ⟨fun x => ⟨x.reg_zero, Thread.reg_eq_file⟩, fun s t r q v flags => ⟨?_, fun d hd => ?_⟩, ?_⟩
  · exact Thread.file_of_put (writeReg_regs_near s t r v flags) q
  · exact Thread.file_congr (writeReg_regs_far s t r v flags hd) q
  intro s t num r q f hf hr ho
  have hland := landResult_regs hf ho
  intro younger
  have hiff : (s.thread t).Younger f ↔ younger := by rw [Thread.Younger, hr]
  refine ⟨fun hy => Thread.file_congr (hland.trans ?_) q, fun hy => Thread.file_of_put (hland.trans ?_) q⟩
  · rw [Thread.land_younger (hiff.2 hy)]
  · rw [Thread.land_youngest (mt hiff.1 hy)]
    simp [hr, ← BitVec.toNat_inj]

end

section
/-! What counting and reporting leave (R121, R177, R208, R209): an instruction's issue changes the Pans beside their memories,
the events and the count of free values alone. -/
namespace Sys2Proof.Machine

/-- Only Pans differ, not in their SRAM, the events, and how many free values have been used. -/
def Counted (s v : State) : Prop :=
  (∃ e p f, v = { s with events := e, pans := p, free := f }) ∧ ∀ n, (v.pan n).sram = (s.pan n).sram

theorem Counted.refl (s : State) : Counted s s := ⟨⟨_, _, _, rfl⟩, fun _ => rfl⟩

theorem Counted.trans {s u v : State} (h : Counted s u) (k : Counted u v) : Counted s v := by
  obtain ⟨⟨e, p, f, rfl⟩, hn⟩ := h
  obtain ⟨⟨e', p', f', rfl⟩, kn⟩ := k
  exact ⟨⟨e', p', f', rfl⟩, fun n => (kn n).trans (hn n)⟩

/-- A loop whose body only counts only counts. -/
theorem Counted.foldl {α : Type} {f : State → α → State} (h : ∀ s a, Counted s (f s a)) (l : List α) (s : State) :
    Counted s (l.foldl f s) := by
  induction l generalizing s with
  | nil => exact .refl s
  | cons a l ih => exact (h s a).trans (ih _)

/-- A test whose branches only count only counts. -/
theorem Counted.ite {s u v : State} {c : Prop} [Decidable c] (h : Counted s u) (k : Counted s v) :
    Counted s (if c then u else v) := by
  split
  · exact h
  · exact k

theorem Counted.thread {s v : State} (h : Counted s v) (t : Nat) : v.thread t = s.thread t := by
  obtain ⟨⟨e, p, f, rfl⟩, -⟩ := h; rfl

theorem Counted.ctx? {s v : State} (h : Counted s v) (c : Nat) : v.ctx? c = s.ctx? c := by
  obtain ⟨⟨e, p, f, rfl⟩, -⟩ := h; rfl

theorem Counted.spec {s v : State} (h : Counted s v) (x : Thread) : x.spec v = x.spec s := by
  obtain ⟨⟨e, p, f, rfl⟩, -⟩ := h; rfl

theorem Counted.dram {s v : State} (h : Counted s v) : v.dram = s.dram := by
  obtain ⟨⟨e, p, f, rfl⟩, -⟩ := h; rfl

theorem Counted.meridian {s v : State} (h : Counted s v) : v.meridian = s.meridian := by
  obtain ⟨⟨e, p, f, rfl⟩, -⟩ := h; rfl

theorem Counted.blocksKept {s v : State} (h : Counted s v) : BlocksKept s v := by
  obtain ⟨⟨e, p, f, rfl⟩, -⟩ := h
  exact ⟨rfl, rfl, rfl, rfl, rfl, rfl, rfl, rfl, rfl, rfl, rfl, rfl, rfl, rfl, rfl⟩

theorem Counted.readByte {s v : State} (h : Counted s v) (m : MemRef) : readByte v m = readByte s m := by
  cases m with
  | localStore t o => simp only [Machine.readByte, h.thread]
  | window c o => simp only [Machine.readByte, h.ctx?]
  | sram p o => simp only [Machine.readByte, h.2]
  | dram t o => simp only [Machine.readByte, h.dram]

theorem count_counted (s : State) (id n : Nat) : Counted s (count s id n) := ⟨⟨_, _, _, rfl⟩, fun _ => rfl⟩

theorem raiseDev_counted (s : State) (a b c : Nat) : Counted s (raiseDev s a b c) := ⟨⟨_, _, _, rfl⟩, fun _ => rfl⟩

theorem fresh_counted (s : State) : Counted s (fresh s).2 := ⟨⟨_, _, _, rfl⟩, fun _ => rfl⟩

theorem setPan_counted (s : State) {p : Nat} {x : Pan} (h : x.sram = (s.pan p).sram) : Counted s (s.setPan p x) := by
  refine ⟨⟨_, _, _, rfl⟩, fun n => ?_⟩
  rw [State.pan_setPan]
  split
  · next hn => rw [h, hn]
  · rfl

theorem countFirst_counted (s : State) (a b c d e : Nat) : Counted s (countFirst s a b c d e) := by
  unfold countFirst; dsimp only; split
  all_goals exact ⟨⟨_, _, _, rfl⟩, fun _ => rfl⟩

theorem panCount_counted (s : State) (p i : Nat) : Counted s (panCount s p i) := count_counted s _ _

theorem addReport_counted (s : State) (p : Nat) (r : DistReport) : Counted s (addReport s p r) := by
  unfold addReport
  refine .ite (setPan_counted s rfl) (.ite (setPan_counted s rfl) ?_)
  refine .trans (setPan_counted s ?_) (countFirst_counted _ _ _ _ _ _)
  rfl

theorem report_counted (s : State) (t k r c q e p : Nat) : Counted s (report s t k r c q e p) := by
  unfold report
  exact (Counted.ite (fresh_counted s) (.refl s)).trans (addReport_counted _ _ _)

theorem reportReads_counted (s : State) (t : Nat) (l : List (BitVec 5)) : Counted s (reportReads s t l) := by
  unfold reportReads
  refine .ite (.refl s) (Counted.foldl (fun u r => ?_) _ s)
  split
  · exact .refl u
  · exact .ite (report_counted _ _ _ _ _ _ _ _) (.refl u)

theorem perfAdd_counted (s : State) (p key n : Nat) : Counted s (perfAdd s p key n) := by
  unfold perfAdd
  refine .ite (setPan_counted s rfl) (.trans (setPan_counted s ?_) (raiseDev_counted _ _ _ _))
  rfl

theorem perfPick_counted (s : State) (t source n i : Nat) : Counted s (perfPick s t source n i) := by
  unfold perfPick
  exact .ite (perfAdd_counted _ _ _ _) (.refl s)

theorem perfItems_counted (s : State) (t source n : Nat) : Counted s (perfItems s t source n) :=
  (perfPick_counted _ _ _ _ _).trans ((perfPick_counted _ _ _ _ _).trans
    ((perfPick_counted _ _ _ _ _).trans (perfPick_counted _ _ _ _ _)))

/-- The issue of an instruction counts and reports (R177, R208). -/
theorem issued_counted (s : State) (t : Nat) (l : List (BitVec 5)) : Counted s (issued s t l) := by
  unfold issued
  exact .ite (.refl s) ((reportReads_counted s t l).trans (perfItems_counted _ _ _ _))

theorem traceAdd_counted (s : State) (p : Nat) (r : TraceRec) : Counted s (traceAdd s p r) := by
  unfold traceAdd
  exact .ite (.refl s) (.ite (panCount_counted _ _ _) (setPan_counted s rfl))

theorem traceThread_counted (s : State) (t kind cause wait : Nat) : Counted s (traceThread s t kind cause wait) :=
  traceAdd_counted _ _ _

theorem BlocksKept.trans {s u v : State} (h : BlocksKept s u) (k : BlocksKept u v) : BlocksKept s v := by
  obtain ⟨h₁, h₂, h₃, h₄, h₅, h₆, h₇, h₈, h₉, h₁₀, h₁₁, h₁₂, h₁₃, h₁₄, h₁₅⟩ := h
  obtain ⟨k₁, k₂, k₃, k₄, k₅, k₆, k₇, k₈, k₉, k₁₀, k₁₁, k₁₂, k₁₃, k₁₄, k₁₅⟩ := k
  exact ⟨k₁.trans h₁, k₂.trans h₂, k₃.trans h₃, k₄.trans h₄, k₅.trans h₅, k₆.trans h₆, k₇.trans h₇, k₈.trans h₈, k₉.trans h₉,
    k₁₀.trans h₁₀, k₁₁.trans h₁₁, k₁₂.trans h₁₂, k₁₃.trans h₁₃, k₁₄.trans h₁₄, k₁₅.trans h₁₅⟩

theorem setThread_blocksKept (s : State) (t : Nat) (x : Thread) : BlocksKept s (s.setThread t x) :=
  ⟨rfl, rfl, rfl, rfl, rfl, rfl, rfl, rfl, rfl, rfl, rfl, rfl, rfl, rfl, rfl⟩

/-- A thread that keeps its store and the number of what that held at first leaves every byte as it reads. -/
theorem readByte_setThread {s : State} {t : Nat} {x : Thread} (hs : x.store = (s.thread t).store)
    (hn : x.localNum = (s.thread t).localNum) (m : MemRef) : readByte (s.setThread t x) m = readByte s m := by
  cases m with
  | localStore u o =>
    simp only [readByte, State.thread_setThread]
    split
    · next hu => rw [hs, hn, hu]
    · rfl
  | _ => rfl

end Sys2Proof.Machine
end

section
/-! The frame of the register instructions (R121, R139, R153). -/
namespace Sys2Proof.Machine

/-- The machine with one thread gone on to its next instruction. -/
def State.advanced (u : State) (t cost : Nat) : State := u.setThread t ((u.thread t).advance cost)

theorem State.advanced_thread (s : State) (t cost u : Nat) :
    (s.advanced t cost).thread u = if u = t then (s.thread t).advance cost else s.thread u := State.thread_setThread _ _ _ _

theorem State.advanced_blocksKept (s : State) (t cost : Nat) : BlocksKept s (s.advanced t cost) := setThread_blocksKept _ _ _

theorem readByte_advanced (s : State) (t cost : Nat) (m : MemRef) : readByte (s.advanced t cost) m = readByte s m := by
  refine readByte_setThread ?_ ?_ m
  · rfl
  · rfl

/-- Where an instruction that gives its result at distance 1 with no flag goes on to. -/
def aluState (s : State) (t : Nat) (srcs : List (BitVec 5)) (a : BitVec 5) (v : Word) : State :=
  (writeReg (issued s t srcs) t a v 1 0).advanced t 1

theorem gives_eq (s : State) (t : Nat) (srcs : List (BitVec 5)) (a : BitVec 5) (v : Word) :
    gives s t srcs a v 1 0 = .next (finish (aluState s t srcs a v)) := rfl

/-- Its thread, field by field. -/
def aluThread (x : Thread) (a : BitVec 5) (v : Word) : Thread :=
  ({ x with
    prod := AMap.put x.prod a.toNat ⟨x.issued, 1, x.pc, x.cost⟩,
    regs := if a = 0 then x.regs else AMap.put x.regs a.toNat v,
    landed := AMap.put x.landed a.toNat x.issued } : Thread).advance 1

section Frame
variable (s : State) (t : Nat) (srcs : List (BitVec 5)) (a : BitVec 5) (v : Word)

theorem aluState_thread (u : Nat) :
    (aluState s t srcs a v).thread u = if u = t then aluThread (s.thread t) a v else s.thread u := by
  by_cases hu : u = t
  · simp [aluState, State.advanced_thread, aluThread, writeReg, State.thread_setThread, hu, maskHas]
  · simp [aluState, State.advanced_thread, writeReg, State.thread_setThread, hu]

theorem aluState_blocksKept : BlocksKept s (aluState s t srcs a v) :=
  (issued_counted s t srcs).blocksKept.trans ((setThread_blocksKept _ _ _).trans (State.advanced_blocksKept _ _ _))

theorem aluState_readByte (m : MemRef) : readByte (aluState s t srcs a v) m = readByte s m := by
  refine (readByte_advanced _ _ _ m).trans ((readByte_setThread ?_ ?_ m).trans ((issued_counted s t srcs).readByte m))
  · rfl
  · rfl

theorem aluThread_reg {x : Thread} (h : x.issuedRegs = none) {q : BitVec 5} (hq : q ≠ a) :
    (aluThread x a v).reg q = x.reg q := by
  have hnone : (aluThread x a v).issuedRegs = none := rfl
  have hput := Thread.file_of_put (x := x) (y := aluThread x a v) (r := a) (v := v) rfl q
  rw [Thread.reg_eq_file hnone, Thread.reg_eq_file h, hput, if_neg (fun k => hq k.1)]

/-- A result at distance 1 changes its register and what counts the thread's progress. -/
theorem aluState_onlyRegister (h : (s.thread t).issuedRegs = none) : OnlyRegister s (aluState s t srcs a v) t a := by
  have hself : (aluState s t srcs a v).thread t = aluThread (s.thread t) a v := by rw [aluState_thread, if_pos rfl]
  refine ⟨aluState_blocksKept s t srcs a v, (issued_counted s t srcs).meridian, fun u hu => ?_, fun q hq => ?_, ?_,
    aluState_readByte s t srcs a v⟩
  · rw [aluState_thread, if_neg hu]
  · rw [hself, aluThread_reg a v h hq]
  · rw [hself]; rfl

end Frame

/-- An instruction whose answer is `alu`'s has the frame of one register. -/
theorem alu_onlyRegister {s : State} {t : Nat} {srcs : List (BitVec 5)} (h : Ready s t true srcs) {a : BitVec 5} {i : Instr}
    (hi : ∃ f, exec i s = alu t a srcs s f) : ∃ v, exec i s = .next (finish v) ∧ OnlyRegister s v t a := by
  obtain ⟨f, hf⟩ := hi
  have hnone : (s.thread t).issuedRegs = none := h.2.2.1
  exact ⟨_, (hf.trans (alu_ready h a f)).trans (gives_eq _ _ _ _ _), aluState_onlyRegister s t srcs a _ hnone⟩

end Sys2Proof.Machine
end

section
open Sys2Proof Sys2Proof.Machine

/-- Settles O51: each instruction is `alu` of a value, whose frame is one register. -/
theorem registerInstructionsChangeOneRegister : Obligations.RegisterInstructionsChangeOneRegister := by
  unfold Obligations.RegisterInstructionsChangeOneRegister
  intro s t a b c imm k k'
  refine ⟨fun h i hi => alu_onlyRegister h ?_, fun h i hi => alu_onlyRegister h ?_, fun h => alu_onlyRegister h ⟨_, rfl⟩⟩
  · revert i
    simp only [List.forall_mem_cons]
    exact ⟨⟨_, rfl⟩, ⟨_, rfl⟩, ⟨_, rfl⟩, ⟨_, rfl⟩, ⟨_, rfl⟩, ⟨_, rfl⟩, ⟨_, rfl⟩, ⟨_, rfl⟩, ⟨_, rfl⟩, ⟨_, rfl⟩, ⟨_, rfl⟩,
      ⟨_, rfl⟩, ⟨_, rfl⟩, ⟨_, rfl⟩, ⟨_, rfl⟩, ⟨_, rfl⟩, ⟨_, rfl⟩, ⟨_, rfl⟩, by simp⟩
  · revert i
    simp only [List.forall_mem_cons]
    exact ⟨⟨_, rfl⟩, ⟨_, rfl⟩, ⟨_, rfl⟩, ⟨_, rfl⟩, ⟨_, rfl⟩, ⟨_, rfl⟩, ⟨_, rfl⟩, ⟨_, rfl⟩, ⟨_, rfl⟩, ⟨_, rfl⟩, ⟨_, rfl⟩,
      ⟨_, rfl⟩, ⟨_, rfl⟩, ⟨_, rfl⟩, ⟨_, rfl⟩, ⟨_, rfl⟩, ⟨_, rfl⟩, ⟨_, rfl⟩, ⟨_, rfl⟩, ⟨_, rfl⟩, ⟨_, rfl⟩, ⟨_, rfl⟩, by simp⟩

end

section
/-! The frame of stores (R122, R139, R159, R317): the bytes written, or a request that reaches its stack. -/
namespace Sys2Proof.Machine

theorem leBytes_getElem? {n k : Nat} (v : Nat) (h : k < n) :
    (leBytes n v)[k]? = some (BitVec.ofNat 8 (v / 2 ^ (8 * k))) := by
  induction n generalizing k v with
  | zero => omega
  | succ n ih =>
    cases k with
    | zero => simp [leBytes]
    | succ k =>
      rw [leBytes, List.getElem?_cons_succ, ih (v / 256) (by omega), Nat.div_div_eq_div_mul, Nat.mul_succ, Nat.pow_add,
        Nat.mul_comm 256]

/-- Each byte of a number written little-endian is read at its place (R122). -/
theorem readByte_writeMem_within {s : State} {m : MemRef} (hm : m.InUse s) {n k : Nat} (v : Nat) (hk : k < n) :
    readByte (writeMem s m n v) (m.plus k) = BitVec.ofNat 8 (v / 2 ^ (8 * k)) := by
  have hbytes := readBytes_writeBytes (leBytes n v) hm
  rw [leBytes_length] at hbytes
  have hat : (readBytes (writeMem s m n v) m n)[k]? = some (BitVec.ofNat 8 (v / 2 ^ (8 * k))) :=
    (congrArg (·[k]?) hbytes).trans (leBytes_getElem? v hk)
  simpa [readBytes, hk] using hat

theorem readByte_writeMem_outside {s : State} {m : MemRef} (hm : m.InUse s) {n : Nat} (v : Nat) {m' : MemRef}
    (h : ∀ k, k < n → m' ≠ m.plus k) : readByte (writeMem s m n v) m' = readByte s m' :=
  readByte_writeBytes_ne _ hm (by rwa [leBytes_length])

/-- Of a thread, a write to memory changes the store alone. -/
theorem writeByte_thread (s : State) (m : MemRef) (b : Byte) (u : Nat) :
    ∃ l, (writeByte s m b).thread u = { s.thread u with store := l } := by
  cases m with
  | localStore t o =>
    simp only [writeByte, State.thread_setThread]
    split
    · next hu => exact ⟨_, by rw [hu]⟩
    · exact ⟨_, rfl⟩
  | window c o =>
    simp only [writeByte]
    split
    · exact ⟨_, rfl⟩
    · exact ⟨_, rfl⟩
  | sram p o => exact ⟨_, rfl⟩
  | dram n o => exact ⟨_, rfl⟩

theorem writeBytes_thread (l : List Byte) (s : State) (m : MemRef) (u : Nat) :
    ∃ k, (writeBytes s m l).thread u = { s.thread u with store := k } := by
  induction l generalizing s m with
  | nil => exact ⟨_, rfl⟩
  | cons b l ih =>
    obtain ⟨k, hk⟩ := ih (writeByte s m b) (m.plus 1)
    obtain ⟨j, hj⟩ := writeByte_thread s m b u
    exact ⟨k, by rw [writeBytes, hk, hj]⟩

theorem writeByte_blocksKept {s : State} {m : MemRef} (h : m.near = true) (b : Byte) : BlocksKept s (writeByte s m b) := by
  cases m with
  | localStore t o => exact setThread_blocksKept _ _ _
  | window c o =>
    simp only [writeByte]
    split
    · exact (Counted.refl s).blocksKept
    · exact ⟨rfl, rfl, rfl, rfl, rfl, rfl, rfl, rfl, rfl, rfl, rfl, rfl, rfl, rfl, rfl⟩
  | sram p o => cases h
  | dram n o => cases h

theorem MemRef.near_plus (m : MemRef) (k : Nat) : (m.plus k).near = m.near := by cases m <;> rfl

/-- A write to near memory leaves every block. -/
theorem writeBytes_blocksKept (l : List Byte) {s : State} {m : MemRef} (h : m.near = true) :
    BlocksKept s (writeBytes s m l) := by
  induction l generalizing s m with
  | nil => exact (Counted.refl s).blocksKept
  | cons b l ih => exact (writeByte_blocksKept h b).trans (ih ((m.near_plus 1).trans h))

theorem Thread.reg_advance {x : Thread} (h : x.issuedRegs = none) (cost : Nat) (q : BitVec 5) :
    (x.advance cost).reg q = x.reg q := by
  rw [Thread.reg_eq_file h]; exact Thread.reg_eq_file rfl q

/-- Only the events and what a stack notes of the requests that reach it differ (R317, R319). -/
def Arrived (s v : State) : Prop := ∃ e k, v = { s with events := e, dram := { s.dram with stackMap := k } }

theorem Arrived.thread {s v : State} (h : Arrived s v) (u : Nat) : v.thread u = s.thread u := by
  obtain ⟨e, k, rfl⟩ := h; rfl

theorem Arrived.readByte {s v : State} (h : Arrived s v) (m : MemRef) : readByte v m = readByte s m := by
  obtain ⟨e, k, rfl⟩ := h; rfl

theorem Arrived.dram {s v : State} (h : Arrived s v) : v.dram = { s.dram with stackMap := v.dram.stackMap } := by
  obtain ⟨e, k, rfl⟩ := h; rfl

theorem Arrived.blocksKept {s v : State} (h : Arrived s v) : BlocksKept { s with dram := v.dram } v := by
  obtain ⟨e, k, rfl⟩ := h
  exact ⟨rfl, rfl, rfl, rfl, rfl, rfl, rfl, rfl, rfl, rfl, rfl, rfl, rfl, rfl, rfl⟩

theorem countLate_events (s : State) (stack n : Nat) : ∃ e, countLate s stack n = { s with events := e } := by
  unfold countLate
  split
  · exact ⟨_, rfl⟩
  · obtain ⟨e, he⟩ := devCount_events (count s (stackCountId stack 3) n) 5 4 0xFFF 0x1000 n
    exact ⟨e, he⟩

theorem arrive_arrived (s : State) (stack : Nat) : Arrived s (arrive s stack) := by
  unfold arrive
  dsimp only
  split
  · exact ⟨_, _, rfl⟩
  · obtain ⟨e, he⟩ := countLate_events s stack (b2n ((stackAt s stack).lateFor (now s)))
    rw [he]
    exact ⟨_, _, rfl⟩

theorem accessArrives_arrived (s : State) (b : Block) : Arrived s (accessArrives s b) := by
  unfold accessArrives
  split
  · split
    · exact ⟨_, _, rfl⟩
    · exact arrive_arrived _ _
  · exact ⟨_, _, rfl⟩

/-- An access to Pan SRAM reaches no stack. -/
theorem accessArrives_store_sram (s : State) (n : Nat) (v : Word) (p o : Nat) (addr : Word) (dst : Nat) :
    accessArrives s (.access (.store n v) (.sram p o) addr dst) = s := rfl

/-- A thread as it blocks: its instruction keeps what it read (R153, R159). -/
def Thread.blocked (x : Thread) (b : Block) (at_ : Ns) : Thread :=
  { x with block := b, blockedAt := at_, issuedRegs := some (x.issuedRegs.getD x.regs) }

theorem Thread.reg_blocked (x : Thread) (b : Block) (at_ : Ns) (q : BitVec 5) : (x.blocked b at_).reg q = x.reg q := rfl

/-- A thread that blocks on an access is traced once its request has reached its stack (R159, R209, R317). -/
theorem blockThread_access (s : State) (t : Nat) (op : AccessOp) (m : MemRef) (addr : Word) (dst : Nat) :
    blockThread s t (.access op m addr dst) =
      traceThread (accessArrives (s.setThread t ((s.thread t).blocked (.access op m addr dst) (now s)))
        (.access op m addr dst)) t 2 (blockCause (.access op m addr dst)) 0 := by
  have hcause : (blockCause (.access op m addr dst) == 2) = false := by cases m <;> rfl
  simp [blockThread, Thread.blocked, hcause]

theorem BlocksKept.withDram {s v : State} (h : BlocksKept s v) (d : Dram) :
    BlocksKept { s with dram := d } { v with dram := d } := by
  obtain ⟨h₁, h₂, h₃, h₄, h₅, h₆, h₇, h₈, h₉, -, h₁₁, h₁₂, h₁₃, h₁₄, h₁₅⟩ := h
  exact ⟨h₁, h₂, h₃, h₄, h₅, h₆, h₇, h₈, h₉, rfl, h₁₁, h₁₂, h₁₃, h₁₄, h₁₅⟩

section BlockedAccess
variable (s : State) (t : Nat) (op : AccessOp) (m : MemRef) (addr : Word) (dst : Nat)

theorem blockThread_access_reg (u : Nat) (w : BitVec 5) :
    ((blockThread s t (.access op m addr dst)).thread u).reg w = (s.thread u).reg w := by
  rw [blockThread_access, traceThread_thread, (accessArrives_arrived _ _).thread, State.thread_setThread]
  split
  · next hu => rw [hu, Thread.reg_blocked]
  · rfl

theorem blockThread_access_readByte (m' : MemRef) :
    readByte (blockThread s t (.access op m addr dst)) m' = readByte s m' := by
  rw [blockThread_access, (traceThread_counted _ _ _ _ _).readByte, (accessArrives_arrived _ _).readByte]
  refine readByte_setThread ?_ ?_ m'
  · rfl
  · rfl

theorem blockThread_access_dram :
    (blockThread s t (.access op m addr dst)).dram =
      { s.dram with stackMap := (blockThread s t (.access op m addr dst)).dram.stackMap } := by
  rw [blockThread_access, (traceThread_counted _ _ _ _ _).dram]
  exact (accessArrives_arrived _ _).dram

theorem blockThread_access_blocksKept :
    BlocksKept { s with dram := (blockThread s t (.access op m addr dst)).dram } (blockThread s t (.access op m addr dst)) := by
  rw [blockThread_access, (traceThread_counted _ _ _ _ _).dram]
  exact ((setThread_blocksKept _ _ _).withDram _).trans
    ((accessArrives_arrived _ _).blocksKept.trans (traceThread_counted _ _ _ _ _).blocksKept)

theorem blockThread_store_sram_blocksKept (n : Nat) (v : Word) (p o : Nat) :
    BlocksKept s (blockThread s t (.access (.store n v) (.sram p o) addr dst)) := by
  rw [blockThread_access, accessArrives_store_sram]
  exact (setThread_blocksKept _ _ _).trans (traceThread_counted _ _ _ _ _).blocksKept

end BlockedAccess

section NearStore
variable (s : State) (t n v cost : Nat) {m : MemRef}

theorem writeMem_advanced_blocksKept (h : m.near = true) : BlocksKept s ((writeMem s m n v).advanced t cost) :=
  (writeBytes_blocksKept _ h).trans (State.advanced_blocksKept _ _ _)

theorem writeMem_advanced_reg (h : (s.thread t).issuedRegs = none) (u : Nat) (w : BitVec 5) :
    (((writeMem s m n v).advanced t cost).thread u).reg w = (s.thread u).reg w := by
  obtain ⟨l, hu⟩ := writeBytes_thread (leBytes n v) s m u
  rw [State.advanced_thread, writeMem]
  split
  · next hut =>
    subst hut
    rw [hu, Thread.reg_advance (by exact h)]
    rfl
  · rw [hu]
    rfl

end NearStore

section StoreOp
variable {s : State} {t major size : Nat} {a b : BitVec 5} {disp : BitVec 16} (h : Ready s t true [a, b])
  (ha : effAddr (s.thread t) b disp % size = 0) {m : MemRef}
  (hp : place (issued s t [a, b]) (s.thread t) t (effAddr (s.thread t) b disp) size true = .ref m)
  (hl : touchesLock (issued s t [a, b]) m size = false) (hc : onCc t = false)
include h ha hp hl hc

/-- A store of a PE to near memory completes and writes its bytes. -/
theorem storeOp_near_frame (hn : m.near = true) (hu : m.InUse s) :
    ∃ v, storeOp t major a b disp size s = .next (finish v) ∧ BlocksKept s v ∧
      (∀ u w, (v.thread u).reg w = (s.thread u).reg w) ∧
      (∀ k, k < size → readByte v (m.plus k) = BitVec.ofNat 8 (((s.thread t).reg a).toNat / 2 ^ (8 * k))) ∧
      (∀ m', (∀ k, k < size → m' ≠ m.plus k) → readByte v m' = readByte s m') := by
  have hr := issued_counted s t [a, b]
  have hur : m.InUse (issued s t [a, b]) := fun c o hm => by rw [hr.ctx?]; exact hu c o hm
  have hnone : ((issued s t [a, b]).thread t).issuedRegs = none := by rw [hr.thread]; exact h.2.2.1
  refine ⟨(writeMem (issued s t [a, b]) m size ((s.thread t).reg a).toNat).advanced t 2, ?_, ?_, fun u w => ?_,
    fun k hk => ?_, fun m' hm' => ?_⟩
  · rw [storeOp_unlocked h ha hp hl, storeTo_near hn (.inl hc)]; rfl
  · exact hr.blocksKept.trans (writeMem_advanced_blocksKept _ _ _ _ _ hn)
  · rw [writeMem_advanced_reg _ _ _ _ _ hnone, hr.thread]
  · rw [readByte_advanced, readByte_writeMem_within hur _ hk]
  · rw [readByte_advanced, readByte_writeMem_outside hur _ hm', hr.readByte]

/-- A store of a PE that is not near blocks: no byte is written, and the DRAM stacks alone note it. -/
theorem storeOp_far_frame (hn : m.near = false) (hs : (s.thread t).spec s = false) :
    ∃ v, storeOp t major a b disp size s = .next (finish v) ∧ ((∃ p o, m = .sram p o) → BlocksKept s v) ∧
      BlocksKept { s with dram := v.dram } v ∧ v.dram = { s.dram with stackMap := v.dram.stackMap } ∧
      (∀ u w, (v.thread u).reg w = (s.thread u).reg w) ∧ (∀ m', readByte v m' = readByte s m') := by
  have hr := issued_counted s t [a, b]
  have hsr : (s.thread t).spec (issued s t [a, b]) = false := (hr.spec _).trans hs
  refine ⟨blockThread (issued s t [a, b]) t (.access (.store size ((s.thread t).reg a)) m
    (BitVec.ofNat 64 (effAddr (s.thread t) b disp)) 0), ?_, ?_, ?_, ?_, fun u w => ?_, fun m' => ?_⟩
  · rw [storeOp_unlocked h ha hp hl, storeTo_far hn hsr (.inr hc)]; rfl
  · rintro ⟨p, o, rfl⟩
    exact hr.blocksKept.trans (blockThread_store_sram_blocksKept _ _ _ _ _ _ _ _)
  · exact (hr.blocksKept.withDram _).trans (blockThread_access_blocksKept _ _ _ _ _ _)
  · rw [← hr.dram]
    exact blockThread_access_dram _ _ _ _ _ _
  · rw [blockThread_access_reg, hr.thread]
  · rw [blockThread_access_readByte, hr.readByte]

end StoreOp

end Sys2Proof.Machine
end

section
open Sys2Proof Sys2Proof.Machine

/-- Settles O52: the four stores are one operation, which writes its bytes near and blocks elsewhere. -/
theorem storesChangeOnlyTheirBytes : Obligations.StoresChangeOnlyTheirBytes := by
  unfold Obligations.StoresChangeOnlyTheirBytes
  intro s t a b disp h x r addr q hq
  obtain ⟨major, hop⟩ : ∃ major, exec q.1 s = storeOp t major a b disp q.2 s := by
    revert q
    simp only [List.forall_mem_cons]
    exact ⟨⟨_, rfl⟩, ⟨_, rfl⟩, ⟨_, rfl⟩, ⟨_, rfl⟩, by simp⟩
  intro ha m hp hl hc
  rw [hop]
  refine ⟨?_, ?_⟩
  · rintro (⟨u, o, rfl⟩ | ⟨c, o, rfl, hu⟩)
    · exact storeOp_near_frame h ha hp hl hc rfl (by rintro c o ⟨⟩)
    · exact storeOp_near_frame h ha hp hl hc rfl (by rintro c o ⟨⟩; exact hu)
  · rintro (⟨p, o, rfl⟩ | ⟨o, rfl⟩) hs
    · exact storeOp_far_frame h ha hp hl hc rfl hs
    · exact storeOp_far_frame h ha hp hl hc rfl hs

end

section
/-! Values of the integer instructions (R139, R142), as R142 words them. -/
namespace Sys2Proof.Machine

theorem truth_slt (b c : Word) : truth (b.slt c) = if b.toInt < c.toInt then 1 else 0 := by simp [truth, BitVec.slt]

theorem truth_ult (b c : Word) : truth (b.ult c) = if b.toNat < c.toNat then 1 else 0 := by simp [truth, BitVec.ult]

theorem truth_beq (b c : Word) : truth (b == c) = if b = c then 1 else 0 := by simp [truth]

theorem ite_slt (b c x y : Word) : (if b.slt c then x else y) = if b.toInt < c.toInt then x else y := by simp [BitVec.slt]

theorem ite_ult (b c x y : Word) : (if b.ult c then x else y) = if b.toNat < c.toNat then x else y := by simp [BitVec.ult]

theorem shlWord_eq (b : Word) (n : Nat) : shlWord b n = BitVec.ofNat 64 (if n < 64 then b.toNat * 2 ^ n else 0) := by
  by_cases hn : n < 64
  · rw [shlWord, if_neg (by omega), if_pos hn]
    exact BitVec.eq_of_toNat_eq (by simp [Nat.shiftLeft_eq])
  · rw [shlWord, if_pos (by omega), if_neg hn]
    rfl

theorem shrWord_eq (b : Word) (n : Nat) : shrWord b n = BitVec.ofNat 64 (if n < 64 then b.toNat / 2 ^ n else 0) := by
  by_cases hn : n < 64
  · rw [shrWord, if_neg (by omega), if_pos hn]
    have hlt : b.toNat / 2 ^ n < 2 ^ 64 := Nat.lt_of_le_of_lt (Nat.div_le_self _ _) b.isLt
    exact BitVec.eq_of_toNat_eq (by simpa [Nat.shiftRight_eq_div_pow] using (Nat.mod_eq_of_lt hlt).symm)
  · rw [shrWord, if_pos (by omega), if_neg hn]
    rfl

theorem sarWord_eq (b : Word) (n : Nat) : sarWord b n = b.sshiftRight (if n < 64 then n else 63) := by
  unfold sarWord
  congr 1
  split <;> omega

theorem toInt_sext (imm : BitVec 16) : (sext imm).toInt = imm.toInt := BitVec.toInt_signExtend_of_le (by decide)

section Alu
variable {s : State} {t : Nat} {a b c : BitVec 5} {v : Word}

theorem alu_gives {srcs : List (BitVec 5)} (h : Ready s t true srcs) {f : Thread → Word} (hv : f (s.thread t) = v) :
    alu t a srcs s f = gives s t srcs a v 1 0 := hv ▸ alu_ready h a f

theorem alu3_gives (h : Ready s t true [b, c]) {f : Word → Word → Word}
    (hv : f ((s.thread t).reg b) ((s.thread t).reg c) = v) : alu3 t a b c s f = gives s t [b, c] a v 1 0 :=
  hv ▸ alu3_ready h a f

theorem aluI_gives (h : Ready s t true [b]) {imm : Word} {f : Word → Word → Word} (hv : f ((s.thread t).reg b) imm = v) :
    aluI t a b imm s f = gives s t [b] a v 1 0 := hv ▸ aluI_ready h a imm f

end Alu

end Sys2Proof.Machine
end

section
open Sys2Proof Sys2Proof.Machine

/-- Settles O2: each instruction is `alu3` or `aluI` of a value. -/
theorem registerArithmeticCompletes : Obligations.RegisterArithmeticCompletes := by
  unfold Obligations.RegisterArithmeticCompletes
  refine ⟨fun s t a b c h => ?_, fun s t a b imm h => ?_⟩
  · exact ⟨alu3_ready h a (· + ·), alu3_ready h a (· - ·), alu3_ready h a (· &&& ·), alu3_ready h a (· ||| ·),
      alu3_ready h a (· ^^^ ·), alu3_ready h a (fun b c => b &&& ~~~c),
      alu3_gives h (f := fun b c => truth (b.slt c)) (truth_slt _ _),
      alu3_gives h (f := fun b c => truth (b.ult c)) (truth_ult _ _),
      alu3_gives h (f := fun b c => truth (b == c)) (truth_beq _ _),
      alu3_gives h (f := fun b c => if b.slt c then b else c) (ite_slt _ _ _ _),
      alu3_gives h (f := fun b c => if b.slt c then c else b) (ite_slt _ _ _ _),
      alu3_gives h (f := fun b c => if b.ult c then b else c) (ite_ult _ _ _ _),
      alu3_gives h (f := fun b c => if b.ult c then c else b) (ite_ult _ _ _ _),
      alu3_gives h (f := fun b c => shlWord b c.toNat) (shlWord_eq _ _),
      alu3_gives h (f := fun b c => shrWord b c.toNat) (shrWord_eq _ _),
      alu3_gives h (f := fun b c => sarWord b c.toNat) (sarWord_eq _ _),
      alu3_ready h a (fun b c => b.rotateLeft (c.toNat % 64)), alu3_ready h a (fun b c => b.rotateRight (c.toNat % 64))⟩
  · exact ⟨aluI_ready h a (sext imm) (· + ·), aluI_ready h a (zext imm) (· &&& ·), aluI_ready h a (zext imm) (· ||| ·),
      aluI_ready h a (zext imm) (· ^^^ ·),
      aluI_gives h (imm := sext imm) (f := fun b i => truth (b.slt i)) (by rw [truth_slt, toInt_sext]),
      aluI_gives h (imm := sext imm) (f := fun b i => truth (b.ult i)) (truth_ult _ _)⟩

/-- Settles O3: each instruction is `alu` of a value. -/
theorem bitFieldInstructionsComplete : Obligations.BitFieldInstructionsComplete := by
  unfold Obligations.BitFieldInstructionsComplete
  refine ⟨fun s t a b h => ?_, fun s t a b pos len h => alu_ready h a (fun x => insertField (x.reg a) (x.reg b) pos len)⟩
  refine ⟨alu_ready h a (fun x => BitVec.ofNat 64 (leadingZeros (x.reg b))),
    alu_ready h a (fun x => BitVec.ofNat 64 (trailingZeros (x.reg b))),
    alu_ready h a (fun x => BitVec.ofNat 64 (onesOf (x.reg b))), alu_ready h a (fun x => swapBytes 2 (x.reg b)),
    alu_ready h a (fun x => swapBytes 4 (x.reg b)), alu_ready h a (fun x => swapBytes 8 (x.reg b)),
    fun pos len => ⟨alu_ready h a (fun x => BitVec.ofNat 64 (extractField (x.reg b) pos len)),
      alu_ready h a (fun x => extractSigned (x.reg b) pos len)⟩,
    fun imm => ⟨alu_ready h a (fun x => setQuarter 0 (x.reg b) imm), alu_ready h a (fun x => setQuarter 1 (x.reg b) imm),
      alu_ready h a (fun x => setQuarter 2 (x.reg b) imm), alu_ready h a (fun x => setQuarter 3 (x.reg b) imm)⟩,
    fun amount => ?_⟩
  have hlt : amount.toNat < 64 := amount.isLt
  exact ⟨alu_gives h (f := fun x => shlWord (x.reg b) amount.toNat) (by rw [shlWord_eq, if_pos hlt]),
    alu_gives h (f := fun x => shrWord (x.reg b) amount.toNat) (by rw [shrWord_eq, if_pos hlt]),
    alu_gives h (f := fun x => sarWord (x.reg b) amount.toNat) (by rw [sarWord_eq, if_pos hlt]),
    alu_ready h a (fun x => (x.reg b).rotateLeft amount.toNat)⟩

end

section
/-! Products, quotients and conditional moves (R139, R142, R153). -/
namespace Sys2Proof.Machine

theorem eq_minWord_iff (b : Word) : b = minWord ↔ b.toInt = -2 ^ 63 := by
  rw [← BitVec.toInt_inj]; rfl

theorem eq_negOne_iff (c : Word) : c = -1 ↔ c.toInt = -1 := by
  rw [← BitVec.toInt_inj]; rfl

theorem sdiv_eq (b c : Word) : b.sdiv c = BitVec.ofInt 64 (b.toInt.tdiv c.toInt) :=
  BitVec.eq_of_toInt_eq (by rw [BitVec.toInt_sdiv, BitVec.toInt_ofInt])

theorem srem_eq (b c : Word) : b.srem c = BitVec.ofInt 64 (b.toInt.tmod c.toInt) := by
  rw [← BitVec.toInt_srem, BitVec.ofInt_toInt]

theorem udiv_eq (b c : Word) : b / c = BitVec.ofNat 64 (b.toNat / c.toNat) :=
  BitVec.eq_of_toNat_eq (by
    rw [BitVec.toNat_udiv, BitVec.toNat_ofNat, Nat.mod_eq_of_lt (Nat.lt_of_le_of_lt (Nat.div_le_self _ _) b.isLt)])

theorem umod_eq (b c : Word) : b % c = BitVec.ofNat 64 (b.toNat % c.toNat) :=
  BitVec.eq_of_toNat_eq (by
    rw [BitVec.toNat_umod, BitVec.toNat_ofNat, Nat.mod_eq_of_lt (Nat.lt_of_le_of_lt (Nat.mod_le _ _) b.isLt)])

theorem negResult_eq (b : Word) : negResult b = (-b, if b.toInt = -2 ^ 63 then 5 else 4) := by
  rw [negResult]
  simp only [eq_minWord_iff]
  split <;> rfl

/-- The quotient is toward zero; division by zero and −2^63 by −1 have their edge values (R142). -/
theorem divResult_eq (b c : Word) : divResult b c =
    if c = 0 then (0, 14) else if b.toInt = -2 ^ 63 ∧ c.toInt = -1 then (b, 13)
    else (BitVec.ofInt 64 (b.toInt.tdiv c.toInt), 12) := by
  simp only [divResult, ← eq_minWord_iff, ← eq_negOne_iff, sdiv_eq]
  split
  · rfl
  · split
    · next hmin => rw [hmin.1]; rfl
    · rfl

/-- The remainder has the dividend's sign; that of −2^63 by −1 is 0 (R142). -/
theorem remResult_eq (b c : Word) : remResult b c =
    (if c = 0 then b else BitVec.ofInt 64 (b.toInt.tmod c.toInt), if c = 0 then 10 else 8) := by
  rw [remResult, srem_eq]
  by_cases hc : c = 0
  · simp [hc, mayDz, flagDz]
  · by_cases hmin : b = minWord ∧ c = -1
    · rw [if_neg hc, if_pos hmin, if_neg hc, if_neg hc, hmin.1, hmin.2]
      decide
    · rw [if_neg hc, if_neg hmin, if_neg hc, if_neg hc]
      rfl

theorem divuResult_eq (b c : Word) :
    divuResult b c = (BitVec.ofNat 64 (b.toNat / c.toNat), if c = 0 then 10 else 8) := by
  by_cases hc : c = 0
  · simp [divuResult, hc, mayDz, flagDz]
  · rw [divuResult, if_neg hc, if_neg hc, udiv_eq]
    rfl

theorem remuResult_eq (b c : Word) :
    remuResult b c = (BitVec.ofNat 64 (b.toNat % c.toNat), if c = 0 then 10 else 8) := by
  rw [remuResult, umod_eq]
  by_cases hc : c = 0
  · simp [hc, mayDz, flagDz]
  · rw [if_neg hc, if_neg hc]
    rfl

/-- The divider of a PE takes 18, of a CC 12 (R139). -/
theorem divDistance_eq (t : Nat) : divDistance t = if t / 8 % 32 < 30 then 18 else 12 := by
  by_cases ht : t / 8 % 32 < 30
  · simp [divDistance, onCc, tidCore, ht]
  · simp [divDistance, onCc, tidCore, ht, Nat.not_lt.1 ht]

theorem longOp_gives {s : State} {t : Nat} {a b c : BitVec 5} (h : Ready s t true [b, c]) {d flags : Nat} {v : Word}
    {f : Word → Word → Word × Nat} (hv : f ((s.thread t).reg b) ((s.thread t).reg c) = (v, flags)) :
    longOp t a b c s d f = gives s t [b, c] a v d flags := by
  rw [longOp_ready h, hv]

theorem exec_neg {s : State} {t : Nat} {a b : BitVec 5} (h : Ready s t true [b]) :
    exec (.neg t a b) s =
      gives s t [b] a (-(s.thread t).reg b) 1 (if ((s.thread t).reg b).toInt = -2 ^ 63 then 5 else 4) := by
  refine (issue_answer h _ _ _).trans ?_
  rw [negResult_eq]
  rfl

theorem exec_div {s : State} {t : Nat} {a b c : BitVec 5} (h : Ready s t true [b, c]) :
    exec (.div t a b c) s =
      if (s.thread t).reg c = 0 then gives s t [b, c] a 0 (divDistance t) 14
      else if ((s.thread t).reg b).toInt = -2 ^ 63 ∧ ((s.thread t).reg c).toInt = -1 then
        gives s t [b, c] a ((s.thread t).reg b) (divDistance t) 13
      else gives s t [b, c] a (BitVec.ofInt 64 (((s.thread t).reg b).toInt.tdiv ((s.thread t).reg c).toInt))
        (divDistance t) 12 := by
  refine (longOp_ready h a (divDistance t) divResult).trans ?_
  rw [divResult_eq]
  split
  · rfl
  · split <;> rfl

section CondMove
variable {s : State} {t : Nat} {a b c : BitVec 5} (h : Ready s t true [a, b, c])
include h

/-- A conditional move writes its destination where wC is zero, or is not, as `onZero` says; else it completes alone. -/
theorem condMove_answer (onZero : Bool) :
    condMove t a b c onZero s =
      if ((s.thread t).reg c == 0) = onZero then gives s t [a, b, c] a ((s.thread t).reg b) 1 0
      else completes t 1 (issued s t [a, b, c]) := by
  refine (issue_answer h _ _ _).trans ?_
  by_cases hc : ((s.thread t).reg c == 0) = onZero
  · rw [if_pos hc, if_pos (beq_iff_eq.2 hc)]
    rfl
  · rw [if_neg hc, if_neg (mt beq_iff_eq.1 hc)]
    rfl

theorem exec_cmovz :
    exec (.cmovz t a b c) s = if (s.thread t).reg c = 0 then gives s t [a, b, c] a ((s.thread t).reg b) 1 0
      else completes t 1 (issued s t [a, b, c]) := by
  refine (condMove_answer h true).trans ?_
  by_cases hc : (s.thread t).reg c = 0
  · rw [if_pos hc, if_pos (beq_iff_eq.2 hc)]
  · rw [if_neg hc, if_neg (mt beq_iff_eq.1 hc)]

theorem exec_cmovn :
    exec (.cmovn t a b c) s = if (s.thread t).reg c = 0 then completes t 1 (issued s t [a, b, c])
      else gives s t [a, b, c] a ((s.thread t).reg b) 1 0 := by
  refine (condMove_answer h false).trans ?_
  by_cases hc : (s.thread t).reg c = 0
  · rw [if_pos hc, if_neg (by simpa using hc)]
  · rw [if_neg hc, if_pos (by simpa using hc)]

end CondMove

end Sys2Proof.Machine
end

section
open Sys2Proof Sys2Proof.Machine

/-- Settles O4: each instruction by what its result function computes. -/
theorem multiplyDivideComplete : Obligations.MultiplyDivideComplete := by
  unfold Obligations.MultiplyDivideComplete
  refine ⟨fun s t a b h => ?_, fun s t a b c h => ?_, fun s t a b c h => ⟨exec_cmovz h, exec_cmovn h⟩⟩
  · exact exec_neg h
  · intro B C d result
    have hd : divDistance t = d := divDistance_eq t
    refine ⟨longOp_gives h (f := fun b c => (b * c, 0)) rfl, longOp_gives h (f := fun b c => (mulHigh b c, 0)) rfl,
      longOp_gives h (f := fun b c => (mulHighU b c, 0)) rfl, ?_⟩
    rw [← hd]
    exact ⟨exec_div h, longOp_gives h (f := remResult) (remResult_eq _ _),
      longOp_gives h (f := divuResult) (divuResult_eq _ _), longOp_gives h (f := remuResult) (remuResult_eq _ _)⟩

end

section
/-! Trapping arithmetic and bounds checks (R142, R146, R150, R151). -/
namespace Sys2Proof.Machine

/-- The signed range of 64 bits, as a proposition. -/
theorem fitsSigned_iff (v : Int) : fitsSigned v = true ↔ -2 ^ 63 ≤ v ∧ v < 2 ^ 63 := by simp [fitsSigned]

theorem neg_eq (b : Word) : -b = BitVec.ofInt 64 (-b.toInt) := by rw [BitVec.ofInt_neg, BitVec.ofInt_toInt]

/-- An exact result that fits is written; one that does not is OVERFLOW with wB (R142). -/
theorem trap3_cases {s : State} {t : Nat} {a b c : BitVec 5} (h : Ready s t true [b, c]) (d : Nat) (f : Int → Int → Int) :
    let v := f ((s.thread t).reg b).toInt ((s.thread t).reg c).toInt
    (-2 ^ 63 ≤ v ∧ v < 2 ^ 63 → trap3 t a b c s d f = gives s t [b, c] a (BitVec.ofInt 64 v) d 0) ∧
      (¬(-2 ^ 63 ≤ v ∧ v < 2 ^ 63) → trap3 t a b c s d f = faults t 9 ((s.thread t).reg b) (issued s t [b, c])) := by
  intro v
  rw [trap3_ready h]
  exact ⟨fun hv => if_pos ((fitsSigned_iff _).2 hv), fun hv => if_neg (mt (fitsSigned_iff _).1 hv)⟩

section Divide
variable {s : State} {t : Nat} {a b c : BitVec 5} (h : Ready s t true [b, c])
include h

theorem exec_divt_zero (hc : (s.thread t).reg c = 0) :
    exec (.divt t a b c) s = faults t 10 ((s.thread t).reg b) (issued s t [b, c]) := by
  refine (issue_answer h _ _ _).trans ?_
  rw [if_pos hc]
  rfl

theorem exec_divt_overflows (hb : ((s.thread t).reg b).toInt = -2 ^ 63) (hc : ((s.thread t).reg c).toInt = -1) :
    exec (.divt t a b c) s = faults t 9 ((s.thread t).reg b) (issued s t [b, c]) := by
  refine (issue_answer h _ _ _).trans ?_
  have hc' : (s.thread t).reg c = -1 := (eq_negOne_iff _).2 hc
  rw [if_neg (by rw [hc']; decide), if_pos ⟨(eq_minWord_iff _).2 hb, hc'⟩]
  rfl

theorem exec_divt_divides (hc : (s.thread t).reg c ≠ 0)
    (hf : ¬(((s.thread t).reg b).toInt = -2 ^ 63 ∧ ((s.thread t).reg c).toInt = -1)) :
    exec (.divt t a b c) s =
      gives s t [b, c] a (BitVec.ofInt 64 (((s.thread t).reg b).toInt.tdiv ((s.thread t).reg c).toInt)) (divDistance t) 0 := by
  refine (issue_answer h _ _ _).trans ?_
  rw [divResult_eq, if_neg hc, if_neg (by rwa [eq_minWord_iff, eq_negOne_iff]), if_neg hc, if_neg hf]
  rfl

theorem exec_remt_zero (hc : (s.thread t).reg c = 0) :
    exec (.remt t a b c) s = faults t 10 ((s.thread t).reg b) (issued s t [b, c]) := by
  refine (issue_answer h _ _ _).trans ?_
  rw [if_pos hc]
  rfl

theorem exec_remt_divides (hc : (s.thread t).reg c ≠ 0) :
    exec (.remt t a b c) s =
      gives s t [b, c] a (BitVec.ofInt 64 (((s.thread t).reg b).toInt.tmod ((s.thread t).reg c).toInt)) (divDistance t) 0 := by
  refine (issue_answer h _ _ _).trans ?_
  rw [remResult_eq, if_neg hc, if_neg hc]
  rfl

end Divide

section OneSource
variable {s : State} {t : Nat} {a b : BitVec 5} (h : Ready s t true [b])
include h

theorem exec_negt_fits (hb : ((s.thread t).reg b).toInt ≠ -2 ^ 63) :
    exec (.negt t a b) s = gives s t [b] a (BitVec.ofInt 64 (-((s.thread t).reg b).toInt)) 1 0 := by
  refine (issue_answer h _ _ _).trans ?_
  rw [if_neg (mt (eq_minWord_iff _).1 hb), neg_eq]
  rfl

theorem exec_negt_overflows (hb : ((s.thread t).reg b).toInt = -2 ^ 63) :
    exec (.negt t a b) s = faults t 9 ((s.thread t).reg b) (issued s t [b]) := by
  refine (issue_answer h _ _ _).trans ?_
  rw [if_pos ((eq_minWord_iff _).2 hb)]
  rfl

variable {imm : BitVec 16}

theorem exec_addti_fits
    (hv : -2 ^ 63 ≤ ((s.thread t).reg b).toInt + imm.toInt ∧ ((s.thread t).reg b).toInt + imm.toInt < 2 ^ 63) :
    exec (.addti t a b imm) s = gives s t [b] a (BitVec.ofInt 64 (((s.thread t).reg b).toInt + imm.toInt)) 1 0 := by
  refine (issue_answer h _ _ _).trans ?_
  rw [if_pos ((fitsSigned_iff _).2 hv)]
  rfl

theorem exec_addti_overflows
    (hv : ¬(-2 ^ 63 ≤ ((s.thread t).reg b).toInt + imm.toInt ∧ ((s.thread t).reg b).toInt + imm.toInt < 2 ^ 63)) :
    exec (.addti t a b imm) s = faults t 9 ((s.thread t).reg b) (issued s t [b]) := by
  refine (issue_answer h _ _ _).trans ?_
  rw [if_neg (mt (fitsSigned_iff _).1 hv)]
  rfl

end OneSource

/-- A bounds check passes, or is BOUND with wA (R146). -/
theorem boundCheck_answer {s : State} {t : Nat} {a : BitVec 5} {srcs : List (BitVec 5)} (h : Ready s t true srcs)
    {ok : Thread → Bool} {p : Prop} [Decidable p] (hp : ok (s.thread t) = true ↔ p) :
    boundCheck t a srcs s ok =
      if p then completes t 1 (issued s t srcs) else faults t 11 ((s.thread t).reg a) (issued s t srcs) := by
  refine (issue_answer h _ _ _).trans ?_
  by_cases hok : ok (s.thread t) = true
  · rw [if_pos hok, if_pos (hp.1 hok)]
    rfl
  · rw [if_neg hok, if_neg (mt hp.2 hok)]
    rfl

theorem toNat_zext (imm : BitVec 16) : (zext imm).toNat = imm.toNat :=
  BitVec.toNat_setWidth_of_le (by decide)

section PacketCheck
variable {s : State} {t : Nat} {a : BitVec 5} {imm : BitVec 16} (h : Ready s t true [a])
include h

/-- In a packet task `PWCK` checks against `PKT_LEN` (R146). -/
theorem exec_pwck_packet {k : Nat} {x : Ctx} (ht : (s.thread t).task = .packet k) (hk : s.ctx? k = some x) :
    exec (.pwck t a imm) s =
      if ((s.thread t).reg a).toNat + imm.toNat ≤ x.pktLen then completes t 1 (issued s t [a])
      else faults t 12 ((s.thread t).reg a) (issued s t [a]) := by
  have hctx : (s.thread t).ctxId.bind (issued s t [a]).ctx? = some x := by
    rw [Thread.ctxId_packet ht, Option.bind_some, (issued_counted s t [a]).ctx?, hk]
  refine (issue_answer h _ _ _).trans ?_
  simp only [hctx]
  by_cases hl : ((s.thread t).reg a).toNat + imm.toNat ≤ x.pktLen
  · rw [if_neg (Nat.not_lt.2 hl), if_pos hl]
    rfl
  · rw [if_pos (Nat.not_le.1 hl), if_neg hl]
    rfl

theorem exec_pwck_outside (ht : (s.thread t).ctxId = none) :
    exec (.pwck t a imm) s = faults t 21 (BitVec.ofNat 64 (wordI 0x13 a 0 imm.toNat)) (issued s t [a]) := by
  refine (issue_answer h _ _ _).trans ?_
  simp only [ht]
  rfl

end PacketCheck

end Sys2Proof.Machine
end

section
open Sys2Proof Sys2Proof.Machine

/-- Settles O5: the three-register forms are `trap3` or the divider, the checks one operation; each by its cases. -/
theorem trappingArithmeticCompletesOrFaults : Obligations.TrappingArithmeticCompletesOrFaults := by
  unfold Obligations.TrappingArithmeticCompletesOrFaults
  refine ⟨fun s t a b c h => ?_, fun s t a b imm h => ⟨exec_negt_fits h, exec_negt_overflows h, exec_addti_fits h,
    exec_addti_overflows h⟩, fun s t a b c imm => ⟨fun h => ?_, fun h => ?_, fun h => ?_, fun h _ _ => exec_pwck_packet h,
    exec_pwck_outside⟩⟩
  · intro B C fits d result fault
    have hd : divDistance t = d := divDistance_eq t
    obtain ⟨hadd, haddo⟩ := trap3_cases h (a := a) 1 (· + ·)
    obtain ⟨hsub, hsubo⟩ := trap3_cases h (a := a) 1 (· - ·)
    obtain ⟨hmul, hmulo⟩ := trap3_cases h (a := a) 3 (· * ·)
    refine ⟨hadd, haddo, hsub, hsubo, hmul, hmulo, ?_⟩
    rw [← hd]
    exact ⟨exec_divt_divides h, exec_divt_zero h, exec_divt_overflows h, exec_remt_divides h, exec_remt_zero h⟩
  · exact boundCheck_answer h (ok := fun x => (x.reg a).ult (x.reg b)) (by simp [BitVec.ult])
  · exact boundCheck_answer h (ok := fun x => (x.reg a).ult (zext imm)) (by simp [BitVec.ult, toNat_zext])
  · exact boundCheck_answer h (ok := fun x => (x.reg b).ule (x.reg a) && (x.reg a).ult (x.reg c))
      (by simp [BitVec.ult, BitVec.ule])

end

section
/-! Branches and service calls (R125, R139, R140). -/
namespace Sys2Proof.Machine

/-- A branch is taken when its condition holds of wA (R139, R140). -/
theorem branch_answer {s : State} {t : Nat} {a : BitVec 5} (h : Ready s t false [a]) (major : Nat) (off : BitVec 21)
    {taken : Word → Bool} {p : Prop} [Decidable p] (hp : taken ((s.thread t).reg a) = true ↔ p) :
    branch t major a off s taken =
      branches t ((((s.thread t).pc : Int) + 4 * off.toInt) % 2 ^ 64).toNat (decide p) (issued s t [a]) := by
  refine (issue_answer h _ _ _).trans ?_
  rw [branchTarget_eq, show taken ((s.thread t).reg a) = decide p by simp [← hp]]
  rfl

section Service
variable {s : State} {t : Nat} {n : BitVec 12} (h : Ready s t false [])
include h

theorem exec_bal (a : BitVec 5) (off : BitVec 21) :
    exec (.bal t a off) s = branches t ((((s.thread t).pc : Int) + 4 * off.toInt) % 2 ^ 64).toNat true
      (writeReg (issued s t []) t a (BitVec.ofNat 64 ((s.thread t).pc + 8)) 1 0) := by
  refine (issue_answer h _ _ _).trans ?_
  rw [branchTarget_eq]
  rfl

theorem exec_svc_accepted (hl : (s.thread t).level = 2) (hn : n.toNat ≤ 255) :
    exec (.svc t n) s = jumps t (((s.thread t).csr 0x10).toNat + 16 * n.toNat) 3
      ((issued s t []).setThread t { s.thread t with
        level := 1, csrs := AMap.put (AMap.put (s.thread t).csrs 0x11
          (BitVec.ofNat 64 ((s.thread t).pc + 4) &&& csrMask 0x11)) 0x12 2 }) := by
  refine (issue_answer h _ _ _).trans ?_
  rw [if_neg (by simp [hl, hn])]
  rfl

theorem exec_svc_refused (hr : (s.thread t).level ≠ 2 ∨ 255 < n.toNat) :
    exec (.svc t n) s = faults t 2 (BitVec.ofNat 64 (wordX 1 0 0 n.toNat 6)) (issued s t []) := by
  refine (issue_answer h _ _ _).trans ?_
  rw [if_pos (by simpa using hr)]
  rfl

theorem exec_sret_accepted (hl : (s.thread t).level = 1) :
    exec (.sret t) s = jumps t ((s.thread t).csr 0x11).toNat 3
      ((issued s t []).setThread t { s.thread t with level := ((s.thread t).csr 0x12).toNat % 4 }) := by
  refine (issue_answer h _ _ _).trans ?_
  rw [if_neg (by simp [hl]), fld_low]
  rfl

theorem exec_sret_refused (hl : (s.thread t).level ≠ 1) :
    exec (.sret t) s = faults t 2 (BitVec.ofNat 64 (wordX 1 0 0 0 7)) (issued s t []) := by
  refine (issue_answer h _ _ _).trans ?_
  rw [if_pos (by simpa using hl)]
  rfl

end Service

end Sys2Proof.Machine
end

section
open Sys2Proof Sys2Proof.Machine

/-- Settles O6: the conditional branches are one operation, each with its condition; the others by their arms. -/
theorem branchesComplete : Obligations.BranchesComplete := by
  unfold Obligations.BranchesComplete
  refine ⟨fun s t a off h => ?_, fun s t a off h => exec_bal h a off, fun s t a b h => issue_answer h _ _ _,
    fun s t n h => ⟨exec_svc_accepted h, exec_svc_refused h, exec_sret_accepted h, exec_sret_refused h⟩⟩
  exact ⟨branch_answer h 0x15 off (taken := (· == 0)) beq_iff_eq,
    branch_answer h 0x16 off (taken := (· != 0)) bne_iff_ne,
    branch_answer h 0x17 off (taken := fun v => v.slt 0) (by simp [BitVec.slt]),
    branch_answer h 0x18 off (taken := fun v => !v.slt 0) (by simp [BitVec.slt]),
    branch_answer h 0x19 off (taken := fun v => v.sle 0) (by simp [BitVec.sle]),
    branch_answer h 0x1A off (taken := fun v => !v.sle 0) (by simp [BitVec.sle])⟩

end

section
/-! Loads (R122, R126, R136, R139, R159, R172): what becomes of a load by its place and its core's buffered stores. -/
namespace Sys2Proof.Machine

section LoadFrom
variable {r : State} {t addr size : Nat} {a : BitVec 5} {signed : Bool} {m : MemRef}

theorem loadFrom_forwarded {v : Nat} (hf : forwarded r t m size = .value v) :
    loadFrom r t a addr size signed m = .next (writeReg r t a (loadValue size signed v) 3 0) := by
  simp [loadFrom, hf]

theorem loadFrom_overlapped {k : Nat} (hf : forwarded r t m size = .after k) :
    loadFrom r t a addr size signed m = .wait (perfCount r t 18) (.overlap k m size signed false a.toNat) := by
  simp [loadFrom, hf]

variable (hf : forwarded r t m size = .none)
include hf

theorem loadFrom_near (hm : m.near = true) :
    loadFrom r t a addr size signed m =
      .next (writeReg r t a (loadValue size signed (readMem r m size)) (loadDistance t) 0) := by
  cases m with
  | localStore u o => simp [loadFrom, hf]
  | window c o => simp [loadFrom, hf]
  | sram p o => cases hm
  | dram n o => cases hm

theorem loadFrom_dram (hm : m.inDram = true) :
    loadFrom r t a addr size signed m = .wait r (.access (.load size signed) m (BitVec.ofNat 64 addr) a.toNat) := by
  cases m with
  | localStore u o => cases hm
  | window c o => cases hm
  | sram p o => cases hm
  | dram n o => simp [loadFrom, hf]

end LoadFrom

theorem loadFrom_sram {r : State} {t addr size p o : Nat} {a : BitVec 5} {signed : Bool}
    (hf : forwarded r t (.sram p o) size = .none) :
    loadFrom r t a addr size signed (.sram p o) =
      if deterministic r t = true ∧ onCc t = true then
        .next (writeReg r t a (loadValue size signed (readMem r (.sram p o) size)) 3 0)
      else .wait r (.access (.load size signed) (.sram p o) (BitVec.ofNat 64 addr) a.toNat) := by
  simp [loadFrom, hf]

section LoadOp
variable {s : State} {t major size : Nat} {a b : BitVec 5} {disp : BitVec 16} {signed : Bool} (h : Ready s t true [b])
include h

theorem loadOp_misaligned (ha : effAddr (s.thread t) b disp % size ≠ 0) :
    loadOp t major a b disp size signed s = faults t 4 (BitVec.ofNat 64 (effAddr (s.thread t) b disp)) (issued s t [b]) :=
  (issue_answer h _ _ _).trans (by simp [ha])

variable (ha : effAddr (s.thread t) b disp % size = 0)
include ha

theorem loadOp_refused {code : Nat}
    (hp : place (issued s t [b]) (s.thread t) t (effAddr (s.thread t) b disp) size false = .bad code) :
    loadOp t major a b disp size signed s = faults t code
      (BitVec.ofNat 64 (if code = 0x15 then wordI major a b disp.toNat else effAddr (s.thread t) b disp)) (issued s t [b]) :=
  (issue_answer h _ _ _).trans (by simp [ha, hp, accessTrap])

theorem loadOp_record {off : Nat}
    (hp : place (issued s t [b]) (s.thread t) t (effAddr (s.thread t) b disp) size false = .record off) :
    loadOp t major a b disp size signed s = gives s t [b] a
      (loadValue size signed (leNat ((List.range size).map (fun k => recordByte (issued s t [b]) (s.thread t) (off + k)))))
      (loadDistance t) 0 :=
  (issue_answer h _ _ _).trans (by simp [ha, hp, readPlace, gives])

theorem loadOp_placed {m : MemRef}
    (hp : place (issued s t [b]) (s.thread t) t (effAddr (s.thread t) b disp) size false = .ref m) :
    loadOp t major a b disp size signed s =
      answer (issued s t [b]) t 1 (loadFrom (issued s t [b]) t a (effAddr (s.thread t) b disp) size signed m) :=
  (issue_answer h _ _ _).trans (by simp [ha, hp])

end LoadOp

section WindowLoad
variable {s : State} {t major size : Nat} {a b : BitVec 5} {disp : BitVec 16} (h : Ready s t true [b])
include h

theorem windowLoad_outside (hc : (s.thread t).ctxId = none) :
    windowLoad t major a b disp size s = faults t 21 (BitVec.ofNat 64 (wordI major a b disp.toNat)) (issued s t [b]) :=
  (issue_answer h _ _ _).trans (by simp [hc])

variable {c : Nat} (hc : (s.thread t).ctxId = some c)
include hc

theorem windowLoad_beyond
    (ha : effAddr (s.thread t) b disp < 0x100000 ∨ 0x104000 < effAddr (s.thread t) b disp + size) :
    windowLoad t major a b disp size s = faults t 5 (BitVec.ofNat 64 (effAddr (s.thread t) b disp)) (issued s t [b]) :=
  (issue_answer h _ _ _).trans (by simp [hc, ha])

theorem windowLoad_reads (hlo : 0x100000 ≤ effAddr (s.thread t) b disp)
    (hhi : effAddr (s.thread t) b disp + size ≤ 0x104000)
    (hf : forwarded (issued s t [b]) t (.window c (effAddr (s.thread t) b disp - 0x100000)) size = .none) :
    windowLoad t major a b disp size s = gives s t [b] a
      (BitVec.ofNat 64 (beNat (readBytes (issued s t [b]) (.window c (effAddr (s.thread t) b disp - 0x100000)) size)))
      (loadDistance t) 0 :=
  (issue_answer h _ _ _).trans (by simp [hc, Nat.not_lt.2 hlo, Nat.not_lt.2 hhi, hf, gives])

end WindowLoad

end Sys2Proof.Machine
end

section
open Sys2Proof Sys2Proof.Machine

/-- Settles O7: the seven loads are one operation, decided by alignment, place and buffered stores; the window loads another. -/
theorem loadsComplete : Obligations.LoadsComplete := by
  unfold Obligations.LoadsComplete
  refine ⟨?_, ?_⟩
  · intro s t a b disp h x r addr distance q hq
    have hop : exec q.1 s = loadOp t q.2.1 a b disp q.2.2.1 q.2.2.2 s := by
      revert q
      simp only [List.forall_mem_cons]
      exact ⟨rfl, rfl, rfl, rfl, rfl, rfl, rfl, by simp⟩
    intro value
    rw [hop]
    refine ⟨loadOp_misaligned h, fun ha => ⟨fun m hp hf => ?_, fun m v hp hf => ?_, fun m k hp hf => ?_,
      fun _ => loadOp_record h ha, fun _ => loadOp_refused h ha⟩⟩
    · rw [loadOp_placed h ha hp]
      cases m with
      | localStore u o => rw [loadFrom_near hf rfl]; rfl
      | window c o => rw [loadFrom_near hf rfl]; rfl
      | sram p o => rw [loadFrom_sram hf]; exact apply_ite _ _ _ _
      | dram n o => rw [loadFrom_dram hf rfl]; rfl
    · rw [loadOp_placed h ha hp, loadFrom_forwarded hf]; rfl
    · rw [loadOp_placed h ha hp, loadFrom_overlapped hf]; rfl
  · intro s t a b disp h x r addr q hq
    have hop : exec q.1 s = windowLoad t q.2.1 a b disp q.2.2 s := by
      revert q
      simp only [List.forall_mem_cons]
      exact ⟨rfl, rfl, rfl, by simp⟩
    rw [hop]
    exact ⟨windowLoad_outside h, fun _ hc => ⟨windowLoad_beyond h hc, windowLoad_reads h hc⟩⟩

end

section
/-! What stops an instruction before it executes (R125, R140, R141, R175, R176). -/
namespace Sys2Proof.Machine

section Stopped
variable {s : State} {t : Nat} (ht : okTid t = true) (slotOk : Bool) (word : Nat) {srcs : List (BitVec 5)} (cost : Nat)
  (body : State → Thread → Eff)
include ht

theorem issue_blocked (hi : canIssue s t = false) : issue t slotOk word srcs cost s body = acts s := by
  simp [issue, issueState, checked, acts, ht, hi]

variable (hi : canIssue s t = true) (hn : (s.thread t).issuedRegs = none)
include hi hn

theorem issue_misfetched (hf : fetchBad s t = true) :
    issue t slotOk word srcs cost s body = acts (faultThread s t 7 (BitVec.ofNat 64 (s.thread t).pc) (s.thread t).fetchAt) := by
  simp [issue, issueState, checked, acts, ht, hi, hn, hf]

variable (hf : fetchBad s t = false)
include hf

theorem issue_inSlot (hd : (s.thread t).dslot = true) :
    issue t false word srcs cost s body = acts (faultThread s t 8 (BitVec.ofNat 64 word) (s.thread t).pc) := by
  simp [issue, issueState, checked, acts, ht, hi, hn, hf, hd]

/-- In guarded mode the first source that is in flight is waited for. -/
theorem issue_guarded (hg : guarded (s.thread t) = true) {q : Nat} (hq : inFlight (s.thread t) srcs = some q) :
    issue t true word srcs cost s body = acts (s.setThread t { s.thread t with block := .guarded q, waited := true }) := by
  simp [issue, issueState, checked, acts, ht, hi, hn, hf, hg, hq]

end Stopped

theorem inFlight_head {x : Thread} {b : BitVec 5} {srcs : List (BitVec 5)} (hb : b ≠ 0) (hp : producing x b.toNat = true) :
    inFlight x (b :: srcs) = some b.toNat := by
  simp only [inFlight]
  rw [List.find?_cons_of_pos (by simp [hp]; exact hb)]
  rfl

end Sys2Proof.Machine
end

section
open Sys2Proof Sys2Proof.Machine

/-- Settles O11: each reason not to execute, whatever the instruction would do. -/
theorem issueFaultsAndWaits : Obligations.IssueFaultsAndWaits := by
  unfold Obligations.IssueFaultsAndWaits
  intro s t a b c disp off ht x
  refine ⟨fun hi => ?_, fun hi hn hf => ?_, fun hi hn hf hd => issue_inSlot ht _ _ _ hi hn hf hd,
    fun hi hn hf hg hb hp => ?_⟩
  · exact ⟨issue_blocked ht _ _ _ _ hi, issue_blocked ht _ _ _ _ hi, issue_blocked ht _ _ _ _ hi⟩
  · exact ⟨issue_misfetched ht _ _ _ _ hi hn hf, issue_misfetched ht _ _ _ _ hi hn hf, issue_misfetched ht _ _ _ _ hi hn hf⟩
  · exact ⟨issue_guarded ht _ _ _ hi hn hf hg (inFlight_head hb hp), issue_guarded ht _ _ _ hi hn hf hg (inFlight_head hb hp)⟩

end

section
/-! Atomics, the drain of a store buffer and accesses that come back (R139, R147, R159, R172, R173, R230, R231). -/
namespace Sys2Proof.Machine

@[simp] theorem answer_timed (r u : State) (t cost own : Nat) : answer r t cost (.timed u own) = completes t own u := rfl

section AtomicOp
variable {s : State} {t f : Nat} {a b c : BitVec 5} {srcs : List (BitVec 5)} {op : Thread → AccessOp}
  (h : Ready s t true srcs)
include h

theorem atomicOp_misaligned (ha : ((s.thread t).reg b).toNat % 8 ≠ 0) :
    atomicOp t a b c f srcs s op = faults t 4 ((s.thread t).reg b) (issued s t srcs) :=
  (issue_answer h _ _ _).trans (by simp [ha])

variable (ha : ((s.thread t).reg b).toNat % 8 = 0) {m : MemRef}
  (hp : place (issued s t srcs) (s.thread t) t ((s.thread t).reg b).toNat 8 true = .ref m)
include ha hp

theorem atomicOp_locked (hl : touchesLock (issued s t srcs) m 8 = true) :
    atomicOp t a b c f srcs s op = faults t 5 ((s.thread t).reg b) (issued s t srcs) :=
  (issue_answer h _ _ _).trans (by simp [ha, hp, hl])

variable (hl : touchesLock (issued s t srcs) m 8 = false)
include hl

theorem atomicOp_buffered (hb : ccBuffer (issued s t srcs) t ≠ []) :
    atomicOp t a b c f srcs s op = blocks t .bufferEmpty (issued s t srcs) :=
  (issue_answer h _ _ _).trans (by simp [ha, hp, hl, hb, -issued_ccBuffer])

variable (hb : ccBuffer (issued s t srcs) t = [])
include hb

/-- An atomic on near memory reads and writes at once (R230, R231). -/
theorem atomicOp_near (hn : m.near = true) :
    let r := issued s t srcs
    let old : Word := BitVec.ofNat 64 (readMem r m 8)
    let new := atomicNew (op (s.thread t)) old
    atomicOp t a b c f srcs s op =
      completes t 3 (writeReg (if new = old then r else writeMem r m 8 new.toNat) t a old (if onCc t then 1 else 2) 0) := by
  refine (issue_answer h _ _ _).trans ?_
  cases m with
  | localStore u o => simp [ha, hp, hl, hb]
  | window k o => simp [ha, hp, hl, hb]
  | sram p o => cases hn
  | dram n o => cases hn

variable (hn : m.near = false)
include hn

/-- Elsewhere it waits while speculative, and else blocks on its access (R108, R159). -/
theorem atomicOp_far :
    atomicOp t a b c f srcs s op =
      if (s.thread t).spec (issued s t srcs) then blocks t .serial (issued s t srcs)
      else blocks t (.access (op (s.thread t)) m ((s.thread t).reg b) a.toNat) (issued s t srcs) := by
  refine (issue_answer h _ _ _).trans ?_
  cases m with
  | localStore u o => cases hn
  | window k o => cases hn
  | sram p o => by_cases hs : (s.thread t).spec (issued s t srcs) = true <;> simp [ha, hp, hl, hb, hs]
  | dram n o => by_cases hs : (s.thread t).spec (issued s t srcs) = true <;> simp [ha, hp, hl, hb, hs]

end AtomicOp

section Drain
variable {s : State} {t : Nat}

theorem bufferServe_unblocked (hb : (s.thread t).block = .none) : bufferServe s t = s := by
  simp [bufferServe, hb]

theorem afterDrain_unblocked (owner : Nat) (hb : (s.thread t).block = .none) : afterDrain s owner t = s := by
  simp [afterDrain, hb]

/-- Where neither thread of the core waits, nobody is served. -/
theorem bufferMoved_unblocked (h₀ : (s.thread (t / 8 * 8)).block = .none) (h₁ : (s.thread (t / 8 * 8 + 1)).block = .none) :
    bufferMoved s t = s := by
  simp [bufferMoved, bufferServe_unblocked h₀, bufferServe_unblocked h₁]

/-- The oldest store leaves the buffer: written, or without effect on a word granted as a lock since (R147, R173). -/
theorem drainOne_unwaited {e : BufStore} {rest : List BufStore} (hc : ccBuffer s t = e :: rest) {v : State}
    (hv : (if touchesLock (setCcBuffer s t rest) e.place e.size then setCcBuffer s t rest
      else writeMem (setCcBuffer s t rest) e.place e.size e.value.toNat) = v)
    (h₀ : (v.thread (t / 8 * 8)).block = .none) (h₁ : (v.thread (t / 8 * 8 + 1)).block = .none) : drainOne s t = v := by
  simp only [drainOne, hc, hv]
  rw [afterDrain_unblocked _ h₀, afterDrain_unblocked _ h₁, bufferMoved_unblocked h₀ h₁]

end Drain

/-- A request leaves what locks are held. -/
theorem PortsCounted.touchesLock {s v : State} (h : PortsCounted s v) (m : MemRef) (n : Nat) :
    touchesLock v m n = touchesLock s m n := by
  obtain ⟨e, b, k, rfl⟩ := h; cases m <;> rfl

/-- A store beside poisoned lines is written (R311). -/
theorem storeMem_clean {s : State} {m : MemRef} {n : Nat} (v : Word) (hp : poisoned s m n = false) :
    storeMem s m n v = writeMem s m n v.toNat := by
  unfold storeMem
  rw [hp]
  rfl

section AccessDone
variable {s : State} {t dst : Nat} {op : AccessOp} {m : MemRef} {addr : Word}
  (hb : (s.thread t).block = .access op m addr dst) (hs : accessServed s op m = true)
include hb hs

theorem accessDone_load {size : Nat} {signed : Bool} (ho : op = .load size signed) (hp : poisoned s m size = false) :
    accessDone s t = wake (panRequest s t m size) t dst (loadValue size signed (readMem s m size)) := by
  subst ho
  have hr := panRequest_portsCounted s t m size
  simp [accessDone, hb, hs, hr.poisoned, hr.readMem, hp]

theorem accessDone_store {size : Nat} {v : Word} (ho : op = .store size v) (hl : touchesLock s m size = false)
    (hp : poisoned s m size = false) :
    accessDone s t = wake (writeMem (panRequest s t m size) m size v.toNat) t 0 0 := by
  subst ho
  have hr := panRequest_portsCounted s t m size
  have hstore := storeMem_clean v ((hr.poisoned m size).trans hp)
  simp [accessDone, hb, hs, hr.touchesLock, hl, hstore]

/-- An addition of something leaves another word than it found, so it writes (R230). -/
theorem accessDone_add {v : Word} (ho : op = .add v) (hl : touchesLock s m 8 = false) (hp : poisoned s m 8 = false)
    (hv : v ≠ 0) :
    let old : Word := BitVec.ofNat 64 (readMem s m 8)
    accessDone s t = wake (writeMem (panRequest s t m 8) m 8 (old + v).toNat) t dst old := by
  subst ho
  have hr := panRequest_portsCounted s t m 8
  have hnew : ∀ old : Word, old + v ≠ old := fun _ hold => hv (add_eq_left.1 hold)
  simp [accessDone, hb, hs, hr.touchesLock, hr.poisoned, hr.readMem, atomicNew, hl, hp, hnew]

end AccessDone

end Sys2Proof.Machine
end

section
open Sys2Proof Sys2Proof.Machine

/-- Settles O9: the atomics are one operation, decided by alignment, place, lock, buffer; the others by who waits for what. -/
theorem atomicsAndLandingsComplete : Obligations.AtomicsAndLandingsComplete := by
  unfold Obligations.AtomicsAndLandingsComplete
  refine ⟨?_, ?_, ?_, ?_⟩
  · intro s t a b c m x addr q hq
    obtain ⟨f, op, hop, hval⟩ : ∃ f op, exec q.1 s = atomicOp t a b c f q.2.1 s op ∧ op (s.thread t) = q.2.2 := by
      revert q
      simp only [List.forall_mem_cons]
      exact ⟨⟨1, fun x => .add (x.reg c), rfl, rfl⟩, ⟨2, fun x => .cas (x.reg a) (x.reg c), rfl, rfl⟩,
        ⟨3, fun x => .swap (x.reg c), rfl, rfl⟩, by simp⟩
    intro r old new near h
    rw [hop]
    refine ⟨atomicOp_misaligned h, fun ha hp => atomicOp_locked h ha hp, fun ha hp => atomicOp_buffered h ha hp,
      fun ha hp hl hb => ⟨fun hn => ?_, fun hn hs => ?_, fun hn hs => ?_⟩⟩
    · have hnew : new = atomicNew (op (s.thread t)) old := by
        rw [hval]
        unfold new
        cases q.2.2 <;> simp [atomicNew]
      rw [hnew]
      exact atomicOp_near h ha hp hl hb hn
    · rw [atomicOp_far h ha hp hl hb hn, if_pos hs]
    · rw [atomicOp_far h ha hp hl hb hn, if_neg (Bool.eq_false_iff.1 hs), hval]
  · intro s t e rest ht hc u v hw
    exact (checked_of ht).trans (by rw [drainOne_unwaited hc rfl (hw _ (.inl rfl)) (hw _ (.inr rfl))]; rfl)
  · intro s t num f ht hb hf ho x landed
    have hland := landResult_unblocked hf ho hb
    refine ⟨fun hold => (checked_of ht).trans ?_, fun n hn hlt => (checked_of ht).trans ?_⟩
    · have hy : ¬x.Younger f := fun ⟨n, hn, hlt⟩ => Nat.not_lt.2 (hold n hn) hlt
      rw [hland, Thread.land_youngest hy]
      rfl
    · rw [hland, Thread.land_younger ⟨n, hn, hlt⟩]
      rfl
  · intro s t m addr dst ht back
    refine ⟨fun size signed ⟨hb, hs⟩ hp => (checked_of ht).trans ?_, fun size v ⟨hb, hs⟩ hl hp => (checked_of ht).trans ?_,
      fun v ⟨hb, hs⟩ hl hp => ?_⟩
    · rw [accessDone_load hb hs rfl hp]; rfl
    · rw [accessDone_store hb hs rfl hl hp]; rfl
    · intro old hv
      exact (checked_of ht).trans (by rw [accessDone_add hb hs rfl hl hp hv]; rfl)

end

section
/-! Lock instructions and the lock units' own events (R147, R232–R238). -/
namespace Sys2Proof.Machine

theorem acquire_noLease {s : State} {t major : Nat} {a b : BitVec 5} {tries : Bool} (h : Ready s t true []) :
    acquire t major a b 0 tries s = faults t 1 (BitVec.ofNat 64 (wordI major a b 0)) (issued s t []) := by
  unfold acquire
  dsimp only
  rw [if_pos rfl]
  exact issueLegal_bad h _ _ _ _ _

section Acquire
variable {s : State} {t major : Nat} {a b : BitVec 5} {lease : BitVec 16} {tries : Bool} {m : MemRef}
  (h : Ready s t true [b]) (hl : lease ≠ 0)
  (hm : lockPlace (issued s t [b]) (s.thread t) t ((s.thread t).reg b) = .inl m)
include h hl hm

theorem acquire_heldAlready (hh : holdsLock (issued s t [b]) t m = true) :
    acquire t major a b lease tries s = faults t 17 ((s.thread t).reg b) (issued s t [b]) := by
  unfold acquire
  dsimp only
  rw [if_neg hl]
  exact (issueLegal_answer h _ _ _).trans (by simp [hm, hh])

variable (hh : holdsLock (issued s t [b]) t m = false) (hb : ccBuffer (issued s t [b]) t = [])
include hh hb

/-- A lock not held by its asker: a try gives 2 at once where there is nothing to have, any other request waits (R147). -/
theorem acquire_requests :
    let r := issued s t [b]
    let x := s.thread t
    let l := lockEntry r m
    let full := !l.inTable && tableFull r m
    acquire t major a b lease tries s = answer r t 6 (
      if tries && (l.held || full) then .next (writeReg r t a 2 1 0)
      else .left (applyLockRule (blockThread (requestLock (if full then countTableFull r t m else r) x t m (x.reg b) lease.toNat
        tries) t (.lock m a.toNat)) l)) := by
  unfold acquire
  dsimp only
  rw [if_neg hl]
  refine (issueLegal_answer h _ _ _).trans ?_
  simp only [hm, hh, hb]
  rfl

theorem acquire_waits {full : Bool} (hfull : (!(lockEntry (issued s t [b]) m).inTable && tableFull (issued s t [b]) m) = full)
    (ht : tries = false ∨ ((lockEntry (issued s t [b]) m).held = false ∧ full = false)) :
    acquire t major a b lease tries s = acts (applyLockRule (blockThread (requestLock
      (if full then countTableFull (issued s t [b]) t m else issued s t [b]) (s.thread t) t m ((s.thread t).reg b) lease.toNat
      tries) t (.lock m a.toNat)) (lockEntry (issued s t [b]) m)) := by
  have hno : (tries && ((lockEntry (issued s t [b]) m).held || full)) = false := by
    rcases ht with ht | ⟨hheld, hf⟩
    · simp [ht]
    · simp [hheld, hf]
  rw [acquire_requests h hl hm hh hb, hfull, hno]
  rfl

theorem acquire_gives2 (ht : tries = true) (hno : (lockEntry (issued s t [b]) m).held = true ∨
      (!(lockEntry (issued s t [b]) m).inTable && tableFull (issued s t [b]) m) = true) :
    acquire t major a b lease tries s = completes t 6 (writeReg (issued s t [b]) t a 2 1 0) := by
  have hyes : (tries && ((lockEntry (issued s t [b]) m).held ||
      (!(lockEntry (issued s t [b]) m).inTable && tableFull (issued s t [b]) m))) = true := by
    rw [ht, Bool.true_and, Bool.or_eq_true]
    exact hno
  rw [acquire_requests h hl hm hh hb, hyes]
  rfl

end Acquire

section Release
variable {s : State} {t : Nat} {b : BitVec 5} {m : MemRef} (h : Ready s t true [b])
  (hm : lockPlace (issued s t [b]) (s.thread t) t ((s.thread t).reg b) = .inl m)
include h hm

theorem exec_lkr_releases {l : Lock} (hf : findLock (issued s t [b]) m = some l) (hh : l.held = true) (ho : l.owner = t)
    (hb : ccBuffer (issued s t [b]) t = []) :
    exec (.lkr t b) s = completes t 2 (releaseLock (issued s t [b]) l false) := by
  refine (issue_answer h _ _ _).trans ?_
  simp only [hm, hf, hh, ho, hb, beq_self_eq_true]
  rfl

theorem exec_lkr_notOwner (hh : holdsLock (issued s t [b]) t m = false) :
    exec (.lkr t b) s = faults t 16 ((s.thread t).reg b) (issued s t [b]) := by
  refine (issue_answer h _ _ _).trans ?_
  unfold holdsLock at hh
  cases hf : findLock (issued s t [b]) m with
  | none =>
    simp only [hm, hf]
    rfl
  | some l =>
    simp only [hf] at hh
    simp only [hm, hf, hh]
    rfl

end Release

section Grant
variable {s : State} {m : MemRef} {l : Lock} (hf : findLock s m = some l) (hh : l.held = false) (hw : l.waiters ≠ [])
include hf hh hw

theorem exec_lockGrant_inTable (ht : l.inTable = true) : exec (.lockGrant m) s = acts (grantNext s l) := by
  refine congrArg Host.Outcome.next ?_
  simp [hf, hh, hw, ht]

theorem exec_lockGrant_acquires (ht : l.inTable = false) (hr : tableFull s m = false) :
    exec (.lockGrant m) s = acts (grantNext s (acquireWord s l)) := by
  refine congrArg Host.Outcome.next ?_
  simp [hf, hh, hw, ht, hr]

theorem exec_lockGrant_full (ht : l.inTable = false) (hr : tableFull s m = true) : exec (.lockGrant m) s = .next s := by
  refine congrArg Host.Outcome.next ?_
  simp [hf, hh, hw, ht, hr]

end Grant

/-- A lock past its lease is broken and granted on, its Pan counts it, and its owner faults (R236). -/
theorem exec_leaseExpired_due {s : State} {m : MemRef} {l : Lock} (hf : findLock s m = some l) (hh : l.held = true)
    (he : l.leaseEnd ≤ now s) :
    let freed := releaseLock s l true
    let granted := match findLock freed m with | none => freed | some k => grantNext freed k
    let u := panCount granted (tidPan l.owner) 14
    let x := u.thread l.owner
    x.held = false → x.task ≠ .none → (∀ c v p e n, x.block ≠ .deferred (.fault c v p e n)) →
    exec (.leaseExpired m) s = acts (faultThread (withdrawWait u l.owner) l.owner 0x12 l.addr x.pc) := by
  intro freed granted u x hx ht hb
  have halready : (match x.block with | .deferred (.fault ..) => true | _ => false) = false := by
    split
    · next c v p e n hd => exact absurd hd (hb c v p e n)
    · rfl
  have hgoes : (x.held || x.task == .none || (match x.block with | .deferred (.fault ..) => true | _ => false)) = false := by
    rw [hx, halready, beq_eq_false_iff_ne.2 ht]
    rfl
  have hdue : (!l.held || decide (now s < l.leaseEnd)) = false := by simp [hh, Nat.not_lt.2 he]
  refine congrArg Host.Outcome.next ?_
  simp only [hf, hdue]
  rw [if_neg Bool.false_ne_true]
  exact congrArg finish (if_neg (Bool.eq_false_iff.1 hgoes))

end Sys2Proof.Machine
end

section
open Sys2Proof Sys2Proof.Machine

/-- Settles O12: `LKA` and `LKT` are one operation, by who holds the lock and what its table holds; the others by their arms. -/
theorem lockInstructionsComplete : Obligations.LockInstructionsComplete := by
  unfold Obligations.LockInstructionsComplete
  refine ⟨fun s t a b h => ⟨acquire_noLease (tries := false) h, acquire_noLease (tries := true) h⟩, ?_, ?_, ?_, ?_⟩
  · intro s t a b lease h x r B hl m hm l full wait
    refine ⟨fun hh => ⟨acquire_heldAlready h hl hm hh, acquire_heldAlready h hl hm hh⟩, fun hh hb => ?_⟩
    exact ⟨acquire_waits h hl hm hh hb rfl (.inl rfl), acquire_gives2 h hl hm hh hb rfl,
      fun hheld hf => acquire_waits h hl hm hh hb rfl (.inr ⟨hheld, hf⟩)⟩
  · intro s t b m h x r hm
    exact ⟨fun _ => exec_lkr_releases h hm, exec_lkr_notOwner h hm⟩
  · exact fun _ _ _ hf hh hw =>
      ⟨exec_lockGrant_inTable hf hh hw, exec_lockGrant_acquires hf hh hw, exec_lockGrant_full hf hh hw⟩
  · exact fun _ _ _ => exec_leaseExpired_due

end

section
/-! Channels (R145, R198–R203) and what becomes of faulted tasks (R205, R206). -/
namespace Sys2Proof.Machine

section Response
variable {s : State} {t : Nat} {a : BitVec 5} {ch : BitVec 4} (h : Ready s t true []) (hc : ch.toNat < 8)
include h hc

theorem exec_chr_response {e : Word × Bool} {rest : List (Word × Bool)}
    (he : AMap.at (s.thread t).responses ch.toNat [] = e :: rest) :
    exec (.chr t a ch) s = acts (takeResponse ((issued s t []).setThread t
      { s.thread t with responses := AMap.put (s.thread t).responses ch.toNat rest }) t a.toNat e) :=
  (issue_answer h _ _ _).trans (by simp [hc, he])

theorem exec_chr_noResponse (he : AMap.at (s.thread t).responses ch.toNat [] = []) :
    exec (.chr t a ch) s = blocks t (.chanEmpty ch.toNat a.toNat) (issued s t []) :=
  (issue_answer h _ _ _).trans (by simp [hc, he])

end Response

section Read
variable {s : State} {t : Nat} {a : BitVec 5} {ch : BitVec 4} (h : Ready s t true []) (hc : 8 ≤ ch.toNat)
include h hc

/-- A message channel is read by what it is bound to (R198). -/
theorem exec_chr_message :
    exec (.chr t a ch) s = answer (issued s t []) t 1 (readMessage (issued s t []) (s.thread t) t ch.toNat a.toNat) :=
  (issue_answer h _ _ _).trans (by rw [if_neg (Nat.not_lt.2 hc)])

theorem exec_chr_sibling {n : Nat} {e : ChanEntry} {rest : List ChanEntry} (hn : chanOf (s.thread t) ch.toNat = .sibling n)
    (he : linkOf (issued s t []) (linkKey (t / 8 * 8 + n) t) = e :: rest) :
    exec (.chr t a ch) s =
      if e.landed then acts (wake (serveLink (setLinkTo (issued s t []) (linkKey (t / 8 * 8 + n) t) rest)
        (linkKey (t / 8 * 8 + n) t)) t a.toNat e.value)
      else blocks t (.chanEmpty ch.toNat a.toNat) (issued s t []) := by
  rw [exec_chr_message h hc]
  simp only [readMessage, hn, he]
  exact apply_ite _ _ _ _

theorem exec_chr_queue {q : Nat} {m : MsgQ} {v : Word} {u : State} (hn : chanOf (s.thread t) ch.toNat = .readEnd q)
    (hm : msgqOf (issued s t []) (tidPan t) q = some m) (hv : takeMsg (issued s t []) (tidPan t) q m t = some (v, u)) :
    exec (.chr t a ch) s = acts (wake (serveQueue u (tidPan t) q) t a.toNat v) := by
  rw [exec_chr_message h hc]
  simp only [readMessage, hn, hm, hv]
  rfl

theorem exec_chr_queueEmpty {q : Nat} {m : MsgQ} (hn : chanOf (s.thread t) ch.toNat = .readEnd q)
    (hm : msgqOf (issued s t []) (tidPan t) q = some m) (hv : takeMsg (issued s t []) (tidPan t) q m t = none) :
    exec (.chr t a ch) s = blocks t (.chanEmpty ch.toNat a.toNat) (issued s t []) := by
  rw [exec_chr_message h hc]
  simp only [readMessage, hn, hm, hv]
  rfl

theorem exec_chr_faultQueue {v : Word} {u : State} (hn : chanOf (s.thread t) ch.toNat = .faultQueue)
    (hv : takeFaultWord (issued s t []) (tidPan t) = some (v, u)) :
    exec (.chr t a ch) s = acts (wake u t a.toNat v) := by
  rw [exec_chr_message h hc]
  simp only [readMessage, hn, hv]
  rfl

theorem exec_chr_unconnected (hn : chanOf (s.thread t) ch.toNat = .unconnected) :
    exec (.chr t a ch) s = faults t 14 (BitVec.ofNat 64 ch.toNat) (issued s t []) := by
  rw [exec_chr_message h hc]
  simp only [readMessage, hn]
  rfl

end Read

section Poll
variable {s : State} {t : Nat} {a : BitVec 5} {ch : BitVec 4} (h : Ready s t true [])
include h

theorem exec_chp_counts {n : Nat} (hn : channelReady (issued s t []) (s.thread t) t ch.toNat = some n) :
    exec (.chp t a ch) s = gives s t [] a (BitVec.ofNat 64 n) 1 0 :=
  (issue_answer h _ _ _).trans (by simp [hn, gives])

theorem exec_chp_unconnected (hn : channelReady (issued s t []) (s.thread t) t ch.toNat = none) :
    exec (.chp t a ch) s = faults t 14 (zext ch) (issued s t []) :=
  (issue_answer h _ _ _).trans (by simp [hn])

end Poll

section Write
variable {s : State} {t : Nat} {a : BitVec 5} {ch : BitVec 4} (h : Ready s t true [a])
include h

theorem exec_chw_response (hc : ch.toNat < 8) : exec (.chw t a ch) s = faults t 14 (zext ch) (issued s t [a]) :=
  (issue_answer h _ _ _).trans (by simp [hc])

variable (hc : 8 ≤ ch.toNat)
include hc

/-- A message channel is written by what it is bound to (R198). -/
theorem exec_chw_message :
    exec (.chw t a ch) s =
      answer (issued s t [a]) t 2 (writeMessage (issued s t [a]) (s.thread t) t ch.toNat ((s.thread t).reg a)) :=
  (issue_answer h _ _ _).trans (by rw [if_neg (Nat.not_lt.2 hc)])

theorem exec_chw_sibling {n : Nat} (hn : chanOf (s.thread t) ch.toNat = .sibling n) (hself : n ≠ tidThread t)
    (ho : siblingOurs (issued s t [a]) t n = true) :
    let r := issued s t [a]
    let k := linkKey t (t / 8 * 8 + n)
    exec (.chw t a ch) s =
      if (linkOf r k).length < 4 then completes t 2 (setLinkTo r k (linkOf r k ++ [⟨(s.thread t).reg a, false⟩]))
      else blocks t (.chanFull ch.toNat ((s.thread t).reg a)) r := by
  intro r k
  rw [exec_chw_message h hc]
  by_cases hl : (linkOf r k).length < 4
  · rw [if_pos hl]
    simp [writeMessage, hn, hself, ho, r, k, Nat.not_le.2 hl]
  · rw [if_neg hl]
    simp [writeMessage, hn, hself, ho, r, k, Nat.not_lt.1 hl]

variable {q : Nat} {m : MsgQ} (hn : chanOf (s.thread t) ch.toNat = .writeEnd q)
  (hm : msgqOf (issued s t [a]) (tidPan t) q = some m)

section Queue
include hn hm

theorem exec_chw_queue (hs : (s.thread t).spec (issued s t [a]) = false) :
    exec (.chw t a ch) s =
      if m.entries.length < m.depth then completes t 2 (setMsgq (issued s t [a]) (tidPan t) q
        { m with entries := m.entries ++ [⟨(s.thread t).reg a, false⟩] })
      else blocks t (.chanFull ch.toNat ((s.thread t).reg a)) (issued s t [a]) := by
  rw [exec_chw_message h hc]
  by_cases hl : m.entries.length < m.depth
  · rw [if_pos hl]
    simp [writeMessage, hn, hm, hs, Nat.not_le.2 hl]
  · rw [if_neg hl]
    simp [writeMessage, hn, hm, hs, Nat.not_lt.1 hl]

theorem exec_chw_speculative (hs : (s.thread t).spec (issued s t [a]) = true) :
    exec (.chw t a ch) s = blocks t .serial (issued s t [a]) := by
  rw [exec_chw_message h hc]
  simp [writeMessage, hn, hm, hs]

end Queue

theorem exec_chw_control (hk : chanOf (s.thread t) ch.toNat = .control) :
    exec (.chw t a ch) s = completes t 2 (controlWord (issued s t [a]) (tidPan t) ((s.thread t).reg a)) := by
  rw [exec_chw_message h hc]
  simp [writeMessage, hk]

end Write

section Land
variable {s : State}

theorem exec_channelEntryLand {sender receiver : Nat} (hs : okTid sender = true) (hr : okTid receiver = true) :
    let k := linkKey sender receiver
    exec (.channelEntryLand sender receiver) s = acts (serveLink (setLinkTo s k (landFirst (linkOf s k))) k) :=
  checked_of (by rw [hs, hr]; rfl)

theorem exec_msgqEntryLand {p q : Nat} {m : MsgQ} (hp : okPan p = true) (hm : msgqOf s p q = some m) :
    exec (.msgqEntryLand p q) s = acts (serveQueue (setMsgq s p q { m with entries := landFirst m.entries }) p q) := by
  refine (checked_of hp).trans ?_
  simp only [hm]
  rfl

end Land

/-- An action on the task of a held thread releases it (R205). -/
theorem controlTask_found {s : State} {p t : Nat} {h : HeldTask} (ht : (s.thread t).held = true)
    (hf : (s.pan p).held.find? (fun h => h.tids.contains t) = some h) (action : Nat) :
    controlTask s p t action =
      endFaulted (s.setPan p { s.pan p with held := (s.pan p).held.filter (fun g => g.task != h.task) }) h.task
        (action == 3) (action == 2) := by
  simp only [controlTask, ht, Bool.and_true, hf]

/-- A supervisor that has held a faulted task past FAULT_HOLD_US loses it (R206). -/
theorem exec_supervisorTimeout_due {s : State} {p : Nat} {h : HeldTask} {rest : List HeldTask} (hp : okPan p = true)
    (hh : (s.pan p).held = h :: rest) (ht : h.postedAt + 1000 * fld (s.pan p).sched 40 16 ≤ now s) :
    exec (.supervisorTimeout p) s = acts (raiseDev (panCount (endFaulted (s.setPan p { s.pan p with held := rest })
      h.task true false) p 6) (0x101 + 16 * p) 1 0) := by
  refine (checked_of hp).trans ?_
  simp only [hh]
  rw [if_neg (Nat.not_lt.2 ht)]
  rfl

end Sys2Proof.Machine
end

section
open Sys2Proof Sys2Proof.Machine

/-- Settles O13: reads and writes by what the channel is bound to; the events and the supervisor's actions by their arms. -/
theorem channelInstructionsComplete : Obligations.ChannelInstructionsComplete := by
  unfold Obligations.ChannelInstructionsComplete
  refine ⟨?_, ?_, ?_, ?_, ?_, ?_⟩
  · intro s t a ch h x r p
    refine ⟨fun hc => ⟨fun _ _ => exec_chr_response h hc, exec_chr_noResponse h hc⟩, fun hc => ⟨?_, ?_, ?_, ?_⟩,
      fun _ => exec_chp_counts h, exec_chp_unconnected h⟩
    · exact fun _ _ _ hn => exec_chr_sibling h hc hn
    · exact fun _ _ hn hm => ⟨fun _ _ => exec_chr_queue h hc hn hm, exec_chr_queueEmpty h hc hn hm⟩
    · exact fun _ _ => exec_chr_faultQueue h hc
    · exact exec_chr_unconnected h hc
  · intro s t a ch h x r p
    refine ⟨exec_chw_response h, fun hc => ⟨?_, ?_, ?_, exec_chw_control h hc⟩⟩
    · exact fun _ hn hself ho => exec_chw_sibling h hc hn hself ho
    · exact fun _ _ hn hm => exec_chw_queue h hc hn hm
    · exact fun _ _ hn hm => exec_chw_speculative h hc hn hm
  · exact fun _ _ _ => exec_channelEntryLand
  · exact fun _ _ _ _ => exec_msgqEntryLand
  · intro s p t h hp ht hf u
    refine ⟨(checked_of hp).trans ?_, (checked_of hp).trans ?_, (checked_of hp).trans ?_⟩
    all_goals
      rw [controlTask_found ht hf]
      rfl
  · exact fun _ _ _ _ => exec_supervisorTimeout_due

end

section
/-! Events, counters, snapshots and diagnostic records (R120, R179, R208, R209, R407, R490–R502): what a served command does where
its tests pass, and what ends by time. -/
namespace Sys2Proof.Machine

/-- On a powered module the holdoff of a pair ends, and what it gathered is handled (R490). -/
theorem exec_holdoffExpiry_powered {s : State} {source owner : Nat} (hok : okSource source = true) (hp : powered s = true) :
    exec (.holdoffExpiry source owner) s = .next (settle (endHoldoff s source owner)) :=
  (checked_of hok).trans (congrArg Host.Outcome.next (if_pos hp))

/-- A snapshot that no one has read for 60 s goes (R407). -/
theorem exec_snapshotExpiry_due {s : State} {id : Nat} {x : Snap} (hf : AMap.find s.legend.snaps id = some x)
    (hd : x.lastRead + 60000000000 ≤ now s) :
    exec (.snapshotExpiry id) s = .next { s with legend := { s.legend with snaps := AMap.del s.legend.snaps id } } := by
  refine congrArg Host.Outcome.next ?_
  simp only [hf]
  exact if_neg (Nat.not_lt.2 hd)

/-- What the body of a served command is given: its number, the owner that it acts for, and its packet. -/
def servedCall (s : State) (c : CmdRef) (e : Entry) : Call := ⟨c.acc, actor s e, ownerOf s e == some operatorId, e⟩

section Served
variable {s : State} {c : CmdRef} {e : Entry}

/-- The operator stores the route of a source (R493). -/
theorem exec_eventRouteWrite_source {i : Nat} {v : BitVec 64} (h : Served s c 0x0A00 e)
    (hop : (ownerOf s e == some operatorId) = true) (hi : i ≤ 2047) (hv : firstBad (routeBad s v) = none) :
    exec (.eventRouteWrite c 0 i v) s =
      applied c { s with events := { s.events with routes := AMap.put s.events.routes i v } } := by
  refine served_done h ?_
  rw [hop]
  exact unlessBad_of_none (firstBad_cons_of_false (decide_eq_false (Nat.not_lt.2 hi)) hv)

/-- A tenant stores the route of its own records (R494). -/
theorem exec_eventRouteWrite_owner {v : BitVec 64} (h : Served s c 0x0A00 e)
    (hop : (ownerOf s e == some operatorId) = false) (hv : fld v 32 32 = 0) :
    exec (.eventRouteWrite c 1 0 v) s = applied c { s with events :=
      { s.events with ownerRoutes := AMap.put s.events.ownerRoutes (actor s e) (BitVec.ofNat 32 v.toNat) } } := by
  refine served_done h ?_
  rw [hop]
  exact unlessBad_of_none (firstBad_none.2 (by simp [hv]))

/-- A core counter takes a legal selection, and starts anew where the selection changed (R208). -/
theorem exec_counterSelectWrite_core {i : Nat} {v : BitVec 64} (h : Served s c 0x0A02 e)
    (hv : firstBad (coreSelectBad s (servedCall s c e) i v) = none) :
    let p := s.pan (i / 128)
    let w : BitVec 32 := BitVec.ofNat 32 v.toNat
    exec (.counterSelectWrite c 0 i v) s = applied c (s.setPan (i / 128) { p with
      perfSel := AMap.put p.perfSel (i % 128) (w, actor s e),
      perf := if (coreSelect s i).1 = w then p.perf else AMap.del p.perf (i % 128) }) := by
  intro p w
  refine served_done h ((unlessBad_of_none hv).trans ?_)
  simp only [beq_iff_eq]
  rfl

/-- A device counter takes a legal selection of the operator, and starts anew where the selection changed (R498). -/
theorem exec_counterSelectWrite_device {i : Nat} {v : BitVec 64} (h : Served s c 0x0A02 e)
    (hop : (ownerOf s e == some operatorId) = true) (hi : i ≤ 31) (hv : firstBad (devSelectBad v) = none) :
    exec (.counterSelectWrite c 1 i v) s = applied c { s with events := { s.events with
      devSelect := AMap.put s.events.devSelect i v,
      devPerf := if AMap.at s.events.devSelect i 0 = v then s.events.devPerf else AMap.del s.events.devPerf i } } := by
  refine served_done h ?_
  rw [hop]
  refine (unlessBad_of_none (firstBad_cons_of_false (decide_eq_false (Nat.not_lt.2 hi)) hv)).trans ?_
  simp only [beq_iff_eq]
  rfl

/-- The state with a new snapshot of a session, under the next id (R407). -/
def State.withSnap (s : State) (session : Nat) (bytes : List Byte) : State :=
  { s with legend := { s.legend with
    snaps := AMap.put s.legend.snaps s.legend.nextSnap { session := session, bytes := bytes, lastRead := now s },
    nextSnap := s.legend.nextSnap + 1 } }

/-- The session and the device have room for one more snapshot (R407). -/
def SnapRoom (s : State) (session : Nat) : Prop := snapsOf s session < 16 ∧ s.legend.snaps.length < 1024

/-- Where there is room, a snapshot is stored with the change that goes with it, and its id and length are told. -/
theorem takeSnap_stores {k : Call} (hr : SnapRoom s k.entry.session) (bytes : List Byte) (go : State → State) (read : Bool) :
    takeSnap s k bytes go read =
      (go (s.withSnap k.entry.session bytes),
        .done (plain 0 (!read)) (beBytes 4 s.legend.nextSnap ++ beBytes 4 bytes.length)) :=
  if_neg (by simp [Nat.not_le.2 hr.1, Nat.not_le.2 hr.2])

/-- SNAPSHOT without CLEAR latches what its caller may see of a known scope, samples it and ends its holds on raisings (R502). -/
theorem exec_snapshot_latches {scope inst : Nat} (h : Served s c 0x0A03 e) (hr : SnapRoom s e.session)
    (hs : 1 ≤ scope ∧ scope ≤ 10 ∨ scope = 0xFF) (hi : instExists s scope inst = true)
    (hm : (ownerOf s e == some operatorId) = true ∨ instSeen s (actor s e) scope inst = true) :
    let es := latched s (servedCall s c e) scope inst
    let u := sampleCounters (s.withSnap e.session (snapBytes s es)) es
    exec (.snapshot c scope 0 inst) s = replies c (beBytes 4 s.legend.nextSnap ++ beBytes 4 (snapBytes s es).length)
      { u with events := { u.events with seen := u.events.seen.filter (fun i => !es.any (fun e => e.id == i)) } } := by
  intro es u
  refine served_done h ?_
  have hknown : ((decide (1 ≤ scope) && decide (scope ≤ 10)) || scope == 0xFF) = true := by simpa using hs
  have hown : (!(ownerOf s e == some operatorId) && !instSeen s (actor s e) scope inst) = false := by
    rcases hm with hm | hm <;> simp [hm]
  have hclear : bit (0 : BitVec 8) 0 = false := rfl
  have hreserved : (fld (0 : BitVec 8) 1 7 != 0) = false := rfl
  simp only [hknown, hi, hown, hclear, hreserved, Bool.true_and, Bool.false_and, Bool.not_true, Bool.false_eq_true, if_false]
  exact takeSnap_stores (k := servedCall s c e) hr _ _ _

/-- A reader takes the distance reports of a Pan that it may receive; the operator takes the counts too (R179). -/
theorem exec_distReportSnapshot_takes {pan : Nat} (h : Served s c 0x0C01 e) (hr : SnapRoom s e.session) (hp : pan ≤ 15) :
    let op := ownerOf s e == some operatorId
    let p := s.pan pan
    let mine (r : DistReport) : Bool := r.tenant == actor s e || (op && r.tenant == deviceId)
    let bytes := ((p.reports.filter mine).map distBytes).flatten ++ (if op then distCounts p else [])
    let u := (s.withSnap e.session bytes).setPan pan { p with
      reports := p.reports.filter (fun r => !mine r), lostReports := if op then [] else p.lostReports }
    exec (.distReportSnapshot c pan) s =
      concludes c (plain 0 true) (beBytes 4 s.legend.nextSnap ++ beBytes 4 bytes.length)
        { u with events := { u.events with seen := u.events.seen.filter (· != cid 4 pan 0) } } :=
  served_done h ((if_neg (Nat.not_lt.2 hp)).trans (takeSnap_stores (k := servedCall s c e) hr _ _ _))

/-- The trace of a Pan is taken and cleared (R209). -/
theorem exec_traceSnapshot_takes {pan : Nat} (h : Served s c 0x0C02 e) (hr : SnapRoom s e.session) (hp : pan ≤ 15) :
    let bytes := ((s.pan pan).trace.map traceBytes).flatten
    exec (.traceSnapshot c pan) s =
      concludes c (plain 0 true) (beBytes 4 s.legend.nextSnap ++ beBytes 4 bytes.length)
        ((s.withSnap e.session bytes).setPan pan { s.pan pan with trace := [] }) :=
  served_done h ((if_neg (Nat.not_lt.2 hp)).trans (takeSnap_stores (k := servedCall s c e) hr _ _ _))

section Own
variable {id : Nat} {x : Snap} (hf : AMap.find s.legend.snaps id = some x) (hx : x.session = e.session)
include hf hx

/-- The session that took a snapshot reads of it what a reply holds, which renews its 60 s (R407). -/
theorem exec_snapshotRead_own {offset : Nat} (h : Served s c 0x0A04 e) :
    exec (.snapshotRead c id offset) s = replies c ((x.bytes.drop offset).take 65280)
      { s with legend := { s.legend with snaps := AMap.put s.legend.snaps id { x with lastRead := now s } } } := by
  refine served_done h ?_
  simp only [hf]
  exact if_neg (by simp [hx])

theorem exec_snapshotRelease_own (h : Served s c 0x0A05 e) :
    exec (.snapshotRelease c id) s =
      applied c { s with legend := { s.legend with snaps := AMap.del s.legend.snaps id } } :=
  served_done h (if_pos (by simp [hf, hx]))

end Own

/-- A choice of outcomes and of counters seen holds no counter unseen (R496). -/
theorem choice_visible {chosen seen : List Nat} (h : ∀ v ∈ chosen, v < 3 ∨ v ∈ seen) :
    chosen.any (fun v => decide (3 ≤ v) && !seen.contains v) = false := by
  refine List.any_eq_false.2 fun v hv => ?_
  obtain hlow | hseen := h v hv
  · simp [Nat.not_le.2 hlow]
  · simp [hseen]

/-- On a module with flash a caller chooses outcomes, and performance counters that it may see, for its telemetry (R496). -/
theorem exec_telemetrySelect_visible {chosen : List Nat} (h : Served s c 0x0A06 e) (hflash : s.ident.flash = true)
    (hc : ∀ v ∈ chosen, v < 3 ∨ v ∈ (coreEntries s (servedCall s c e) ++ devEntries s (servedCall s c e)).map (·.id)) :
    exec (.telemetrySelect c chosen) s = applied c { s with events :=
      { s.events with telemetrySelect := AMap.put s.events.telemetrySelect (actor s e) chosen } } :=
  served_done h (unlessBad_of_none
    (firstBad_cons_of_false (by simp [hflash]) (firstBad_cons_of_false (choice_visible hc) rfl)))

theorem exec_domainStatusRead_inRange {express : Bool} {d : Nat} (h : Served s c 0x0C00 e) (hd : d < 2 ^ 20) :
    exec (.domainStatusRead c express d) s = replies c (beBytes 8 (domainStatus (s.dom (domKey express d)))) s :=
  served_done h (if_neg (Nat.not_le.2 hd))

end Served

end Sys2Proof.Machine
end

section
open Sys2Proof Sys2Proof.Machine

/-- Settles O31: each served command where its tests pass, each expiry where it is due. -/
theorem eventCommandsComplete : Obligations.EventCommandsComplete := by
  unfold Obligations.EventCommandsComplete
  refine ⟨fun _ _ _ => exec_holdoffExpiry_powered, fun _ _ _ => exec_snapshotExpiry_due, ?_⟩
  intro s c e me op call
  refine ⟨fun h => ⟨fun hop _ _ hi hv => exec_eventRouteWrite_source h hop hi hv,
      fun hop _ hv => exec_eventRouteWrite_owner h hop hv⟩,
    fun h _ => served_done h rfl,
    fun h => ⟨fun _ _ hv => exec_counterSelectWrite_core h hv,
      fun hop _ _ hi hv => exec_counterSelectWrite_device h hop hi hv⟩,
    fun hn hl => ?_,
    fun _ _ hf hx => ⟨fun h _ => exec_snapshotRead_own hf hx h, exec_snapshotRelease_own hf hx⟩,
    fun h hflash _ hc => exec_telemetrySelect_visible h hflash hc,
    fun h _ _ hd => exec_domainStatusRead_inRange h hd⟩
  have room : SnapRoom s e.session := ⟨hn, hl⟩
  exact ⟨fun h _ _ hs hi hm => exec_snapshot_latches h room hs hi hm,
    fun h _ hp => exec_distReportSnapshot_takes h room hp, fun h _ hp => exec_traceSnapshot_takes h room hp⟩

end

section
/-! What a Pan's clock does (R188, R195–R197, R208): a tick, a period timer in its turn, an entry that starves. -/
namespace Sys2Proof.Machine
variable {s : State} {p : Nat}

/-- A tick boundary that has come, with nothing due left from the one before, takes effect (R195, R197). -/
theorem exec_delayExpiry_due (hok : okPan p = true) (hup : trafficUp s = true) (hd : delayDue (s.pan p) = false)
    (ht : (s.pan p).tickAt + (s.pan p).tickNs ≤ now s) :
    let u := s.setPan p { s.pan p with tick := (s.pan p).tick + 1, tickAt := (s.pan p).tickAt + (s.pan p).tickNs,
                                       tickNs := (s.pan p).sched.toNat % 2 ^ 20 }
    exec (.delayExpiry p) s = acts (releaseDelays (s.pan p).delays.length u p) :=
  (checked_of hok).trans (congrArg Host.Outcome.next (if_neg (by simp [hup, hd, Nat.not_lt.2 ht])))

/-- The period timer at the head of the delay list runs on, and either counts an overrun or sets flag 31 (R196). -/
theorem exec_periodExpiry_due {slot : Nat} {e : DelayEntry} {rest : List DelayEntry} {k : PTask} (hok : okPan p = true)
    (hslot : slot < 1024) (hd : (s.pan p).delays = e :: rest) (hw : e.who = .period slot) (hk : s.task? p slot = some k)
    (ht : e.expiry ≤ (s.pan p).tick) :
    let u := s.setPan p { s.pan p with delays := insertDelay { e with expiry := e.expiry + fld k.desc 352 32 } rest }
    let v := if k.flags.testBit 31 then panCount u p 3 else setFlags (wakePan u p) p slot (2 ^ 31)
    exec (.periodExpiry p slot) s = acts (releaseDelays (v.pan p).delays.length v p) := by
  refine (checked_of (by simp [hok, hslot])).trans (congrArg Host.Outcome.next ?_)
  simp only [hd, hk]
  exact if_neg (by simp [hw, Nat.not_lt.2 ht])

/-- An entry that has waited beyond STARVE_US, and is not marked yet, is marked, counted and raised (R188, R208). -/
theorem exec_starved_due {level pos : Nat} {e : ReadyEntry} (hok : okPan p = true) (hl : level < 16)
    (he : (AMap.at (s.pan p).ready level [])[pos]? = some e) (hn : e.starved = false) (hus : fld (s.pan p).sched 24 16 ≠ 0)
    (ht : e.since + fld (s.pan p).sched 24 16 * 1000 < now s) :
    let marked := (AMap.at (s.pan p).ready level []).set pos { e with starved := true }
    let u := s.setPan p { s.pan p with ready := AMap.put (s.pan p).ready level marked }
    exec (.starved p level pos) s = acts (raiseDev (panCount u p 9) (0x102 + 16 * p) 1 0) := by
  refine (checked_of (by simp [hok, hl])).trans (congrArg Host.Outcome.next ?_)
  simp only [he]
  exact if_neg (by simp [hn, hus, Nat.not_le.2 ht])

end Sys2Proof.Machine
end

section
open Sys2Proof Sys2Proof.Machine

/-- Settles O19: each event where it is due, by its arm. -/
theorem panTimersComplete : Obligations.PanTimersComplete := by
  unfold Obligations.PanTimersComplete
  exact ⟨fun _ _ => exec_delayExpiry_due, fun _ _ _ _ _ _ => exec_periodExpiry_due, fun _ _ _ _ _ => exec_starved_due⟩

end

section
/-! Saving and restoring a coprocessor's context (R210, R212, R228, R229; assumption 58). -/
namespace Sys2Proof.Machine

theorem fld_ofNat (n : Nat) {lo w : Nat} (h : lo + w ≤ 64) : fld (BitVec.ofNat 64 n) lo w = n / 2 ^ lo % 2 ^ w := by
  have hsplit : 2 ^ 64 = 2 ^ lo * (2 ^ w * 2 ^ (64 - lo - w)) := by
    rw [← Nat.pow_add, ← Nat.pow_add]
    congr 1
    omega
  rw [fld, bitsOf, BitVec.toNat_ofNat, Nat.shiftRight_eq_div_pow, hsplit, Nat.mod_mul_right_div_self, Nat.mod_mul_right_mod]

theorem bit_ofNat (n : Nat) {i : Nat} (h : i < 64) : bit (BitVec.ofNat 64 n) i = n.testBit i := by
  simp only [bit, BitVec.getLsbD_ofNat, h, decide_true, Bool.true_and]

/-- A C-format instruction of a unit that its level has enabled passes its checks (R210, R212). -/
theorem cpFault_enabled {x : Thread} {t unit : Nat} (word : Nat) (hu : unit < 3) (hcc : ¬(unit = 2 ∧ onCc t = true))
    (hen : cpEnabled x unit = true) : cpFault x t unit word true = none := by
  have hcp3 : (unit == 3 || (unit == 2 && onCc t)) = false := by simpa [show unit ≠ 3 by omega] using hcc
  simp [cpFault, hcp3, hen]

section ContextOp
variable {s : State} {t cls : Nat} {unit : BitVec 2} {b : BitVec 5} {block : Word → Block} {act : State → Nat → State}

/-- An aligned area within the local store: the unit's commands in flight decide (R228). -/
theorem contextOp_inStore (h : Ready s t true [b]) (hu : unit.toNat < 3) (hcc : ¬(unit.toNat = 2 ∧ onCc t = true))
    (hen : cpEnabled (s.thread t) unit.toNat = true) (ha : ((s.thread t).reg b).toNat % 64 = 0)
    (hl : ((s.thread t).reg b).toNat + saveBytes unit.toNat ≤ localSize t)
    (hb : (ccBuffer s t).any (fun e => e.tid == t) = false) :
    contextOp t unit b cls block s act =
      if ((s.thread t).cp unit.toNat).cmds = [] then
        acts (wake (act (issued s t [b]) ((s.thread t).reg b).toNat) t 0 0)
      else blocks t (block ((s.thread t).reg b)) (issued s t [b]) := by
  unfold contextOp
  dsimp only
  rw [cpFault_enabled _ hu hcc hen]
  refine (issueLegal_answer h _ _ _).trans ?_
  by_cases hc : ((s.thread t).cp unit.toNat).cmds = []
  · simp [ha, hb, Nat.not_lt.2 hl, hc]
  · simp [ha, hb, Nat.not_lt.2 hl, hc]

/-- CP3 does not exist: its instructions fault CP_DISABLED whatever CPEN holds (R210, R212). -/
theorem contextOp_cp3 (h : Ready s t true []) : contextOp t 3 b cls block s act = faults t 3 3 (issued s t []) := by
  unfold contextOp
  exact issueLegal_bad h _ _ _ _ _

end ContextOp

section Restore
variable {s : State} {t unit addr : Nat}

/-- What `CREST` leaves of a save area that it refuses: the unit's context reset, its status BAD_RESTORE (R229). -/
def badRestore (s : State) (t unit : Nat) : State :=
  s.setThread t ((s.thread t).setCp unit (CpCtx.reset.set (restoreNow.status unit) 5))

theorem badRestore_eq (s : State) (t unit : Nat) : badRestore s t unit =
    s.setThread t ((s.thread t).setCp unit (CpCtx.reset.set (if unit = 0 then 10 else if unit = 1 then 0 else 4) 5)) := by
  simp [badRestore, restoreNow.status]

theorem restoreNow_foreignHead
    (h : let head := readMem s (.localStore t addr) 8
      head % 4 ≠ unit ∨ head / 2 ^ 8 % 2 ^ 8 ≠ 1 ∨ head / 2 ^ 16 % 2 ^ 12 ≠ (s.thread t).tenant) :
    restoreNow s t unit addr = badRestore s t unit := by
  unfold restoreNow
  refine if_pos ?_
  simpa [fld_ofNat, or_assoc] using h

theorem restoreNow_foreignKey
    (hk : (readMem s (.localStore t (addr + 104)) 8).testBit 16 = true)
    (hn : keyEntry s (s.thread t).tenant (readMem s (.localStore t (addr + 104)) 8 % 2 ^ 16) = none) :
    restoreNow s t 0 addr = badRestore s t 0 := by
  have hbit := (bit_ofNat (readMem s (.localStore t (addr + 104)) 8) (i := 16) (by decide)).trans hk
  have hfld (n : Nat) : fld (BitVec.ofNat 64 n) 0 16 = n % 2 ^ 16 := by simp [fld_ofNat]
  rw [← hfld] at hn
  unfold restoreNow
  refine ite_eq_left_iff.2 fun _ => (if_pos hbit).trans ?_
  rw [hn]

end Restore
end Sys2Proof.Machine
end

section
open Sys2Proof Sys2Proof.Machine

/-- Settles O48: the head and, for CP0, the key decide whether the area is refused; `CREST` acts once its unit is idle. -/
theorem restoreRefusesForeignSaveArea : Obligations.RestoreRefusesForeignSaveArea := by
  unfold Obligations.RestoreRefusesForeignSaveArea
  refine ⟨fun s t unit addr hu => ?_, fun s t unit b h => ?_⟩
  · intro x head handle h
    refine Eq.trans ?_ (badRestore_eq s t unit)
    rcases h with h | h | h | ⟨rfl, hk, hn⟩
    · exact restoreNow_foreignHead (.inl h)
    · exact restoreNow_foreignHead (.inr (.inl h))
    · exact restoreNow_foreignHead (.inr (.inr h))
    · exact restoreNow_foreignKey hk hn
  · intro x addr hu hcc hen ha hl hb hc
    exact (contextOp_inStore h hu hcc hen ha hl hb).trans (if_pos hc)

end

section
/-! CP3, which does not exist, against the statement that `CSAVE` acts for every enabled unit. -/
namespace Sys2Proof.Machine

/-- A supervisor's thread whose CPEN holds bit 3, which is reserved and which no write of CPEN sets (R135). -/
def cp3Enabled : State :=
  { State.reset with
    power := { Power.reset with phase := .trafficReady }
    threads := [(0, { Thread.idle with task := .supervisor 0, size := 4, csrs := [(8, 8)] })] }

theorem ready_cp3Enabled (srcs : List (BitVec 5)) : Ready cp3Enabled 0 true srcs :=
  ⟨by decide, by decide, by decide, by decide, fun _ => rfl, fun hg => absurd hg (by decide)⟩

theorem csave_cp3Enabled_faults : exec (.csave 0 3 0) cp3Enabled = faults 0 3 3 (issued cp3Enabled 0 []) := by
  change execCsave 0 3 0 cp3Enabled = _
  exact contextOp_cp3 (ready_cp3Enabled _)

/-- The fault holds the thread; the save would have let it go on. -/
theorem faults_ne_saves :
    faults 0 3 3 (issued cp3Enabled 0 []) ≠ acts (wake (saveNow (issued cp3Enabled 0 [0]) 0 3 0) 0 0 0) := by
  intro h
  have hheld := congrArg (fun u => (u.thread 0).held) (Host.Outcome.next.inj h)
  exact absurd hheld (by decide +kernel)

end Sys2Proof.Machine
end

section
open Sys2Proof Sys2Proof.Machine

/-- Refutes O15: its clause for `CSAVE` and `CREST` takes every unit of two bits, so CP3 as well, which faults CP_DISABLED even
where CPEN holds its reserved bit (R210). For CP0–CP2 that clause is `contextOp_inStore`. -/
theorem not_coprocessorInstructionsComplete : ¬ Obligations.CoprocessorInstructionsComplete := by
  unfold Obligations.CoprocessorInstructionsComplete
  rintro ⟨-, -, -, hsave, -⟩
  obtain ⟨hcsave, -⟩ := hsave cp3Enabled 0 3 0 (ready_cp3Enabled _) (by decide) (by decide) (by decide) (by decide) (by decide)
  exact faults_ne_saves (csave_cp3Enabled_faults.symm.trans (hcsave.trans (if_pos rfl)))

end

section
/-! Commands of Stockpile (R326, R331–R339, R345, R408): what a served one does where its tests pass. -/
namespace Sys2Proof.Machine

/-- A command whose opcode no ownerless session may send, and which BOOT does not serve, acts for an owner (R377, R395). -/
theorem Served.owned {s : State} {c : CmdRef} {opcode : Nat} {e : Entry} (h : Served s c opcode e)
    (hr : maskHas (opcodeRoles opcode) 2 = false) (hb : [0x0B00, 0x0B01, 0x0105].contains opcode = false) :
    ownerOf s e = some (actor s e) := by
  obtain ⟨-, rfl, -, -, -, -, -, -, hhead, -⟩ := h
  cases ho : ownerOf s e with
  | some o => simp [actor, ho]
  | none =>
    have hrole : maskHas (opcodeRoles e.opcode) (roleBit (ownerOf s e)) = false := by rw [ho]; exact hr
    have hboot : bootServes s e = false := by simp only [bootServes, hb, Bool.and_false]
    simp only [headCheck, hrole, hboot, Bool.not_false, Bool.and_self, if_true] at hhead
    split_ifs at hhead

/-- Nothing runs for a slot that is ZEROIZING (R349). -/
theorem Served.slot_free {s : State} {c : CmdRef} {opcode : Nat} {e : Entry} (h : Served s c opcode e)
    (ho : ownerOf s e = some (actor s e)) : slotBusy s (actor s e) = false := by
  obtain ⟨-, -, -, -, -, -, -, -, -, hstate, -⟩ := h
  cases hb : slotBusy s (actor s e) with
  | false => rfl
  | true =>
    simp only [stateCheck, ho, hb, if_true] at hstate
    split_ifs at hstate

/-- A served command is in time, so no ladder ends behind it (R333, R401). -/
theorem Served.lateRead_eq {s : State} {c : CmdRef} {opcode : Nat} {e : Entry} (h : Served s c opcode e) (place : Nat)
    (keys : List (List Byte)) : lateRead s c.acc place keys = s := by
  obtain ⟨hf, -, -, -, -, -, -, -, -, -, -, hd, -⟩ := h
  simp [lateRead, hf, hd]

theorem Served.run_lateRead {s : State} {c : CmdRef} {opcode : Nat} {e : Entry} {body : Call → State → State × Ending}
    (h : Served s c opcode e) (place : Nat) (keys : List (List Byte)) :
    (Host.Outcome.next (runCommand (lateRead s c.acc place keys) c opcode body) : Out) =
      .next (runCommand s c opcode body) := by
  rw [h.lateRead_eq]

/-- A module with the flash tier passes the first test of its commands (R347). -/
theorem flashTest_of_present {α : Type} {s : State} {a b : α} (hi : s.ident.flash = true) :
    (if !s.ident.flash then a else b) = b :=
  if_neg (by simp [hi])

/-- The state after a command's reads of records of one place. -/
def nandReads (s : State) (acc place : Nat) (seqs : List Nat) : State :=
  seqs.foldl (fun s q => readNand s acc place (beBytes 4 q)) s

section Served
variable {s : State} {c : CmdRef} {e : Entry}

/-- A served read of records of one place gives its data, or the first run of records whose ladder has failed (R333;
assumption 99). -/
theorem served_readRecords {opcode place : Nat} {seqs : List Nat} {data : List Byte} {out : Out}
    {body : Call → State → State × Ending} (h : Served s c opcode e) (ho : out = .next (runCommand s c opcode body))
    (hb : body (servedCall s c e) s = readRecords s c.acc place seqs data) :
    let lost (q : Nat) : Bool := lostOn s place (beBytes 4 q)
    let u := nandReads s c.acc place seqs
    (seqs.dropWhile (fun q => !lost q) = [] → out = replies c data u) ∧
    (∀ q rest, seqs.dropWhile (fun q => !lost q) = q :: rest → out =
      concludes c (failWith 0x0600 3 q) (beBytes 4 q ++ beBytes 4 (((q :: rest).takeWhile lost).getLast?.getD q)) u) := by
  intro lost u
  refine ⟨fun hl => ho.trans (served_done h (hb.trans ?_)), fun q rest hl => ho.trans (served_done h (hb.trans ?_))⟩
  all_goals
    simp only [lost] at hl
    simp only [readRecords, hl]
    rfl

/-- An STK record with every field in range, and a capture region that leaves rings and cold records their place (R322, R345). -/
structure StkFits (s : State) (v : BitVec 64) : Prop where
  reserved : fld v 6 2 = 0 ∧ fld v 27 37 = 0
  units : fld v 0 6 ≤ 32
  life : 365 ≤ fld v 8 12 ∧ fld v 8 12 ≤ 3652
  rebuild : 5 ≤ fld v 20 7 ∧ fld v 20 7 ≤ 100
  region : fld v 0 6 = captureUnits s ∨ (s.stk.rings = [] ∧ s.stk.cold.length ≤ coldCap (fld v 0 6))

theorem exec_stkWrite_fits {v : BitVec 64} (h : Served s c 0x0800 e) (hi : s.ident.flash = true) (hv : StkFits s v) :
    exec (.stkWrite c v) s = applied c ((accrue s).setStk { (accrue s).stk with cfg := v }) := by
  obtain ⟨⟨h₆, h₂₇⟩, hu, ⟨hl₁, hl₂⟩, ⟨hb₁, hb₂⟩, hr⟩ := hv
  refine served_done h ((flashTest_of_present hi).trans (unlessBad_of_none ?_))
  have hreserved : firstBad (reservedBad v [(6, 2), (27, 37)] 0) = none := firstBad_reservedBad (by simp [h₆, h₂₇])
  rw [firstBad_append, hreserved, Option.none_or, firstBad_none]
  simp only [List.forall_mem_cons, List.not_mem_nil, false_imp_iff, implies_true, and_true]
  refine ⟨by simp [hu], by simp [hl₁, hl₂], by simp [hb₁, hb₂], ?_, ?_⟩
  · rcases hr with hr | ⟨hr, -⟩ <;> simp [hr]
  · rcases hr with hr | ⟨-, hr⟩ <;> simp [hr]

/-- A RING record of its caller with every field in range, and room for its size in quota and region (R334). -/
structure RingFits (s : State) (me ring : Nat) (v : BitVec 64) : Prop where
  index : ring < 256
  owner : fld v 0 12 = me
  slot : me = operatorId ∨ slotUsed s me = true ∧ me < 512
  reserved : fld v 14 2 = 0 ∧ fld v 52 12 = 0
  mode : fld v 12 2 ≠ 3
  size : fld v 16 16 ≤ 32768
  kind : fld v 32 2 ≠ 3 ∧ (fld v 32 2 = 1 → fld v 34 11 ≤ 15) ∧ (fld v 32 2 = 2 → me = operatorId)
  post : 1 ≤ fld v 45 7 ∧ fld v 45 7 ≤ 100
  quota : ringSizes s ring (some me) + fld v 16 16 ≤ ownerQuota s me 52 4
  region : ringSizes s ring none + fld v 16 16 ≤ captureUnits s * 1024

/-- A record that fits is stored: in a fresh ring, or as the change of the caller's own (R334). -/
theorem exec_ringWrite_fits {ring : Nat} {v : BitVec 64} (h : Served s c 0x0802 e) (hi : s.ident.flash = true)
    (hv : RingFits s (actor s e) ring v) (hx : ∀ x, AMap.find s.stk.rings ring = some x → fld x.cfg 0 12 = actor s e) :
    exec (.ringWrite c ring v) s = applied c (s.setRing ring (match AMap.find s.stk.rings ring with
      | none => freshRing v
      | some x => changedRing x v)) := by
  obtain ⟨hring, hown, hslot, ⟨h₁₄, h₅₂⟩, hmode, hsize, ⟨hk₃, hk₁, hk₂⟩, ⟨hp₁, hp₂⟩, hquota, hregion⟩ := hv
  have hold : ((AMap.find s.stk.rings ring).map (fun x => fld x.cfg 0 12 != actor s e)).getD false = false := by
    cases hf : AMap.find s.stk.rings ring with
    | none => rfl
    | some x => simp [hx x hf]
  have hfree : slotBusy s (fld v 0 12) = false := by rw [hown]; exact h.slot_free (h.owned (by decide) (by decide))
  have hreserved : firstBad (namesBusy s (fld v 0 12) :: reservedBad v [(14, 2), (52, 12)] 8) = none :=
    firstBad_cons_of_false hfree (firstBad_reservedBad (by simp [h₁₄, h₅₂]))
  refine served_done h ((flashTest_of_present hi).trans ((if_neg (by simp [hold, hown])).trans (unlessBad_of_none ?_)))
  rw [firstBad_append, hreserved, Option.none_or, firstBad_none]
  simp only [List.forall_mem_cons, List.not_mem_nil, false_imp_iff, implies_true, and_true]
  refine ⟨by simp [hring], ?_, by simp [hmode], by simp [hsize], by simp [hk₃], ?_, ?_, ?_, by simp [hown, hquota],
    by simp [hregion]⟩
  · rcases hslot with hslot | ⟨hused, hlt⟩
    · simp [hown, hslot]
    · simp [hown, hused, hlt]
  · simpa using hk₁
  · simp [hp₂, Nat.ne_of_gt hp₁]
  · simpa [hown] using hk₂

section OwnRing
variable {ring : Nat} {x : Ring} (hi : s.ident.flash = true) (hf : AMap.find s.stk.rings ring = some x)
  (ho : fld x.cfg 0 12 = actor s e)
include hi hf ho

/-- The caller of a ring's command reaches its own ring (R334). -/
theorem withRing_owned (absent : Nat) (go : Ring → State × Ending) : withRing s (servedCall s c e) ring absent go = go x := by
  simp [withRing, servedCall, hi, hf, ho]

theorem exec_ringDelete_owned (h : Served s c 0x0803 e) : exec (.ringDelete c ring) s =
    applied c (s.setStk { s.stk with
      rings := AMap.del s.stk.rings ring, ladders := s.stk.ladders.filter (fun l => l.1 != ringPlace ring) }) :=
  served_done h (withRing_owned hi hf ho _ _)

theorem exec_ringRearm_enabled (h : Served s c 0x0804 e) (hd : x.state ≠ .disabled) : exec (.ringRearm c ring) s =
    applied c (s.setRing ring { x with state := .armed, since := 0, trigNext := false }) :=
  served_done h ((withRing_owned hi hf ho _ _).trans (if_neg (by simpa using hd)))

theorem exec_ringTriggerCommand_owned (h : Served s c 0x0805 e) :
    exec (.ringTriggerCommand c ring) s = applied c (triggerRing s ring) :=
  served_done h (withRing_owned hi hf ho _ _)

end OwnRing

section ReadRing
variable {ring : Nat} {x : Ring} (hi : s.ident.flash = true) (hf : AMap.find s.stk.rings ring = some x)
include hi hf

/-- The owner of a ring reads its head and its records (R333, R336, R337). -/
theorem exec_ringRead_owned (ho : fld x.cfg 0 12 = actor s e) (h : Served s c 0x0806 e) (offset n : Nat) :
    let recs := (x.recs.drop offset).take n
    let seqs := ringSeqs x offset n
    let lost (q : Nat) : Bool := lostOn s (ringPlace ring) (beBytes 4 q)
    let u := nandReads s c.acc (ringPlace ring) seqs
    (seqs.dropWhile (fun q => !lost q) = [] → exec (.ringRead c ring offset n) s =
      replies c ((ringHead s ring x true ++ (recs.map capRecBytes).flatten).take replyMax) u) ∧
    (∀ q rest, seqs.dropWhile (fun q => !lost q) = q :: rest → exec (.ringRead c ring offset n) s =
      concludes c (failWith 0x0600 3 q) (beBytes 4 q ++ beBytes 4 (((q :: rest).takeWhile lost).getLast?.getD q)) u) := by
  refine served_readRecords h (h.run_lateRead _ _) ((flashTest_of_present hi).trans ?_)
  simp [AMap.at, AMap.has, hf, ho, servedCall]

/-- Another's ring shows the operator its head, and a tenant nothing (R337, R408). -/
theorem exec_ringRead_foreign (ho : fld x.cfg 0 12 ≠ actor s e) (h : Served s c 0x0806 e) (offset n : Nat) :
    exec (.ringRead c ring offset n) s =
      if ownerOf s e = some operatorId then replies c ((ringHead s ring x false).take replyMax) s
      else concludes c (plain 0x0201 false) [] s := by
  refine (h.run_lateRead _ _).trans ?_
  have hmine : (fld x.cfg 0 12 == actor s e) = false := by simpa using ho
  split
  case isTrue hop =>
    refine served_done h ((flashTest_of_present hi).trans ?_)
    simp [AMap.at, AMap.has, hf, hmine, hop, readRecords, okRead]
  case isFalse hop =>
    refine served_done h ((flashTest_of_present hi).trans ?_)
    simp [AMap.at, AMap.has, hf, hmine, hop, endsCode, ends]

end ReadRing

/-- A record that no promotion names has none under way. -/
theorem any_promotion_of_none {table : Nat} {key : List Byte} (hp : ∀ p ∈ s.stk.promotions, ¬(p.table = table ∧ p.key = key)) :
    s.stk.promotions.any (fun p => p.table == table && p.key == key && !p.gone) = false :=
  List.any_eq_false.2 fun p hm => by simpa using fun ht hk => absurd ⟨ht, hk⟩ (hp p hm)

section OwnTable
variable {table : Nat} {t : Table} {key : List Byte} (hi : s.ident.flash = true) (hf : AMap.find s.gaz.tables table = some t)
  (ho : t.owner = actor s e) (hk : t.kind = 3)
include hi hf ho hk

/-- The caller of a cold-record command reaches its own FLOW table on a module with flash (R326, R408). -/
theorem flowTable_owned (go : Table → State × Ending) :
    (if !s.ident.flash then endsCode s 0x0406 else withTable s (servedCall s c e) table [3] go) = go t :=
  (flashTest_of_present hi).trans (withTable_owned go hf ho (by simp [hk]))

/-- A cold record is read where it stands, unless its ladder has failed (R326, R333; assumption 99). -/
theorem exec_coldRead_present {r : ColdRec} (hr : coldFind s table key = some r) (h : Served s c 0x0807 e)
    (hs : stkState s ≠ .failed) :
    exec (.coldRead c table key) s =
      if ladderStep s table key < 10 then replies c (coldBytes r) (readNand s c.acc table key)
      else concludes c (plain 0x0600 false) [] (readNand s c.acc table key) := by
  refine (h.run_lateRead _ _).trans ?_
  split
  case isTrue hl =>
    refine served_done h ((flowTable_owned hi hf ho hk _).trans ?_)
    simp [hr, hs, lostOn, hl, okRead]
  case isFalse hl =>
    refine served_done h ((flowTable_owned hi hf ho hk _).trans ?_)
    simp [hr, hs, lostOn, Nat.le_of_not_lt hl, ends]

section ColdDelete
variable (h : Served s c 0x0808 e)
include h

/-- With no promotion of it under way a cold record goes at once (R326). -/
theorem exec_coldDelete_present {r : ColdRec} (hr : coldFind s table key = some r)
    (hp : ∀ p ∈ s.stk.promotions, ¬(p.table = table ∧ p.key = key)) :
    exec (.coldDelete c table key) s = applied c (leftCold s table key) := by
  refine served_done h ((flowTable_owned hi hf ho hk _).trans ((if_neg (by simp [any_promotion_of_none hp])).trans ?_))
  simp only [hr]
  rfl

theorem exec_coldDelete_absent (hr : coldFind s table key = none)
    (hp : ∀ p ∈ s.stk.promotions, ¬(p.table = table ∧ p.key = key)) :
    exec (.coldDelete c table key) s = concludes c (plain 3 false) [] s := by
  refine served_done h ((flowTable_owned hi hf ho hk _).trans ((if_neg (by simp [any_promotion_of_none hp])).trans ?_))
  simp only [hr]
  rfl

/-- The delete of a record in promotion waits with that promotion (R326). -/
theorem exec_coldDelete_promoting
    (hp : s.stk.promotions.any (fun p => p.table == table && p.key == key && !p.gone) = true) :
    exec (.coldDelete c table key) s = goesOn c (s.setStk { s.stk with promotions := s.stk.promotions.map (fun p =>
      if p.table == table && p.key == key && !p.gone then { p with deletes := p.deletes ++ [c.acc] } else p) }) :=
  served_goesOn h ((flowTable_owned hi hf ho hk _).trans (if_pos hp))

end ColdDelete

/-- A rebuild that the quota allows starts, and its command waits for the switch (R331). -/
theorem exec_filterRebuild_starts (h : Served s c 0x0809 e) (hn : t.filterNew = none) (hc : coldEn t = true)
    (hl : filterLog t ≠ 0) :
    let u := startRebuild s table
    let t' := u.table table
    t'.filterNew ≠ none →
    exec (.filterRebuild c table) s = goesOn c (u.setTable table { t' with rebuildAccs := t'.rebuildAccs ++ [c.acc] }) := by
  intro u t' hs
  refine served_goesOn h ((flowTable_owned hi hf ho hk _).trans ?_)
  refine (if_neg (by simp [hn])).trans ((if_neg (by simp [hc, hl])).trans ?_)
  exact if_pos (Option.isSome_iff_ne_none.2 hs)

end OwnTable

/-- A caller reads records of its own part of the telemetry (R333, R338). -/
theorem exec_telemetryRead_own (hi : s.ident.flash = true) (h : Served s c 0x080A e) (offset n : Nat) :
    let me := actor s e
    let recs := ((AMap.at s.stk.telemetry me ⟨[], 0⟩).recs.drop offset).take (min n 1023)
    let seqs := recs.map (fun r => r.seq)
    let lost (q : Nat) : Bool := lostOn s (telePlace me) (beBytes 4 q)
    let u := nandReads s c.acc (telePlace me) seqs
    (seqs.dropWhile (fun q => !lost q) = [] → exec (.telemetryRead c offset n) s = replies c (recs.map teleBytes).flatten u) ∧
    (∀ q rest, seqs.dropWhile (fun q => !lost q) = q :: rest → exec (.telemetryRead c offset n) s =
      concludes c (failWith 0x0600 3 q) (beBytes 4 q ++ beBytes 4 (((q :: rest).takeWhile lost).getLast?.getD q)) u) := by
  have hflight : AMap.find s.legend.flight c.acc = some e := h.1
  refine served_readRecords h (congrArg (fun u => Host.Outcome.next (runCommand u c 0x080A _)) ?_) (flashTest_of_present hi)
  simp only [hflight, h.lateRead_eq]

end Served

end Sys2Proof.Machine
end

section
open Sys2Proof Sys2Proof.Machine

/-- Settles O30: each served command on a module with flash, by whose ring or table it names and where its tests pass. -/
theorem flashCommandsComplete : Obligations.FlashCommandsComplete := by
  unfold Obligations.FlashCommandsComplete
  intro s c e hi me
  refine ⟨fun h v h₆ h₂₇ hu hl₁ hl₂ hb₁ hb₂ hr => exec_stkWrite_fits h hi ⟨⟨h₆, h₂₇⟩, hu, ⟨hl₁, hl₂⟩, ⟨hb₁, hb₂⟩, hr⟩,
    fun h => served_done h rfl,
    fun h ring v hring hown hslot hx h₁₄ h₅₂ hmode hsize hk₃ hk₁ hp₁ hp₂ hk₂ hquota hregion => ?_,
    fun ring x hf ho => ⟨exec_ringDelete_owned hi hf ho, exec_ringRearm_enabled hi hf ho,
      exec_ringTriggerCommand_owned hi hf ho, exec_ringRead_owned hi hf ho⟩,
    fun ring x hf ho => exec_ringRead_foreign hi hf ho,
    fun table t key hf ho hk => ⟨fun r hr => ⟨exec_coldRead_present hi hf ho hk hr,
        fun h => exec_coldDelete_present hi hf ho hk h hr⟩,
      exec_coldDelete_absent hi hf ho hk, exec_coldDelete_promoting hi hf ho hk, exec_filterRebuild_starts hi hf ho hk⟩,
    exec_telemetryRead_own hi⟩
  have hv : RingFits s me ring v :=
    ⟨hring, hown, hslot, ⟨h₁₄, h₅₂⟩, hmode, hsize, ⟨hk₃, hk₁, hk₂⟩, ⟨hp₁, hp₂⟩, hquota, hregion⟩
  exact exec_ringWrite_fits h hi hv hx

end

section
/-! Commands of Cote and of the DRAM (R277–R302, R306, R308, R320, R321): what a served one does where its tests pass. -/
namespace Sys2Proof.Machine

/-- A served command that its body ends with its effect, and what follows from that. -/
theorem served_appliedThen {s u : State} {c : CmdRef} {opcode : Nat} {e : Entry} {body : Call → State → State × Ending}
    (h : Served s c opcode e) (hb : body (servedCall s c e) s = okDone u) :
    Host.Outcome.next (finish (runCommand s c opcode body)) = appliedThen c u :=
  congrArg (fun v => Host.Outcome.next (finish v)) (served_ends h hb)

section Served
variable {s : State} {c : CmdRef} {e : Entry}

/-- A COTE record with every field in range, whose far buffer no pool holds down and the DRAM has room for (R293, R296). -/
structure CoteFits (s : State) (v : BitVec 64) : Prop where
  reserved : fld v 6 2 = 0 ∧ fld v 24 40 = 0
  far : fld v 0 6 ≤ 32
  limit : 0 < fld v 8 16
  pools : fld v 0 6 = farGib s ∨ farPool s = none
  room : fld v 0 6 ≤ farGib s ∨ (retirePending s = false ∧ dramGranted s (fld v 0 6) none ≤ capacityOfSlots (slotsHeld s))

/-- A record that fits is in force: far storage that it gives up is cleared, and a retirement that waited for room begins
(R276, R296, R315). -/
theorem exec_coteWrite_fits {v : BitVec 64} (h : Served s c 0x0600 e) (hv : CoteFits s v) :
    let u := zeroFill s deviceId ((farGib s - fld v 0 6) * 2 ^ 30)
    exec (.coteWrite c v) s = applied c (nextMove { u with cote := { u.cote with cfg := v } }) := by
  obtain ⟨⟨h₆, h₂₄⟩, hfar, hlimit, hpools, hroom⟩ := hv
  have hpool : (if fld v 0 6 == farGib s then none else farPool s) = none := by
    rcases hpools with hp | hp <;> simp [hp]
  refine served_done h ?_
  dsimp only
  refine unlessBad_of_none ?_
  rw [firstBad_append, firstBad_reservedBad (by simp [h₆, h₂₄]), Option.none_or, firstBad_none]
  simp only [List.forall_mem_cons, List.not_mem_nil, false_imp_iff, implies_true, and_true]
  refine ⟨by simp [hfar], by simp [Nat.ne_of_gt hlimit], by rw [hpool]; rfl, ?_, ?_⟩
  · rcases hroom with hle | ⟨hretire, -⟩
    · simp [Nat.not_lt.2 hle]
    · simp [hretire]
  · rcases hroom with hle | ⟨-, hgrant⟩
    · simp [Nat.not_lt.2 hle]
    · simp [Nat.not_lt.2 hgrant]

/-- A POOL record that violates no test rebuilds its pool, unless it is the one in force (R277, R278, R281). -/
theorem exec_poolWrite_passes {p : Nat} {v : BitVec 64} (h : Served s c 0x0601 e) (hp : p < 64)
    (hv : firstBad (poolBad s p v) = none) :
    exec (.poolWrite c p v) s = appliedThen c (if v = (s.cote.pool p).cfg then s
      else { s with cote := buildPool s.cote p v }) := by
  refine served_appliedThen h ((if_neg (Nat.not_le.2 hp)).trans ((unlessBad_of_none hv).trans ?_))
  simp only [beq_iff_eq]

theorem unit_inRange {α : Type} {a b l p : Nat} {x y : α} (hl : l < a) (hp : p < b) :
    (if l ≥ a || p ≥ b then x else y) = y :=
  if_neg (by simp [hl, hp])

/-- An IG_BUF record that violates no test is its group's from the next cell on (R280, R281). -/
theorem exec_igBufWrite_passes {l p : Nat} {v : BitVec 64} (h : Served s c 0x0602 e) (hl : l < 64) (hp : p < 8)
    (hv : firstBad (igBad s (8 * l + p) v) = none) :
    exec (.igBufWrite c l p v) s = appliedThen c (syncXoff (setGroup s (8 * l + p) v) (8 * l + p)) :=
  served_appliedThen h ((unit_inRange hl hp).trans (unlessBad_of_none hv))

/-- An EQ_BUF record with a limit is stored; queue 0 stays in the near buffer (R287). -/
theorem exec_eqBufWrite_passes {l q : Nat} {v : BitVec 64} (h : Served s c 0x0603 e) (hl : l < 64) (hq : q < 8)
    (h₆ : fld v 6 2 = 0) (h₃₆ : fld v 36 28 = 0) (hlim : fld v 8 24 ≠ 0)
    (hnear : q ≠ 0 ∨ poolFar (s.cote.pool (fld v 0 6)) = false) :
    exec (.eqBufWrite c l q v) s = appliedThen c (s.setQueue l q { s.queue l q with buf := v }) := by
  refine served_appliedThen h ((unit_inRange hl hq).trans (unlessBad_of_none ?_))
  rw [firstBad_append, firstBad_reservedBad (by simp [h₆, h₃₆]), Option.none_or]
  refine firstBad_cons_of_false (by simp [hlim]) (firstBad_cons_of_false ?_ rfl)
  rcases hnear with hne | hnear
  · simp [hne]
  · simp [hnear]

/-- The operator reads the occupancy and the drops of any unit there is (R293; assumption 26). -/
theorem exec_bufferRead_operator (h : Served s c 0x0604 e) (ho : ownerOf s e = some operatorId) {kind index : Nat}
    (hk : kind ≤ 3) (hi : index < (if kind = 0 then 1 else if kind = 1 then 64 else 512)) :
    exec (.bufferRead c kind index) s = replies c (bufferData s kind index) s := by
  refine served_done h ((if_neg (by simp [ho])).trans ((if_neg (Nat.not_lt.2 hk)).trans (if_neg ?_)))
  simpa only [beq_iff_eq, ge_iff_le, not_le] using hi

/-- Everyone else reads the drops charged to them (R293). -/
theorem exec_bufferRead_tenant (h : Served s c 0x0604 e) (ho : ownerOf s e ≠ some operatorId) (kind index : Nat) :
    exec (.bufferRead c kind index) s = replies c (ownerDrops s (actor s e)) s :=
  served_done h (if_pos (by simp [ho]))

/-- A DRAM record whose idle time and scrub period are in range is stored (R320). -/
theorem exec_dramWrite_passes {v : BitVec 64} (h : Served s c 0x0700 e) (h₁₄ : fld v 14 2 = 0) (h₂₄ : fld v 24 40 = 0)
    (hidle : fld v 0 14 = 0 ∨ (5 ≤ fld v 0 14 ∧ fld v 0 14 ≤ 10000)) (hlo : 1 ≤ fld v 16 8) (hhi : fld v 16 8 ≤ 168) :
    exec (.dramWrite c v) s = applied c (s.setDram { s.dram with cfg := v }) := by
  refine served_done h (unlessBad_of_none ?_)
  rw [firstBad_append, firstBad_reservedBad (by simp [h₁₄, h₂₄]), Option.none_or]
  refine firstBad_cons_of_false ?_ (firstBad_cons_of_false (by simp [hhi, Nat.ne_of_gt hlo]) rfl)
  rcases hidle with hoff | ⟨hmin, hmax⟩
  · simp [hoff]
  · simp [Nat.not_lt.2 hmin, Nat.not_lt.2 hmax]

/-- A DRAM_PORT record of a port there is, with every field in range (R302). -/
structure DramPortFits (p : Nat) (v : BitVec 64) : Prop where
  index : p < 24
  reserved : fld v 3 1 = 0 ∧ fld v 17 3 = 0 ∧ fld v 43 21 = 0
  gbw : portGbw v ≤ 7200
  target : 500 ≤ portTarget v ∧ portTarget v ≤ 1000000

/-- A record that fits waits for its port's readmission, where that is demoted; else it is in force, once admitted if it changes
the guarantee. Demoted classes are tried again (R302, R306, R308). -/
theorem exec_dramPortWrite_fits {p : Nat} {v : BitVec 64} (h : Served s c 0x0701 e) (hv : DramPortFits p v) :
    let old := dramPort s p
    let new := setFld v 42 1 (b2n (portDemoted old))
    (portDemoted old = true ∨ (portGbw old = portGbw new ∧ portTarget old = portTarget new) ∨
      admission (peakNow s) (portsWith s p new) = none) →
    exec (.dramPortWrite c p v) s = applied c (readmitClasses (if portDemoted old then
      s.setDram { s.dram with awaiting := AMap.put s.dram.awaiting p new } else setDramPort s p new)) := by
  intro old new hadmit
  obtain ⟨hp, ⟨h₃, h₁₇, h₄₃⟩, hgbw, ⟨hlo, hhi⟩⟩ := hv
  have htest : (if portDemoted old || !(portGbw old != portGbw new || portTarget old != portTarget new) then none
      else admission (peakNow s) (portsWith s p new)) = none := by
    rcases hadmit with hdem | ⟨hsame₁, hsame₂⟩ | hadm
    · simp [hdem]
    · simp [hsame₁, hsame₂]
    · rw [hadm, ite_self]
  have hfields : firstBad (reservedBad v [(3, 1), (17, 3), (43, 21)] 8 ++
      [(decide (portGbw v > 7200), badField 0x0300 8 4),
       (decide (portTarget v < 500) || decide (portTarget v > 1000000), badField 0x0300 8 20)]) = none := by
    rw [firstBad_append, firstBad_reservedBad (by simp [h₃, h₁₇, h₄₃]), Option.none_or]
    exact firstBad_cons_of_false (by simp [hgbw]) (firstBad_cons_of_false (by simp [hlo, hhi]) rfl)
  refine served_done h ((if_neg (Nat.not_le.2 hp)).trans ((unlessBad_of_none hfields).trans ?_))
  rw [htest]
  rfl

/-- Each kind of DRAM_READ gives what is in force of a unit there is (R296, R302, R321; assumption 26). -/
theorem exec_dramRead_inRange (h : Served s c 0x0702 e) :
    exec (.dramRead c 0 0) s = replies c (beBytes 8 s.dram.cfg.toNat) s ∧
    (∀ i < 18, exec (.dramRead c 1 i) s = replies c (beBytes 8 (rankStatus s i)) s) ∧
    (∀ i < 24, exec (.dramRead c 2 i) s = replies c (beBytes 8 (dramPort s i).toNat ++
      ((List.range 6).map (fun k => beBytes 8 (counted s (portCountId i k)))).flatten) s) ∧
    (∀ i < 4096, exec (.dramRead c 3 i) s =
      replies c (beBytes 8 (allocOf s i) ++ beBytes 8 (sumTables tableDram (tablesOf s i))) s) :=
  ⟨served_done h rfl, fun _ hi => served_done h (if_neg (Nat.not_le.2 hi)), fun _ hi => served_done h (if_neg (Nat.not_le.2 hi)),
    fun _ hi => served_done h (if_neg (Nat.not_le.2 hi))⟩

end Served

end Sys2Proof.Machine
end

section
open Sys2Proof Sys2Proof.Machine

/-- Settles O28: each served command with a record that its tests let pass, or a unit that it may read. The layouts of the
replies are the model's (assumption 26), as is that the RO bits of a written port record are ignored (assumption 100). -/
theorem bufferAndDramCommandsComplete : Obligations.BufferAndDramCommandsComplete := by
  unfold Obligations.BufferAndDramCommandsComplete
  intro s c e
  refine ⟨fun h v h₆ h₂₄ hfar hlimit hpools hroom => exec_coteWrite_fits h ⟨⟨h₆, h₂₄⟩, hfar, hlimit, hpools, hroom⟩,
    fun h _ _ hp hv => exec_poolWrite_passes h hp hv,
    fun h _ _ _ hl hp hv => exec_igBufWrite_passes h hl hp hv,
    fun h _ _ _ hl hq h₆ h₃₆ hlim hnear => exec_eqBufWrite_passes h hl hq h₆ h₃₆ hlim hnear,
    fun h => ⟨fun ho _ _ hk hi => exec_bufferRead_operator h ho hk hi, exec_bufferRead_tenant h⟩,
    fun h _ h₁₄ h₂₄ hidle hlo hhi => exec_dramWrite_passes h h₁₄ h₂₄ hidle hlo hhi,
    fun h p v hp h₃ h₁₇ h₄₃ hgbw hlo hhi => exec_dramPortWrite_fits h ⟨hp, ⟨h₃, h₁₇, h₄₃⟩, hgbw, ⟨hlo, hhi⟩⟩,
    exec_dramRead_inRange⟩

end

section
/-! The sequence window of a session (R393): which sequences are fresh, and what an accepted one leaves fresh. -/
namespace Sys2Proof.Machine

theorem seqFresh_iff (x : Session) (q : Nat) :
    seqFresh x q = true ↔ q ≠ 0 ∧ (x.high < q ∨ (x.high < q + 64 ∧ Nat.testBit x.window (x.high - q) = false)) := by
  have hsub : x.high - q < 64 ↔ x.high < q + 64 := by omega
  simp [seqFresh, maskHas, hsub]

theorem seqStale_iff (x : Session) (q : Nat) : seqStale x q = true ↔ q = 0 ∨ q + 64 ≤ x.high := by
  simp [seqStale]

theorem acceptSeq_high (x : Session) (q : Nat) (via : Via) (t : Ns) : (acceptSeq x q via t).high = max x.high q := by
  unfold acceptSeq
  dsimp only
  split
  case isTrue h => exact (Nat.max_eq_right (Nat.le_of_lt h)).symm
  case isFalse h => exact (Nat.max_eq_left (Nat.not_lt.1 h)).symm

/-- A sequence above H shifts the window up to it and marks its own bit. -/
theorem acceptSeq_window_above {x : Session} {q i : Nat} (h : x.high < q) (hi : i < 64) (via : Via) (t : Ns) :
    Nat.testBit (acceptSeq x q via t).window i = true ↔
      i = 0 ∨ (q - x.high ≤ i ∧ Nat.testBit x.window (i - (q - x.high)) = true) := by
  have hw : (acceptSeq x q via t).window = (x.window <<< (q - x.high)) % 2 ^ 64 ||| 1 := by
    unfold acceptSeq
    exact congrArg Session.window (if_pos h)
  rw [hw, Nat.testBit_or, Nat.testBit_mod_two_pow, Nat.testBit_shiftLeft, ← Nat.pow_zero 2, Nat.testBit_two_pow]
  simp [hi, or_comm, eq_comm (a := i)]

/-- A sequence in the window marks its bit. -/
theorem acceptSeq_window_within {x : Session} {q : Nat} (h : q ≤ x.high) (i : Nat) (via : Via) (t : Ns) :
    Nat.testBit (acceptSeq x q via t).window i = true ↔ i = x.high - q ∨ Nat.testBit x.window i = true := by
  have hw : (acceptSeq x q via t).window = maskSet x.window (x.high - q) := by
    unfold acceptSeq
    exact congrArg Session.window (if_neg (Nat.not_lt.2 h))
  rw [hw, maskSet, Nat.testBit_or, Nat.one_shiftLeft, Nat.testBit_two_pow]
  simp [or_comm, eq_comm (a := i)]

/-- Above H an accepted sequence leaves fresh what was fresh, is not it and lies in its window. -/
theorem seqFresh_acceptSeq_above {x : Session} {q : Nat} (h : x.high < q) (via : Via) (t : Ns) (r : Nat) :
    seqFresh (acceptSeq x q via t) r = true ↔ seqFresh x r = true ∧ r ≠ q ∧ q < r + 64 := by
  have hh : (acceptSeq x q via t).high = q := (acceptSeq_high x q via t).trans (Nat.max_eq_right (Nat.le_of_lt h))
  rw [seqFresh_iff, seqFresh_iff, hh]
  by_cases hr : q < r + 64 ∧ r ≤ q
  case neg => omega
  case pos =>
    have hb := acceptSeq_window_above h (show q - r < 64 by omega) via t
    have hi : q - r - (q - x.high) = x.high - r := by omega
    rw [hi] at hb
    rw [← Bool.not_eq_true, ← Bool.not_eq_true, hb]
    cases Nat.testBit x.window (x.high - r) <;> simp <;> omega

/-- In the window an accepted sequence leaves fresh what was fresh and is not it. -/
theorem seqFresh_acceptSeq_within {x : Session} {q : Nat} (h : q ≤ x.high) (via : Via) (t : Ns) (r : Nat) :
    seqFresh (acceptSeq x q via t) r = true ↔ seqFresh x r = true ∧ r ≠ q ∧ x.high < r + 64 := by
  have hh : (acceptSeq x q via t).high = x.high := (acceptSeq_high x q via t).trans (Nat.max_eq_left h)
  have hb := acceptSeq_window_within h (x.high - r) via t
  rw [seqFresh_iff, seqFresh_iff, hh, ← Bool.not_eq_true, ← Bool.not_eq_true, hb]
  cases Nat.testBit x.window (x.high - r) <;> simp <;> omega

end Sys2Proof.Machine
end

section
open Sys2Proof Sys2Proof.Machine

/-- Settles O54: the window by its bits, of a sequence above H and of one in the window. -/
theorem sequenceIsAcceptedOnce : Obligations.SequenceIsAcceptedOnce := by
  unfold Obligations.SequenceIsAcceptedOnce
  refine fun x q => ⟨fun hq => ?_, fun hs => ?_, fun _ via t => ?_⟩
  · rw [seqFresh_iff]
    refine (and_iff_right hq).trans (or_congr_right' fun hlow => and_congr_right fun _ => ?_)
    simp [Nat.not_lt.1 hlow]
  · rw [seqStale_iff] at hs
    rw [← Bool.not_eq_true, seqFresh_iff]
    omega
  · refine ⟨acceptSeq_high x q via t, fun r => ?_⟩
    rw [acceptSeq_high]
    obtain h | h := Nat.lt_or_ge x.high q
    · rw [Nat.max_eq_right (Nat.le_of_lt h)]
      exact seqFresh_acceptSeq_above h via t r
    · rw [Nat.max_eq_left h]
      exact seqFresh_acceptSeq_within h via t r

end

section
/-! What every command answers: a next state where the units it names exist, the fault of a missing unit elsewhere. -/
namespace Sys2Proof.Machine

/-- An answer that is a next state where the units exist, and `noSuchUnit` where one does not. -/
def RunsWhere (ok : Bool) (o : Out) : Prop := ∃ u, o = checked ok u

/-- An instruction whose word or coprocessor may be refused issues all the same: it faults its thread, not the machine (R137, R210). -/
theorem runsWhere_issueLegal (t : Nat) (slotOk : Bool) (word : Nat) (srcs : List (BitVec 5)) (cost : Nat) (s : State)
    (bad : Option (Nat × Word)) (body : State → Thread → Eff) :
    RunsWhere (okTid t) (issueLegal t slotOk word srcs cost s bad body) := by
  cases bad with
  | none => exact ⟨_, rfl⟩
  | some f => exact ⟨_, rfl⟩

/-- A row of host ports whose register index is tested before its function. -/
theorem runsWhere_indexed {ok : Bool} {index limit : Nat} {u : State} :
    RunsWhere (ok && decide (index < limit)) (if !(index < limit) then .fault .noSuchUnit else checked ok u) := by
  by_cases h : index < limit
  · exact ⟨u, by simp [h]⟩
  · exact ⟨u, by simp [h]⟩

theorem okStack_channel (channel : Nat) : okStack (channel / 32) = decide (channel < 192) := by
  simp only [okStack]
  exact decide_eq_decide.2 (by omega)

theorem runsWhere_exec (i : Instr) (s : State) : RunsWhere i.wellFormed (exec i s) := by
  cases i
  case lka | lkt | csrr | csrw | csrs | csrc | mtc | mfc | csave | crest | keyload | cp0Seal | cp0Open | xtsEnc | xtsDec | keyclr
      | shaInit | shaUpdate | shaFinal | cp1Crc | toeplitz | count | police | countFetch | meter | cp2Read =>
    exact runsWhere_issueLegal ..
  case calibration channel => exact ⟨_, congrArg (checked · _) (okStack_channel channel)⟩
  case ringControlWrite | funcStatsRead => exact runsWhere_indexed
  all_goals exact ⟨_, rfl⟩

end Sys2Proof.Machine
end

section
open Sys2Proof Sys2Proof.Machine

/-- Settles O60: each command answers as its arm does, a next state under the test of the units that it names. -/
theorem wellFormedCommandsRun : Obligations.WellFormedCommandsRun := by
  unfold Obligations.WellFormedCommandsRun
  intro i s
  obtain ⟨u, hu⟩ := runsWhere_exec i s
  exact ⟨fun h => ⟨u, by rw [hu, h]; rfl⟩, fun h => by rw [hu, h]; rfl⟩

end

section
/-! A step of the idle machine (R485, R498; assumption 7). -/
namespace Sys2Proof.Machine

theorem clockStep_eq (s : State) : clockStep s = if s.power.refclk = true ∧ s.power.timeLocked = true then 1 else 250 := by
  simp [clockStep]

theorem step_of_empty {s : State} (h : s.pending = []) : step s = .next (idle s) := by
  rw [step, h]

end Sys2Proof.Machine
end

section
open Sys2Proof Sys2Proof.Machine

/-- Settles O1: the queue's front, else the idle machine as `idle_cases` has it. -/
theorem stepRunsFrontCommand : Obligations.StepRunsFrontCommand := by
  unfold Obligations.StepRunsFrontCommand
  refine ⟨fun s c rest h => by rw [step, h], fun s h hp => ?_, fun s h hp => ?_⟩
  all_goals rw [step_of_empty h]
  · obtain ⟨hoff, -⟩ | ⟨-, hidle⟩ := idle_cases s
    · exact absurd hoff hp
    · rw [hidle, countOccupied, meridianCycles, clockStep_eq]
      rfl
  · obtain ⟨-, hidle⟩ | ⟨hon, -⟩ := idle_cases s
    · rw [hidle]
    · exact absurd hp hon

end

section
/-! What a reply leaves as it is (R385, R394, R402, R410): identity, power, trust, containment, classifier, threads, tables, digests
and the queue, through the packets that go out, the events that are handled and the NAND that is read. -/
namespace Sys2Proof.Machine

/-- What neither a reply nor the handling of events changes. -/
def State.config (s : State) : Ident × Power × Trust × Contain × Sluice × AMap Thread × Gaz × List (Nat × Nat × List Byte) × List Instr :=
  (s.ident, s.power, s.trust, s.contain, s.sluice, s.threads, s.gaz, s.digests, s.pending)

@[simp] theorem State.config_mk (u : State) (a b c d e f g h i j k) :
    State.config ⟨u.ident, u.power, u.trust, a, b, u.contain, c, u.sluice, d, e, f, u.threads, u.gaz, g, h, i, j, u.digests, k,
      u.pending⟩ = u.config := rfl

@[simp] theorem State.config_ite (c : Prop) [Decidable c] (a b : State) :
    (if c then a else b).config = if c then a.config else b.config := apply_ite _ _ _ _

@[simp] theorem config_foldl {α : Type} {f : State → α → State}
    (h : ∀ u x, (f u x).config = u.config) (l : List α) (s : State) : (l.foldl f s).config = s.config := by
  induction l generalizing s with
  | nil => rfl
  | cons x l ih => rw [List.foldl_cons, ih, h]

@[simp] theorem config_count (s id n) : (count s id n).config = s.config := by simp [count]

@[simp] theorem config_raise (s a b c d) : (raise s a b c d).config = s.config := by simp [raise]

@[simp] theorem config_raiseDev (s a b c) : (raiseDev s a b c).config = s.config := by simp [raiseDev]

theorem PortsCounted.config {s v : State} (h : PortsCounted s v) : v.config = s.config := by
  obtain ⟨e, b, k, rfl⟩ := h; rfl

@[simp] theorem config_devCount (s a b c d n) : (devCount s a b c d n).config = s.config :=
  (devCount_portsCounted s a b c d n).config

@[simp] theorem config_requestTo (s port owner off bytes) : (requestTo s port owner off bytes).config = s.config :=
  (requestTo_portsCounted s port owner off bytes).config

@[simp] theorem config_clientRequest (s port owner bytes) : (clientRequest s port owner bytes).config = s.config :=
  (clientRequest_portsCounted s port owner bytes).config

@[simp] theorem config_setDram (s d) : (State.setDram s d).config = s.config := rfl

@[simp] theorem config_poisonDrop (s owner off) : (poisonDrop s owner off).config = s.config := by simp [poisonDrop]

@[simp] theorem config_setLport (s l p) : (State.setLport s l p).config = s.config := rfl

@[simp] theorem config_setQueue (s l q e) : (State.setQueue s l q e).config = s.config := rfl

@[simp] theorem config_setPan (s p x) : (State.setPan s p x).config = s.config := rfl

@[simp] theorem config_setFunc (s f x) : (State.setFunc s f x).config = s.config := rfl

@[simp] theorem config_setUsb (s i x) : (State.setUsb s i x).config = s.config := rfl

@[simp] theorem config_setSvyQueue (s c q) : (State.setSvyQueue s c q).config = s.config := rfl

@[simp] theorem config_setSession (s id x) : (State.setSession s id x).config = s.config := rfl

@[simp] theorem config_syncXoff (s gi) : (syncXoff s gi).config = s.config := by simp [syncXoff]

@[simp] theorem config_writeBack (s pi) : (writeBack s pi).config = s.config := by simp [writeBack]

@[simp] theorem config_syncPool (s pi) : (syncPool s pi).config = s.config := by simp [syncPool]

@[simp] theorem config_releaseCell (s h) : (releaseCell s h).config = s.config := by
  unfold releaseCell; split <;> simp

@[simp] theorem config_releaseCells (s hs) : (releaseCells s hs).config = s.config := by simp [releaseCells]

@[simp] theorem config_dropFrame (reason s f) : (dropFrame reason s f).config = s.config := by
  simp [dropFrame, egressRecord, writeCompletion]

@[simp] theorem config_writeFar (s h n) : (writeFar s h n).config = s.config := by simp [writeFar]

@[simp] theorem config_newCell (s pool tenant data) : (newCell s pool tenant data).1.config = s.config := by
  simp [newCell]

@[simp] theorem config_newCells (s pool tenant a) : (newCells s pool tenant a).1.config = s.config := by
  induction a generalizing s with
  | nil => rfl
  | cons x l ih => simp [newCells, ih]

@[simp] theorem config_enqueueFrame (s l q f) : (enqueueFrame s l q f).config = s.config := by simp [enqueueFrame]

/-- A frame of Legend's own that does not fit is counted alone (R389). -/
@[simp] theorem config_sendLegendFrame (s l q bytes) : (sendLegendFrame s l q bytes).config = s.config := by
  unfold sendLegendFrame; dsimp only; split
  · simp [countQueueDrop]
  · simp

@[simp] theorem config_release (s via p) : (release s via p).config = s.config := by unfold release; split <;> simp

@[simp] theorem config_notify (s id x opcode cookie payload) :
    (notify s id x opcode cookie payload).config = s.config := by simp [notify]

@[simp] theorem config_signalMsix (s fn v) : (signalMsix s fn v).config = s.config := by simp [signalMsix]

@[simp] theorem config_telemetryWrite (s owner kind source payload) :
    (telemetryWrite s owner kind source payload).config = s.config := by simp [telemetryWrite]

@[simp] theorem config_notifyOwner (s owner r) : (notifyOwner s owner r).config = s.config := by
  simp (disch := (intros; (repeat' split) <;> simp)) [notifyOwner]

@[simp] theorem config_postSupervisor (s pan owner r) : (postSupervisor s pan owner r).config = s.config := by
  simp [postSupervisor]

@[simp] theorem config_operatorTargets (s r) : (operatorTargets s r).config = s.config := by simp [operatorTargets]

@[simp] theorem config_tenantTargets (s r) : (tenantTargets s r).config = s.config := by
  simp only [tenantTargets]; repeat' split
  all_goals simp

@[simp] theorem config_emitRecord (s r) : (emitRecord s r).config = s.config := by simp [emitRecord]

@[simp] theorem config_triggerRing (s ring) : (triggerRing s ring).config = s.config := by
  unfold triggerRing; split <;> simp

@[simp] theorem config_handleRaising (s r) : (handleRaising s r).config = s.config := by
  unfold handleRaising; dsimp only; split <;> simp

@[simp] theorem config_settleRounds (n s) : (settleRounds n s).config = s.config := by
  induction n generalizing s with
  | zero => rfl
  | succ n ih => unfold settleRounds; split <;> simp [ih]

@[simp] theorem config_recordTelemetry (s c) : (recordTelemetry s c).config = s.config := by simp [recordTelemetry]

theorem config_settle (s : State) : (settle s).config = s.config := by simp [settle]

@[simp] theorem config_setEntry (s acc e) : (State.setEntry s acc e).config = s.config := rfl

@[simp] theorem config_setStk (s k) : (State.setStk s k).config = s.config := rfl

@[simp] theorem config_deliverReply (s acc e p) : (deliverReply s acc e p).config = s.config := by
  unfold deliverReply; split <;> simp

@[simp] theorem config_clearOrphan (s acc e) : (clearOrphan s acc e).config = s.config := by
  unfold clearOrphan; split <;> simp

@[simp] theorem config_endCommand (s acc w data) : (endCommand s acc w data).config = s.config := by
  simp only [endCommand]; repeat' split
  all_goals simp

@[simp] theorem config_extendDeadline (cause s acc) : (extendDeadline cause s acc).config = s.config := by
  simp only [extendDeadline]; repeat' split
  all_goals simp

@[simp] theorem config_accrue (s : State) : (accrue s).config = s.config := by simp [accrue]

@[simp] theorem config_charge (s n) : (charge s n).config = s.config := by simp [charge]

@[simp] theorem config_endLadder (s place key) : (endLadder s place key).config = s.config := by
  simp [endLadder, setLadder, relocatePage]

/-- A read of NAND climbs its ladder and rewrites its page, in Stockpile and Legend alone (R332, R333). -/
theorem config_readNand (s acc place key) : (readNand s acc place key).config = s.config := by simp [readNand, climbFor]

/-! The reply itself: its command is no longer in flight. -/

@[simp] theorem custody_deliverReply (s acc e p) : (deliverReply s acc e p).custody = s.custody := by
  unfold deliverReply; split <;> simp

@[simp] theorem custody_clearOrphan (s acc e) : (clearOrphan s acc e).custody = s.custody := by
  unfold clearOrphan; split <;> simp

theorem custody_endCommand {s : State} {acc : Nat} {e : Entry} (h : AMap.find s.legend.flight acc = some e) (w data) :
    (endCommand s acc w data).custody = (s.contain, AMap.del s.legend.flight acc) := by
  simp only [endCommand, h]; split
  · exact custody_deliverReply ..
  · split
    · exact custody_clearOrphan ..
    · exact custody_deliverReply ..

/-- A command that has ended is in flight no longer (R402). -/
theorem endCommand_ended (s : State) (acc : Nat) (w : Status) (data : List Byte) :
    AMap.find (endCommand s acc w data).legend.flight acc = none := by
  cases h : AMap.find s.legend.flight acc with
  | none => simp [endCommand, h]
  | some e =>
    have hf : (endCommand s acc w data).legend.flight = AMap.del s.legend.flight acc :=
      congrArg Prod.snd (custody_endCommand h w data)
    rw [hf, AMap.find_del_self]

/-- How a read's body answers: it ends its command and keeps the configuration. -/
def ReadsOnly (s : State) (r : State × Ending) : Prop := (∃ w data, r.2 = .done w data) ∧ r.1.config = s.config

theorem readsOnly_okRead (s : State) (data : List Byte) : ReadsOnly s (okRead s data) := ⟨⟨_, _, rfl⟩, rfl⟩

theorem readsOnly_ends (s : State) (w : Status) : ReadsOnly s (ends s w) := ⟨⟨_, _, rfl⟩, rfl⟩

theorem readsOnly_unlessBad {s : State} {l : List (Bool × Status)} {go : State × Ending} (h : ReadsOnly s go) :
    ReadsOnly s (unlessBad s l go) := by
  obtain ⟨-, hg⟩ | ⟨w, -, hg⟩ := unlessBad_cases s l go
  · rwa [hg]
  · rw [hg]; exact readsOnly_ends s w

theorem ReadsOnly.ite {s : State} {p : Prop} [Decidable p] {a b : State × Ending} (ha : ReadsOnly s a) (hb : ReadsOnly s b) :
    ReadsOnly s (if p then a else b) := by
  split <;> assumption

section Served
variable {s : State} {c : CmdRef} {opcode : Nat} {e : Entry} (h : Served s c opcode e)
include h

/-- A served read ends and leaves the configuration. -/
theorem served_readsOnly {body : Call → State → State × Ending} (hb : ReadsOnly s (body (servedCall s c e) s)) :
    ∃ u, (Host.Outcome.next (runCommand s c opcode body) : Out) = .next u ∧ AMap.find u.legend.flight c.acc = none ∧
      u.config = s.config := by
  obtain ⟨⟨w, data, hw⟩, hc⟩ := hb
  refine ⟨_, served_done h (Prod.ext rfl hw), ?_, ?_⟩
  · rw [settle_flight]; exact endCommand_ended ..
  · rw [config_settle, config_endCommand]; exact hc

end Served

/-- A cold record is read from NAND once its caller's table and the record are found (R326, R333). -/
theorem readsOnly_coldRead (s : State) (k : Call) (table : Nat) (key : List Byte) :
    ReadsOnly s (if !s.ident.flash then endsCode s 0x0406
      else withTable s k table [3] (fun _ =>
        match coldFind s table key with
        | none => endsCode s 0x0107
        | some r =>
          if stkState s == .failed then endsCode s 0x0600
          else if lostOn s table key then ends (readNand s k.acc table key) (plain 0x0600 false)
          else okRead (readNand s k.acc table key) (coldBytes r))) := by
  have hn : (readNand s k.acc table key).config = s.config := config_readNand ..
  refine .ite (readsOnly_ends ..) ?_
  unfold withTable
  split
  · exact readsOnly_ends ..
  · refine .ite (readsOnly_ends ..) (.ite (readsOnly_ends ..) ?_)
    split
    · exact readsOnly_ends ..
    · exact .ite (readsOnly_ends ..) (.ite ⟨⟨_, _, rfl⟩, hn⟩ ⟨⟨_, _, rfl⟩, hn⟩)

end Sys2Proof.Machine
end

section
open Sys2Proof Sys2Proof.Machine

/-- Settles O53: each of the commands runs a body that ends it and keeps the configuration. -/
theorem endingACommandChangesOnlyItsReply : Obligations.EndingACommandChangesOnlyItsReply := by
  unfold Obligations.EndingACommandChangesOnlyItsReply
  intro s c e n m b q hq h
  suffices hu : ∃ u, exec q.1 s = .next u ∧ AMap.find u.legend.flight c.acc = none ∧ u.config = s.config by
    obtain ⟨u, hu, hf, hc⟩ := hu
    simp only [State.config, Prod.mk.injEq] at hc
    exact ⟨u, hu, hf, hc⟩
  simp only [List.mem_cons, List.not_mem_nil, or_false] at hq
  rcases hq with rfl | rfl | rfl | rfl | rfl | rfl | rfl | rfl | rfl | rfl | rfl | rfl
  · exact served_readsOnly h (readsOnly_okRead ..)
  · exact served_readsOnly h (readsOnly_okRead ..)
  · exact served_readsOnly h (readsOnly_okRead ..)
  · exact served_readsOnly h (readsOnly_okRead ..)
  · refine served_readsOnly h ?_
    split
    · exact readsOnly_ends ..
    · exact readsOnly_okRead ..
  · exact served_readsOnly h (readsOnly_okRead ..)
  · exact served_readsOnly h (.ite (readsOnly_ends ..) (.ite (readsOnly_ends ..) (readsOnly_unlessBad (readsOnly_okRead ..))))
  · refine served_readsOnly h ?_
    split
    · exact readsOnly_ends ..
    · exact readsOnly_okRead ..
  · exact served_readsOnly h (readsOnly_unlessBad (readsOnly_okRead ..))
  · exact served_readsOnly h (readsOnly_okRead ..)
  · exact served_readsOnly h (readsOnly_okRead ..)
  · rw [show exec (.coldRead c n b) s = _ from h.run_lateRead n [b]]
    exact served_readsOnly h (readsOnly_coldRead ..)

end

section
/-! A command that a check bars (R391, R395, R408, R482): it ends with that check's status, and its body does not run. -/
namespace Sys2Proof.Machine

/-- The first check of the head or of the machine's state that a command fails ends it (R391). -/
theorem runCommand_refused {s : State} {c : CmdRef} {e : Entry} {w : Status}
    (hf : AMap.find s.legend.flight c.acc = some e) (hw : e.stage = .waiting) (hz : s.trust.zeroizing = none)
    (hp : s.power.phase ≠ .flushing) (hc : chainWaits s e = false) (hb : startsBefore s c.acc e = false)
    (hchained : Nat.testBit e.flags 2 = false)
    (hr : headCheck s e true = some w ∨ (headCheck s e true = none ∧ stateCheck s c.acc e = some w))
    (body : Call → State → State × Ending) :
    (Host.Outcome.next (runCommand s c e.opcode body) : Out) = concludes c w [] s := by
  have hphase : (s.power.phase == Phase.flushing) = false := by simp [hp]
  have hflag : maskHas e.flags 2 = false := hchained
  have hbody : runBody s c e true body = endCommand s c.acc w [] := by
    obtain hh | ⟨hh, hs⟩ := hr
    · simp [runBody, hw, hz, hphase, hc, hb, hflag, hh]
    · simp [runBody, hw, hz, hphase, hc, hb, hflag, hh, hs]
  simp [runCommand, hf, hbody, concludes]

end Sys2Proof.Machine
end

section
open Sys2Proof Sys2Proof.Machine

/-- Settles O55: each of the commands runs through `runCommand`, where a failed check comes before its body. -/
theorem refusedCommandsHaveNoEffect : Obligations.RefusedCommandsHaveNoEffect := by
  unfold Obligations.RefusedCommandsHaveNoEffect
  intro s c e w n m k v record quota b hf hw hz hp hc hb hchained hr q hq ho
  have refused := runCommand_refused hf hw hz hp hc hb hchained hr
  rw [ho] at refused
  simp only [List.mem_cons, List.not_mem_nil, or_false] at hq
  rcases hq with rfl | rfl | rfl | rfl | rfl | rfl | rfl | rfl | rfl | rfl
  all_goals exact refused _

end

section
/-! Operating states (R479–R482): the order, the status, the grace and the rails, and what wakes the module. -/
namespace Sys2Proof.Machine

/-- A state order that its tests let pass, once traffic is ready or cannot be (R298, R480). -/
theorem exec_powerStateSet_orders {s : State} {c : CmdRef} {e : Entry} {record : BitVec 64} (h : Served s c 0x0103 e)
    (ht : s.power.transition = none) (hp : s.power.phase ≠ .commandReady ∨ s.dram.noRank = true) (hx : fld record 0 3 ≤ 4)
    (hr : fld record 28 36 = 0) :
    exec (.powerStateSet c record) s = acts (settle (conclude c.acc (order s (servedCall s c e) record))) := by
  have hready : (s.power.transition.isSome || (s.power.phase == .commandReady && !s.dram.noRank)) = false := by
    rcases hp with hp | hp <;> simp [ht, hp]
  have htests : firstBad (reservedBad record [(28, 36)] 0 ++ [(decide (fld record 0 3 > 4), badField 0x0300 0 0)]) = none := by
    rw [firstBad_append, firstBad_reservedBad (by simp [hr]), Option.none_or]
    exact firstBad_cons_of_false (decide_eq_false (Nat.not_lt.2 hx)) rfl
  refine congrArg Host.Outcome.next ?_
  rw [hready, run_served h, unlessBad_of_none htests]
  rfl

section Transition
variable {s : State} {t : Transition} (ht : s.power.transition = some t)
include ht

theorem exec_activationGraceExpiry_due (hr : t.railsAt = none) (hd : t.since + 10000000 ≤ now s) :
    exec .activationGraceExpiry s =
      (let u := if t.grace then s else (List.range 16).foldl endActivations s
       acts (completeEntry (u.setPower { u.power with transition := some { t with grace := true } }) { t with grace := true })) := by
  have hnow : (decide (now s < t.since + 10000000) || t.railsAt.isSome) = false := by simp [hr, hd]
  refine congrArg Host.Outcome.next ?_
  simp only [ht, hnow, Bool.false_eq_true, if_false]

theorem exec_offRailsOpen_due {r : Ns} (hr : t.railsAt = some r) (hd : r ≤ now s) :
    exec .offRailsOpen s = .next (powerOff (endAll s (s.legend.flight.map (·.1)) (failWith 0x0503 3 4))) := by
  refine congrArg Host.Outcome.next ?_
  simp only [ht, hr]
  exact if_neg (Nat.not_lt.2 hd)

end Transition

end Sys2Proof.Machine
end

section
open Sys2Proof Sys2Proof.Machine

/-- Settles O34: each command in the state that it is for, by its arm. POWER_STATUS's layout is the model's (assumption 26), and so
is the status of the commands in flight as the rails open (assumption 76). -/
theorem powerStatesComplete : Obligations.PowerStatesComplete := by
  unfold Obligations.PowerStatesComplete
  refine ⟨fun s c e => ⟨fun h ht hp record hx hr => exec_powerStateSet_orders h ht hp hx hr, fun h => served_done h rfl⟩,
    fun s t ht => ⟨fun hr hd hg => ?_, fun hr hd hg => ?_, fun r hr hd => exec_offRailsOpen_due ht hr hd⟩,
    fun s hs => ⟨fun hw => ?_, fun hm hd => ?_⟩⟩
  · rw [exec_activationGraceExpiry_due ht hr hd, hg]
    simp only [Bool.false_eq_true, if_false]
  · rw [exec_activationGraceExpiry_due ht hr hd, hg]
    simp only [if_true]
  · exact congrArg Host.Outcome.next (if_pos (by simp [hs, bit_eq_fld, hw]))
  · exact congrArg Host.Outcome.next (if_pos (by simp [hs, hm, hd]))

end

section
/-! The input, the sensors, REFCLK and the synchronisation lands (R466–R476, R484, R487, R488): what each does on a powered module. -/
namespace Sys2Proof.Machine

section Powered
variable {s : State} (hp : powered s = true)
include hp

/-- On a powered module a change of the input that Intake takes is seen, and the alert land follows. -/
theorem onInput_powered {ok : Bool} {go : State → State} {u : State} (hok : ok = true) (hu : go s = u) :
    onInput s ok go = .next (settle (syncAlert u)) :=
  (congrArg Host.Outcome.next (if_pos (by simp [hp, hok]))).trans (congrArg (fun v => Host.Outcome.next (settle (syncAlert v))) hu)

theorem exec_brownoutWarning_low {vin : Nat} (hv : vin < 34000) :
    exec (.brownoutWarning vin) s =
      (let u := (noteVin s vin).setPower { (noteVin s vin).power with
        warning := true, intake := setFld s.power.intake 16 1 1 }
       .next (settle (syncAlert (if s.power.warning then u else raiseDev u 0x000 1 0)))) := by
  change execBrownoutWarning vin s = _
  exact onInput_powered hp (decide_eq_true hv) rfl

theorem exec_brownoutWarningClear_high {vin : Nat} (hv : 35000 ≤ vin) (hw : s.power.warning = true) :
    exec (.brownoutWarningClear vin) s = .next (settle (syncAlert (raiseDev ((noteVin s vin).setPower
      { (noteVin s vin).power with warning := false }) 0x000 1 0))) := by
  change execBrownoutWarningClear vin s = _
  exact onInput_powered hp (decide_eq_true hv) (if_pos hw)

theorem exec_vinHigh_above {vin : Nat} (hv : 75000 < vin) :
    exec (.vinHigh vin) s = .next (settle (syncAlert (noteSeen (noteVin s vin) 18 0x002))) := by
  change execVinHigh vin s = _
  exact onInput_powered hp rfl (if_pos hv)

/-- The bank is ready within 1 V of the input, or above 35.0 V once the input has fallen (R469). -/
theorem exec_bankReady_within {bank : Nat} (hf : s.power.phase ≠ .flushing)
    (hb : (s.power.vin ≤ bank + 1000 ∧ bank ≤ s.power.vin + 1000) ∨ (35000 < bank ∧ s.power.vinFell = true)) :
    exec (.bankReady bank) s = .next (s.setPower { s.power with bank := bank, bankReady := true, pgood := true }) := by
  have hw : bankWithin s.power bank = true := by
    rcases hb with ⟨hlo, hhi⟩ | ⟨hhi, hfell⟩
    · simp [bankWithin, hlo, hhi]
    · simp [bankWithin, hhi, hfell]
  exact congrArg Host.Outcome.next (if_neg (by simp [hp, hf, hw]))

theorem exec_inputPowerAlert_above {watts : Nat} (hw : fld s.power.intake 4 11 < watts) :
    exec (.inputPowerAlert watts) s =
      .next (settle (syncAlert (noteSeen (s.setPower { s.power with pin := watts, powerHigh := true }) 19 0x003))) := by
  have hhigh : decide (watts > fld s.power.intake 4 11) = true := decide_eq_true hw
  change execInputPowerAlert watts s = _
  refine onInput_powered hp rfl ?_
  simp only [hhigh, if_true]

theorem exec_refclkLost_present (hr : s.power.refclk = true) :
    exec .refclkLost s = acts ((List.range 64).foldl (takeLinkDown 0x31) (raiseDev (s.setPower { s.power with
      refclk := false, pllLocked := false, intake := setFld s.power.intake 21 1 1 }) 0x005 1 0)) := by
  have hstays : powered (s.setPower { s.power with refclk := false, pllLocked := false }) = true := hp
  refine congrArg Host.Outcome.next ((if_neg (by simp [hr])).trans ?_)
  exact if_neg (by simp [hstays])

/-- Once the power-up is over, REFCLK's return relocks the PLLs and is reported (R484). -/
theorem exec_refclkReturn_absent (hr : s.power.refclk = false) (hs : s.power.phase ≠ .starting) :
    exec .refclkReturn s =
      .next (settle (goOn (raiseDev (s.setPower { s.power with refclk := true, pllLocked := true }) 0x005 2 0))) := by
  have hstays : powered (s.setPower { s.power with refclk := true, pllLocked := true }) = true := hp
  have hstarted : ((s.setPower { s.power with refclk := true, pllLocked := true }).power.phase == .starting) = false := by
    simpa using hs
  refine congrArg Host.Outcome.next ((if_neg (by simp [hr])).trans ?_)
  simp only [hp, hstays, hstarted, Bool.not_true, Bool.false_eq_true, if_false]

/-- An edge on SYNC_IN counts, and latches the time unless another came within 1 µs before (R487). -/
theorem exec_syncInEdge_counted :
    exec .syncInEdge s = .next (s.setPower { s.power with
      syncCount := s.power.syncCount + 1, syncLast := some (now s),
      syncLatch := if (match s.power.syncLast with | none => false | some t => decide (now s < t + 1000)) then s.power.syncLatch
        else stamp s }) :=
  congrArg Host.Outcome.next (if_neg (by simp [hp]))

end Powered

end Sys2Proof.Machine
end

section
open Sys2Proof Sys2Proof.Machine

/-- Settles O32: each event where its threshold is passed, by its arm. -/
theorem inputAndSensorEventsComplete : Obligations.InputAndSensorEventsComplete := by
  unfold Obligations.InputAndSensorEventsComplete
  intro s hp seenAt
  refine ⟨fun vin => ⟨fun hv hw => ?_, fun hv hw => ?_, exec_brownoutWarningClear_high hp, fun h₁ h₂ => ?_, exec_vinHigh_above hp,
      fun hv => ?_, fun _ hf hb => exec_bankReady_within hp hf hb⟩,
    fun _ => exec_inputPowerAlert_above hp, fun die input degrees => ?_, exec_refclkLost_present hp,
    exec_refclkReturn_absent hp, fun ht => ?_, fun t ht hd => ?_, congrArg Host.Outcome.next (if_pos hp)⟩
  · rw [exec_brownoutWarning_low hp hv, hw]
    rfl
  · rw [exec_brownoutWarning_low hp hv, hw]
    rfl
  · change execVinDip vin s = _
    exact onInput_powered hp (by simp [h₁, h₂]) rfl
  · change execVinLowBand vin s = _
    exact onInput_powered hp (decide_eq_true hv) rfl
  · exact congrArg Host.Outcome.next (if_neg (by simp [hp]))
  · rw [exec_syncInEdge_counted hp]
    cases hl : s.power.syncLast with
    | none => rfl
    | some t => simp [Nat.not_lt.2 (ht t hl)]
  · rw [exec_syncInEdge_counted hp, ht]
    simp [hd]

end

section
/-! Commands of tenants, their quotas, their zeroize and the debug unlock (R296, R349, R350, R369, R372): what a served one does
where its tests pass. -/
namespace Sys2Proof.Machine

/-- A served command whose row also does what follows from its effect. -/
theorem served_acts {s : State} {c : CmdRef} {opcode : Nat} {e : Entry} {r : State × Ending}
    {body : Call → State → State × Ending} (h : Served s c opcode e) (hb : body (servedCall s c e) s = r) :
    (Host.Outcome.next (finish (runCommand s c opcode body)) : Out) = acts (settle (conclude c.acc r)) :=
  congrArg (fun u => Host.Outcome.next (finish u)) (served_runs h hb)

section Quotas
variable {s : State} {c : CmdRef} {e : Entry} {record : BitVec 1024} {o : Nat} (ho : o = quotaField record 0 2)
  (hq : firstBad (quotaBad s record) = none)
include ho hq

theorem exec_tenantCreate_free (h : Served s c 0x0900 e) (hi : o ≤ 511) (hf : (s.slot o).state = .free)
    (hd : firstBad (dramFits s o record) = none) :
    exec (.tenantCreate c record) s = applied c (applyQuota (s.setSlot o { Slot.free with
      state := .created, expect := BitVec.ofNat 384 (quotaField record 64 48) }) o record) := by
  subst ho
  refine served_done h ((unlessBad_of_none (firstBad_cons_of_false (decide_eq_false (Nat.not_lt.2 hi)) hq)).trans ?_)
  simp only [hf]
  exact unlessBad_of_none hd

theorem exec_tenantCreate_alike (h : Served s c 0x0900 e) (hi : o ≤ 511) (hc : (s.slot o).state = .created)
    (hk : (s.slot o).quota = keptQuota s.ident.flash record)
    (he : (s.slot o).expect = BitVec.ofNat 384 (quotaField record 64 48)) :
    exec (.tenantCreate c record) s = concludes c (plain 2 false) [] s := by
  subst ho
  refine served_done h ((unlessBad_of_none (firstBad_cons_of_false (decide_eq_false (Nat.not_lt.2 hi)) hq)).trans ?_)
  simp only [hc]
  exact if_pos (by simp [hk, he])

theorem exec_quotaWrite_used (h : Served s c 0x0903 e) (hs : firstBad (quotaSlotBad record) = none)
    (hf : (s.slot o).state ≠ .free) (hz : (s.slot o).state ≠ .zeroizing) (hd : firstBad (dramFits s o record) = none) :
    exec (.quotaWrite c record) s = applied c (applyQuota s o record) := by
  subst ho
  have htests : firstBad (quotaSlotBad record ++ quotaBad s record) = none := by rw [firstBad_append, hs, hq]; rfl
  refine served_done h ((unlessBad_of_none htests).trans ?_)
  split
  case h_1 hfree => exact absurd hfree hf
  case h_2 hzero => exact absurd hzero hz
  case h_3 => exact unlessBad_of_none hd

end Quotas

section Served
variable {s : State} {c : CmdRef} {e : Entry} {tenant : Nat}

/-- The operator reads any slot, a tenant its own; a slot that is ZEROIZING ends the command (R349, R408). -/
theorem exec_tenantRead_allowed (h : Served s c 0x0904 e) (ht : tenant ≤ 511 ∨ tenant = operatorId)
    (hm : (ownerOf s e == some operatorId) = true ∨ tenant = actor s e) :
    exec (.tenantRead c tenant) s =
      if slotBusy s tenant then concludes c (failWith 0x0203 3 tenant) [] s
      else replies c (beBytes 1 (slotCode (s.slot tenant).state) ++
        beBytes 128 (setQuota (s.slot tenant).quota 64 48 (s.slot tenant).expect.toNat).toNat ++ packBytes (quotaUse s tenant)) s := by
  have hrange : (decide (tenant > 511) && tenant != operatorId) = false := by
    rcases ht with ht | ht
    · simp [Nat.not_lt.2 ht]
    · simp [ht]
  have hmine : (!(ownerOf s e == some operatorId) && tenant != actor s e) = false := by
    rcases hm with hm | hm <;> simp [hm]
  split
  case isTrue hb =>
    refine served_done h ((if_neg (by simp [hrange])).trans ((if_neg (by simp [hmine])).trans ?_))
    simp [unlessBad, namesBusy, hb, ends]
  case isFalse hb =>
    refine served_done h ((if_neg (by simp [hrange])).trans ((if_neg (by simp [hmine])).trans (unlessBad_of_none ?_)))
    exact firstBad_cons_of_false (by simpa using hb) rfl

/-- A command that begins the zeroize of an owner waits for its end (R369). -/
theorem zeroizeBy_starts {k : Call} {o : Nat} (hz : (s.slot o).state ≠ .zeroizing) (deleting : Bool) :
    zeroizeBy s k o deleting = (startZeroize (commitEntry s k.acc) o k.acc deleting, .later) :=
  if_neg (by simpa using hz)

theorem exec_tenantDelete_free (h : Served s c 0x0901 e) (ht : tenant ≤ 511) (hf : (s.slot tenant).state = .free) :
    exec (.tenantDelete c tenant) s = .next (finish (settle (endCommand s c.acc (plain 3 false) []))) :=
  congrArg (fun u => Host.Outcome.next (finish u)) (served_ends h ((if_neg (Nat.not_lt.2 ht)).trans (if_pos (by simp [hf]))))

theorem exec_tenantDelete_used (h : Served s c 0x0901 e) (ht : tenant ≤ 511) (hf : (s.slot tenant).state ≠ .free)
    (hz : (s.slot tenant).state ≠ .zeroizing) :
    exec (.tenantDelete c tenant) s =
      acts (settle (conclude c.acc (startZeroize (commitEntry s c.acc) tenant c.acc true, .later))) :=
  served_acts h ((if_neg (Nat.not_lt.2 ht)).trans ((if_neg (by simpa using hf)).trans (zeroizeBy_starts hz true)))

theorem exec_tenantZeroize_own (h : Served s c 0x0902 e) (ht : tenant = actor s e) (hz : (s.slot tenant).state ≠ .zeroizing) :
    exec (.tenantZeroize c tenant) s =
      acts (settle (conclude c.acc (startZeroize (commitEntry s c.acc) tenant c.acc false, .later))) :=
  served_acts h ((if_neg (by simp [ht, servedCall])).trans (zeroizeBy_starts hz false))

theorem commitEntry_trust (s : State) (acc : Nat) : (commitEntry s acc).trust = s.trust := by
  unfold commitEntry
  split <;> rfl

/-- With no tenant claimed and none being zeroized an unlock takes effect at once (R372). -/
theorem unlockStep_grants {acc : Nat}
    (hs : ∀ x ∈ s.trust.slots, x.1 < 512 → x.2.state ≠ .claimed ∧ x.2.state ≠ .zeroizing) :
    unlockStep s acc = (grantUnlock s, true) := by
  have hnone {st : SlotState} (hst : st = .claimed ∨ st = .zeroizing) : tenantsIn s st = [] := by
    refine List.map_eq_nil_iff.2 (List.filter_eq_nil_iff.2 fun x hx hb => ?_)
    simp only [Bool.and_eq_true, beq_iff_eq, decide_eq_true_eq] at hb
    obtain ⟨hclaimed, hzero⟩ := hs x hx hb.2
    rcases hst with rfl | rfl
    · exact hclaimed hb.1
    · exact hzero hb.1
  simp [unlockStep, hnone (.inl rfl), hnone (.inr rfl)]

theorem exec_debugUnlock_grants (h : Served s c 0x0C05 e) {credential : List Byte} (hc : credentialOk s credential = true)
    (hs : ∀ x ∈ s.trust.slots, x.1 < 512 → x.2.state ≠ .claimed ∧ x.2.state ≠ .zeroizing) :
    exec (.debugUnlock c credential) s =
      appliedThen c (grantUnlock (commitEntry (s.setTrust { s.trust with challenge := none }) c.acc)) := by
  refine served_appliedThen h ((if_neg (by simp [hc])).trans ?_)
  have hstep := unlockStep_grants (s := commitEntry (s.setTrust { s.trust with challenge := none }) c.acc) (acc := c.acc)
    (by rw [commitEntry_trust]; exact hs)
  simp only [servedCall, hstep, if_true]

end Served

end Sys2Proof.Machine
end

section
open Sys2Proof Sys2Proof.Machine

/-- Settles O36: each served command by the slot that it names, and the end of an owner's zeroize. TENANT_READ's layout is the
model's (assumption 26). -/
theorem tenantCommandsComplete : Obligations.TenantCommandsComplete := by
  unfold Obligations.TenantCommandsComplete
  refine ⟨fun s c e => ⟨fun record o ho hq => ⟨fun h hi hf hd => exec_tenantCreate_free ho hq h hi hf hd,
        fun h hi hc hk he => exec_tenantCreate_alike ho hq h hi hc hk he,
        fun h hs hf hz hd => exec_quotaWrite_used ho hq h hs hf hz hd⟩,
      fun h _ ht hm => exec_tenantRead_allowed h ht hm,
      fun _ => ⟨exec_tenantDelete_free, exec_tenantDelete_used, exec_tenantZeroize_own⟩,
      fun h _ hs => served_done h (if_neg (Nat.not_le.2 hs)),
      fun h _ hc hs => exec_debugUnlock_grants h hc hs⟩,
    fun s owner hz => congrArg Host.Outcome.next (if_neg (by simp [hz]))⟩

end

section
/-! Commands of the key table and of sealing (R356, R360, R361): what a served one does where its tests pass. -/
namespace Sys2Proof.Machine

section Served
variable {s : State} {c : CmdRef} {e : Entry}

theorem exec_keyInstall_withinQuota {index : Nat} (h : Served s c 0x0905 e) (hi : index ≤ 65535)
    (hq : index < ownerQuota s (actor s e) 20 4) (key : BitVec 512) :
    exec (.keyInstall c index key) s = applied c (s.setTrust { s.trust with
      keys := AMap.put s.trust.keys (actor s e) (AMap.put (AMap.at s.trust.keys (actor s e) []) index key) }) :=
  served_done h (unlessBad_of_none (firstBad_cons_of_false (decide_eq_false (Nat.not_lt.2 hi))
    (firstBad_cons_of_false (decide_eq_false (Nat.not_le.2 hq)) rfl)))

/-- KEY_DELETE removes a key that is there (R356, R405). -/
theorem exec_keyDelete_inRange {index : Nat} (h : Served s c 0x0906 e) (hi : index ≤ 65535) :
    let mine := AMap.at s.trust.keys (actor s e) []
    exec (.keyDelete c index) s =
      if AMap.has mine index then applied c (s.setTrust { s.trust with keys := AMap.put s.trust.keys (actor s e) (AMap.del mine index) })
      else concludes c (plain 3 false) [] s := by
  intro mine
  split
  case isTrue hk => exact served_done h ((if_neg (Nat.not_lt.2 hi)).trans (if_pos hk))
  case isFalse hk => exact served_done h ((if_neg (Nat.not_lt.2 hi)).trans (if_neg hk))

/-- Data that its owner may seal returns under the owner's key with a fresh nonce (R360, R361). -/
theorem exec_seal_allowed {flags : Nat} {minSvn : List Nat} {data : List Byte} (h : Served s c 0x0907 e) (hf : flags ≤ 3)
    (hm : minSvn.length = 6) (hd : data.length ≤ 65280) (ho : sealingOff s (actor s e) = false) :
    let nonce : BitVec 96 := (Config.secret s.free).setWidth 96
    let hd := blobHead (actor s e) flags (stamp s) (if maskHas flags 1 then minSvn else runningSvns s) nonce data.length
    exec (.seal c flags minSvn data) s = concludes c (plain 0 true)
      (hd ++ gcmText (sealKey s (actor s e)) nonce data ++
        beBytes 16 (Config.gcmTag (sealKey s (actor s e)) nonce hd data).toNat) { s with free := s.free + 1 } := by
  refine served_done h (unlessBad_of_none (firstBad_none.2 ?_))
  simp [Nat.not_lt.2 hf, hm, Nat.not_lt.2 hd, ho]

section Opened
variable {blob text : List Byte} (hb : openBlob s (actor s e) blob = .inr text)
include hb

theorem exec_unseal_opens (h : Served s c 0x0908 e) :
    exec (.unseal c blob) s = replies c ((blob.drop 12).take 12 ++ text) s := by
  refine served_done h ?_
  simp only [hb]
  rfl

/-- The keys of a blob are installed together, where each has its place in the caller's quota (R356, R360). -/
theorem exec_unsealKeys_opens (h : Served s c 0x0909 e) (hl : text.length % 68 = 0)
    (hi : ∀ x ∈ keyItems (text.length / 68) text, x.2.1 = 0 ∧ x.1 < ownerQuota s (actor s e) 20 4) :
    exec (.unsealKeys c blob) s = applied c (s.setTrust { s.trust with
      keys := AMap.put s.trust.keys (actor s e) ((keyItems (text.length / 68) text).foldl (fun m x => AMap.put m x.1 x.2.2)
        (AMap.at s.trust.keys (actor s e) [])) }) := by
  have hreserved : (keyItems (text.length / 68) text).any (fun x => x.2.1 != 0) = false :=
    List.any_eq_false.2 fun x hx => by simp [(hi x hx).1]
  have hquota : (keyItems (text.length / 68) text).any (fun x => decide (x.1 ≥ ownerQuota s (actor s e) 20 4)) = false :=
    List.any_eq_false.2 fun x hx => by simp [(hi x hx).2]
  refine served_done h ?_
  simp only [hb]
  exact unlessBad_of_none (firstBad_cons_of_false (by simp [hl, hreserved]) (firstBad_cons_of_false hquota rfl))

end Opened

end Served

end Sys2Proof.Machine
end

section
open Sys2Proof Sys2Proof.Machine

/-- Settles O37: each served command where its tests pass; the free nonce and the cipher are `Config`'s values. -/
theorem keyAndSealCommandsComplete : Obligations.KeyAndSealCommandsComplete := by
  unfold Obligations.KeyAndSealCommandsComplete
  exact fun s c e => ⟨fun _ hi => ⟨fun h hq key => exec_keyInstall_withinQuota h hi hq key, fun h => exec_keyDelete_inRange h hi⟩,
    fun h _ _ _ hf hm hd ho => exec_seal_allowed h hf hm hd ho,
    fun _ _ hb => ⟨exec_unseal_opens hb, fun h hl hi => exec_unsealKeys_opens hb h hl hi⟩⟩

end

section
/-! Commands of the firmware (R376–R381): what a served one does where its tests pass. -/
namespace Sys2Proof.Machine

section Served
variable {s : State} {c : CmdRef} {e : Entry}

section Slot
variable {kind slot : Nat} (hk₁ : 1 ≤ kind) (hk₂ : kind ≤ 6) (hs : slot ≤ 1) (hboot : e.session ≠ 0 ∨ kind ≤ 2)
include hk₁ hk₂ hs hboot

/-- A slot there is passes the tests that every command of a slot makes; in session 0 BOOT takes BOOT and BMK images alone
(R373, R377). -/
theorem slotTests_pass :
    (decide (kind < 1) || decide (kind > 6)) = false ∧ decide (slot > 1) = false ∧
      (e.session == 0 && decide (kind > 2)) = false := by
  refine ⟨by simp [Nat.not_lt.2 hk₂, Nat.ne_of_gt hk₁], decide_eq_false (Nat.not_lt.2 hs), ?_⟩
  rcases hboot with h | h
  · simp [h]
  · simp [Nat.not_lt.2 h]

theorem exec_fwWrite_unheld {offset : Nat} {data : List Byte} (h : Served s c 0x0B00 e)
    (ho : offset + data.length ≤ (slotMap kind).1) (hh : slotHeld s.trust kind slot = false) :
    exec (.fwWrite c kind slot offset data) s = applied c (s.setTrust (program s.trust kind slot offset data)) := by
  obtain ⟨hkind, hslot, hsession⟩ := slotTests_pass hk₁ hk₂ hs hboot
  exact served_done h (unlessBad_of_none (firstBad_cons_of_false hkind (firstBad_cons_of_false hslot
    (firstBad_cons_of_false (decide_eq_false (Nat.not_lt.2 ho)) (firstBad_cons_of_false hsession
      (firstBad_cons_of_false hh rfl))))))

theorem exec_fwVerify_slot (h : Served s c 0x0B01 e) :
    exec (.fwVerify c kind slot) s = replies c (verifyData s.trust kind slot) s := by
  obtain ⟨hkind, hslot, hsession⟩ := slotTests_pass hk₁ hk₂ hs hboot
  exact served_done h (unlessBad_of_none (firstBad_cons_of_false hkind (firstBad_cons_of_false hslot
    (firstBad_cons_of_false hsession rfl))))

end Slot

/-- Six slots that verify and fit each other are the next set; one that the manifest does not list is untested (R376, R379). -/
theorem exec_fwActivate_fits {slots : List Nat} (h : Served s c 0x0B02 e) (hl : slots.length = 6) (hs : ∀ x ∈ slots, x ≤ 1)
    (hv : setVerifies s.trust slots = true) (hm : misfit s.ident (setImages s.trust slots) = none) :
    exec (.fwActivate c slots) s =
      if setTested s.trust (setImages s.trust slots) then applied c (s.setTrust { s.trust with active := slots })
      else concludes c { plain 5 true with detail := if s.trust.policyNext then 0 else 1 } []
        (s.setTrust { s.trust with active := slots }) := by
  have hlength : (slots.length != 6) = false := by simp [hl]
  have hrange : slots.any (fun x => decide (x > 1)) = false := List.any_eq_false.2 fun x hx => by simp [hs x hx]
  have hdetail : b2n (!s.trust.policyNext) = if s.trust.policyNext then 0 else 1 := by cases s.trust.policyNext <;> rfl
  split
  case isTrue ht =>
    refine served_done h ?_
    simp only [hlength, hrange, hv, hm, ht, Bool.not_true, Bool.false_eq_true, if_false, if_true]
    rfl
  case isFalse ht =>
    refine served_done h ?_
    simp only [hlength, hrange, hv, hm, ht, hdetail, Bool.not_true, Bool.false_eq_true, if_false]
    rfl

/-- A manifest with a good signature and a higher sequence is in force, and the running set is judged against it (R376). -/
theorem exec_fwManifest_newer {sequence : Nat} {sets : List (List (BitVec 384))} {signature : List Byte} (h : Served s c 0x0B04 e)
    (hne : sets ≠ []) (hl : sets.length ≤ 1024) (hx : ∀ x ∈ sets, x.length = 6)
    (hsig : Config.sigOk 4 (Config.hash384 (manifestBytes sequence sets)) signature = true) (hseq : s.trust.manifestSeq < sequence) :
    exec (.fwManifest c sequence sets signature) s = applied c (s.setTrust (reEvaluate { s.trust with
      manifestSeq := sequence, manifestDigest := Config.hash384 (manifestBytes sequence sets), manifest := sets })) := by
  have hformat : (sets.isEmpty || decide (sets.length > 1024) || sets.any (fun x => x.length != 6)) = false := by
    simpa [hne, hl] using hx
  exact served_done h (unlessBad_of_none (firstBad_cons_of_false hformat (firstBad_cons_of_false (by simp [hsig])
    (firstBad_cons_of_false (decide_eq_false (Nat.not_le.2 hseq)) rfl))))

/-- A tested running set raises each minimum SVN to its image's (R380). -/
theorem exec_fwCommitSvn_tested (h : Served s c 0x0B05 e) (hp : s.trust.provisional = false) (hf : s.trust.fallback = false)
    (hne : s.trust.runningImages ≠ []) (hsvn : ∀ i ∈ s.trust.runningImages, i.svn ≤ 63) :
    exec (.fwCommitSvn c) s = applied c (s.setTrust { s.trust with
      minSvn := s.trust.runningImages.zipIdx.foldl (fun m i => AMap.put m (i.2 + 1) (max (AMap.at m (i.2 + 1) 0) i.1.svn))
        s.trust.minSvn }) :=
  served_done h (if_neg (by simpa [hp, hf, hne] using hsvn))

theorem exec_fwRevoke_unused {signer : Nat} {signature : List Byte} (h : Served s c 0x0B06 e) (hs : signer ≤ 3)
    (hsig : Config.sigOk 6 (Config.hash384 (beBytes 1 signer)) signature = true) (hu : signerUsed s.trust signer = false) :
    exec (.fwRevoke c signer signature) s = applied c (s.setTrust { s.trust with revoked := maskSet s.trust.revoked signer }) :=
  served_done h (unlessBad_of_none (firstBad_cons_of_false (decide_eq_false (Nat.not_lt.2 hs))
    (firstBad_cons_of_false (by simp [hsig]) (firstBad_cons_of_false hu rfl))))

end Served

end Sys2Proof.Machine
end

section
open Sys2Proof Sys2Proof.Machine

/-- Settles O38: each served command where its tests pass. -/
theorem firmwareCommandsComplete : Obligations.FirmwareCommandsComplete := by
  unfold Obligations.FirmwareCommandsComplete
  exact fun s c e => ⟨fun h _ _ _ _ hk₁ hk₂ hs ho hboot hh => exec_fwWrite_unheld hk₁ hk₂ hs hboot h ho hh,
    fun h _ _ hk₁ hk₂ hs hboot => exec_fwVerify_slot hk₁ hk₂ hs hboot h,
    fun h _ hl hs hv hm => exec_fwActivate_fits h hl hs hv hm,
    fun h _ => served_done h rfl,
    fun h _ _ _ hne hl hx hsig hseq => exec_fwManifest_newer h hne hl hx hsig hseq,
    fun h hp hf hne hsvn => exec_fwCommitSvn_tested h hp hf hne hsvn,
    fun h _ _ hs hsig hu => exec_fwRevoke_unused h hs hsig hu,
    fun h => served_done h rfl⟩

end

section
/-! SPDM requests (R353, R357–R359, R363, R392, R393): each is answered with its response and a signature behind it. -/
namespace Sys2Proof.Machine

/-- The command ends with an SPDM response, signed over what the requester sent and the response (R353). -/
def spdmSays (c : CmdRef) (sent b : List Byte) (u : State) : Out :=
  concludes c (plain 0 true) (b ++ (signed u (sent ++ b)).2) (signed u (sent ++ b)).1

section Served
variable {s : State} {c : CmdRef} {e : Entry} (h : Served s c 0 e)
include h

/-- A served SPDM request runs its body; the last sequence number carries none but those for it (R393). -/
theorem served_spdm {atEnd : Bool} {body : Call → State → State × Ending} {r : State × Ending}
    (hq : atEnd = true ∨ e.session = 0 ∨ e.seq ≠ 0xFFFFFFFF) (hb : body (servedCall s c e) s = r) :
    spdmRow c atEnd body s = .next (settle (conclude c.acc r)) := by
  have hgate : (!atEnd && e.session != 0 && e.seq == 0xFFFFFFFF) = false := by
    rcases hq with hq | hq | hq <;> simp [hq]
  exact congrArg Host.Outcome.next (served_runs h ((if_neg (by simp [hgate])).trans hb))

theorem served_spdmSays {body : Call → State → State × Ending} {sent b : List Byte} {u : State}
    (hq : e.session = 0 ∨ e.seq ≠ 0xFFFFFFFF) (hb : body (servedCall s c e) s = answersOver u sent b) :
    spdmRow c false body s = spdmSays c sent b u :=
  served_spdm h (.inr hq) hb

variable (hq : e.session = 0 ∨ e.seq ≠ 0xFFFFFFFF)

section
include hq

theorem exec_getCertificate_slot0 {offset : Nat} (ho : offset ≤ (certChain s).length) (len : Nat) :
    let part := ((certChain s).drop offset).take len
    exec (.getCertificate c 0 offset len) s = spdmSays c []
      (spdmHead 0x02 0 0 ++ packLe [(2, part.length), (2, (certChain s).length - offset - part.length)] ++ part) s := by
  change execGetCertificate c 0 offset len s = _
  exact served_spdmSays h hq (if_neg (by simp [ho]))

/-- A measurement block there is is returned with a fresh nonce, signed over the requester's (R363). -/
theorem exec_getMeasurements_some {index : Nat} {m : Nat × List (List Byte)}
    (hm : measurementsFor s (ownerOf s e) index = some m) (nonce : BitVec 256) :
    exec (.getMeasurements c index nonce) s =
      spdmSays c (beBytes 32 nonce.toNat) (measurementsAnswer m (drbg s).2) (drbg s).1 := by
  change execGetMeasurements c index nonce s = _
  refine served_spdmSays h hq ?_
  simp only [servedCall, hm]

/-- A KEY_EXCHANGE outside a session opens one while one is free (R357–R359). -/
theorem exec_keyExchange_free {x : KeyExchange} (hs : e.session = 0) (hf : sessionsFull s (namedOwner s e.via x.key) = false) :
    let owner := namedOwner s e.via x.key
    let r := drbg s
    let h := keyShare r.1
    let n : Session :=
      { owner := owner, established := false, reqKey := 0, rspKey := 0, reqIv := 0, rspIv := 0, high := 0,
        window := 0, notif := 0, kept := [], log := [], via := e.via, lastMessage := now s, transcript := s.free }
    let u := h.1.setSession (x.reqId % 65536 * 65536 + freeHalf s) n
    let legend := { u.legend with sessionNum := u.legend.sessionNum + 1 }
    exec (.keyExchange c x) s =
      spdmSays c e.payload (keyExchangeAnswer (freeHalf s) owner.isSome r.2 h.2) { u with legend := legend } := by
  change execKeyExchange c x s = _
  refine served_spdmSays h hq ((if_neg (by simp [hs, servedCall])).trans (if_neg ?_))
  exact Bool.not_eq_true _ ▸ hf

/-- FINISH completes a handshake that needs no authentication, or whose signature verifies (R357, R358). -/
theorem exec_finish_verified {session : Nat} {x : Session} {signature : List Byte} (hs : e.session = 0)
    (hx : s.session session = some x) (he : x.established = false)
    (ho : x.owner = none ∨ ∃ o key, x.owner = some o ∧ (s.slot o).key = some key ∧ keySigned key x signature = true) :
    let f := freshKeys s x
    exec (.finish c session signature) s = spdmSays c [] (spdmHead 0x65 0 0 ++ verifyBytes x)
      (f.1.setSession session { f.2 with established := true, via := e.via, lastMessage := now s }) := by
  intro f
  change execFinish c session signature s = _
  refine served_spdmSays h hq ?_
  have houtside : (e.session != 0 || x.established) = false := by simp [hs, he]
  rcases ho with ho | ⟨o, key, ho, hk, hsig⟩
  · simp only [servedCall, hx, houtside, ho]
    rfl
  · simp only [servedCall, hx, houtside, ho, hk, hsig]
    rfl

theorem exec_heartbeat_inSession (hs : e.session ≠ 0) : exec (.heartbeat c) s = spdmSays c [] (spdmHead 0x68 0 0) s := by
  change execHeartbeat c s = _
  exact served_spdmSays h hq (if_neg (by simp [hs, servedCall]))

end

/-- UpdateAllKeys answers under the old keys, then the session has fresh ones (R393). -/
theorem exec_keyUpdate_alone (hs : e.session ≠ 0)
    (ha : s.legend.flight.any (fun f => f.1 != c.acc && f.2.session == e.session) = false) :
    exec (.keyUpdate c 2) s = goesOn c (updateKeys (endNow s (servedCall s c e) (spdmHead 0x69 2 0)) e.session) := by
  change execKeyUpdate c 2 s = _
  exact served_spdm h (.inl rfl) ((if_neg (by simp [hs, servedCall])).trans (if_neg (by simp only [servedCall, ha, Bool.false_eq_true,
    not_false_eq_true])))

theorem exec_endSession_inSession (hs : e.session ≠ 0) :
    exec (.endSession c) s = goesOn c (endSession (endNow s (servedCall s c e) (spdmHead 0x6C 0 0)) e.session) := by
  change execEndSession c s = _
  exact served_spdm h (.inl rfl) (if_neg (by simp [hs, servedCall]))

end Served

end Sys2Proof.Machine
end

section
open Sys2Proof Sys2Proof.Machine

/-- Settles O39: each served request by its row. The layouts of DSP0274 are the model's reading (assumption 42). -/
theorem spdmRequestsComplete : Obligations.SpdmRequestsComplete := by
  unfold Obligations.SpdmRequestsComplete
  intro s c e h hq say reply chain
  refine ⟨served_spdmSays h hq rfl, served_spdmSays h hq rfl, served_spdmSays h hq rfl, served_spdmSays h hq rfl,
    fun _ len ho => exec_getCertificate_slot0 h hq ho len,
    fun nonce => ⟨served_spdmSays h hq rfl, fun _ _ hm => exec_getMeasurements_some h hq hm nonce⟩,
    fun _ hs hf => exec_keyExchange_free h hq hs hf,
    fun _ _ _ hs hx he ho => exec_finish_verified h hq hs hx he ho,
    fun hs => ⟨exec_heartbeat_inSession h hq hs, exec_keyUpdate_alone h hs, exec_endSession_inSession h hs⟩,
    served_spdmSays h hq rfl⟩

end

section
/-! Claims and the commands of sessions (R348, R351, R361, R392, R394): what a served one does where its tests pass. -/
namespace Sys2Proof.Machine

section Served
variable {s : State} {c : CmdRef} {e : Entry} {y : Session} {claim : Claim} (hy : s.session e.session = some y)
  (hk : keySigned claim.key y claim.signature = true)
include hy hk

/-- A signed claim that the operator's slot admits takes the module and binds the session (R348, R361). -/
theorem exec_operatorClaim_admitted (h : Served s c 0x0001 e) (hv : mayClaimDevice e.via = true)
    (ho : sealingOff s operatorId = false) (ha : operatorAdmits s claim.key = true) :
    exec (.operatorClaim c claim) s = applied c (bindSession (claimOperator s claim.key) e.session operatorId) := by
  refine served_done h ?_
  simp only [hy]
  exact unlessBad_of_none (firstBad_none.2 (by simp [hv, ho, ha, hk]))

/-- A signed claim of a created slot by the key that the slot expects takes it, with fresh keys, and binds the session
(R351, R361). -/
theorem exec_tenantClaim_expected {tenant : Nat} (h : Served s c 0x0003 e) (ht : tenant ≤ 511)
    (hv : mayClaimTenant e.via tenant = true) (ho : sealingOff s tenant = false) (hs : (s.slot tenant).state = .created)
    (he : (s.slot tenant).expect = 0 ∨ (s.slot tenant).expect = Config.hash384 (beBytes 96 claim.key.toNat)) :
    exec (.tenantClaim c tenant claim) s = applied c (bindSession ((newOmk (newVault s tenant claim.key) tenant).setSlot tenant
      { s.slot tenant with state := .claimed, key := some claim.key, claimTime := stamp s }) e.session tenant) := by
  refine served_done h ?_
  simp only [hy]
  exact unlessBad_of_none (firstBad_none.2 (by simpa [Nat.not_lt.2 ht, hv, ho, hs, hk] using or_iff_not_imp_left.1 he))

end Served

theorem exec_resultQuery_kept {s : State} {c : CmdRef} {e : Entry} {session sequence : Nat} {w : Status} (h : Served s c 0x0005 e)
    (hw : keptStatus s (actor s e) session sequence = some w) :
    exec (.resultQuery c session sequence) s = replies c (statusBytes w) s := by
  refine served_done h ?_
  simp only [hw]
  rfl

end Sys2Proof.Machine
end

section
open Sys2Proof Sys2Proof.Machine

/-- Settles O40: each served command where its tests pass. SESSION_INFO's layout is the model's (assumption 26). -/
theorem claimAndSessionCommandsComplete : Obligations.ClaimAndSessionCommandsComplete := by
  unfold Obligations.ClaimAndSessionCommandsComplete
  intro s c e owner x
  exact ⟨fun _ _ hy hk => ⟨fun h hv ho ha => exec_operatorClaim_admitted hy hk h hv ho ha,
      fun _ h ht hv ho hs he => exec_tenantClaim_expected hy hk h ht hv ho hs he⟩,
    fun h _ => served_done h rfl, fun h => served_done h rfl, fun h _ _ _ hw => exec_resultQuery_kept h hw,
    fun h => served_done h rfl⟩

end

section
/-! Sessions, commands in flight and in-band packets in time (R359, R386–R388, R391, R398–R403): what each event does when it is
due. -/
namespace Sys2Proof.Machine

theorem exec_sessionTimeout_due {s : State} {session : Nat} {x : Session} (hx : s.session session = some x)
    (hp : powered s = true) (hd : x.lastMessage + 120000000000 ≤ now s) :
    exec (.sessionTimeout session) s = .next (endSession s session) := by
  refine congrArg Host.Outcome.next ?_
  simp only [hx]
  exact if_pos (by simp [hp, hd])

section InFlight
variable {s : State} {acc : Nat} {e : Entry} (hf : AMap.find s.legend.flight acc = some e)
include hf

section
variable (ht : takesPackets s e.via = true)
include ht

theorem exec_acknowledgment_due (ha : e.ack = none) (hd : e.acceptedAt + 1000000 ≤ now s) :
    exec (.acknowledgment acc) s = .next (settle (acknowledge s acc e)) := by
  refine congrArg Host.Outcome.next ?_
  simp only [hf]
  exact if_pos (by simp [ht, ha, hd])

/-- A CHAINED command whose predecessor has not come gives up after 1 s, or at its own limit if that is shorter (R398). -/
theorem exec_chainTimeout_due (hw : e.stage = .waiting) (ho : chainOpen s e = true) (hd : chainUntil e ≤ now s) :
    exec (.chainTimeout acc) s = .next (settle (endCommand s acc (failWith 0x0106 6 (e.seq - 1)) [])) := by
  refine congrArg Host.Outcome.next ?_
  simp only [hf]
  exact if_pos (by simp [ht, hw, ho, hd])

theorem exec_deadlineExpired_due (hl : e.limit ≠ 0) (hd : e.deadline ≤ now s) (hc : e.committed = false)
    (ho : chainOpen s e = false) :
    exec (.deadlineExpired acc) s = .next (settle (endCommand (withdraw s acc) acc (plain 0x0105 false) [])) := by
  refine congrArg Host.Outcome.next ?_
  simp only [hf]
  exact if_pos (by simp [ht, pastDeadline, hl, hd, hc, ho])

end

theorem exec_unknownOpcode_unlisted (hk : knownOpcode e.opcode = false) :
    exec (.unknownOpcode acc) s =
      .next (settle (runBody s ⟨acc, false⟩ e false (fun _ s => ends s (plain 0x0102 false)))) := by
  refine congrArg Host.Outcome.next ?_
  simp only [hf]
  exact if_neg (by simp [hk])

end InFlight

/-- The oldest ready command frame of its domain is taken by Legend (R386–R388). -/
theorem exec_inbandFragment_oldest {s : State} {ctx : Nat} {x : Ctx} (hok : okCtx ctx = true) (hx : s.ctx? ctx = some x)
    (hc : x.desc.command = true) (hr : x.state = .ready) (ho : (s.dom x.key).flight.head? = some ctx) (hl : legendUp s = true) :
    exec (.inbandFragment ctx) s =
      acts (takeFragment (endCtx (countTenant s operatorId 0x74) ctx x 0 0 0) x.desc.lport (frameBytes s x.desc)) := by
  refine (checked_of hok).trans (congrArg Host.Outcome.next ?_)
  simp only [hx]
  exact if_neg (by simp [hc, hr, ho, hl])

theorem exec_reassemblyTimeout_due {s : State} {lport : Nat} {mac : BitVec 48} {tag : Nat} {p : Partial}
    (hok : okLport lport = true) (hf : s.legend.partials.find? (fun p => p.is lport mac tag) = some p)
    (hd : p.since + 2000000 ≤ now s) :
    exec (.reassemblyTimeout lport mac tag) s = .next (settle (discardPartial (dropPartial s lport mac tag))) := by
  refine (checked_of hok).trans (congrArg Host.Outcome.next ?_)
  simp only [hf]
  exact if_pos (decide_eq_true hd)

end Sys2Proof.Machine
end

section
open Sys2Proof Sys2Proof.Machine

/-- Settles O41: each event when it is due, by its arm. -/
theorem sessionEventsComplete : Obligations.SessionEventsComplete := by
  unfold Obligations.SessionEventsComplete
  refine ⟨fun _ _ _ => exec_sessionTimeout_due, fun s acc e hf => ⟨fun ht => ⟨exec_acknowledgment_due hf ht,
      fun hw ho hd => exec_chainTimeout_due hf ht hw ho ?_, exec_deadlineExpired_due hf ht⟩,
      exec_unknownOpcode_unlisted hf⟩,
    fun _ _ _ => exec_inbandFragment_oldest, fun _ _ _ _ _ => exec_reassemblyTimeout_due⟩
  simpa [chainUntil] using hd

end

section
/-! The device zeroize and the containment ladder (R366–R368, R507–R511): what each trigger and each end does. -/
namespace Sys2Proof.Machine

theorem trips_powered {s : State} (hp : s.power.phase ≠ .off) (cause : Nat) : trips s cause = zeroize s cause :=
  if_neg (by simpa using hp)

theorem exec_tamperTrip_armed {s : State} {input : Nat} (hp : s.power.phase ≠ .off) (hi : input < 2)
    (ha : AMap.at s.trust.tamperArmed input false = true) : exec (.tamperTrip input) s = .next (zeroize s (2 + input)) :=
  (checked_of (decide_eq_true hi)).trans (congrArg Host.Outcome.next ((if_pos ha).trans (trips_powered hp _)))

theorem restarts_of_starting {s : State} (h : s.power.phase = .starting) : restarts s = false := by
  simp [restarts, mgmtRuns, h]

section Zeroizing
variable {s : State} (hz : s.trust.zeroizing ≠ none)
include hz

theorem exec_zeroizeRestart_restarts (hr : restarts s = true) :
    exec .zeroizeRestart s = .next (settle (deviceRestart s 3 zeroizedStatus true)) :=
  congrArg Host.Outcome.next ((if_neg (by simpa using hz)).trans (if_pos hr))

/-- A trip that a power-up found lets the power-up go on (R368). -/
theorem exec_zeroizeRestart_starting (hp : s.power.phase = .starting) :
    exec .zeroizeRestart s = .next (settle (goOn (tripDone s))) :=
  congrArg Host.Outcome.next ((if_neg (by simpa using hz)).trans
    ((if_neg (by simp [restarts_of_starting hp])).trans (if_pos (by simp [hp]))))

end Zeroizing

theorem okTrigger_some {n : Nat} (h₁ : 1 ≤ n) (h₅ : n ≤ 5) : okTrigger (some n) = true := by
  simp [okTrigger, h₁, h₅]

/-- A Pan serves while neither it nor the traffic core is in an action (R508, R509). -/
theorem panServes_actions {s : State} {pan : Nat} (h : panServes s pan = true) :
    s.contain.core = none ∧ AMap.find s.contain.pans pan = none := by
  simp only [panServes, AMap.has, Bool.and_eq_true, Bool.not_eq_true', Option.isNone_iff_eq_none] at h
  obtain ⟨⟨-, hpan⟩, hcore⟩ := h
  exact ⟨hcore, by simpa using hpan⟩

section Containable
variable {s : State} (hz : s.trust.zeroizing = none)
include hz

section Traffic
variable (ht : trafficUp s = true)
include ht

theorem containable_of_trafficUp : containable s = true := by
  simp [containable, ht, hz]

section PanTrigger
variable {pan n : Nat} (hp : okPan pan = true) (h₁ : 1 ≤ n) (h₅ : n ≤ 5) (ho : pan ∉ s.contain.outOfService)
  (hf : n = 1 → (s.pan pan).supervisorFaulted = true)
include hp h₁ h₅ ho hf

/-- A trigger on a Pan joins the action there is, the traffic core's before the Pan's own, else begins level 2 (R507, R511). -/
theorem exec_panContainment_trigger (ok : Bool) :
    exec (.panContainment pan (some n) ok) s = .next (match s.contain.core, AMap.find s.contain.pans pan with
      | some a, _ => s.setContain { s.contain with core := some a.join }
      | none, some a => s.setContain { s.contain with pans := AMap.put s.contain.pans pan a.join }
      | none, none => levelTwo s pan n) := by
  have hheld : (s.contain.outOfService.contains pan || (n == 1 && !(s.pan pan).supervisorFaulted)) = false := by
    simpa [ho] using hf
  refine (checked_of (by simp [hp, okTrigger_some h₁ h₅])).trans (congrArg Host.Outcome.next ?_)
  refine (if_neg (by simp [containable_of_trafficUp hz ht])).trans ?_
  exact if_neg (by simp only [hheld, Bool.false_eq_true, not_false_eq_true])

end PanTrigger

/-- A trigger on the traffic core joins its action, else begins level 3 (R509, R511). -/
theorem exec_trafficCoreContainment_trigger {n : Nat} (h₁ : 1 ≤ n) (h₅ : n ≤ 5) (hr : n = 1 → s.cote.refError = true) (ok : Bool) :
    exec (.trafficCoreContainment (some n) ok) s = .next (match s.contain.core with
      | some a => s.setContain { s.contain with core := some a.join }
      | none => levelThree s n 255) := by
  have hcause : (n == 1 && !s.cote.refError) = false := by simpa using hr
  refine (checked_of (okTrigger_some h₁ h₅)).trans (congrArg Host.Outcome.next ?_)
  refine (if_neg (by simp [containable_of_trafficUp hz ht])).trans ?_
  exact if_neg (by simp only [hcause, Bool.false_eq_true, not_false_eq_true])

theorem exec_panContainment_end {pan : Nat} {a : Action} (hp : okPan pan = true) (ha : AMap.find s.contain.pans pan = some a)
    (ok : Bool) : exec (.panContainment pan none ok) s = .next (endPan s pan a ok) := by
  refine (checked_of (by simp [hp, okTrigger])).trans (congrArg Host.Outcome.next ?_)
  refine (if_neg (by simp [containable_of_trafficUp hz ht])).trans ?_
  simp only [ha]

theorem exec_trafficCoreContainment_end {a : Action} (ha : s.contain.core = some a) (ok : Bool) :
    exec (.trafficCoreContainment none ok) s = .next (endCore s a ok) := by
  refine (checked_of rfl).trans (congrArg Host.Outcome.next ?_)
  refine (if_neg (by simp [containable_of_trafficUp hz ht])).trans ?_
  simp only [ha]

end Traffic

end Containable

/-- A guarded period that is over ends (R508). -/
theorem exec_guardedPeriodEnd_due {s : State} {pan t : Nat} (hp : okPan pan = true) (ht : AMap.find s.contain.guardedUntil pan = some t)
    (hd : t ≤ now s) :
    exec (.guardedPeriodEnd pan) s =
      .next (s.setContain { s.contain with guardedUntil := AMap.del s.contain.guardedUntil pan }) := by
  refine (checked_of hp).trans (congrArg Host.Outcome.next ?_)
  simp only [ht]
  exact if_neg (Nat.not_lt.2 hd)

end Sys2Proof.Machine
end

section
open Sys2Proof Sys2Proof.Machine

/-- Settles O46: each trigger and each end by its arm; the actions of two steps are the model's (assumptions 47, 78 and 79). -/
theorem zeroizeAndContainmentComplete : Obligations.ZeroizeAndContainmentComplete := by
  unfold Obligations.ZeroizeAndContainmentComplete
  refine ⟨fun s hp => ⟨congrArg Host.Outcome.next (trips_powered hp 1), congrArg Host.Outcome.next (trips_powered hp 4),
      fun _ hi ha => exec_tamperTrip_armed hp hi ha⟩,
    fun s c e h => served_goesOn h rfl,
    fun s hz => ⟨exec_zeroizeRestart_restarts hz, exec_zeroizeRestart_starting hz⟩,
    fun s hz => ⟨fun ht => ⟨fun pan n ok hp h₁ h₅ ho hf => ⟨fun hserves => ?_, fun a hc ha => ?_, fun a hc => ?_⟩,
        fun n ok h₁ h₅ hr => ⟨fun hc => ?_, fun a hc => ?_⟩,
        fun _ _ ok hp ha => exec_panContainment_end hz ht hp ha ok, fun _ ok ha => exec_trafficCoreContainment_end hz ht ha ok⟩,
      fun hl => ⟨congrArg Host.Outcome.next (if_pos (by simp [hl, hz])), congrArg Host.Outcome.next (if_pos (by simp [hl, hz]))⟩,
      fun hm => congrArg Host.Outcome.next (if_pos (by simp [hm, hz]))⟩,
    fun _ _ _ => exec_guardedPeriodEnd_due⟩
  · obtain ⟨hc, ha⟩ := panServes_actions hserves
    rw [exec_panContainment_trigger hz ht hp h₁ h₅ ho hf, hc, ha]
  · rw [exec_panContainment_trigger hz ht hp h₁ h₅ ho hf, hc, ha]
    rfl
  · rw [exec_panContainment_trigger hz ht hp h₁ h₅ ho hf, hc]
    rfl
  · rw [exec_trafficCoreContainment_trigger hz ht h₁ h₅ hr, hc]
  · rw [exec_trafficCoreContainment_trigger hz ht h₁ h₅ hr, hc]
    rfl

end

section
/-! The vendor requests of the USB recovery port that keep their rules (O43): one lemma says what such a request of a connected
port does, and one per request says which part of it is the rule (R427–R433). -/

namespace Sys2Proof.Machine

/-- A vendor request that keeps its rules, on an interface there is, acts on the port after the transfer before it (R429). -/
theorem usbRequest_of_ok {s : State} {w : BitVec 16} {ok : Bool} {go : State → Nat → State} {t : State}
    (hcon : s.host.usbConnected = true) (hi : fld w 0 8 < 2) (hok : ok = true) (ht : go (nextTransfer s) (fld w 0 8) = t) :
    usbRequest s w ok go = .next (settle t) := by
  simp [usbRequest, hcon, hi, hok, ht]

section requests
variable {s : State} {wValue wIndex : BitVec 16} (hcon : s.host.usbConnected = true) (hi : fld wIndex 0 8 < 2)
include hcon hi

theorem exec_cmdWrite_of_ok {data : List Byte} (hz : fld wIndex 8 8 = 0) (hres : fld wValue 5 10 = 0) (hchunk : fld wValue 0 5 ≤ 16)
    (hlo : 1 ≤ data.length) (hhi : data.length ≤ 4096) :
    exec (.cmdWrite wValue wIndex data) s =
      .next (settle (usbChunk (nextTransfer s) (fld wIndex 0 8) (fld wValue 0 5) (fld wValue 15 1 == 1) data)) := by
  change execCmdWrite wValue wIndex data s = _
  exact usbRequest_of_ok hcon hi (by simp [hz, hres, hchunk, hlo, hhi]) (by rw [bit_eq_fld])

theorem exec_replyRead_of_packet {len : Nat} {p : OutPkt} {rest : List OutPkt} {f : UIface} (hz : fld wIndex 8 8 = 0) (hv : wValue = 0)
    (hlo : 1 ≤ len) (hhi : len ≤ 4096) (hf : (nextTransfer s).usbIf (fld wIndex 0 8) = f) (hout : f.out = p :: rest) :
    exec (.replyRead wValue wIndex len) s = .next (settle (usbAnswer ((nextTransfer s).setUsb (fld wIndex 0 8)
      (if f.outPos + ((p.bytes.drop f.outPos).take len).length ≥ p.bytes.length then
        UIface.fill f.waiting.length { f with out := rest, outPos := 0 }
       else { f with outPos := f.outPos + ((p.bytes.drop f.outPos).take len).length })) ((p.bytes.drop f.outPos).take len))) := by
  change execReplyRead wValue wIndex len s = _
  exact usbRequest_of_ok hcon hi (by simp [hv, hz, hlo, hhi]) (by simp only [hf, hout])

theorem exec_replyRead_of_empty {len : Nat} (hz : fld wIndex 8 8 = 0) (hv : wValue = 0) (hlo : 1 ≤ len) (hhi : len ≤ 4096)
    (hout : ((nextTransfer s).usbIf (fld wIndex 0 8)).out = []) :
    exec (.replyRead wValue wIndex len) s = .next (settle (usbAnswer (nextTransfer s) [])) := by
  change execReplyRead wValue wIndex len s = _
  exact usbRequest_of_ok hcon hi (by simp [hv, hz, hlo, hhi]) (by simp only [hout])

theorem exec_usbStatus_of_ok (hz : fld wIndex 8 8 = 0) (hv : wValue = 0) : exec (.usbStatus wValue wIndex 16) s =
    .next (settle (usbAnswer (nextTransfer s) (usbStatusBytes ((nextTransfer s).usbIf (fld wIndex 0 8))))) := by
  change execUsbStatus wValue wIndex 16 s = _
  exact usbRequest_of_ok hcon hi (by simp [hv, hz]) (by rfl)

theorem exec_abort_of_ok (hz : fld wIndex 8 8 = 0) (hv : wValue = 0) : exec (.abort wValue wIndex 0) s = .next (settle (usbAnswer
    ((nextTransfer s).setUsb (fld wIndex 0 8) ((nextTransfer s).usbIf (fld wIndex 0 8)).dropAsm) [])) := by
  change execAbort wValue wIndex 0 s = _
  exact usbRequest_of_ok hcon hi (by simp [hv, hz]) (by rfl)

theorem exec_orphanClear_of_named {p : OutPkt} (hz : fld wIndex 8 8 = 0)
    (hp : orphanNamed ((nextTransfer s).usbIf (fld wIndex 0 8)) wValue = some p) :
    exec (.orphanClear wValue wIndex 0) s = .next (settle (usbAnswer
      ((nextTransfer s).setUsb (fld wIndex 0 8) { (nextTransfer s).usbIf (fld wIndex 0 8) with orphan := none }) [])) := by
  change execOrphanClear wValue wIndex 0 s = _
  exact usbRequest_of_ok hcon hi (by simp [hz]) (by simp only [hp])

theorem exec_orphanRead_of_named {p : OutPkt} {len : Nat} (hpart : fld wIndex 8 8 ≤ 16) (hlo : 1 ≤ len) (hhi : len ≤ 4096)
    (hp : orphanNamed ((nextTransfer s).usbIf (fld wIndex 0 8)) wValue = some p) :
    exec (.orphanRead wValue wIndex len) s =
      .next (settle (usbAnswer (nextTransfer s) ((p.bytes.drop (4096 * fld wIndex 8 8)).take len))) := by
  change execOrphanRead wValue wIndex len s = _
  exact usbRequest_of_ok hcon hi (by simp [hpart, hlo, hhi]) (by simp only [hp])

end requests

/-- A bus reset of a connected port resets both interfaces (R432). -/
theorem exec_usbBusReset_of_connected {s : State} (hcon : s.host.usbConnected = true) :
    exec .usbBusReset s = .next (settle (resetUsb (resetUsb s 0) 1)) := by
  change execUsbBusReset s = _
  simp [execUsbBusReset, hcon]

end Sys2Proof.Machine
end

section
open Sys2Proof Sys2Proof.Machine

/-- Settles O43: each request by its own lemma, with the interface's rules from the hypotheses. -/
theorem usbRequestsComplete : Obligations.UsbRequestsComplete := by
  unfold Obligations.UsbRequestsComplete
  refine ⟨fun s wValue wIndex hcon hi => ⟨fun hz => ⟨?_, fun hv => ⟨?_, ?_, ?_, ?_⟩, ?_⟩, ?_⟩, fun s => ⟨?_, ?_⟩⟩
  · exact fun data hres hchunk hlo hhi => exec_cmdWrite_of_ok hcon hi hz hres hchunk hlo hhi
  · exact fun len p rest hlo hhi hout => exec_replyRead_of_packet hcon hi hz hv hlo hhi rfl hout
  · exact fun len hlo hhi hout => exec_replyRead_of_empty hcon hi hz hv hlo hhi hout
  · exact exec_usbStatus_of_ok hcon hi hz hv
  · exact exec_abort_of_ok hcon hi hz hv
  · exact fun p hp => exec_orphanClear_of_named hcon hi hz hp
  · exact fun p len hpart hlo hhi hp => exec_orphanRead_of_named hcon hi hpart hlo hhi hp
  · exact exec_usbBusReset_of_connected
  · intro millivolts
    rfl

end

section
/-! The Survey Bus (O44): a frame that the module hears and that is for it has its type's effect, said once for all types; then
the bus's own events (R436–R461). -/

namespace Sys2Proof.Machine

/-- A request that the module hears at the rate it is locked to, or at any rate while it hunts, and that is for it, acts; the
alert slot follows where the type has one (R443, R444, R447). -/
theorem svyRequest_of_heard {s : State} {f : SvyFrame} {dst src : BitVec 8} {slot : Bool} {go : State → State}
    (hruns : svyRuns s = true) (hrate : f.rate ≤ 3) (hlen : f.len ≤ 132) (hlock : s.survey.locked = false ∨ s.survey.rate = f.rate)
    (hme : svyForMe (svyHear s f.rate) dst src = true) :
    svyRequest s f dst src slot go =
      settle (if slot then svyAlert (go (svyHear s f.rate)) else go (svyHear s f.rate)) := by
  have hunlocked : (s.survey.locked && s.survey.rate != f.rate) = false := by
    rcases hlock with h | h <;> simp [h]
  simp only [svyRequest, hruns, Nat.not_lt.mpr hrate, hunlocked, hme, hlen, decide_true, decide_false, Bool.not_true, Bool.or_self,
    Bool.and_self, Bool.false_eq_true, if_false, if_true]

/-- Types 1 to 6 are R446's requests; any other is unknown. -/
theorem not_request_type {n : Nat} (h : n = 0 ∨ 6 < n) : [1, 2, 3, 4, 5, 6].contains n = false := by
  simp only [List.contains_cons, List.contains_nil, Bool.or_false, Bool.or_eq_false_iff, beq_eq_false_iff_ne]
  omega

section frames
variable {s : State} {frame : SvyFrame} {dst src : BitVec 8} (hruns : svyRuns s = true) (hrate : frame.rate ≤ 3) (hlen : frame.len ≤ 132)
  (hlock : s.survey.locked = false ∨ s.survey.rate = frame.rate) (hme : svyForMe (svyHear s frame.rate) dst src = true)
include hruns hrate hlen hlock hme

theorem exec_surveyPing_heard (clear : BitVec 8) (conflict : Bool) : exec (.surveyPing frame dst src clear conflict) s =
    .next (settle (svyAlert (pingEffect frame.len dst src clear conflict (svyHear s frame.rate)))) :=
  congrArg Host.Outcome.next (svyRequest_of_heard (slot := true) hruns hrate hlen hlock hme)

theorem exec_surveyWrite_heard (tag flags : BitVec 8) (index : BitVec 16) (data : List Byte) (conflict : Bool) :
    exec (.surveyWrite frame dst src tag flags index data conflict) s =
      .next (settle (svyAlert (writeEffect frame.len dst src tag flags index data conflict (svyHear s frame.rate)))) :=
  congrArg Host.Outcome.next (svyRequest_of_heard (slot := true) hruns hrate hlen hlock hme)

theorem exec_surveyRead_heard (release : BitVec 32) (index : BitVec 16) (conflict : Bool) :
    exec (.surveyRead frame dst src release index conflict) s =
      .next (settle (svyAlert (readEffect frame.len dst src release index conflict (svyHear s frame.rate)))) :=
  congrArg Host.Outcome.next (svyRequest_of_heard (slot := true) hruns hrate hlen hlock hme)

theorem exec_surveySearch_heard (filter n : BitVec 8) (pfx : BitVec 64) (choices : List (Option Bool)) (conflict : Bool) :
    exec (.surveySearch frame dst src filter n pfx choices conflict) s =
      .next (settle (searchEffect frame.len dst filter n pfx choices conflict (svyHear s frame.rate))) :=
  congrArg Host.Outcome.next (svyRequest_of_heard (slot := false) hruns hrate hlen hlock hme)

theorem exec_surveyAssign_heard (serial : BitVec 64) (address : BitVec 8) (conflict : Bool) :
    exec (.surveyAssign frame dst src serial address conflict) s =
      .next (settle (svyAlert (assignEffect frame.len dst serial address conflict (svyHear s frame.rate)))) :=
  congrArg Host.Outcome.next (svyRequest_of_heard (slot := true) hruns hrate hlen hlock hme)

theorem exec_surveyRate_heard (code : BitVec 8) : exec (.surveyRate frame dst src code) s =
    .next (settle (rateEffect frame dst code (svyHear s frame.rate))) :=
  congrArg Host.Outcome.next (svyRequest_of_heard (slot := false) hruns hrate hlen hlock hme)

theorem exec_surveyUnknownType_heard (conflict : Bool) {type : BitVec 8} (htype : type.toNat = 0 ∨ 6 < type.toNat) :
    exec (.surveyUnknownType frame dst src type conflict) s =
      .next (settle (unknownTypeEffect dst conflict (svyHear s frame.rate))) :=
  congrArg Host.Outcome.next ((if_neg (ne_true_of_eq_false (not_request_type htype))).trans
    (svyRequest_of_heard (slot := false) hruns hrate hlen hlock hme))

end frames

/-- RATE_CHANGE takes the rate of the last RATE frame (R443). -/
theorem exec_rateChange_of_pending {s : State} {r : Nat} (h : s.survey.pendingRate = some r) :
    exec .rateChange s = .next (s.setSurvey { s.survey with rate := r, pendingRate := none }) := by
  change execRateChange s = _
  simp only [execRateChange, h]

/-- A glitch is counted and no more (R442). -/
theorem exec_surveyFrameError_glitch {s : State} (hruns : svyRuns s = true) :
    exec (.surveyFrameError 0) s = .next (s.setSurvey (s.survey.bump 0)) :=
  congrArg Host.Outcome.next ((if_neg (by simp [hruns])).trans (if_pos rfl))

/-- A framing error and a failed CRC count towards a rate hunt (R444). -/
theorem exec_surveyFrameError_failed {s : State} {kind : Nat} (hruns : svyRuns s = true) (hkind : kind = 1 ∨ kind = 2) :
    exec (.surveyFrameError kind) s = .next (settle (svyFailed s kind)) :=
  (checked_of (decide_eq_true (by omega))).trans (congrArg Host.Outcome.next
    ((if_neg (by simp [hruns])).trans (if_neg (by simp; omega))))

/-- An assembly without a WRITE for 1 s is dropped and counted (R455). -/
theorem exec_surveyAssemblyTimeout_due {s : State} {ctrl : Nat} (hc : okCtrl ctrl = true) (hlive : (s.svyAsm ctrl).live = true)
    (hdue : (s.svyAsm ctrl).lastWrite + 1000000000 ≤ now s) : exec (.surveyAssemblyTimeout ctrl) s =
      .next ((s.setSvyAsm ctrl .reset).setSurvey ((s.setSvyAsm ctrl .reset).survey.bump 7)) :=
  (checked_of hc).trans (congrArg Host.Outcome.next (if_pos (by simp [hlive, hdue])))

end Sys2Proof.Machine
end

section
open Sys2Proof Sys2Proof.Machine

/-- Settles O44: every frame by the rule of a request that is heard, every event of the bus by its own lemma. -/
theorem surveyFramesComplete : Obligations.SurveyFramesComplete := by
  unfold Obligations.SurveyFramesComplete
  refine ⟨fun s frame dst src hruns hrate hlen hlock hme => fun conflict => ⟨?_, ?_, ?_, ?_, ?_, ?_, ?_⟩,
    fun s => ⟨?_, fun hruns => ⟨?_, ?_⟩, ?_⟩, fun s ctrl hc => ⟨?_, ?_⟩⟩
  · exact fun clear => exec_surveyPing_heard hruns hrate hlen hlock hme clear conflict
  · exact fun tag flags index data => exec_surveyWrite_heard hruns hrate hlen hlock hme tag flags index data conflict
  · exact fun release index => exec_surveyRead_heard hruns hrate hlen hlock hme release index conflict
  · exact fun filter n pfx choices => exec_surveySearch_heard hruns hrate hlen hlock hme filter n pfx choices conflict
  · exact fun serial address => exec_surveyAssign_heard hruns hrate hlen hlock hme serial address conflict
  · exact fun code => exec_surveyRate_heard hruns hrate hlen hlock hme code
  · exact fun type htype => exec_surveyUnknownType_heard hruns hrate hlen hlock hme conflict htype
  · exact fun r h => exec_rateChange_of_pending h
  · exact exec_surveyFrameError_glitch hruns
  · exact fun kind hkind => exec_surveyFrameError_failed hruns hkind
  · intro tied
    rfl
  · exact fun hlive hdue => exec_surveyAssemblyTimeout_due hc hlive hdue
  · exact checked_of hc

end

section
/-! The PCIe host port (O42): what a register of a live function does when the host reaches it, said once, then each doorbell and
register; the packets that are read and written; the resets of R425 and the stops of R426. -/

namespace Sys2Proof.Machine

@[simp] theorem hostDma_host (s : State) (bytes : Nat) : (hostDma s bytes).host = s.host := by
  unfold hostDma
  split
  · rfl
  · obtain ⟨e, b, k, h⟩ := clientRequest_portsCounted s 21 deviceId bytes
    rw [h]

@[simp] theorem hostDma_func (s : State) (bytes fn : Nat) : (hostDma s bytes).func fn = s.func fn := by
  simp [State.func]

/-- The host finds every function that it reaches (R415). -/
theorem fnFound_of_fnReached {s : State} {fn : Nat} (h : fnReached s fn = true) : fnFound s fn = true :=
  (Bool.and_eq_true_iff.mp h).2

section registers
variable {s : State} {fn : Nat} (hok : okFn fn = true) (hm : mgmtRuns s = true) (hr : fnReached s fn = true)
include hok hm hr

theorem onFunction_of_reached {go t : State} (ht : go = t) : onFunction s fn go = .next (settle t) :=
  (checked_of hok).trans (congrArg Host.Outcome.next ((if_pos (by simp [hm, hr])).trans (congrArg settle ht)))

theorem onFound_of_reached {go t : State} (ht : go = t) : onFound s fn go = .next (settle t) :=
  (checked_of hok).trans (congrArg Host.Outcome.next
    ((if_pos (by simp [hm, fnFound_of_fnReached hr])).trans (congrArg settle ht)))

/-! The three doorbells of a running ring take an index inside it (R418, R420, R424). -/

theorem exec_cmdTailDoorbell_inside {index : Nat} {descs : List (BitVec 128)} {f : HFunc} (hf : s.func fn = f) (hi : index < 4096)
    (hrun : f.cmd.runs = true) (hsize : index < f.cmd.size) :
    exec (.cmdTailDoorbell fn index descs false) s = .next (settle (pump (s.setFunc fn { f with
      cmd := { f.cmd with tail := index },
      posted := f.posted ++ (List.range ((index + f.cmd.size - f.cmd.tail) % f.cmd.size)).map (fun i => descs[i]?) }) fn)) := by
  change execCmdTailDoorbell fn index descs false s = _
  simp only [execCmdTailDoorbell, Nat.mod_eq_of_lt hi, hf]
  refine onFunction_of_reached hok hm hr ((if_neg (by simp [hrun])).trans ((if_neg (Nat.not_le.mpr hsize)).trans ?_))
  simp only [Bool.false_and, Bool.false_eq_true, if_false]

theorem exec_rbufTailDoorbell_inside {index : Nat} {descs : List (BitVec 64)} {f : HFunc} (hf : s.func fn = f) (hi : index < 4096)
    (hrun : f.rbuf.runs = true) (hsize : index < f.rbuf.size) (hdescs : ∀ d ∈ descs, bufOk d = true) :
    exec (.rbufTailDoorbell fn index (some descs)) s = .next (settle (s.setFunc fn { f with
      rbuf := { f.rbuf with tail := index },
      bufs := f.postBufs (descs.take ((index + f.rbuf.size - f.rbuf.tail) % f.rbuf.size)) })) := by
  change execRbufTailDoorbell fn index (some descs) s = _
  simp only [execRbufTailDoorbell, Nat.mod_eq_of_lt hi, hf]
  exact onFunction_of_reached hok hm hr ((if_neg (by simp [hrun])).trans ((if_neg (Nat.not_le.mpr hsize)).trans
    (if_neg (by simpa using hdescs))))

theorem exec_cplHeadDoorbell_inside {index : Nat} {arm : Bool} {f : HFunc} {u : State} (hf : s.func fn = f) (hi : index < 4096)
    (hrun : f.cpl.runs = true) (hsize : index < f.cpl.size)
    (hu : payOwed f.owed.length (s.setFunc fn { f with cpl := { f.cpl with head := index }, arm := arm }) fn = u) :
    exec (.cplHeadDoorbell fn index arm) s = .next (settle (pump
      (if arm && ({ f.cpl with head := index } : HRing).count != 0 then completionMessage u fn else u) fn)) := by
  change execCplHeadDoorbell fn index arm s = _
  simp only [execCplHeadDoorbell, Nat.mod_eq_of_lt hi, hf, hu]
  exact onFunction_of_reached hok hm hr (if_neg (by simp [hrun, hsize]))

/-! A ring control write enables, stops or clears its ring (R417). -/

theorem exec_ringControlWrite_command_on {value : BitVec 32} {f : HFunc} (hf : s.func fn = f)
    (hen : ringEn (f.cmd.control 0 value).ctl = true) :
    exec (.ringControlWrite fn 0 value) s = .next (settle (s.setFunc fn { f with cmd := f.cmd.control 0 value })) := by
  subst hf
  exact onFunction_of_reached hok hm hr (congrArg (s.setFunc fn) (if_pos hen))

theorem exec_ringControlWrite_command_off {value : BitVec 32} {f : HFunc} (hf : s.func fn = f)
    (hen : ringEn (f.cmd.control 0 value).ctl = false) :
    exec (.ringControlWrite fn 0 value) s = .next (settle (s.setFunc fn { f with
      cmd := f.cmd.control 0 value, posted := [],
      reads := (f.reads.filter (fun r => r.error == 0)).map (fun r => { r with stopping := true }) })) := by
  subst hf
  exact onFunction_of_reached hok hm hr (congrArg (s.setFunc fn) (if_neg (ne_true_of_eq_false hen)))

theorem exec_ringControlWrite_reply (value : BitVec 32) : exec (.ringControlWrite fn 1 value) s =
    .next (settle (s.setFunc fn { s.func fn with rbuf := (s.func fn).rbuf.control 1 value })) :=
  onFunction_of_reached hok hm hr rfl

theorem exec_ringControlWrite_completion {value : BitVec 32} {f : HFunc} {r : HRing} (hf : s.func fn = f)
    (hctl : f.cpl.control 2 value = r) :
    exec (.ringControlWrite fn 2 value) s = .next (settle (s.setFunc fn { f with
      cpl := r, owed := if ringEn r.ctl then f.owed else [], phase := f.phase || !ringEn r.ctl || !ringEn f.cpl.ctl,
      arm := f.arm && ringEn r.ctl })) := by
  subst hf hctl
  exact onFunction_of_reached hok hm hr rfl

/-! The statistics, the MSI-X entries and the other registers (R416, R423). -/

theorem exec_funcStatsRead_counter {index : Nat} {host : HostPorts} (hi : index < 8)
    (hhost : { s.host with statRead := AMap.at (s.func fn).stats index 0 } = host) :
    exec (.funcStatsRead fn index) s = .next (settle ({ s with host := host }.setFunc fn { s.func fn with
      stats := AMap.put (s.func fn).stats index 0 })) := by
  subst hhost
  change execFuncStatsRead fn index s = _
  simp only [execFuncStatsRead, hi, hm, fnFound_of_fnReached hr, Bool.not_true, Bool.and_self, decide_true,
    Bool.false_eq_true, if_false, if_true]
  exact onFound_of_reached (s := { s with host := { s.host with statRead := AMap.at (s.func fn).stats index 0 } }) hok hm hr rfl

theorem exec_msixUnmask_entry {entry : Nat} (enable : Bool) (he : entry < vectorsOf s fn) :
    exec (.msixUnmask fn entry enable) s = .next (settle (deliverPending (s.setFunc fn { s.func fn with
      msixEnable := enable,
      msixTable := AMap.put (s.func fn).msixTable entry (setFld (msixEntry (s.func fn) entry) 96 1 0) }) fn)) :=
  onFound_of_reached hok hm hr (if_neg (Nat.not_le.mpr he))

theorem exec_registerWrite_reached (offset width : Nat) (value : BitVec 64) : exec (.registerWrite fn offset width value) s =
    .next (settle (if offset < 0x10000 then writeRegister s fn offset width value else writeConfig s fn offset value)) :=
  onFound_of_reached hok hm hr rfl

end registers

/-- A packet read whole is offered to Legend, and its descriptor has passed (R419). -/
theorem exec_packetReadComplete_whole {s : State} {fn : Nat} {r : PktRead} {rest : List PktRead} {packet : List Byte}
    (hok : okFn fn = true) (hreads : (s.func fn).reads = r :: rest) (hdma : dmaRuns s fn = true)
    (hrun : (s.func fn).cmd.runs = true ∨ r.stopping = true) (herr : r.error = 0) (hpart : r.partly = false)
    (hlen : packet.length = r.len) :
    exec (.packetReadComplete fn true packet) s = .next (settle (pump (offer
      (requestSeen (hostDma (s.setFunc fn ((s.func fn).passed r rest)) packet.length) (.pcie fn)) (.pcie fn) packet false) fn)) := by
  have hgoes : ((s.func fn).cmd.runs || r.stopping) = true := by simpa using hrun
  change execPacketReadComplete fn true packet s = _
  refine (checked_of hok).trans (congrArg Host.Outcome.next ?_)
  simp only [hreads]
  exact (if_neg (by simp [hdma, hgoes, herr, hpart, hlen])).trans (if_neg (by simp))

/-- No buffer is skipped where those before the wrap hold the packet (R420). -/
theorem skipWrap_of_fits {s : State} {fn n : Nat} (h : n ≤ (s.func fn).rbuf.size - (s.func fn).rbuf.head) : skipWrap s fn n = s :=
  if_neg (by simp [Nat.not_lt.mpr h])

/-- The oldest outgoing packet that has its buffers is written, with its completion entry (R420, R421). -/
theorem exec_outgoingPacket_fits {s : State} {fn : Nat} {p : OutPkt} {rest : List OutPkt} {n : Nat} {f : HFunc} {u : State} {host : HostPorts}
    (hf : s.func fn = f) (hok : okFn fn = true) (hm : mgmtRuns s = true) (hr : fnReached s fn = true) (hout : f.out = p :: rest)
    (hbufs : buffersFor f p.bytes.length = some n) (hdma : dmaRuns s fn = true) (hrun : f.rbuf.runs = true) (hroom : f.cplRoom = true)
    (howed : f.owed = []) (hwrap : n ≤ f.rbuf.size - f.rbuf.head) (hcount : n ≤ f.rbuf.count)
    (hu : (hostDma s p.bytes.length).setFunc fn
      (({ f with out := rest, rbuf := { f.rbuf with head := f.rbuf.next f.rbuf.head n } } : HFunc).bump 1) = u)
    (hhost : { u.host with wakeN := wakeWanted u.host } = host) :
    exec (.outgoingPacket fn false) s =
      .next (settle (writeCpl { u with host := host } fn 0 f.rbuf.head n p.bytes.length 0 p.bytes)) := by
  subst hf hhost hu
  change execOutgoingPacket fn false s = _
  refine onFunction_of_reached hok hm hr ?_
  simp only [hout, hbufs, skipWrap_of_fits hwrap, hostDma_func]
  exact (if_neg (by simp [hdma, hrun, hroom, howed])).trans ((if_neg (by simp [hroom, hwrap, hcount])).trans
    (if_neg Bool.false_ne_true))

/-- Packets that have waited 100 ms are dropped and counted (R421). -/
theorem exec_rbufStarved_late {s : State} {fn : Nat} {f : HFunc} {late : List OutPkt} {u : State} {host : HostPorts} (hok : okFn fn = true)
    (hf : s.func fn = f) (hlate : f.out.filter (fun p => decide (p.since + 100000000 ≤ now s)) = late) (hne : late ≠ [])
    (hu : s.setFunc fn (late.foldl (fun f _ => f.bump 3)
      { f with out := f.out.filter (fun p => !decide (p.since + 100000000 ≤ now s)) }) = u)
    (hhost : { u.host with wakeN := wakeWanted u.host } = host) :
    exec (.rbufStarved fn) s = .next { u with host := host } := by
  subst hf hlate hu hhost
  exact (checked_of hok).trans (congrArg Host.Outcome.next (if_neg (by simpa using hne)))

section links
variable {s : State} {link : Nat} (hok : okLink link = true) (hused : linkUsed s link = true) (hm : mgmtRuns s = true)

include hused hm in
theorem link_serves : ¬ (!linkUsed s link || !mgmtRuns s) = true := by
  simp [hused, hm]

include hok hused hm in
theorem exec_linkReset_used {cause : Nat} {u : State} (hc : cause < 4)
    (hu : resetLink (if cause = 0 then s.setLink link { s.link link with perst := true } else s) link = u) :
    exec (.linkReset link cause) s = .next (if (u.link link).perst then u else trainLink u link) := by
  subst hu
  change execLinkReset link cause s = _
  refine (checked_of (by simp [hok, hc])).trans (congrArg Host.Outcome.next ?_)
  by_cases h0 : cause = 0
  · subst h0
    exact if_neg (link_serves (s := s) hused hm)
  · simp only [beq_eq_false_iff_ne.mpr h0, h0, Bool.false_eq_true, if_false]
    exact if_neg (link_serves hused hm)

include hok hused hm in
theorem exec_perstNRelease_low (hlow : (s.link link).perst = true) :
    exec (.perstNRelease link) s = .next (trainLink (s.setLink link { s.link link with perst := false }) link) :=
  (checked_of hok).trans (congrArg Host.Outcome.next ((if_neg (by simp [hlow])).trans
    (if_pos (Bool.and_eq_true_iff.mpr ⟨hused, hm⟩))))

include hok hused hm in
theorem exec_pfFlr_used {u : State}
    (hu : resetFuncs (s.setFunc (1024 * link) (s.func (1024 * link))) (fun fn => fn / 1024 == link) = u) :
    exec (.pfFlr link) s = .next (u.setLink link { u.link link with vfEnable := false }) := by
  subst hu
  exact (checked_of hok).trans (congrArg Host.Outcome.next (if_neg (link_serves hused hm)))

include hok hused hm in
theorem exec_vfFlr_used {vf : Nat} (hlo : 1 ≤ vf) (hhi : vf ≤ 512) :
    exec (.vfFlr link vf) s = .next (resetVf s (1024 * link + vf)) :=
  (checked_of (by simp [hok, hlo, hhi])).trans (congrArg Host.Outcome.next (if_neg (link_serves hused hm)))

end links

section stops
variable {s : State} {fn : Nat} (hok : okFn fn = true) (hused : linkUsed s (fn / 1024) = true) (hm : mgmtRuns s = true)
include hok hused hm

theorem exec_busMasterDisable_used {d3hot : Bool} {f : HFunc}
    (hf : { s.func fn with reads := (s.func fn).reads.map (fun r => { r with partly := r.error == 0 }) } = f) :
    exec (.busMasterDisable fn d3hot) s =
      .next (s.setFunc fn (if d3hot then ({ f with d3hot := true } : HFunc).notePme else { f with busMaster := false })) := by
  subst hf
  exact (checked_of hok).trans (congrArg Host.Outcome.next (if_neg (link_serves hused hm)))

theorem exec_dmaResume_used {f : HFunc} (hf : s.func fn = f) :
    exec (.dmaResume fn) s = .next (settle (pump (payOwed f.owed.length (s.setFunc fn { f with
      busMaster := true, d3hot := false, reads := f.reads.map (fun r => { r with partly := false }) }) fn) fn)) := by
  subst hf
  exact (checked_of hok).trans (congrArg Host.Outcome.next (if_neg (link_serves hused hm)))

end stops

end Sys2Proof.Machine
end

section
open Sys2Proof Sys2Proof.Machine

/-- Settles O42: each doorbell, register, packet and reset by its own lemma. -/
theorem hostPortEventsComplete : Obligations.HostPortEventsComplete := by
  unfold Obligations.HostPortEventsComplete
  refine ⟨fun s fn hok hm hr => ⟨fun index hi => ⟨?_, ?_, ?_⟩, fun value => ⟨?_, ?_, ?_, ?_⟩, ?_, ?_, ?_, ?_, ?_⟩, ?_,
    fun s link hok => fun hused hm => ⟨?_, ?_, ?_, ?_⟩, fun s fn hok hused hm => ⟨?_, ?_, ?_⟩⟩
  · exact fun descs hrun hsize => exec_cmdTailDoorbell_inside hok hm hr rfl hi hrun hsize
  · exact fun descs hrun hsize hdescs => exec_rbufTailDoorbell_inside hok hm hr rfl hi hrun hsize hdescs
  · exact fun arm hrun hsize => exec_cplHeadDoorbell_inside hok hm hr rfl hi hrun hsize rfl
  · exact exec_ringControlWrite_command_on hok hm hr rfl
  · exact exec_ringControlWrite_command_off hok hm hr rfl
  · exact exec_ringControlWrite_reply hok hm hr value
  · exact exec_ringControlWrite_completion hok hm hr rfl rfl
  · exact fun index hi => exec_funcStatsRead_counter hok hm hr hi rfl
  · exact fun entry enable he => exec_msixUnmask_entry hok hm hr enable he
  · exact exec_registerWrite_reached hok hm hr
  · exact fun r rest packet hreads hdma hrun herr hpart hlen =>
      exec_packetReadComplete_whole hok hreads hdma hrun herr hpart hlen
  · exact fun p rest n hout hbufs hdma hrun hroom howed hwrap hcount =>
      exec_outgoingPacket_fits rfl hok hm hr hout hbufs hdma hrun hroom howed hwrap hcount rfl rfl
  · exact fun s fn hok hne => exec_rbufStarved_late hok rfl rfl hne rfl rfl
  · exact fun cause hc => exec_linkReset_used hok hused hm hc rfl
  · exact exec_perstNRelease_low hok hused hm
  · exact exec_pfFlr_used hok hused hm rfl
  · exact fun vf hlo hhi => exec_vfFlr_used hok hused hm hlo hhi
  · exact exec_busMasterDisable_used (d3hot := false) hok hused hm rfl
  · exact exec_busMasterDisable_used (d3hot := true) hok hused hm rfl
  · exact exec_dmaResume_used hok hused hm rfl

end

section
/-! The DRAM's events when they are due (O27): what the code makes of a number of wrong symbols, then one lemma per event and per
outcome of it (R294–R319). -/

namespace Sys2Proof.Machine

/-- The code corrects one or two wrong symbols (R309). -/
theorem eccOf_beq_corrected (n : Nat) : (eccOf n == .corrected) = decide (n = 1 ∨ n = 2) := by
  unfold eccOf checkSymbols
  by_cases h0 : n = 0
  · simp [h0]
  · by_cases h2 : 2 * n ≤ 4
    · simp [h0, h2, show n = 1 ∨ n = 2 by omega]
    · simp [h0, h2, show ¬ (n = 1 ∨ n = 2) by omega]

theorem eccOf_of_corrects {n : Nat} (h : n = 1 ∨ n = 2) : eccOf n = .corrected := by
  rcases h with rfl | rfl <;> rfl

/-- More than two wrong symbols are detected and not corrected (R309). -/
theorem eccOf_of_many {n : Nat} (h : 2 < n) : eccOf n = .detected := by
  simp [eccOf, checkSymbols, show n ≠ 0 by omega, show ¬ 2 * n ≤ 4 by omega]

theorem eccOf_of_few {n : Nat} (h : n ≤ 2) : eccOf n ≠ .detected := by
  interval_cases n <;> decide

/-! A request of an active stack (R304, R309). -/

theorem exec_dramRequest_active {s u : State} {k bank wrongData wrongCheck : Nat} {reqs : List DramReq} {q : DramReq}
    (hk : okStack k = true) (hports : reqs.all (fun q => decide (q.port < 24)) = true) (hreqs : reqs ≠ [])
    (htrained : s.dram.trained = true) (hactive : (stackAt s k).refresh = .active)
    (hu : advanceCopy (setStack s k { stackAt s k with lastRequest := now s, refresh := .active }) = u)
    (hq : chooseReq u (stackAt s k) bank reqs = some q) :
    exec (.dramRequest k bank reqs wrongData wrongCheck) s =
      acts (serveReq (setStack u k (notePassed u (stackAt u k) bank reqs q)) k bank q
        (decide (wrongData + wrongCheck = 1 ∨ wrongData + wrongCheck = 2))) := by
  refine (checked_of (by simp [hk, hports])).trans (congrArg Host.Outcome.next ((if_neg (by simp [htrained, hreqs])).trans ?_))
  simp only [hactive, hu, hq, eccOf_beq_corrected]

/-! A refresh of a bank (R300). -/

section refresh
variable {s issued : State} {k bank i due : Nat} (hk : okStack k = true) (htrained : s.dram.trained = true)
  (hactive : (stackAt s k).refresh = .active) (hi : refreshInterval s k = i)
  (hdue : AMap.at (stackAt s k).refreshAt bank ((stackAt s k).refreshBase + i) = due)
include hk htrained hactive hi hdue

theorem exec_refresh_idle (hissued : setStack s k { stackAt s k with refreshAt := AMap.put (stackAt s k).refreshAt bank (due + i) } = issued)
    (hsoon : due ≤ now s + 8 * i) : exec (.refresh k bank false) s = .next issued := by
  subst hi hdue hissued
  exact (checked_of hk).trans (congrArg Host.Outcome.next ((if_neg (by simp [htrained, hactive])).trans
    ((if_pos rfl).trans (if_neg (Nat.not_lt.mpr hsoon)))))

theorem exec_refresh_forced (hissued : setStack s k { stackAt s k with refreshAt := AMap.put (stackAt s k).refreshAt bank (due + i) } = issued)
    (hlate : due + 8 * i ≤ now s) : exec (.refresh k bank true) s = acts (count issued (stackCountId k 1) 1) := by
  subst hi hdue hissued
  exact (checked_of hk).trans (congrArg Host.Outcome.next ((if_neg (by simp [htrained, hactive])).trans
    ((if_neg Bool.false_ne_true).trans (if_pos hlate))))

theorem exec_refresh_postponed (hearly : now s < due + 8 * i) : exec (.refresh k bank true) s = .next s := by
  subst hi hdue
  exact (checked_of hk).trans (congrArg Host.Outcome.next ((if_neg (by simp [htrained, hactive])).trans
    ((if_neg Bool.false_ne_true).trans (if_neg (Nat.not_le.mpr hearly)))))

end refresh

/-! Calibration and self-refresh (R299, R317, R318). -/

theorem exec_calibration_due {s : State} {ch : Nat} (hk : okStack (ch / 32) = true) (htrained : s.dram.trained = true)
    (hdue : AMap.at s.dram.calibrated ch 0 + 100000000 ≤ now s) : exec (.calibration ch) s =
      .next (s.setDram { s.dram with calibrated := AMap.put s.dram.calibrated ch (now s) }) :=
  (checked_of hk).trans (congrArg Host.Outcome.next (if_neg (by simp [htrained, Nat.not_lt.mpr hdue])))

theorem exec_selfRefreshEntry_idle {s : State} {k : Nat} (hk : okStack k = true) (hactive : (stackAt s k).refresh = .active)
    (hnap : s.power.state = .nap) (hon : fld s.dram.cfg 0 14 ≠ 0)
    (hidle : (stackAt s k).lastRequest + 1000 * fld s.dram.cfg 0 14 ≤ now s) :
    exec (.selfRefreshEntry k) s = .next (setStack s k ((stackAt s k).enter (now s) (refreshInterval s k))) :=
  (checked_of hk).trans (congrArg Host.Outcome.next (if_neg (by simp [hactive, hnap, hon, Nat.not_lt.mpr hidle])))

theorem exec_selfRefreshExit_due {s : State} {k : Nat} {since : Ns} (hk : okStack k = true)
    (hexit : (stackAt s k).refresh = .exiting since) (hdue : since + 1500 ≤ now s) :
    exec (.selfRefreshExit k) s = .next (setStack s k ((stackAt s k).awake (now s))) := by
  refine (checked_of hk).trans (congrArg Host.Outcome.next ?_)
  simp only [hexit]
  exact if_neg (Nat.not_lt.mpr hdue)

/-! Retries of an uncorrectable line (R309, R311). -/

section retry
variable {s u : State} {r owner line tries wrong : Nat} (hr : r < 18) (htrained : s.dram.trained = true)
  (hu : extendWaiters (if tableOwner ≤ owner then extendTable s (owner - tableOwner) line else s) owner line = u)
include hr htrained hu

theorem exec_dramReadRetry_good (hw : wrong ≤ 2) :
    exec (.dramReadRetry r owner line tries wrong) s = acts (count (endRetries u owner line) (stackCountId (r / 3) 2) 1) := by
  subst hu
  exact (checked_of (decide_eq_true hr)).trans (congrArg Host.Outcome.next ((if_neg (by simp [htrained])).trans
    (if_pos (by simpa using eccOf_of_few hw))))

theorem exec_dramReadRetry_bad {v : State} (hv : (if tableOwner ≤ owner then poisonSearches u (owner - tableOwner) line else u) = v)
    (hw : 2 < wrong) :
    exec (.dramReadRetry r owner line tries wrong) s =
      acts (if tries < 3 then u.setDram { u.dram with retrying := (owner, line) :: u.dram.retrying.filter (· != (owner, line)) }
        else uncorrectable (endRetries v owner line) r owner line) := by
  subst hu hv
  refine (checked_of (decide_eq_true hr)).trans (congrArg Host.Outcome.next ((if_neg (by simp [htrained])).trans
    ((if_neg (by simp [eccOf_of_many hw])).trans ?_)))
  by_cases ht : tries < 3
  · exact (if_neg (Nat.not_le.mpr ht)).trans (congrArg finish (if_pos ht).symm)
  · exact (if_pos (Nat.not_lt.mp ht)).trans (congrArg finish (if_neg ht).symm)

end retry

/-! The patrol scrub of the line that stands next (R312). -/

section scrub
variable {s : State} {r owner line : Nat} (hr : r < 18) (htrained : s.dram.trained = true) (hnext : scrubNext s r owner line = true)
  (hdue : scrubDue s ≤ now s)
include hr htrained hnext hdue

theorem exec_patrolScrub_good {symbols : List Nat} (h : eccOf (symbols.getD 0 0) = .good) :
    exec (.patrolScrub r owner line symbols) s = acts (countScrub s r owner) := by
  refine (checked_of (decide_eq_true hr)).trans (congrArg Host.Outcome.next
    ((if_neg (by simp [htrained, hnext, Nat.not_lt.mpr hdue])).trans ?_))
  simp only [h]

theorem exec_patrolScrub_corrected {symbols : List Nat} (h : eccOf (symbols.getD 0 0) = .corrected) :
    exec (.patrolScrub r owner line symbols) s = acts (correctedLine (countScrub s r owner) r owner line) := by
  refine (checked_of (decide_eq_true hr)).trans (congrArg Host.Outcome.next
    ((if_neg (by simp [htrained, hnext, Nat.not_lt.mpr hdue])).trans ?_))
  simp only [h]

theorem exec_patrolScrub_retried {symbols : List Nat} (h : eccOf (symbols.getD 0 0) = .detected)
    (hagain : eccOf (symbols.getD 1 0) ≠ .detected) :
    exec (.patrolScrub r owner line symbols) s = acts (count (countScrub s r owner) (stackCountId (r / 3) 2) 1) := by
  refine (checked_of (decide_eq_true hr)).trans (congrArg Host.Outcome.next
    ((if_neg (by simp [htrained, hnext, Nat.not_lt.mpr hdue])).trans ?_))
  simp only [h]
  exact if_pos (by simpa using hagain)

end scrub

/-! A move that ends, and the rank that waits for one (R313–R315). -/

theorem exec_migrationEnd_running {s : State} {r t copied : Nat} {since : Ns}
    (hmove : s.dram.move = some ⟨r, some t, since, copied⟩) {u v : State}
    (hu : changeRank s t { rankAt s t with state := .inService, slot := (rankAt s r).slot } = u)
    (hv : raiseDev ((changeRank u r { rankAt u r with state := .retired, slot := 31 }).setDram
      { (changeRank u r { rankAt u r with state := .retired, slot := 31 }).dram with move := none }) 0x3A0 2 0 = v) :
    exec .migrationEnd s = acts (nextMove (setCredited v (slotsHeld v))) := by
  change execMigrationEnd s = _
  simp only [execMigrationEnd, hmove, hu, hv]
  rfl

theorem exec_reshapeEnd_running {s : State} {r copied : Nat} {since : Ns} (hmove : s.dram.move = some ⟨r, none, since, copied⟩)
    {v : State} (hv : raiseDev ((changeRank s r { rankAt s r with state := .retired, slot := 31 }).setDram
      { (changeRank s r { rankAt s r with state := .retired, slot := 31 }).dram with move := none }) 0x3A0 2 0 = v) :
    exec .reshapeEnd s = acts (nextMove (setCredited v (slotsHeld v))) := by
  change execReshapeEnd s = _
  simp only [execReshapeEnd, hmove, hv]
  rfl

section reminder
variable {s : State} {r : Nat} (hr : r < 18) (hpending : (rankAt s r).state = .retirePending)
include hr hpending

theorem exec_retirePendingReminder_waits (hcannot : s.dram.move ≠ none ∨ fitsOneFewer s = false)
    (hdue : (rankAt s r).pendingAt + 60000000000 ≤ now s) : exec (.retirePendingReminder r) s =
      acts (raiseDev (setRank s r { rankAt s r with pendingAt := now s }) (0x342 + 4 * r) 1 0) := by
  have hno : (s.dram.move.isNone && fitsOneFewer s) = false := by
    rcases hcannot with h | h <;> simp [h]
  exact (checked_of (decide_eq_true hr)).trans (congrArg Host.Outcome.next ((if_neg (by simp [hpending])).trans
    ((if_neg (ne_true_of_eq_false hno)).trans (if_neg (Nat.not_lt.mpr hdue)))))

theorem exec_retirePendingReminder_moves (hmove : s.dram.move = none) (hfits : fitsOneFewer s = true) :
    exec (.retirePendingReminder r) s = acts (nextMove s) :=
  (checked_of (decide_eq_true hr)).trans (congrArg Host.Outcome.next ((if_neg (by simp [hpending])).trans
    (if_pos (by simp [hmove, hfits]))))

end reminder

/-! The training (R298). -/

theorem exec_dramTrained_ready {s u v w : State} {failed repaired : List Nat} (hranks : ∀ r ∈ failed ++ repaired, r < 18)
    (hready : s.power.dramReady = false)
    (hphase : s.power.phase = .booting ∨ s.power.phase = .commandReady ∨ s.power.phase = .recovery)
    (hu : failed.foldl (failTraining failed)
      (moveAtTraining failed (repaired.foldl (fun s r => raiseDev s (0x340 + 4 * r) 1 0) s)) = u)
    (hv : u.setDram { u.dram with
      trained := !(slotRanks u).isEmpty, noRank := (slotRanks u).isEmpty,
      stackMap := (List.range 6).map (fun k => (k, { Stack.reset with woke := now u, refreshBase := now u, lastRequest := now u })) } = v)
    (hw : { v with power := { v.power with dramReady := true } } = w) :
    exec (.dramTrained failed repaired) s = acts (nextMove (setCredited w (slotsHeld w - b2n w.dram.move.isSome))) := by
  subst hu hv hw
  have hstarts : (s.power.phase == .booting || s.power.phase == .commandReady || s.power.phase == .recovery) = true := by
    rcases hphase with h | h | h <;> simp [h]
  exact (checked_of (List.all_eq_true.mpr fun r h => decide_eq_true (hranks r h))).trans (congrArg Host.Outcome.next (if_neg (by simp [hready, hstarts])))

end Sys2Proof.Machine
end

section
open Sys2Proof Sys2Proof.Machine

/-- Settles O27: each event that is due by its own lemma. -/
theorem dramEventsComplete : Obligations.DramEventsComplete := by
  unfold Obligations.DramEventsComplete
  refine ⟨?_, fun s k bank hk htrained hactive => ⟨?_, ?_, ?_⟩, ?_, fun s k hk => ⟨?_, ?_⟩,
    fun s r owner line tries wrong hr htrained => ⟨?_, ?_⟩, fun s r owner line wrong again hr htrained hnext hdue => ⟨?_, ?_, ?_, ?_⟩,
    fun s r => ⟨?_, ?_, ?_, ?_⟩, ?_⟩
  · exact fun s k bank wrongData wrongCheck reqs q hk hports hreqs htrained hactive hq =>
      exec_dramRequest_active hk hports hreqs htrained hactive rfl hq
  · exact exec_refresh_idle hk htrained hactive rfl rfl rfl
  · exact exec_refresh_forced hk htrained hactive rfl rfl rfl
  · exact exec_refresh_postponed hk htrained hactive rfl rfl
  · exact fun s ch hk htrained hdue => exec_calibration_due hk htrained hdue
  · exact exec_selfRefreshEntry_idle hk
  · exact fun since => exec_selfRefreshExit_due hk
  · exact exec_dramReadRetry_good hr htrained rfl
  · exact exec_dramReadRetry_bad hr htrained rfl rfl
  · exact exec_patrolScrub_good hr htrained hnext hdue rfl
  · exact fun rest => exec_patrolScrub_good hr htrained hnext hdue rfl
  · exact fun hw rest => exec_patrolScrub_corrected hr htrained hnext hdue (eccOf_of_corrects hw)
  · exact fun hw hagain rest => exec_patrolScrub_retried hr htrained hnext hdue (eccOf_of_many hw) (eccOf_of_few hagain)
  · exact fun t since copied hmove => exec_migrationEnd_running hmove rfl rfl
  · exact fun since copied hmove => exec_reshapeEnd_running hmove rfl
  · exact fun hr hpending hcannot hdue => exec_retirePendingReminder_waits hr hpending hcannot hdue
  · exact fun hr hpending hmove hfits => exec_retirePendingReminder_moves hr hpending hmove hfits
  · exact fun s failed repaired hranks hready hphase => exec_dramTrained_ready hranks hready hphase rfl rfl rfl

end
